-- ==== Sys2Proof/Word.lean ====
section
/-! DEFINITION. The word types of the VX1600: every register is 32 bits wide (ch. 02), memories are bytes, and the
time bases and Inkwell addresses are 64-bit values. -/

namespace Sys2Proof

/-- A 32-bit register word. -/
abbrev Word := BitVec 32
/-- One byte of a memory or of a message. -/
abbrev Byte := BitVec 8
/-- A 64-bit time-base or counter value. -/
abbrev DWord := BitVec 64

/-- The place of a register field: a bit range [hi:lo] with both ends included (R5). -/
structure Bits where
  hi : Nat
  lo : Nat
deriving DecidableEq, Repr

end Sys2Proof
end

