-- ==== Sys2Proof/Machine/Bits.lean ====
section
/-! DEFINITION. Reading and writing a bit field of a word (R5), little-endian bytes, and sign extension. -/

namespace Sys2Proof.Machine

/-- The number of bits of a field. -/
def fieldWidth (f : Bits) : Nat := f.hi + 1 - f.lo

/-- The mask of a field in its word. -/
def fieldMask (f : Bits) : Nat := (2 ^ fieldWidth f - 1) * 2 ^ f.lo

/-- The value of a field. -/
def getField (f : Bits) (w : Word) : Nat := w.toNat / 2 ^ f.lo % 2 ^ fieldWidth f

/-- A word with one field replaced, the value taken modulo the field's size. -/
def putField (f : Bits) (v : Nat) (w : Word) : Word :=
  (w &&& ~~~ BitVec.ofNat 32 (fieldMask f)) ||| BitVec.ofNat 32 (v % 2 ^ fieldWidth f * 2 ^ f.lo)

/-- The bits of `new` where the mask is 1, of `old` elsewhere. -/
def mergeMask (mask old new : Word) : Word := (old &&& ~~~ mask) ||| (new &&& mask)

/-- A Boolean as a field value. -/
def bit (b : Bool) : Nat := if b then 1 else 0

/-- The unsigned value of little-endian bytes. -/
def leNat : List Byte → Nat
  | [] => 0
  | b :: t => b.toNat + 256 * leNat t

/-- The n little-endian bytes of a value. -/
def leBytes : Nat → Nat → List Byte
  | 0, _ => []
  | n + 1, v => BitVec.ofNat 8 v :: leBytes n (v / 256)

/-- n bytes from position i of a byte string, 0 past its end. -/
def bytesAt (l : List Byte) (i n : Nat) : List Byte := (l.drop i).take n ++ List.replicate (n - (l.length - i)) 0

/-- The little-endian value of n bytes at position i. -/
def leAt (l : List Byte) (i n : Nat) : Nat := leNat ((l.drop i).take n)

/-- The low `n` bits of v read as a two's complement number. -/
def signedOf (n v : Nat) : Int :=
  if 2 ^ n ≤ 2 * (v % 2 ^ n) then (v % 2 ^ n : Nat) - (2 ^ n : Nat) else (v % 2 ^ n : Nat)

/-- An integer clamped to a range. -/
def clampInt (lo hi v : Int) : Int := if v < lo then lo else if hi < v then hi else v

/-- Division rounded to nearest, ties to even. -/
def roundDivEven (a : Int) (b : Nat) : Int :=
  let q := a.fdiv b
  let r := a.fmod b
  if 2 * r < b then q
  else if (b : Int) < 2 * r then q + 1
  else if q.fmod 2 = 0 then q else q + 1

/-- Division rounded to nearest, ties away from zero. -/
def roundDivAway (a : Int) (b : Nat) : Int :=
  if 0 ≤ a then (2 * a + b).fdiv (2 * b) else - ((2 * (-a) + b).fdiv (2 * b))

/-- The ceiling of a quotient of natural numbers. -/
def ceilDiv (a b : Nat) : Nat := (a + b - 1) / b

end Sys2Proof.Machine
end

