-- ==== Sys2Proof/Machine/RegNames.lean ====
section
/-! DEFINITION. The names of the registers and their fields, as the spec's register tables write them:
Reg.<BLOCK>.<REGISTER> gives a register's BAR0 offset (R36: block n starts at n * 0x80000), with one argument for
each index the spec gives the register; Fld.<BLOCK>.<REGISTER>.<field> gives a field's bits. The register names of a
pair LO and HI of a 64-bit value stand apart, as in the tables. Command-ring registers carry the letter C and
result-ring registers the letter R (R465: fields of the one kind are reserved on the other). -/

namespace Sys2Proof.Machine

/-- The registers of the common block header (R45), by block index. -/
def Reg.HDR.BLK_ID (b : Nat) : Nat := b * 0x80000 + 0
def Fld.HDR.BLK_ID.index : Bits := ⟨4, 0⟩
def Fld.HDR.BLK_ID.stepping : Bits := ⟨15, 8⟩
def Fld.HDR.BLK_ID.scopes : Bits := ⟨23, 16⟩
def Reg.HDR.BLK_CMD (b : Nat) : Nat := b * 0x80000 + 4
def Fld.HDR.BLK_CMD.enable_go : Bits := ⟨0, 0⟩
def Fld.HDR.BLK_CMD.disable_go : Bits := ⟨1, 1⟩
def Fld.HDR.BLK_CMD.crc_commit : Bits := ⟨2, 2⟩
def Fld.HDR.BLK_CMD.rescrub_go : Bits := ⟨3, 3⟩
def Reg.HDR.BLK_STATE (b : Nat) : Nat := b * 0x80000 + 8
def Fld.HDR.BLK_STATE.state : Bits := ⟨1, 0⟩
def Fld.HDR.BLK_STATE.stage_pending : Bits := ⟨2, 2⟩
def Fld.HDR.BLK_STATE.handover : Bits := ⟨3, 3⟩
def Fld.HDR.BLK_STATE.compare_held : Bits := ⟨4, 4⟩
def Fld.HDR.BLK_STATE.enabled : Bits := ⟨15, 8⟩
def Reg.HDR.BLK_STA (b : Nat) : Nat := b * 0x80000 + 12
def Fld.HDR.BLK_STA.ACCESS_ERR : Bits := ⟨0, 0⟩
def Fld.HDR.BLK_STA.CFG_WHILE_EN : Bits := ⟨1, 1⟩
def Fld.HDR.BLK_STA.CFG_DRIFT : Bits := ⟨2, 2⟩
def Fld.HDR.BLK_STA.XDOM_TIMEOUT : Bits := ⟨3, 3⟩
def Fld.HDR.BLK_STA.BUSY_DROP : Bits := ⟨4, 4⟩
def Fld.HDR.BLK_STA.DRIFT_UNRESOLVED : Bits := ⟨5, 5⟩
def Fld.HDR.BLK_STA.block_bits : Bits := ⟨23, 8⟩
def Fld.HDR.BLK_STA.SEQ : Bits := ⟨31, 24⟩
def Reg.HDR.ACCESS_ERR_CNT (b : Nat) : Nat := b * 0x80000 + 16
def Fld.HDR.ACCESS_ERR_CNT.count : Bits := ⟨31, 0⟩
def Reg.HDR.CFG_WHILE_EN_CNT (b : Nat) : Nat := b * 0x80000 + 20
def Fld.HDR.CFG_WHILE_EN_CNT.count : Bits := ⟨31, 0⟩
def Reg.HDR.BUSY_DROP_CNT (b : Nat) : Nat := b * 0x80000 + 24
def Fld.HDR.BUSY_DROP_CNT.count : Bits := ⟨31, 0⟩
def Reg.HDR.STALE_CLEAR_CNT (b : Nat) : Nat := b * 0x80000 + 28
def Fld.HDR.STALE_CLEAR_CNT.count : Bits := ⟨31, 0⟩
def Reg.HDR.CFG_DRIFT_CNT (b : Nat) : Nat := b * 0x80000 + 32
def Fld.HDR.CFG_DRIFT_CNT.count : Bits := ⟨31, 0⟩
def Reg.HDR.ACCESS_LOG_ADDR (b : Nat) : Nat := b * 0x80000 + 36
def Fld.HDR.ACCESS_LOG_ADDR.offset : Bits := ⟨18, 0⟩
def Reg.HDR.ACCESS_LOG_INFO (b : Nat) : Nat := b * 0x80000 + 40
def Fld.HDR.ACCESS_LOG_INFO.requester : Bits := ⟨7, 0⟩
def Fld.HDR.ACCESS_LOG_INFO.byte_en : Bits := ⟨11, 8⟩
def Fld.HDR.ACCESS_LOG_INFO.kind : Bits := ⟨15, 12⟩
def Reg.HDR.CRC_REF (b : Nat) : Nat := b * 0x80000 + 44
def Fld.HDR.CRC_REF.crc : Bits := ⟨31, 0⟩
def Reg.HDR.CRC_COMMITTED (b : Nat) : Nat := b * 0x80000 + 48
def Fld.HDR.CRC_COMMITTED.crc : Bits := ⟨31, 0⟩
def Reg.HDR.CRC_LIVE (b : Nat) : Nat := b * 0x80000 + 52
def Fld.HDR.CRC_LIVE.crc : Bits := ⟨31, 0⟩
def Reg.HDR.SCRUB_AGE (b : Nat) : Nat := b * 0x80000 + 56
def Fld.HDR.SCRUB_AGE.us : Bits := ⟨31, 0⟩


/-! GLOBAL registers (R71). -/
def Reg.GLOBAL.EVT_ROUTE (i : Nat) : Nat := 0x1000 + 4 * i
def Fld.GLOBAL.EVT_ROUTE.ring : Bits := ⟨11, 0⟩
def Fld.GLOBAL.EVT_ROUTE.vector : Bits := ⟨19, 12⟩
def Fld.GLOBAL.EVT_ROUTE.route_en : Bits := ⟨20, 20⟩
def Fld.GLOBAL.EVT_ROUTE.irq_en : Bits := ⟨21, 21⟩
def Reg.GLOBAL.EVT_ROUTE_CMD : Nat := 0x2000
def Fld.GLOBAL.EVT_ROUTE_CMD.route_commit : Bits := ⟨0, 0⟩

/-! NIB registers (R104). -/
def Reg.NIB.PROG_CTL (i : Nat) : Nat := 0x101000 + 0x100 * i
def Fld.NIB.PROG_CTL.stop_go : Bits := ⟨0, 0⟩
def Fld.NIB.PROG_CTL.restart_go : Bits := ⟨1, 1⟩
def Reg.NIB.PROG_STA (i : Nat) : Nat := 0x101004 + 0x100 * i
def Fld.NIB.PROG_STA.EXC : Bits := ⟨0, 0⟩
def Fld.NIB.PROG_STA.HALTED : Bits := ⟨1, 1⟩
def Fld.NIB.PROG_STA.MOVED : Bits := ⟨2, 2⟩
def Fld.NIB.PROG_STA.SEQ : Bits := ⟨31, 24⟩
def Reg.NIB.PROG_STATE (i : Nat) : Nat := 0x101008 + 0x100 * i
def Fld.NIB.PROG_STATE.state : Bits := ⟨2, 0⟩
def Fld.NIB.PROG_STATE.in_loopm : Bits := ⟨3, 3⟩
def Fld.NIB.PROG_STATE.rrb : Bits := ⟨7, 4⟩
def Reg.NIB.PROG_PC (i : Nat) : Nat := 0x10100c + 0x100 * i
def Fld.NIB.PROG_PC.pc : Bits := ⟨15, 0⟩
def Reg.NIB.PROG_CAUSE (i : Nat) : Nat := 0x101010 + 0x100 * i
def Fld.NIB.PROG_CAUSE.cause : Bits := ⟨7, 0⟩
def Fld.NIB.PROG_CAUSE.epc : Bits := ⟨31, 16⟩
def Reg.NIB.PROG_ICNT_LO (i : Nat) : Nat := 0x101014 + 0x100 * i
def Fld.NIB.PROG_ICNT_LO.icnt : Bits := ⟨31, 0⟩
def Reg.NIB.PROG_ICNT_HI (i : Nat) : Nat := 0x101018 + 0x100 * i
def Fld.NIB.PROG_ICNT_HI.icnt : Bits := ⟨31, 0⟩
def Reg.NIB.PROG_IGN_CNT (i : Nat) : Nat := 0x10101c + 0x100 * i
def Fld.NIB.PROG_IGN_CNT.count : Bits := ⟨31, 0⟩
def Reg.NIB.PROG_TIMEOUT_CNT (i : Nat) : Nat := 0x101020 + 0x100 * i
def Fld.NIB.PROG_TIMEOUT_CNT.count : Bits := ⟨31, 0⟩
def Reg.NIB.PROG_IMAGE_CRC (i : Nat) : Nat := 0x101024 + 0x100 * i
def Fld.NIB.PROG_IMAGE_CRC.crc : Bits := ⟨31, 0⟩

/-! NIB registers (R106). -/
def Reg.NIB.ADMIT_LAST : Nat := 0x101c00
def Fld.NIB.ADMIT_LAST.code : Bits := ⟨7, 0⟩
def Fld.NIB.ADMIT_LAST.arg : Bits := ⟨31, 16⟩
def Reg.NIB.ADMIT_REFUSE_CNT : Nat := 0x101c04
def Fld.NIB.ADMIT_REFUSE_CNT.count : Bits := ⟨31, 0⟩
def Reg.NIB.ECC_CORR_CNT : Nat := 0x101c08
def Fld.NIB.ECC_CORR_CNT.count : Bits := ⟨31, 0⟩

/-! FLANE registers (R139). -/
def Reg.FLANE.PORT_CFG (i : Nat) : Nat := 0x201000 + 0x400 * i
def Fld.FLANE.PORT_CFG.mode : Bits := ⟨1, 0⟩
def Fld.FLANE.PORT_CFG.spare_en : Bits := ⟨2, 2⟩
def Fld.FLANE.PORT_CFG.fallback_en : Bits := ⟨3, 3⟩
def Reg.FLANE.PORT_CMD (i : Nat) : Nat := 0x201004 + 0x400 * i
def Fld.FLANE.PORT_CMD.restore_go : Bits := ⟨0, 0⟩
def Fld.FLANE.PORT_CMD.retrain_go : Bits := ⟨1, 1⟩
def Reg.FLANE.PORT_STA (i : Nat) : Nat := 0x201008 + 0x400 * i
def Fld.FLANE.PORT_STA.LANE_FAIL : Bits := ⟨0, 0⟩
def Fld.FLANE.PORT_STA.RESTRIPED : Bits := ⟨1, 1⟩
def Fld.FLANE.PORT_STA.FALLBACK : Bits := ⟨2, 2⟩
def Fld.FLANE.PORT_STA.DOWN : Bits := ⟨3, 3⟩
def Fld.FLANE.PORT_STA.SKEW : Bits := ⟨4, 4⟩
def Fld.FLANE.PORT_STA.SEQ : Bits := ⟨31, 24⟩
def Reg.FLANE.PORT_STATE (i : Nat) : Nat := 0x20100c + 0x400 * i
def Fld.FLANE.PORT_STATE.state : Bits := ⟨2, 0⟩
def Fld.FLANE.PORT_STATE.spare_ready : Bits := ⟨3, 3⟩
def Fld.FLANE.PORT_STATE.skew : Bits := ⟨16, 8⟩
def Reg.FLANE.RX_MAP (i : Nat) : Nat := 0x201010 + 0x400 * i
def Fld.FLANE.RX_MAP.slots : Bits := ⟨11, 0⟩
def Fld.FLANE.RX_MAP.spare : Bits := ⟨14, 12⟩
def Fld.FLANE.RX_MAP.reversed : Bits := ⟨15, 15⟩
def Reg.FLANE.TX_MAP (i : Nat) : Nat := 0x201014 + 0x400 * i
def Fld.FLANE.TX_MAP.map : Bits := ⟨14, 0⟩
def Reg.FLANE.FRAME_DROP_CNT (i : Nat) : Nat := 0x201018 + 0x400 * i
def Fld.FLANE.FRAME_DROP_CNT.count : Bits := ⟨31, 0⟩
def Reg.FLANE.TYPE_DROP_CNT (i : Nat) : Nat := 0x20101c + 0x400 * i
def Fld.FLANE.TYPE_DROP_CNT.count : Bits := ⟨31, 0⟩
def Reg.FLANE.LATE_DROP_CNT (i : Nat) : Nat := 0x201020 + 0x400 * i
def Fld.FLANE.LATE_DROP_CNT.count : Bits := ⟨31, 0⟩
def Reg.FLANE.LANE_GAP_CNT (i : Nat) : Nat := 0x201024 + 0x400 * i
def Fld.FLANE.LANE_GAP_CNT.count : Bits := ⟨31, 0⟩

/-! FLANE registers (R140). -/
def Reg.FLANE.LANE_STATE (i j : Nat) : Nat := 0x201100 + 0x400 * i + 64 * j
def Fld.FLANE.LANE_STATE.state : Bits := ⟨2, 0⟩
def Fld.FLANE.LANE_STATE.los : Bits := ⟨3, 3⟩
def Fld.FLANE.LANE_STATE.lock : Bits := ⟨4, 4⟩
def Fld.FLANE.LANE_STATE.inverted : Bits := ⟨5, 5⟩
def Fld.FLANE.LANE_STATE.far_index : Bits := ⟨8, 6⟩

/-! CASC registers (R140). -/
def Reg.CASC.LANE_STATE (i j : Nat) : Nat := 0x901100 + 0x400 * i + 64 * j
def Fld.CASC.LANE_STATE.state : Bits := ⟨2, 0⟩
def Fld.CASC.LANE_STATE.los : Bits := ⟨3, 3⟩
def Fld.CASC.LANE_STATE.lock : Bits := ⟨4, 4⟩
def Fld.CASC.LANE_STATE.inverted : Bits := ⟨5, 5⟩
def Fld.CASC.LANE_STATE.far_index : Bits := ⟨8, 6⟩

/-! FLANE registers (R140). -/
def Reg.FLANE.LANE_STA (i j : Nat) : Nat := 0x201104 + 0x400 * i + 64 * j
def Fld.FLANE.LANE_STA.LOS : Bits := ⟨0, 0⟩
def Fld.FLANE.LANE_STA.LOL : Bits := ⟨1, 1⟩
def Fld.FLANE.LANE_STA.POL_FLIP : Bits := ⟨2, 2⟩
def Fld.FLANE.LANE_STA.STUFF_ERR : Bits := ⟨3, 3⟩
def Fld.FLANE.LANE_STA.HDR_ERR : Bits := ⟨4, 4⟩
def Fld.FLANE.LANE_STA.DFE_RAIL : Bits := ⟨5, 5⟩
def Fld.FLANE.LANE_STA.TEST_REFUSED : Bits := ⟨6, 6⟩
def Fld.FLANE.LANE_STA.TEST_ABORT : Bits := ⟨7, 7⟩
def Fld.FLANE.LANE_STA.SEQ : Bits := ⟨31, 24⟩

/-! CASC registers (R140). -/
def Reg.CASC.LANE_STA (i j : Nat) : Nat := 0x901104 + 0x400 * i + 64 * j
def Fld.CASC.LANE_STA.LOS : Bits := ⟨0, 0⟩
def Fld.CASC.LANE_STA.LOL : Bits := ⟨1, 1⟩
def Fld.CASC.LANE_STA.POL_FLIP : Bits := ⟨2, 2⟩
def Fld.CASC.LANE_STA.STUFF_ERR : Bits := ⟨3, 3⟩
def Fld.CASC.LANE_STA.HDR_ERR : Bits := ⟨4, 4⟩
def Fld.CASC.LANE_STA.DFE_RAIL : Bits := ⟨5, 5⟩
def Fld.CASC.LANE_STA.TEST_REFUSED : Bits := ⟨6, 6⟩
def Fld.CASC.LANE_STA.TEST_ABORT : Bits := ⟨7, 7⟩
def Fld.CASC.LANE_STA.SEQ : Bits := ⟨31, 24⟩

/-! FLANE registers (R140). -/
def Reg.FLANE.LANE_ADAPT (i j : Nat) : Nat := 0x201108 + 0x400 * i + 64 * j
def Fld.FLANE.LANE_ADAPT.hold : Bits := ⟨0, 0⟩
def Fld.FLANE.LANE_ADAPT.rate : Bits := ⟨4, 1⟩

/-! CASC registers (R140). -/
def Reg.CASC.LANE_ADAPT (i j : Nat) : Nat := 0x901108 + 0x400 * i + 64 * j
def Fld.CASC.LANE_ADAPT.hold : Bits := ⟨0, 0⟩
def Fld.CASC.LANE_ADAPT.rate : Bits := ⟨4, 1⟩

/-! FLANE registers (R140). -/
def Reg.FLANE.DFE_TAPS_A (i j : Nat) : Nat := 0x20110c + 0x400 * i + 64 * j
def Fld.FLANE.DFE_TAPS_A.taps1_4 : Bits := ⟨27, 0⟩

/-! CASC registers (R140). -/
def Reg.CASC.DFE_TAPS_A (i j : Nat) : Nat := 0x90110c + 0x400 * i + 64 * j
def Fld.CASC.DFE_TAPS_A.taps1_4 : Bits := ⟨27, 0⟩

/-! FLANE registers (R140). -/
def Reg.FLANE.DFE_TAPS_B (i j : Nat) : Nat := 0x201110 + 0x400 * i + 64 * j
def Fld.FLANE.DFE_TAPS_B.taps5_6 : Bits := ⟨13, 0⟩

/-! CASC registers (R140). -/
def Reg.CASC.DFE_TAPS_B (i j : Nat) : Nat := 0x901110 + 0x400 * i + 64 * j
def Fld.CASC.DFE_TAPS_B.taps5_6 : Bits := ⟨13, 0⟩

/-! FLANE registers (R140). -/
def Reg.FLANE.LANE_EYE (i j : Nat) : Nat := 0x201114 + 0x400 * i + 64 * j
def Fld.FLANE.LANE_EYE.width : Bits := ⟨6, 0⟩
def Fld.FLANE.LANE_EYE.height : Bits := ⟨17, 8⟩

/-! CASC registers (R140). -/
def Reg.CASC.LANE_EYE (i j : Nat) : Nat := 0x901114 + 0x400 * i + 64 * j
def Fld.CASC.LANE_EYE.width : Bits := ⟨6, 0⟩
def Fld.CASC.LANE_EYE.height : Bits := ⟨17, 8⟩

/-! FLANE registers (R140). -/
def Reg.FLANE.LANE_OPT (i j : Nat) : Nat := 0x201118 + 0x400 * i + 64 * j
def Fld.FLANE.LANE_OPT.power : Bits := ⟨15, 0⟩

/-! CASC registers (R140). -/
def Reg.CASC.LANE_OPT (i j : Nat) : Nat := 0x901118 + 0x400 * i + 64 * j
def Fld.CASC.LANE_OPT.power : Bits := ⟨15, 0⟩

/-! FLANE registers (R140). -/
def Reg.FLANE.SYNC_MISS_CNT (i j : Nat) : Nat := 0x20111c + 0x400 * i + 64 * j
def Fld.FLANE.SYNC_MISS_CNT.count : Bits := ⟨31, 0⟩

/-! CASC registers (R140). -/
def Reg.CASC.SYNC_MISS_CNT (i j : Nat) : Nat := 0x90111c + 0x400 * i + 64 * j
def Fld.CASC.SYNC_MISS_CNT.count : Bits := ⟨31, 0⟩

/-! FLANE registers (R140). -/
def Reg.FLANE.TEST_CFG (i j : Nat) : Nat := 0x201120 + 0x400 * i + 64 * j
def Fld.FLANE.TEST_CFG.pattern : Bits := ⟨2, 0⟩
def Fld.FLANE.TEST_CFG.gen_en : Bits := ⟨3, 3⟩
def Fld.FLANE.TEST_CFG.chk_en : Bits := ⟨4, 4⟩

/-! CASC registers (R140). -/
def Reg.CASC.TEST_CFG (i j : Nat) : Nat := 0x901120 + 0x400 * i + 64 * j
def Fld.CASC.TEST_CFG.pattern : Bits := ⟨2, 0⟩
def Fld.CASC.TEST_CFG.gen_en : Bits := ⟨3, 3⟩
def Fld.CASC.TEST_CFG.chk_en : Bits := ⟨4, 4⟩

/-! FLANE registers (R140). -/
def Reg.FLANE.TEST_INJ (i j : Nat) : Nat := 0x201124 + 0x400 * i + 64 * j
def Fld.FLANE.TEST_INJ.rate_en : Bits := ⟨0, 0⟩
def Fld.FLANE.TEST_INJ.rate_exp : Bits := ⟨6, 1⟩
def Fld.FLANE.TEST_INJ.burst : Bits := ⟨15, 8⟩

/-! CASC registers (R140). -/
def Reg.CASC.TEST_INJ (i j : Nat) : Nat := 0x901124 + 0x400 * i + 64 * j
def Fld.CASC.TEST_INJ.rate_en : Bits := ⟨0, 0⟩
def Fld.CASC.TEST_INJ.rate_exp : Bits := ⟨6, 1⟩
def Fld.CASC.TEST_INJ.burst : Bits := ⟨15, 8⟩

/-! FLANE registers (R140). -/
def Reg.FLANE.TEST_CMD (i j : Nat) : Nat := 0x201128 + 0x400 * i + 64 * j
def Fld.FLANE.TEST_CMD.single_go : Bits := ⟨0, 0⟩
def Fld.FLANE.TEST_CMD.burst_go : Bits := ⟨1, 1⟩
def Fld.FLANE.TEST_CMD.test_enable_go : Bits := ⟨2, 2⟩
def Fld.FLANE.TEST_CMD.test_disable_go : Bits := ⟨3, 3⟩

/-! CASC registers (R140). -/
def Reg.CASC.TEST_CMD (i j : Nat) : Nat := 0x901128 + 0x400 * i + 64 * j
def Fld.CASC.TEST_CMD.single_go : Bits := ⟨0, 0⟩
def Fld.CASC.TEST_CMD.burst_go : Bits := ⟨1, 1⟩
def Fld.CASC.TEST_CMD.test_enable_go : Bits := ⟨2, 2⟩
def Fld.CASC.TEST_CMD.test_disable_go : Bits := ⟨3, 3⟩

/-! FLANE registers (R140). -/
def Reg.FLANE.TEST_STATE (i j : Nat) : Nat := 0x20112c + 0x400 * i + 64 * j
def Fld.FLANE.TEST_STATE.chk_lock : Bits := ⟨0, 0⟩

/-! CASC registers (R140). -/
def Reg.CASC.TEST_STATE (i j : Nat) : Nat := 0x90112c + 0x400 * i + 64 * j
def Fld.CASC.TEST_STATE.chk_lock : Bits := ⟨0, 0⟩

/-! FLANE registers (R140). -/
def Reg.FLANE.TEST_ERR_LO (i j : Nat) : Nat := 0x201130 + 0x400 * i + 64 * j
def Fld.FLANE.TEST_ERR_LO.errors : Bits := ⟨31, 0⟩

/-! CASC registers (R140). -/
def Reg.CASC.TEST_ERR_LO (i j : Nat) : Nat := 0x901130 + 0x400 * i + 64 * j
def Fld.CASC.TEST_ERR_LO.errors : Bits := ⟨31, 0⟩

/-! FLANE registers (R140). -/
def Reg.FLANE.TEST_ERR_HI (i j : Nat) : Nat := 0x201134 + 0x400 * i + 64 * j
def Fld.FLANE.TEST_ERR_HI.errors : Bits := ⟨31, 0⟩

/-! CASC registers (R140). -/
def Reg.CASC.TEST_ERR_HI (i j : Nat) : Nat := 0x901134 + 0x400 * i + 64 * j
def Fld.CASC.TEST_ERR_HI.errors : Bits := ⟨31, 0⟩

/-! FLANE registers (R140). -/
def Reg.FLANE.TEST_BITS_LO (i j : Nat) : Nat := 0x201138 + 0x400 * i + 64 * j
def Fld.FLANE.TEST_BITS_LO.bits : Bits := ⟨31, 0⟩

/-! CASC registers (R140). -/
def Reg.CASC.TEST_BITS_LO (i j : Nat) : Nat := 0x901138 + 0x400 * i + 64 * j
def Fld.CASC.TEST_BITS_LO.bits : Bits := ⟨31, 0⟩

/-! FLANE registers (R140). -/
def Reg.FLANE.TEST_BITS_HI (i j : Nat) : Nat := 0x20113c + 0x400 * i + 64 * j
def Fld.FLANE.TEST_BITS_HI.bits : Bits := ⟨31, 0⟩

/-! CASC registers (R140). -/
def Reg.CASC.TEST_BITS_HI (i j : Nat) : Nat := 0x90113c + 0x400 * i + 64 * j
def Fld.CASC.TEST_BITS_HI.bits : Bits := ⟨31, 0⟩

/-! CASC registers (R141). -/
def Reg.CASC.LINK_CFG (i : Nat) : Nat := 0x901000 + 0x400 * i
def Fld.CASC.LINK_CFG.loopback : Bits := ⟨1, 0⟩
def Fld.CASC.LINK_CFG.single_ok : Bits := ⟨2, 2⟩
def Reg.CASC.LINK_CMD (i : Nat) : Nat := 0x901004 + 0x400 * i
def Fld.CASC.LINK_CMD.retrain_go : Bits := ⟨0, 0⟩
def Reg.CASC.LINK_STA (i : Nat) : Nat := 0x901008 + 0x400 * i
def Fld.CASC.LINK_STA.LANE_FAIL : Bits := ⟨0, 0⟩
def Fld.CASC.LINK_STA.SINGLE : Bits := ⟨1, 1⟩
def Fld.CASC.LINK_STA.SLIP : Bits := ⟨2, 2⟩
def Fld.CASC.LINK_STA.DOWN : Bits := ⟨3, 3⟩
def Fld.CASC.LINK_STA.SEQ : Bits := ⟨31, 24⟩
def Reg.CASC.LINK_STATE (i : Nat) : Nat := 0x90100c + 0x400 * i
def Fld.CASC.LINK_STATE.state : Bits := ⟨2, 0⟩
def Reg.CASC.FRAME_DROP_CNT (i : Nat) : Nat := 0x901010 + 0x400 * i
def Fld.CASC.FRAME_DROP_CNT.count : Bits := ⟨31, 0⟩
def Reg.CASC.TYPE_DROP_CNT (i : Nat) : Nat := 0x901014 + 0x400 * i
def Fld.CASC.TYPE_DROP_CNT.count : Bits := ⟨31, 0⟩
def Reg.CASC.SLIP_CNT (i : Nat) : Nat := 0x901018 + 0x400 * i
def Fld.CASC.SLIP_CNT.count : Bits := ⟨31, 0⟩
def Reg.CASC.NIBMSG_DROP_CNT (i : Nat) : Nat := 0x90101c + 0x400 * i
def Fld.CASC.NIBMSG_DROP_CNT.count : Bits := ⟨31, 0⟩

/-! FLINK registers (R169). -/
def Reg.FLINK.LINK_CFG (i : Nat) : Nat := 0x281000 + 0x400 * i
def Fld.FLINK.LINK_CFG.standby_en : Bits := ⟨0, 0⟩
def Fld.FLINK.LINK_CFG.standby_for : Bits := ⟨3, 1⟩
def Fld.FLINK.LINK_CFG.take_down : Bits := ⟨4, 4⟩
def Fld.FLINK.LINK_CFG.take_eol : Bits := ⟨5, 5⟩
def Reg.FLINK.LINK_ASYM (i : Nat) : Nat := 0x281004 + 0x400 * i
def Fld.FLINK.LINK_ASYM.asym : Bits := ⟨23, 0⟩
def Reg.FLINK.LINK_CMD (i : Nat) : Nat := 0x281008 + 0x400 * i
def Fld.FLINK.LINK_CMD.id_req_go : Bits := ⟨0, 0⟩
def Fld.FLINK.LINK_CMD.image_activate_go : Bits := ⟨1, 1⟩
def Fld.FLINK.LINK_CMD.takeover_go : Bits := ⟨2, 2⟩
def Fld.FLINK.LINK_CMD.revert_go : Bits := ⟨3, 3⟩
def Fld.FLINK.LINK_CMD.rtt_reset_go : Bits := ⟨4, 4⟩
def Reg.FLINK.LINK_STA (i : Nat) : Nat := 0x28100c + 0x400 * i
def Fld.FLINK.LINK_STA.HEAD_NEW : Bits := ⟨0, 0⟩
def Fld.FLINK.LINK_STA.HEAD_WARN : Bits := ⟨1, 1⟩
def Fld.FLINK.LINK_STA.HEAD_EOL : Bits := ⟨2, 2⟩
def Fld.FLINK.LINK_STA.HEAD_ALARM : Bits := ⟨3, 3⟩
def Fld.FLINK.LINK_STA.MSG_FAIL : Bits := ⟨4, 4⟩
def Fld.FLINK.LINK_STA.HEAD_REFUSED : Bits := ⟨5, 5⟩
def Fld.FLINK.LINK_STA.HEAD_SILENT : Bits := ⟨6, 6⟩
def Fld.FLINK.LINK_STA.TAKEOVER : Bits := ⟨7, 7⟩
def Fld.FLINK.LINK_STA.IMAGE_DONE : Bits := ⟨8, 8⟩
def Fld.FLINK.LINK_STA.IMAGE_FAIL : Bits := ⟨9, 9⟩
def Fld.FLINK.LINK_STA.DELAY_STEP : Bits := ⟨10, 10⟩
def Fld.FLINK.LINK_STA.SEQ : Bits := ⟨31, 24⟩
def Reg.FLINK.HEAD_STATE (i : Nat) : Nat := 0x281010 + 0x400 * i
def Fld.FLINK.HEAD_STATE.state : Bits := ⟨2, 0⟩
def Fld.FLINK.HEAD_STATE.warn : Bits := ⟨3, 3⟩
def Fld.FLINK.HEAD_STATE.eol : Bits := ⟨4, 4⟩
def Fld.FLINK.HEAD_STATE.refuse : Bits := ⟨9, 8⟩
def Reg.FLINK.HEAD_UID_LO (i : Nat) : Nat := 0x281014 + 0x400 * i
def Fld.FLINK.HEAD_UID_LO.uid : Bits := ⟨31, 0⟩
def Reg.FLINK.HEAD_UID_HI (i : Nat) : Nat := 0x281018 + 0x400 * i
def Fld.FLINK.HEAD_UID_HI.uid : Bits := ⟨31, 0⟩
def Reg.FLINK.HEAD_MODEL (i : Nat) : Nat := 0x28101c + 0x400 * i
def Fld.FLINK.HEAD_MODEL.model_build : Bits := ⟨31, 0⟩
def Reg.FLINK.HEAD_FW (i : Nat) : Nat := 0x281020 + 0x400 * i
def Fld.FLINK.HEAD_FW.fw : Bits := ⟨31, 0⟩
def Reg.FLINK.HEAD_LAT (i : Nat) : Nat := 0x281024 + 0x400 * i
def Fld.FLINK.HEAD_LAT.lat : Bits := ⟨31, 0⟩
def Reg.FLINK.LIFE_DOSE (i : Nat) : Nat := 0x281028 + 0x400 * i
def Fld.FLINK.LIFE_DOSE.dose : Bits := ⟨31, 0⟩
def Reg.FLINK.LIFE_OVL (i : Nat) : Nat := 0x28102c + 0x400 * i
def Fld.FLINK.LIFE_OVL.ovl : Bits := ⟨31, 0⟩
def Reg.FLINK.LIFE_HOURS (i : Nat) : Nat := 0x281030 + 0x400 * i
def Fld.FLINK.LIFE_HOURS.hours : Bits := ⟨31, 0⟩
def Reg.FLINK.LIFE_MATE (i : Nat) : Nat := 0x281034 + 0x400 * i
def Fld.FLINK.LIFE_MATE.mate : Bits := ⟨31, 0⟩
def Reg.FLINK.LIFE_PCT (i : Nat) : Nat := 0x281038 + 0x400 * i
def Fld.FLINK.LIFE_PCT.pct : Bits := ⟨31, 0⟩
def Reg.FLINK.ALARM_LAST (i : Nat) : Nat := 0x28103c + 0x400 * i
def Fld.FLINK.ALARM_LAST.code : Bits := ⟨15, 0⟩
def Fld.FLINK.ALARM_LAST.severity : Bits := ⟨17, 16⟩
def Reg.FLINK.DELAY (i : Nat) : Nat := 0x281040 + 0x400 * i
def Fld.FLINK.DELAY.d : Bits := ⟨31, 0⟩
def Reg.FLINK.RTT_LAST (i : Nat) : Nat := 0x281044 + 0x400 * i
def Fld.FLINK.RTT_LAST.rtt : Bits := ⟨31, 0⟩
def Reg.FLINK.MSG_DROP_CNT (i : Nat) : Nat := 0x281048 + 0x400 * i
def Fld.FLINK.MSG_DROP_CNT.count : Bits := ⟨31, 0⟩
def Reg.FLINK.MSG_BAD_CNT (i : Nat) : Nat := 0x28104c + 0x400 * i
def Fld.FLINK.MSG_BAD_CNT.count : Bits := ⟨31, 0⟩
def Reg.FLINK.TAG_DROP_CNT (i : Nat) : Nat := 0x281050 + 0x400 * i
def Fld.FLINK.TAG_DROP_CNT.count : Bits := ⟨31, 0⟩
def Reg.FLINK.RETX_CNT (i : Nat) : Nat := 0x281054 + 0x400 * i
def Fld.FLINK.RETX_CNT.count : Bits := ⟨31, 0⟩
def Reg.FLINK.RTT_OUTLIER_CNT (i : Nat) : Nat := 0x281058 + 0x400 * i
def Fld.FLINK.RTT_OUTLIER_CNT.count : Bits := ⟨31, 0⟩
def Reg.FLINK.STBY_OFFSET (i : Nat) : Nat := 0x28105c + 0x400 * i
def Fld.FLINK.STBY_OFFSET.offset : Bits := ⟨15, 0⟩
def Reg.FLINK.CAL_ADDR (i : Nat) : Nat := 0x281060 + 0x400 * i
def Fld.FLINK.CAL_ADDR.addr : Bits := ⟨25, 0⟩

/-! CLK registers (R195). -/
def Reg.CLK.PLL_CFG (i : Nat) : Nat := 0x301000 + 0x800 * i
def Fld.CLK.PLL_CFG.ref_sel : Bits := ⟨1, 0⟩
def Fld.CLK.PLL_CFG.ref_auto : Bits := ⟨2, 2⟩
def Fld.CLK.PLL_CFG.rdiv : Bits := ⟨10, 3⟩
def Fld.CLK.PLL_CFG.dither_en : Bits := ⟨11, 11⟩
def Fld.CLK.PLL_CFG.pair_lock : Bits := ⟨12, 12⟩
def Reg.CLK.PLL_NINT (i : Nat) : Nat := 0x301004 + 0x800 * i
def Fld.CLK.PLL_NINT.nint : Bits := ⟨15, 0⟩
def Reg.CLK.PLL_NFRAC (i : Nat) : Nat := 0x301008 + 0x800 * i
def Fld.CLK.PLL_NFRAC.nfrac : Bits := ⟨31, 0⟩
def Reg.CLK.PLL_SEED (i : Nat) : Nat := 0x30100c + 0x800 * i
def Fld.CLK.PLL_SEED.seed : Bits := ⟨31, 0⟩
def Reg.CLK.PLL_SETTLE (i : Nat) : Nat := 0x301010 + 0x800 * i
def Fld.CLK.PLL_SETTLE.count : Bits := ⟨15, 0⟩
def Reg.CLK.PLL_CMD (i : Nat) : Nat := 0x301014 + 0x800 * i
def Fld.CLK.PLL_CMD.enable_go : Bits := ⟨0, 0⟩
def Fld.CLK.PLL_CMD.disable_go : Bits := ⟨1, 1⟩
def Fld.CLK.PLL_CMD.twin_swap_go : Bits := ⟨2, 2⟩
def Fld.CLK.PLL_CMD.ref_revert_go : Bits := ⟨3, 3⟩
def Reg.CLK.PLL_STA (i : Nat) : Nat := 0x301018 + 0x800 * i
def Fld.CLK.PLL_STA.LOL : Bits := ⟨0, 0⟩
def Fld.CLK.PLL_STA.LOCKED : Bits := ⟨1, 1⟩
def Fld.CLK.PLL_STA.TWIN_SWAP : Bits := ⟨2, 2⟩
def Fld.CLK.PLL_STA.STOPPED : Bits := ⟨3, 3⟩
def Fld.CLK.PLL_STA.HOLDOVER : Bits := ⟨4, 4⟩
def Fld.CLK.PLL_STA.REF_LOSS : Bits := ⟨5, 5⟩
def Fld.CLK.PLL_STA.REF_SWITCH : Bits := ⟨6, 6⟩
def Fld.CLK.PLL_STA.BAND_NONE : Bits := ⟨7, 7⟩
def Fld.CLK.PLL_STA.DELAY_REFUSED : Bits := ⟨8, 8⟩
def Fld.CLK.PLL_STA.REF_LOOP : Bits := ⟨9, 9⟩
def Fld.CLK.PLL_STA.RUNT : Bits := ⟨10, 10⟩
def Fld.CLK.PLL_STA.SEQ : Bits := ⟨31, 24⟩
def Reg.CLK.PLL_STATE (i : Nat) : Nat := 0x30101c + 0x800 * i
def Fld.CLK.PLL_STATE.state : Bits := ⟨2, 0⟩
def Fld.CLK.PLL_STATE.core : Bits := ⟨3, 3⟩
def Fld.CLK.PLL_STATE.twin_locked : Bits := ⟨4, 4⟩
def Fld.CLK.PLL_STATE.ref_in_use : Bits := ⟨6, 5⟩
def Fld.CLK.PLL_STATE.override : Bits := ⟨7, 7⟩
def Fld.CLK.PLL_STATE.band : Bits := ⟨13, 8⟩
def Reg.CLK.PLL_MEAS (i : Nat) : Nat := 0x301020 + 0x800 * i
def Fld.CLK.PLL_MEAS.fvco : Bits := ⟨23, 0⟩
def Reg.CLK.PLL_PHERR (i : Nat) : Nat := 0x301024 + 0x800 * i
def Fld.CLK.PLL_PHERR.pherr : Bits := ⟨15, 0⟩
def Reg.CLK.LOL_CNT (i : Nat) : Nat := 0x301028 + 0x800 * i
def Fld.CLK.LOL_CNT.count : Bits := ⟨31, 0⟩
def Reg.CLK.SWAP_CNT (i : Nat) : Nat := 0x30102c + 0x800 * i
def Fld.CLK.SWAP_CNT.count : Bits := ⟨31, 0⟩
def Reg.CLK.RUNT_CNT (i : Nat) : Nat := 0x301030 + 0x800 * i
def Fld.CLK.RUNT_CNT.count : Bits := ⟨31, 0⟩
def Reg.CLK.BAND (i j : Nat) : Nat := 0x301100 + 0x800 * i + 4 * j
def Fld.CLK.BAND.fmin : Bits := ⟨15, 0⟩
def Fld.CLK.BAND.fmax : Bits := ⟨31, 16⟩

/-! CLK registers (R196). -/
def Reg.CLK.OUT_CFG (i j : Nat) : Nat := 0x301200 + 0x800 * i + 16 * j
def Fld.CLK.OUT_CFG.div : Bits := ⟨9, 0⟩
def Reg.CLK.OUT_DELAY (i j : Nat) : Nat := 0x301204 + 0x800 * i + 16 * j
def Fld.CLK.OUT_DELAY.delay : Bits := ⟨9, 0⟩
def Reg.CLK.OUT_CMD (i j : Nat) : Nat := 0x301208 + 0x800 * i + 16 * j
def Fld.CLK.OUT_CMD.enable_go : Bits := ⟨0, 0⟩
def Fld.CLK.OUT_CMD.disable_go : Bits := ⟨1, 1⟩
def Reg.CLK.OUT_STATE (i j : Nat) : Nat := 0x30120c + 0x800 * i + 16 * j
def Fld.CLK.OUT_STATE.running : Bits := ⟨0, 0⟩
def Fld.CLK.OUT_STATE.delay_now : Bits := ⟨19, 10⟩
def Reg.CLK.DOMAIN_RUN : Nat := 0x303000
def Fld.CLK.DOMAIN_RUN.run : Bits := ⟨17, 0⟩

/-! TIME registers (R225). -/
def Reg.TIME.TIME_CMD : Nat := 0x381000
def Fld.TIME.TIME_CMD.snap_go : Bits := ⟨0, 0⟩
def Fld.TIME.TIME_CMD.incr_commit_go : Bits := ⟨1, 1⟩
def Fld.TIME.TIME_CMD.once_go : Bits := ⟨2, 2⟩
def Fld.TIME.TIME_CMD.tbm_commit_go : Bits := ⟨3, 3⟩
def Reg.TIME.TIME_STATE : Nat := 0x381004
def Fld.TIME.TIME_STATE.tbw_set : Bits := ⟨0, 0⟩
def Fld.TIME.TIME_STATE.tbm_holdover : Bits := ⟨1, 1⟩
def Fld.TIME.TIME_STATE.tbm_stopped : Bits := ⟨2, 2⟩
def Fld.TIME.TIME_STATE.tbm_estimated : Bits := ⟨3, 3⟩
def Fld.TIME.TIME_STATE.track_hold : Bits := ⟨4, 4⟩
def Reg.TIME.SNAP_SEQ : Nat := 0x381008
def Fld.TIME.SNAP_SEQ.seq : Bits := ⟨31, 0⟩
def Reg.TIME.SNAP_TBS_LO : Nat := 0x381010
def Fld.TIME.SNAP_TBS_LO.tbs : Bits := ⟨31, 0⟩
def Reg.TIME.SNAP_TBS_HI : Nat := 0x381014
def Fld.TIME.SNAP_TBS_HI.tbs : Bits := ⟨31, 0⟩
def Reg.TIME.SNAP_TBM_LO : Nat := 0x381018
def Fld.TIME.SNAP_TBM_LO.tbm : Bits := ⟨31, 0⟩
def Reg.TIME.SNAP_TBM_HI : Nat := 0x38101c
def Fld.TIME.SNAP_TBM_HI.tbm : Bits := ⟨31, 0⟩
def Reg.TIME.SNAP_TBW_LO : Nat := 0x381020
def Fld.TIME.SNAP_TBW_LO.ns : Bits := ⟨31, 0⟩
def Reg.TIME.SNAP_TBW_HI : Nat := 0x381024
def Fld.TIME.SNAP_TBW_HI.ns : Bits := ⟨31, 0⟩
def Reg.TIME.SNAP_FLAGS : Nat := 0x381028
def Fld.TIME.SNAP_FLAGS.frac : Bits := ⟨15, 0⟩
def Fld.TIME.SNAP_FLAGS.holdover : Bits := ⟨16, 16⟩
def Fld.TIME.SNAP_FLAGS.estimated : Bits := ⟨17, 17⟩
def Reg.TIME.TB_W_INCR_LO : Nat := 0x381030
def Fld.TIME.TB_W_INCR_LO.frac : Bits := ⟨31, 0⟩
def Reg.TIME.TB_W_INCR_HI : Nat := 0x381034
def Fld.TIME.TB_W_INCR_HI.ns : Bits := ⟨31, 0⟩
def Reg.TIME.TB_W_ONCE_LO : Nat := 0x381038
def Fld.TIME.TB_W_ONCE_LO.ns : Bits := ⟨31, 0⟩
def Reg.TIME.TB_W_ONCE_HI : Nat := 0x38103c
def Fld.TIME.TB_W_ONCE_HI.ns : Bits := ⟨31, 0⟩
def Reg.TIME.TB_W_ONCE_FRAC : Nat := 0x381040
def Fld.TIME.TB_W_ONCE_FRAC.frac : Bits := ⟨31, 0⟩
def Reg.TIME.TBM_CFG : Nat := 0x381050
def Fld.TIME.TBM_CFG.mpb : Bits := ⟨3, 0⟩
def Fld.TIME.TBM_CFG.fid_sel : Bits := ⟨8, 4⟩
def Fld.TIME.TBM_CFG.fid_realign : Bits := ⟨9, 9⟩
def Reg.TIME.TBM_HARM : Nat := 0x381054
def Fld.TIME.TBM_HARM.harmonic : Bits := ⟨15, 0⟩
def Fld.TIME.TBM_HARM.fid_bucket : Bits := ⟨31, 16⟩
def Reg.TIME.TBM_TURN_LOAD_LO : Nat := 0x381058
def Fld.TIME.TBM_TURN_LOAD_LO.turn : Bits := ⟨31, 0⟩
def Reg.TIME.TBM_TURN_LOAD_HI : Nat := 0x38105c
def Fld.TIME.TBM_TURN_LOAD_HI.turn : Bits := ⟨31, 0⟩
def Reg.TIME.TBM_SLIP_CNT : Nat := 0x381060
def Fld.TIME.TBM_SLIP_CNT.count : Bits := ⟨31, 0⟩
def Reg.TIME.PPS_CFG : Nat := 0x381070
def Fld.TIME.PPS_CFG.out_en : Bits := ⟨0, 0⟩
def Fld.TIME.PPS_CFG.in_en : Bits := ⟨1, 1⟩
def Fld.TIME.PPS_CFG.width_us : Bits := ⟨20, 2⟩
def Reg.TIME.PPS_IN_TBW_LO : Nat := 0x381074
def Fld.TIME.PPS_IN_TBW_LO.ns : Bits := ⟨31, 0⟩
def Reg.TIME.PPS_IN_TBW_HI : Nat := 0x381078
def Fld.TIME.PPS_IN_TBW_HI.ns : Bits := ⟨31, 0⟩
def Reg.TIME.PPS_IN_TBS_LO : Nat := 0x38107c
def Fld.TIME.PPS_IN_TBS_LO.tbs : Bits := ⟨31, 0⟩
def Reg.TIME.PPS_IN_TBS_HI : Nat := 0x381080
def Fld.TIME.PPS_IN_TBS_HI.tbs : Bits := ⟨31, 0⟩
def Reg.TIME.PPS_IN_EARLY_CNT : Nat := 0x381084
def Fld.TIME.PPS_IN_EARLY_CNT.count : Bits := ⟨31, 0⟩
def Reg.TIME.TRACK_CFG : Nat := 0x383200
def Fld.TIME.TRACK_CFG.track_en : Bits := ⟨0, 0⟩
def Reg.TIME.TRACK_RATIO : Nat := 0x383204
def Fld.TIME.TRACK_RATIO.num : Bits := ⟨15, 0⟩
def Fld.TIME.TRACK_RATIO.den : Bits := ⟨31, 16⟩
def Reg.TIME.TRACK_LIMIT : Nat := 0x383208
def Fld.TIME.TRACK_LIMIT.rms : Bits := ⟨23, 0⟩
def Reg.TIME.TRACK_B_FRAC : Nat := 0x38320c
def Fld.TIME.TRACK_B_FRAC.b : Bits := ⟨31, 0⟩
def Reg.TIME.TRACK_B_INT : Nat := 0x383210
def Fld.TIME.TRACK_B_INT.b : Bits := ⟨31, 0⟩

/-! TIME registers (R226). -/
def Reg.TIME.TDC_CFG (i : Nat) : Nat := 0x382000 + 64 * i
def Fld.TIME.TDC_CFG.edge : Bits := ⟨1, 0⟩
def Fld.TIME.TDC_CFG.prescale : Bits := ⟨6, 2⟩
def Fld.TIME.TDC_CFG.fifo_en : Bits := ⟨7, 7⟩
def Reg.TIME.TDC_CMD (i : Nat) : Nat := 0x382004 + 64 * i
def Fld.TIME.TDC_CMD.pop_go : Bits := ⟨0, 0⟩
def Fld.TIME.TDC_CMD.enable_go : Bits := ⟨1, 1⟩
def Fld.TIME.TDC_CMD.disable_go : Bits := ⟨2, 2⟩
def Reg.TIME.TDC_LEVEL (i : Nat) : Nat := 0x382008 + 64 * i
def Fld.TIME.TDC_LEVEL.level : Bits := ⟨6, 0⟩
def Reg.TIME.TDC_HEAD0 (i : Nat) : Nat := 0x38200c + 64 * i
def Fld.TIME.TDC_HEAD0.record : Bits := ⟨31, 0⟩
def Reg.TIME.TDC_HEAD1 (i : Nat) : Nat := 0x382010 + 64 * i
def Fld.TIME.TDC_HEAD1.record : Bits := ⟨31, 0⟩
def Reg.TIME.TDC_HEAD2 (i : Nat) : Nat := 0x382014 + 64 * i
def Fld.TIME.TDC_HEAD2.record : Bits := ⟨31, 0⟩
def Reg.TIME.TDC_HEAD3 (i : Nat) : Nat := 0x382018 + 64 * i
def Fld.TIME.TDC_HEAD3.record : Bits := ⟨31, 0⟩
def Reg.TIME.MISSED_CNT (i : Nat) : Nat := 0x38201c + 64 * i
def Fld.TIME.MISSED_CNT.count : Bits := ⟨31, 0⟩
def Reg.TIME.LOST_CNT (i : Nat) : Nat := 0x382020 + 64 * i
def Fld.TIME.LOST_CNT.count : Bits := ⟨31, 0⟩
def Reg.TIME.TDC_QUAL (i : Nat) : Nat := 0x382024 + 64 * i
def Fld.TIME.TDC_QUAL.rms : Bits := ⟨15, 0⟩
def Fld.TIME.TDC_QUAL.phys : Bits := ⟨20, 16⟩

/-! TIME registers (R227). -/
def Reg.TIME.IVAL_CFG (i : Nat) : Nat := 0x383000 + 32 * i
def Fld.TIME.IVAL_CFG.start : Bits := ⟨4, 0⟩
def Fld.TIME.IVAL_CFG.stop : Bits := ⟨9, 5⟩
def Fld.TIME.IVAL_CFG.timeout : Bits := ⟨31, 10⟩
def Reg.TIME.IVAL_CMD (i : Nat) : Nat := 0x383004 + 32 * i
def Fld.TIME.IVAL_CMD.arm_go : Bits := ⟨0, 0⟩
def Reg.TIME.IVAL_LO (i : Nat) : Nat := 0x383008 + 32 * i
def Fld.TIME.IVAL_LO.delta : Bits := ⟨31, 0⟩
def Reg.TIME.IVAL_HI (i : Nat) : Nat := 0x38300c + 32 * i
def Fld.TIME.IVAL_HI.delta : Bits := ⟨31, 0⟩
def Reg.TIME.IVAL_FLAGS (i : Nat) : Nat := 0x383010 + 32 * i
def Fld.TIME.IVAL_FLAGS.flags : Bits := ⟨4, 0⟩
def Reg.TIME.FREQ_CFG (i : Nat) : Nat := 0x383100 + 64 * i
def Fld.TIME.FREQ_CFG.channel : Bits := ⟨4, 0⟩
def Fld.TIME.FREQ_CFG.continuous : Bits := ⟨5, 5⟩
def Reg.TIME.FREQ_GATE (i : Nat) : Nat := 0x383104 + 64 * i
def Fld.TIME.FREQ_GATE.gate : Bits := ⟨23, 0⟩
def Reg.TIME.FREQ_CMD (i : Nat) : Nat := 0x383108 + 64 * i
def Fld.TIME.FREQ_CMD.start_go : Bits := ⟨0, 0⟩
def Fld.TIME.FREQ_CMD.stop_go : Bits := ⟨1, 1⟩
def Reg.TIME.RES_SEQ (i : Nat) : Nat := 0x38310c + 64 * i
def Fld.TIME.RES_SEQ.seq : Bits := ⟨31, 0⟩
def Reg.TIME.RES_PER_FRAC (i : Nat) : Nat := 0x383110 + 64 * i
def Fld.TIME.RES_PER_FRAC.period : Bits := ⟨31, 0⟩
def Reg.TIME.RES_PER_INT (i : Nat) : Nat := 0x383114 + 64 * i
def Fld.TIME.RES_PER_INT.period : Bits := ⟨31, 0⟩
def Reg.TIME.RES_PHASE_LO (i : Nat) : Nat := 0x383118 + 64 * i
def Fld.TIME.RES_PHASE_LO.a : Bits := ⟨31, 0⟩
def Reg.TIME.RES_PHASE_HI (i : Nat) : Nat := 0x38311c + 64 * i
def Fld.TIME.RES_PHASE_HI.a : Bits := ⟨31, 0⟩
def Reg.TIME.RES_RMS (i : Nat) : Nat := 0x383120 + 64 * i
def Fld.TIME.RES_RMS.rms : Bits := ⟨23, 0⟩
def Reg.TIME.RES_COUNT (i : Nat) : Nat := 0x383124 + 64 * i
def Fld.TIME.RES_COUNT.n : Bits := ⟨16, 0⟩
def Fld.TIME.RES_COUNT.log2m : Bits := ⟨21, 17⟩
def Fld.TIME.RES_COUNT.nofit : Bits := ⟨22, 22⟩

/-! NET registers (R228). -/
def Reg.NET.NET_CFG : Nat := 0xb81000
def Fld.NET.NET_CFG.fec : Bits := ⟨0, 0⟩
def Fld.NET.NET_CFG.tx_ring : Bits := ⟨21, 12⟩
def Reg.NET.NET_RXRING : Nat := 0xb81004
def Fld.NET.NET_RXRING.rx_ring : Bits := ⟨11, 0⟩
def Fld.NET.NET_RXRING.rx_free : Bits := ⟨25, 16⟩
def Reg.NET.NET_MAC_LO : Nat := 0xb81008
def Fld.NET.NET_MAC_LO.mac : Bits := ⟨31, 0⟩
def Reg.NET.NET_MAC_HI : Nat := 0xb8100c
def Fld.NET.NET_MAC_HI.mac : Bits := ⟨31, 0⟩
def Reg.NET.NET_RX_COMP : Nat := 0xb81010
def Fld.NET.NET_RX_COMP.comp : Bits := ⟨15, 0⟩
def Reg.NET.NET_TX_COMP : Nat := 0xb81014
def Fld.NET.NET_TX_COMP.comp : Bits := ⟨15, 0⟩
def Reg.NET.NET_TXTS_CMD : Nat := 0xb81018
def Fld.NET.NET_TXTS_CMD.pop_go : Bits := ⟨0, 0⟩
def Reg.NET.NET_TXTS_LEVEL : Nat := 0xb8101c
def Fld.NET.NET_TXTS_LEVEL.level : Bits := ⟨4, 0⟩
def Reg.NET.NET_TXTS_0 : Nat := 0xb81020
def Fld.NET.NET_TXTS_0.ns : Bits := ⟨31, 0⟩
def Reg.NET.NET_TXTS_1 : Nat := 0xb81024
def Fld.NET.NET_TXTS_1.ns : Bits := ⟨31, 0⟩
def Reg.NET.NET_TXTS_2 : Nat := 0xb81028
def Fld.NET.NET_TXTS_2.frac : Bits := ⟨15, 0⟩
def Fld.NET.NET_TXTS_2.tag : Bits := ⟨31, 16⟩
def Reg.NET.NET_TXTS_3 : Nat := 0xb8102c
def Fld.NET.NET_TXTS_3.seqid : Bits := ⟨15, 0⟩
def Fld.NET.NET_TXTS_3.msgtype : Bits := ⟨19, 16⟩
def Reg.NET.TXTS_OVF_CNT : Nat := 0xb81030
def Fld.NET.TXTS_OVF_CNT.count : Bits := ⟨31, 0⟩
def Reg.NET.STAMP_MISS_CNT : Nat := 0xb81034
def Fld.NET.STAMP_MISS_CNT.count : Bits := ⟨31, 0⟩
def Reg.NET.RX_DROP_CNT : Nat := 0xb81038
def Fld.NET.RX_DROP_CNT.count : Bits := ⟨31, 0⟩
def Reg.NET.NET_STATE : Nat := 0xb8103c
def Fld.NET.NET_STATE.link_up : Bits := ⟨0, 0⟩
def Fld.NET.NET_STATE.fec_lock : Bits := ⟨1, 1⟩
def Reg.NET.RX_NOBUF_CNT : Nat := 0xb81040
def Fld.NET.RX_NOBUF_CNT.count : Bits := ⟨31, 0⟩

/-! COND registers (R254). -/
def Reg.COND.SPK_CFG (i : Nat) : Nat := 0x401000 + 0x100 * i
def Fld.COND.SPK_CFG.window : Bits := ⟨1, 0⟩
def Fld.COND.SPK_CFG.rank_mode : Bits := ⟨2, 2⟩
def Fld.COND.SPK_CFG.rank : Bits := ⟨6, 3⟩
def Reg.COND.SPK_THR (i : Nat) : Nat := 0x401004 + 0x100 * i
def Fld.COND.SPK_THR.thr : Bits := ⟨11, 0⟩
def Reg.COND.SPK_BURST (i : Nat) : Nat := 0x401008 + 0x100 * i
def Fld.COND.SPK_BURST.limit : Bits := ⟨13, 0⟩
def Reg.COND.SPK_CMD (i : Nat) : Nat := 0x40100c + 0x100 * i
def Fld.COND.SPK_CMD.enable_go : Bits := ⟨0, 0⟩
def Fld.COND.SPK_CMD.disable_go : Bits := ⟨1, 1⟩
def Fld.COND.SPK_CMD.commit_go : Bits := ⟨2, 2⟩
def Reg.COND.SPK_LAST_A (i : Nat) : Nat := 0x401010 + 0x100 * i
def Fld.COND.SPK_LAST_A.s0 : Bits := ⟨13, 0⟩
def Fld.COND.SPK_LAST_A.s1 : Bits := ⟨29, 16⟩
def Reg.COND.SPK_LAST_B (i : Nat) : Nat := 0x401014 + 0x100 * i
def Fld.COND.SPK_LAST_B.s2 : Bits := ⟨13, 0⟩
def Fld.COND.SPK_LAST_B.s3 : Bits := ⟨29, 16⟩
def Reg.COND.SPK_REPL_CNT (i : Nat) : Nat := 0x401018 + 0x100 * i
def Fld.COND.SPK_REPL_CNT.count : Bits := ⟨31, 0⟩
def Reg.COND.SPK_STATE (i : Nat) : Nat := 0x40101c + 0x100 * i
def Fld.COND.SPK_STATE.enabled : Bits := ⟨0, 0⟩
def Fld.COND.SPK_STATE.unsettled : Bits := ⟨1, 1⟩

/-! COND registers (R255). -/
def Reg.COND.ZC_CFG (i : Nat) : Nat := 0x402000 + 0x200 * i
def Fld.COND.ZC_CFG.tap : Bits := ⟨0, 0⟩
def Fld.COND.ZC_CFG.cic_r : Bits := ⟨10, 1⟩
def Fld.COND.ZC_CFG.hb1 : Bits := ⟨11, 11⟩
def Fld.COND.ZC_CFG.hb2 : Bits := ⟨12, 12⟩
def Fld.COND.ZC_CFG.fir_dec : Bits := ⟨14, 13⟩
def Fld.COND.ZC_CFG.rs_en : Bits := ⟨15, 15⟩
def Fld.COND.ZC_CFG.rs_mode : Bits := ⟨16, 16⟩
def Fld.COND.ZC_CFG.rs_min : Bits := ⟨20, 17⟩
def Fld.COND.ZC_CFG.per_bucket : Bits := ⟨24, 21⟩
def Reg.COND.ZC_IO (i : Nat) : Nat := 0x402004 + 0x200 * i
def Fld.COND.ZC_IO.in_id : Bits := ⟨7, 0⟩
def Fld.COND.ZC_IO.out_id : Bits := ⟨15, 8⟩
def Reg.COND.ZC_FTW_LO (i : Nat) : Nat := 0x402008 + 0x200 * i
def Fld.COND.ZC_FTW_LO.ftw : Bits := ⟨31, 0⟩
def Reg.COND.ZC_FTW_HI (i : Nat) : Nat := 0x40200c + 0x200 * i
def Fld.COND.ZC_FTW_HI.ftw : Bits := ⟨15, 0⟩
def Fld.COND.ZC_FTW_HI.phase : Bits := ⟨31, 16⟩
def Reg.COND.ZC_FIR (i : Nat) : Nat := 0x402010 + 0x200 * i
def Fld.COND.ZC_FIR.taps : Bits := ⟨7, 0⟩
def Fld.COND.ZC_FIR.fade : Bits := ⟨19, 8⟩
def Reg.COND.ZC_RS_RATIO (i : Nat) : Nat := 0x402014 + 0x200 * i
def Fld.COND.ZC_RS_RATIO.ratio : Bits := ⟨31, 0⟩
def Reg.COND.ZC_RS_OFFSET (i : Nat) : Nat := 0x402018 + 0x200 * i
def Fld.COND.ZC_RS_OFFSET.offset : Bits := ⟨23, 0⟩
def Reg.COND.ZC_RS_SLEW (i : Nat) : Nat := 0x40201c + 0x200 * i
def Fld.COND.ZC_RS_SLEW.slew : Bits := ⟨7, 0⟩
def Reg.COND.ZC_OUT (i : Nat) : Nat := 0x402020 + 0x200 * i
def Fld.COND.ZC_OUT.shift : Bits := ⟨2, 0⟩
def Reg.COND.ZC_CMD (i : Nat) : Nat := 0x402030 + 0x200 * i
def Fld.COND.ZC_CMD.enable_go : Bits := ⟨0, 0⟩
def Fld.COND.ZC_CMD.disable_go : Bits := ⟨1, 1⟩
def Fld.COND.ZC_CMD.commit_go : Bits := ⟨2, 2⟩
def Reg.COND.ZC_STA (i : Nat) : Nat := 0x402034 + 0x200 * i
def Fld.COND.ZC_STA.COMMITTED : Bits := ⟨0, 0⟩
def Fld.COND.ZC_STA.COEF_REFUSED : Bits := ⟨1, 1⟩
def Fld.COND.ZC_STA.SAT : Bits := ⟨2, 2⟩
def Fld.COND.ZC_STA.RS_RANGE : Bits := ⟨3, 3⟩
def Fld.COND.ZC_STA.TH_UP : Bits := ⟨4, 4⟩
def Fld.COND.ZC_STA.TH_DOWN : Bits := ⟨5, 5⟩
def Fld.COND.ZC_STA.COEF_BUSY : Bits := ⟨6, 6⟩
def Fld.COND.ZC_STA.CFG_REFUSED : Bits := ⟨7, 7⟩
def Fld.COND.ZC_STA.SEQ : Bits := ⟨31, 24⟩
def Reg.COND.ZC_STATE (i : Nat) : Nat := 0x402038 + 0x200 * i
def Fld.COND.ZC_STATE.state : Bits := ⟨1, 0⟩
def Fld.COND.ZC_STATE.bank : Bits := ⟨2, 2⟩
def Fld.COND.ZC_STATE.unsettled : Bits := ⟨3, 3⟩
def Reg.COND.ZC_GDELAY (i : Nat) : Nat := 0x40203c + 0x200 * i
def Fld.COND.ZC_GDELAY.g2 : Bits := ⟨23, 0⟩
def Reg.COND.ZC_SETTLE (i : Nat) : Nat := 0x402040 + 0x200 * i
def Fld.COND.ZC_SETTLE.count : Bits := ⟨15, 0⟩
def Reg.COND.ZC_SAT_CNT (i : Nat) : Nat := 0x402044 + 0x200 * i
def Fld.COND.ZC_SAT_CNT.count : Bits := ⟨31, 0⟩
def Reg.COND.ZC_RS_NOW (i : Nat) : Nat := 0x402048 + 0x200 * i
def Fld.COND.ZC_RS_NOW.ratio : Bits := ⟨31, 0⟩
def Reg.COND.TH_CFG (i : Nat) : Nat := 0x402080 + 0x200 * i
def Fld.COND.TH_CFG.mean : Bits := ⟨0, 0⟩
def Fld.COND.TH_CFG.lm : Bits := ⟨16, 1⟩
def Fld.COND.TH_CFG.src_sel : Bits := ⟨18, 17⟩
def Fld.COND.TH_CFG.up_en : Bits := ⟨19, 19⟩
def Fld.COND.TH_CFG.down_en : Bits := ⟨20, 20⟩
def Reg.COND.TH_UPPER (i : Nat) : Nat := 0x402084 + 0x200 * i
def Fld.COND.TH_UPPER.level : Bits := ⟨15, 0⟩
def Fld.COND.TH_UPPER.hyst : Bits := ⟨31, 16⟩
def Reg.COND.TH_LOWER (i : Nat) : Nat := 0x402088 + 0x200 * i
def Fld.COND.TH_LOWER.level : Bits := ⟨15, 0⟩
def Fld.COND.TH_LOWER.hyst : Bits := ⟨31, 16⟩
def Reg.COND.TH_DWELL (i : Nat) : Nat := 0x40208c + 0x200 * i
def Fld.COND.TH_DWELL.up : Bits := ⟨15, 0⟩
def Fld.COND.TH_DWELL.down : Bits := ⟨31, 16⟩
def Reg.COND.TH_STATE (i : Nat) : Nat := 0x402090 + 0x200 * i
def Fld.COND.TH_STATE.up : Bits := ⟨1, 0⟩
def Fld.COND.TH_STATE.down : Bits := ⟨3, 2⟩
def Fld.COND.TH_STATE.power : Bits := ⟨31, 16⟩
def Reg.COND.TH_UP_CNT (i : Nat) : Nat := 0x402094 + 0x200 * i
def Fld.COND.TH_UP_CNT.count : Bits := ⟨31, 0⟩
def Reg.COND.TH_DOWN_CNT (i : Nat) : Nat := 0x402098 + 0x200 * i
def Fld.COND.TH_DOWN_CNT.count : Bits := ⟨31, 0⟩

/-! XFORM registers (R288). -/
def Reg.XFORM.XF_BUDGET : Nat := 0x481000
def Fld.XFORM.XF_BUDGET.slots_used : Bits := ⟨11, 0⟩
def Fld.XFORM.XF_BUDGET.tiles_used : Bits := ⟨21, 16⟩

/-! XFORM registers (R289). -/
def Reg.XFORM.WIN_CFG (i : Nat) : Nat := 0x481100 + 64 * i
def Fld.XFORM.WIN_CFG.log2n : Bits := ⟨4, 0⟩
def Reg.XFORM.WIN_ADDR (i : Nat) : Nat := 0x481104 + 64 * i
def Fld.XFORM.WIN_ADDR.index : Bits := ⟨15, 0⟩
def Reg.XFORM.WIN_DATA (i : Nat) : Nat := 0x481108 + 64 * i
def Fld.XFORM.WIN_DATA.value : Bits := ⟨17, 0⟩
def Reg.XFORM.WIN_CMD (i : Nat) : Nat := 0x48110c + 64 * i
def Fld.XFORM.WIN_CMD.enable_go : Bits := ⟨0, 0⟩
def Fld.XFORM.WIN_CMD.disable_go : Bits := ⟨1, 1⟩
def Reg.XFORM.WIN_STATE (i : Nat) : Nat := 0x481110 + 64 * i
def Fld.XFORM.WIN_STATE.enabled : Bits := ⟨0, 0⟩
def Fld.XFORM.WIN_STATE.users : Bits := ⟨15, 8⟩
def Reg.XFORM.WIN_CG (i : Nat) : Nat := 0x481114 + 64 * i
def Fld.XFORM.WIN_CG.cg : Bits := ⟨23, 0⟩
def Reg.XFORM.WIN_ENBW (i : Nat) : Nat := 0x481118 + 64 * i
def Fld.XFORM.WIN_ENBW.enbw : Bits := ⟨23, 0⟩
def Reg.XFORM.WIN_CRC (i : Nat) : Nat := 0x48111c + 64 * i
def Fld.XFORM.WIN_CRC.crc : Bits := ⟨31, 0⟩

/-! XFORM registers (R290). -/
def Reg.XFORM.XF_CFG (i : Nat) : Nat := 0x482000 + 0x100 * i
def Fld.XFORM.XF_CFG.stream : Bits := ⟨7, 0⟩
def Fld.XFORM.XF_CFG.log2n : Bits := ⟨12, 8⟩
def Fld.XFORM.XF_CFG.ov : Bits := ⟨14, 13⟩
def Fld.XFORM.XF_CFG.det : Bits := ⟨16, 15⟩
def Fld.XFORM.XF_CFG.res : Bits := ⟨18, 17⟩
def Fld.XFORM.XF_CFG.align_en : Bits := ⟨19, 19⟩
def Reg.XFORM.XF_WIN (i : Nat) : Nat := 0x482004 + 0x100 * i
def Fld.XFORM.XF_WIN.win : Bits := ⟨2, 0⟩
def Fld.XFORM.XF_WIN.param : Bits := ⟨4, 3⟩
def Fld.XFORM.XF_WIN.slot : Bits := ⟨7, 5⟩
def Reg.XFORM.XF_AVG (i : Nat) : Nat := 0x482008 + 0x100 * i
def Fld.XFORM.XF_AVG.mode : Bits := ⟨2, 0⟩
def Fld.XFORM.XF_AVG.k : Bits := ⟨6, 3⟩
def Fld.XFORM.XF_AVG.cont : Bits := ⟨7, 7⟩
def Fld.XFORM.XF_AVG.m : Bits := ⟨23, 8⟩
def Reg.XFORM.XF_BINS (i : Nat) : Nat := 0x48200c + 0x100 * i
def Fld.XFORM.XF_BINS.lo : Bits := ⟨15, 0⟩
def Fld.XFORM.XF_BINS.hi : Bits := ⟨31, 16⟩
def Reg.XFORM.XF_RED (i : Nat) : Nat := 0x482010 + 0x100 * i
def Fld.XFORM.XF_RED.red_en : Bits := ⟨0, 0⟩
def Fld.XFORM.XF_RED.op : Bits := ⟨2, 1⟩
def Fld.XFORM.XF_RED.c : Bits := ⟨13, 3⟩
def Reg.XFORM.XF_ALIGN_LO (i : Nat) : Nat := 0x482014 + 0x100 * i
def Fld.XFORM.XF_ALIGN_LO.tbs : Bits := ⟨31, 0⟩
def Reg.XFORM.XF_ALIGN_HI (i : Nat) : Nat := 0x482018 + 0x100 * i
def Fld.XFORM.XF_ALIGN_HI.tbs : Bits := ⟨31, 0⟩
def Reg.XFORM.XF_SG_BASE (i : Nat) : Nat := 0x48201c + 0x100 * i
def Fld.XFORM.XF_SG_BASE.base : Bits := ⟨25, 0⟩
def Reg.XFORM.XF_SG_LEN (i : Nat) : Nat := 0x482020 + 0x100 * i
def Fld.XFORM.XF_SG_LEN.len : Bits := ⟨25, 0⟩
def Reg.XFORM.XF_CMD (i : Nat) : Nat := 0x482024 + 0x100 * i
def Fld.XFORM.XF_CMD.enable_go : Bits := ⟨0, 0⟩
def Fld.XFORM.XF_CMD.disable_go : Bits := ⟨1, 1⟩
def Fld.XFORM.XF_CMD.commit_go : Bits := ⟨2, 2⟩
def Fld.XFORM.XF_CMD.hold_reset_go : Bits := ⟨3, 3⟩
def Reg.XFORM.XF_STA (i : Nat) : Nat := 0x482028 + 0x100 * i
def Fld.XFORM.XF_STA.COMMITTED : Bits := ⟨0, 0⟩
def Fld.XFORM.XF_STA.REFUSED : Bits := ⟨1, 1⟩
def Fld.XFORM.XF_STA.ALIGN_LATE : Bits := ⟨2, 2⟩
def Fld.XFORM.XF_STA.SG_WRAP : Bits := ⟨3, 3⟩
def Fld.XFORM.XF_STA.SEQ : Bits := ⟨31, 24⟩
def Reg.XFORM.XF_STATE (i : Nat) : Nat := 0x48202c + 0x100 * i
def Fld.XFORM.XF_STATE.state : Bits := ⟨1, 0⟩
def Fld.XFORM.XF_STATE.avg_unsettled : Bits := ⟨2, 2⟩
def Fld.XFORM.XF_STATE.fallback : Bits := ⟨3, 3⟩
def Fld.XFORM.XF_STATE.slots : Bits := ⟨19, 8⟩
def Fld.XFORM.XF_STATE.tiles : Bits := ⟨24, 20⟩
def Reg.XFORM.XF_REFUSE (i : Nat) : Nat := 0x482030 + 0x100 * i
def Fld.XFORM.XF_REFUSE.reason : Bits := ⟨7, 0⟩
def Reg.XFORM.XF_SG_WPTR (i : Nat) : Nat := 0x482034 + 0x100 * i
def Fld.XFORM.XF_SG_WPTR.wptr : Bits := ⟨31, 0⟩
def Reg.XFORM.XF_SG_WRAPS (i : Nat) : Nat := 0x482038 + 0x100 * i
def Fld.XFORM.XF_SG_WRAPS.count : Bits := ⟨31, 0⟩
def Reg.XFORM.XF_FRAMES_LO (i : Nat) : Nat := 0x48203c + 0x100 * i
def Fld.XFORM.XF_FRAMES_LO.count : Bits := ⟨31, 0⟩
def Reg.XFORM.XF_FRAMES_HI (i : Nat) : Nat := 0x482040 + 0x100 * i
def Fld.XFORM.XF_FRAMES_HI.count : Bits := ⟨31, 0⟩
def Reg.XFORM.XF_GAP_CNT (i : Nat) : Nat := 0x482044 + 0x100 * i
def Fld.XFORM.XF_GAP_CNT.count : Bits := ⟨31, 0⟩
def Reg.XFORM.XF_CG (i : Nat) : Nat := 0x482048 + 0x100 * i
def Fld.XFORM.XF_CG.cg : Bits := ⟨23, 0⟩
def Reg.XFORM.XF_ENBW (i : Nat) : Nat := 0x48204c + 0x100 * i
def Fld.XFORM.XF_ENBW.enbw : Bits := ⟨23, 0⟩
def Reg.XFORM.XF_POI (i : Nat) : Nat := 0x482050 + 0x100 * i
def Fld.XFORM.XF_POI.poi : Bits := ⟨17, 0⟩

/-! TRIG registers (R324). -/
def Reg.TRIG.MASK_CFG (i : Nat) : Nat := 0x501000 + 64 * i
def Fld.TRIG.MASK_CFG.pair : Bits := ⟨6, 0⟩
def Reg.TRIG.MASK_CTL (i : Nat) : Nat := 0x501004 + 64 * i
def Fld.TRIG.MASK_CTL.k : Bits := ⟨10, 0⟩
def Fld.TRIG.MASK_CTL.mofl : Bits := ⟨11, 11⟩
def Fld.TRIG.MASK_CTL.m : Bits := ⟨17, 12⟩
def Fld.TRIG.MASK_CTL.depth : Bits := ⟨23, 18⟩
def Reg.TRIG.MASK_CMD (i : Nat) : Nat := 0x501008 + 64 * i
def Fld.TRIG.MASK_CMD.enable_go : Bits := ⟨0, 0⟩
def Fld.TRIG.MASK_CMD.disable_go : Bits := ⟨1, 1⟩
def Fld.TRIG.MASK_CMD.commit_go : Bits := ⟨2, 2⟩
def Reg.TRIG.MASK_STA (i : Nat) : Nat := 0x50100c + 64 * i
def Fld.TRIG.MASK_STA.COMMITTED : Bits := ⟨0, 0⟩
def Fld.TRIG.MASK_STA.REFUSED : Bits := ⟨1, 1⟩
def Fld.TRIG.MASK_STA.QUALIFIED : Bits := ⟨2, 2⟩
def Fld.TRIG.MASK_STA.SEQ : Bits := ⟨31, 24⟩
def Reg.TRIG.MASK_STATE (i : Nat) : Nat := 0x501010 + 64 * i
def Fld.TRIG.MASK_STATE.enabled : Bits := ⟨0, 0⟩
def Fld.TRIG.MASK_STATE.active : Bits := ⟨1, 1⟩
def Fld.TRIG.MASK_STATE.viol : Bits := ⟨19, 8⟩
def Fld.TRIG.MASK_STATE.reason : Bits := ⟨27, 24⟩
def Reg.TRIG.MASK_VIOL_CNT (i : Nat) : Nat := 0x501014 + 64 * i
def Fld.TRIG.MASK_VIOL_CNT.count : Bits := ⟨31, 0⟩
def Reg.TRIG.MASK_QUAL_CNT (i : Nat) : Nat := 0x501018 + 64 * i
def Fld.TRIG.MASK_QUAL_CNT.count : Bits := ⟨31, 0⟩
def Reg.TRIG.MASK_ENTRY (i j : Nat) : Nat := 0x508000 + 0x2000 * i + 4 * j
def Fld.TRIG.MASK_ENTRY.lower : Bits := ⟨15, 0⟩
def Fld.TRIG.MASK_ENTRY.upper : Bits := ⟨31, 16⟩

/-! TRIG registers (R325). -/
def Reg.TRIG.MEC_BUCKET (i : Nat) : Nat := 0x501800 + 32 * i
def Fld.TRIG.MEC_BUCKET.bucket : Bits := ⟨15, 0⟩
def Reg.TRIG.MEC_PERIOD (i : Nat) : Nat := 0x501804 + 32 * i
def Fld.TRIG.MEC_PERIOD.period : Bits := ⟨31, 0⟩
def Reg.TRIG.MEC_PHASE (i : Nat) : Nat := 0x501808 + 32 * i
def Fld.TRIG.MEC_PHASE.phase : Bits := ⟨31, 0⟩
def Reg.TRIG.MEC_CMD (i : Nat) : Nat := 0x50180c + 32 * i
def Fld.TRIG.MEC_CMD.enable_go : Bits := ⟨0, 0⟩
def Fld.TRIG.MEC_CMD.disable_go : Bits := ⟨1, 1⟩
def Fld.TRIG.MEC_CMD.commit_go : Bits := ⟨2, 2⟩
def Reg.TRIG.MEC_CNT (i : Nat) : Nat := 0x501810 + 32 * i
def Fld.TRIG.MEC_CNT.count : Bits := ⟨31, 0⟩
def Reg.TRIG.TMR_START_LO (i : Nat) : Nat := 0x501a00 + 32 * i
def Fld.TRIG.TMR_START_LO.start : Bits := ⟨31, 0⟩
def Reg.TRIG.TMR_START_HI (i : Nat) : Nat := 0x501a04 + 32 * i
def Fld.TRIG.TMR_START_HI.start : Bits := ⟨31, 0⟩
def Reg.TRIG.TMR_PER_LO (i : Nat) : Nat := 0x501a08 + 32 * i
def Fld.TRIG.TMR_PER_LO.period : Bits := ⟨31, 0⟩
def Reg.TRIG.TMR_PER_HI (i : Nat) : Nat := 0x501a0c + 32 * i
def Fld.TRIG.TMR_PER_HI.period : Bits := ⟨31, 0⟩
def Reg.TRIG.TMR_COUNT (i : Nat) : Nat := 0x501a10 + 32 * i
def Fld.TRIG.TMR_COUNT.count : Bits := ⟨31, 0⟩
def Reg.TRIG.TMR_CMD (i : Nat) : Nat := 0x501a14 + 32 * i
def Fld.TRIG.TMR_CMD.enable_go : Bits := ⟨0, 0⟩
def Fld.TRIG.TMR_CMD.disable_go : Bits := ⟨1, 1⟩
def Reg.TRIG.TMR_FIRED (i : Nat) : Nat := 0x501a18 + 32 * i
def Fld.TRIG.TMR_FIRED.count : Bits := ⟨31, 0⟩
def Reg.TRIG.SW_FIRE : Nat := 0x501c00
def Fld.TRIG.SW_FIRE.fire : Bits := ⟨7, 0⟩
def Reg.TRIG.OUT_CFG (i : Nat) : Nat := 0x501c40 + 16 * i
def Fld.TRIG.OUT_CFG.width : Bits := ⟨15, 0⟩
def Fld.TRIG.OUT_CFG.invert : Bits := ⟨16, 16⟩
def Reg.TRIG.OUT_CMD (i : Nat) : Nat := 0x501c44 + 16 * i
def Fld.TRIG.OUT_CMD.enable_go : Bits := ⟨0, 0⟩
def Fld.TRIG.OUT_CMD.disable_go : Bits := ⟨1, 1⟩
def Reg.TRIG.OUT_CNT (i : Nat) : Nat := 0x501c48 + 16 * i
def Fld.TRIG.OUT_CNT.count : Bits := ⟨31, 0⟩
def Reg.TRIG.OUT_MERGE_CNT (i : Nat) : Nat := 0x501c4c + 16 * i
def Fld.TRIG.OUT_MERGE_CNT.count : Bits := ⟨31, 0⟩

/-! TRIG registers (R326). -/
def Reg.TRIG.SEQ_CFG (i : Nat) : Nat := 0x502000 + 0x200 * i
def Fld.TRIG.SEQ_CFG.template : Bits := ⟨5, 0⟩
def Reg.TRIG.SEQ_QLIM (i : Nat) : Nat := 0x502004 + 0x200 * i
def Fld.TRIG.SEQ_QLIM.qlim : Bits := ⟨31, 0⟩
def Reg.TRIG.SEQ_CMD (i : Nat) : Nat := 0x502008 + 0x200 * i
def Fld.TRIG.SEQ_CMD.enable_go : Bits := ⟨0, 0⟩
def Fld.TRIG.SEQ_CMD.disable_go : Bits := ⟨1, 1⟩
def Fld.TRIG.SEQ_CMD.arm_go : Bits := ⟨2, 2⟩
def Fld.TRIG.SEQ_CMD.disarm_go : Bits := ⟨3, 3⟩
def Fld.TRIG.SEQ_CMD.commit_go : Bits := ⟨4, 4⟩
def Reg.TRIG.SEQ_STA (i : Nat) : Nat := 0x50200c + 0x200 * i
def Fld.TRIG.SEQ_STA.COMMITTED : Bits := ⟨0, 0⟩
def Fld.TRIG.SEQ_STA.REFUSED : Bits := ⟨1, 1⟩
def Fld.TRIG.SEQ_STA.TP_FULL : Bits := ⟨2, 2⟩
def Fld.TRIG.SEQ_STA.TRIG_EARLY : Bits := ⟨3, 3⟩
def Fld.TRIG.SEQ_STA.SEQ : Bits := ⟨31, 24⟩
def Reg.TRIG.SEQ_STATE (i : Nat) : Nat := 0x502010 + 0x200 * i
def Fld.TRIG.SEQ_STATE.state : Bits := ⟨2, 0⟩
def Fld.TRIG.SEQ_STATE.armed : Bits := ⟨3, 3⟩
def Fld.TRIG.SEQ_STATE.stage_wait : Bits := ⟨4, 4⟩
def Fld.TRIG.SEQ_STATE.undecided : Bits := ⟨12, 6⟩
def Fld.TRIG.SEQ_STATE.outstanding : Bits := ⟨19, 13⟩
def Fld.TRIG.SEQ_STATE.reason : Bits := ⟨23, 20⟩
def Reg.TRIG.TP_OPEN_CNT (i : Nat) : Nat := 0x502014 + 0x200 * i
def Fld.TRIG.TP_OPEN_CNT.count : Bits := ⟨31, 0⟩
def Reg.TRIG.TP_COMMIT_CNT (i : Nat) : Nat := 0x502018 + 0x200 * i
def Fld.TRIG.TP_COMMIT_CNT.count : Bits := ⟨31, 0⟩
def Reg.TRIG.TP_ROLLBACK_CNT (i : Nat) : Nat := 0x50201c + 0x200 * i
def Fld.TRIG.TP_ROLLBACK_CNT.count : Bits := ⟨31, 0⟩
def Reg.TRIG.TRIG_EARLY_CNT (i : Nat) : Nat := 0x502020 + 0x200 * i
def Fld.TRIG.TRIG_EARLY_CNT.count : Bits := ⟨31, 0⟩
def Reg.TRIG.TP_FULL_CNT (i : Nat) : Nat := 0x502024 + 0x200 * i
def Fld.TRIG.TP_FULL_CNT.count : Bits := ⟨31, 0⟩
def Reg.TRIG.TP_LAST_ROLLBACK (i : Nat) : Nat := 0x502028 + 0x200 * i
def Fld.TRIG.TP_LAST_ROLLBACK.reason : Bits := ⟨3, 0⟩
def Reg.TRIG.ST_TERM (i j : Nat) : Nat := 0x502100 + 0x200 * i + 32 * j
def Fld.TRIG.ST_TERM.src : Bits := ⟨27, 0⟩
def Fld.TRIG.ST_TERM.inv : Bits := ⟨31, 28⟩
def Reg.TRIG.ST_CTRL (i j : Nat) : Nat := 0x502104 + 0x200 * i + 32 * j
def Fld.TRIG.ST_CTRL.op : Bits := ⟨0, 0⟩
def Fld.TRIG.ST_CTRL.count : Bits := ⟨10, 1⟩
def Fld.TRIG.ST_CTRL.next_a : Bits := ⟨13, 11⟩
def Fld.TRIG.ST_CTRL.next_t : Bits := ⟨16, 14⟩
def Fld.TRIG.ST_CTRL.act_a : Bits := ⟨20, 17⟩
def Fld.TRIG.ST_CTRL.act_t : Bits := ⟨24, 21⟩
def Reg.TRIG.ST_HOLD (i j : Nat) : Nat := 0x502108 + 0x200 * i + 32 * j
def Fld.TRIG.ST_HOLD.holdoff : Bits := ⟨31, 0⟩
def Reg.TRIG.ST_TMO (i j : Nat) : Nat := 0x50210c + 0x200 * i + 32 * j
def Fld.TRIG.ST_TMO.timeout : Bits := ⟨31, 0⟩
def Reg.TRIG.ST_WIN (i j : Nat) : Nat := 0x502110 + 0x200 * i + 32 * j
def Fld.TRIG.ST_WIN.window : Bits := ⟨31, 0⟩
def Reg.TRIG.ST_OUTMAP (i j : Nat) : Nat := 0x502114 + 0x200 * i + 32 * j
def Fld.TRIG.ST_OUTMAP.trig_out : Bits := ⟨3, 0⟩
def Fld.TRIG.ST_OUTMAP.sync : Bits := ⟨11, 4⟩
def Fld.TRIG.ST_OUTMAP.casc : Bits := ⟨19, 12⟩

/-! SYNC registers (R328). -/
def Reg.SYNC.SYNC_CFG : Nat := 0x981000
def Fld.SYNC.SYNC_CFG.master : Bits := ⟨0, 0⟩
def Fld.SYNC.SYNC_CFG.epoch_line : Bits := ⟨3, 1⟩
def Fld.SYNC.SYNC_CFG.module : Bits := ⟨7, 4⟩
def Reg.SYNC.SYNC_EPOCH_LO : Nat := 0x981004
def Fld.SYNC.SYNC_EPOCH_LO.epoch : Bits := ⟨31, 0⟩
def Reg.SYNC.SYNC_EPOCH_HI : Nat := 0x981008
def Fld.SYNC.SYNC_EPOCH_HI.epoch : Bits := ⟨31, 0⟩
def Reg.SYNC.SYNC_CMD : Nat := 0x98100c
def Fld.SYNC.SYNC_CMD.epoch_go : Bits := ⟨0, 0⟩
def Reg.SYNC.SYNC_STATE : Nat := 0x981010
def Fld.SYNC.SYNC_STATE.phase_valid : Bits := ⟨0, 0⟩
def Fld.SYNC.SYNC_STATE.epoch_valid : Bits := ⟨1, 1⟩
def Reg.SYNC.BUS_REF_CYC_LO : Nat := 0x981014
def Fld.SYNC.BUS_REF_CYC_LO.cyc : Bits := ⟨31, 0⟩
def Reg.SYNC.BUS_REF_CYC_HI : Nat := 0x981018
def Fld.SYNC.BUS_REF_CYC_HI.cyc : Bits := ⟨31, 0⟩
def Reg.SYNC.BUS_REF_TBS_LO : Nat := 0x98101c
def Fld.SYNC.BUS_REF_TBS_LO.tbs : Bits := ⟨31, 0⟩
def Reg.SYNC.BUS_REF_TBS_HI : Nat := 0x981020
def Fld.SYNC.BUS_REF_TBS_HI.tbs : Bits := ⟨31, 0⟩
def Reg.SYNC.SYNC_HALF : Nat := 0x981024
def Fld.SYNC.SYNC_HALF.half : Bits := ⟨31, 0⟩
def Reg.SYNC.SYNC_GLITCH_CNT : Nat := 0x981028
def Fld.SYNC.SYNC_GLITCH_CNT.count : Bits := ⟨31, 0⟩
def Reg.SYNC.CASC_TRIG_DROP_CNT : Nat := 0x98102c
def Fld.SYNC.CASC_TRIG_DROP_CNT.count : Bits := ⟨31, 0⟩

/-! REC registers (R355). -/
def Reg.REC.RAW_BASE (i : Nat) : Nat := 0x581000 + 32 * i
def Fld.REC.RAW_BASE.base : Bits := ⟨25, 0⟩
def Reg.REC.RAW_LEN (i : Nat) : Nat := 0x581004 + 32 * i
def Fld.REC.RAW_LEN.cells : Bits := ⟨31, 0⟩
def Reg.REC.RAW_WCELL_LO (i : Nat) : Nat := 0x581008 + 32 * i
def Fld.REC.RAW_WCELL_LO.wcell : Bits := ⟨31, 0⟩
def Reg.REC.RAW_WCELL_HI (i : Nat) : Nat := 0x58100c + 32 * i
def Fld.REC.RAW_WCELL_HI.wcell : Bits := ⟨31, 0⟩
def Reg.REC.RAW_IDX_BASE (i : Nat) : Nat := 0x581010 + 32 * i
def Fld.REC.RAW_IDX_BASE.base : Bits := ⟨25, 0⟩
def Reg.REC.RAW_IDX_LEN (i : Nat) : Nat := 0x581014 + 32 * i
def Fld.REC.RAW_IDX_LEN.entries : Bits := ⟨23, 0⟩
def Reg.REC.RAW_IDX_WPTR (i : Nat) : Nat := 0x581018 + 32 * i
def Fld.REC.RAW_IDX_WPTR.count : Bits := ⟨31, 0⟩
def Reg.REC.RAW_STATE (i : Nat) : Nat := 0x58101c + 32 * i
def Fld.REC.RAW_STATE.configured : Bits := ⟨0, 0⟩
def Fld.REC.RAW_STATE.shrunk : Bits := ⟨1, 1⟩

/-! REC registers (R356). -/
def Reg.REC.TPL_CFG (i : Nat) : Nat := 0x584000 + 0x100 * i
def Fld.REC.TPL_CFG.nstr : Bits := ⟨1, 0⟩
def Fld.REC.TPL_CFG.policy : Bits := ⟨2, 2⟩
def Fld.REC.TPL_CFG.exportCh : Bits := ⟨8, 3⟩
def Fld.REC.TPL_CFG.exportEn : Bits := ⟨9, 9⟩
def Fld.REC.TPL_CFG.disk : Bits := ⟨13, 10⟩
def Fld.REC.TPL_CFG.disk_en : Bits := ⟨14, 14⟩
def Reg.REC.TPL_S_ID (i j : Nat) : Nat := 0x584010 + 0x100 * i + 16 * j
def Fld.REC.TPL_S_ID.stream : Bits := ⟨7, 0⟩
def Reg.REC.TPL_S_PRE (i j : Nat) : Nat := 0x584014 + 0x100 * i + 16 * j
def Fld.REC.TPL_S_PRE.pre : Bits := ⟨31, 0⟩
def Reg.REC.TPL_S_POST (i j : Nat) : Nat := 0x584018 + 0x100 * i + 16 * j
def Fld.REC.TPL_S_POST.post : Bits := ⟨31, 0⟩
def Reg.REC.TPL_SEC_A (i j : Nat) : Nat := 0x584050 + 0x100 * i + 8 * j
def Fld.REC.TPL_SEC_A.type : Bits := ⟨2, 0⟩
def Fld.REC.TPL_SEC_A.sidx : Bits := ⟨4, 3⟩
def Fld.REC.TPL_SEC_A.pair : Bits := ⟨11, 5⟩
def Fld.REC.TPL_SEC_A.kernel : Bits := ⟨19, 12⟩
def Reg.REC.TPL_SEC_B (i j : Nat) : Nat := 0x584054 + 0x100 * i + 8 * j
def Fld.REC.TPL_SEC_B.param : Bits := ⟨31, 0⟩
def Reg.REC.TPL_CMD (i : Nat) : Nat := 0x584090 + 0x100 * i
def Fld.REC.TPL_CMD.enable_go : Bits := ⟨0, 0⟩
def Fld.REC.TPL_CMD.disable_go : Bits := ⟨1, 1⟩
def Fld.REC.TPL_CMD.restart_go : Bits := ⟨2, 2⟩
def Reg.REC.TPL_STA (i : Nat) : Nat := 0x584094 + 0x100 * i
def Fld.REC.TPL_STA.REFUSED : Bits := ⟨0, 0⟩
def Fld.REC.TPL_STA.STOPPED : Bits := ⟨1, 1⟩
def Fld.REC.TPL_STA.THROTTLE : Bits := ⟨2, 2⟩
def Fld.REC.TPL_STA.POISON : Bits := ⟨3, 3⟩
def Fld.REC.TPL_STA.SEQ : Bits := ⟨31, 24⟩
def Reg.REC.TPL_STATE (i : Nat) : Nat := 0x584098 + 0x100 * i
def Fld.REC.TPL_STATE.state : Bits := ⟨1, 0⟩
def Fld.REC.TPL_STATE.throttle : Bits := ⟨5, 2⟩
def Fld.REC.TPL_STATE.reason : Bits := ⟨11, 8⟩
def Reg.REC.REC_SEQ_LO (i : Nat) : Nat := 0x58409c + 0x100 * i
def Fld.REC.REC_SEQ_LO.seq : Bits := ⟨31, 0⟩
def Reg.REC.REC_SEQ_HI (i : Nat) : Nat := 0x5840a0 + 0x100 * i
def Fld.REC.REC_SEQ_HI.seq : Bits := ⟨31, 0⟩
def Reg.REC.REC_OUT_CNT (i : Nat) : Nat := 0x5840a4 + 0x100 * i
def Fld.REC.REC_OUT_CNT.count : Bits := ⟨31, 0⟩
def Reg.REC.REC_DROP_CNT (i : Nat) : Nat := 0x5840a8 + 0x100 * i
def Fld.REC.REC_DROP_CNT.count : Bits := ⟨31, 0⟩
def Reg.REC.TPL_MAXLEN (i : Nat) : Nat := 0x5840ac + 0x100 * i
def Fld.REC.TPL_MAXLEN.bytes : Bits := ⟨31, 0⟩
def Reg.REC.REC_POISON_CNT (i : Nat) : Nat := 0x5840b0 + 0x100 * i
def Fld.REC.REC_POISON_CNT.count : Bits := ⟨31, 0⟩

/-! REC registers (R357). -/
def Reg.REC.LB_CFG (i : Nat) : Nat := 0x588000 + 128 * i
def Fld.REC.LB_CFG.src : Bits := ⟨7, 0⟩
def Fld.REC.LB_CFG.out_id : Bits := ⟨15, 8⟩
def Fld.REC.LB_CFG.zoom : Bits := ⟨20, 16⟩
def Fld.REC.LB_CFG.xf_en : Bits := ⟨21, 21⟩
def Reg.REC.LB_XF (i : Nat) : Nat := 0x588004 + 128 * i
def Fld.REC.LB_XF.log2n : Bits := ⟨4, 0⟩
def Fld.REC.LB_XF.ov : Bits := ⟨6, 5⟩
def Fld.REC.LB_XF.det : Bits := ⟨8, 7⟩
def Fld.REC.LB_XF.win : Bits := ⟨11, 9⟩
def Fld.REC.LB_XF.param : Bits := ⟨13, 12⟩
def Fld.REC.LB_XF.mean : Bits := ⟨14, 14⟩
def Fld.REC.LB_XF.m : Bits := ⟨30, 15⟩
def Reg.REC.LB_T0_LO (i : Nat) : Nat := 0x588008 + 128 * i
def Fld.REC.LB_T0_LO.t0 : Bits := ⟨31, 0⟩
def Reg.REC.LB_T0_HI (i : Nat) : Nat := 0x58800c + 128 * i
def Fld.REC.LB_T0_HI.t0 : Bits := ⟨31, 0⟩
def Reg.REC.LB_T1_LO (i : Nat) : Nat := 0x588010 + 128 * i
def Fld.REC.LB_T1_LO.t1 : Bits := ⟨31, 0⟩
def Reg.REC.LB_T1_HI (i : Nat) : Nat := 0x588014 + 128 * i
def Fld.REC.LB_T1_HI.t1 : Bits := ⟨31, 0⟩
def Reg.REC.LB_RATE (i : Nat) : Nat := 0x588018 + 128 * i
def Fld.REC.LB_RATE.rate : Bits := ⟨13, 0⟩
def Reg.REC.LB_DEADLINE (i : Nat) : Nat := 0x58801c + 128 * i
def Fld.REC.LB_DEADLINE.us : Bits := ⟨31, 0⟩
def Reg.REC.LB_OUT_BASE (i : Nat) : Nat := 0x588020 + 128 * i
def Fld.REC.LB_OUT_BASE.base : Bits := ⟨25, 0⟩
def Reg.REC.LB_OUT_LEN (i : Nat) : Nat := 0x588024 + 128 * i
def Fld.REC.LB_OUT_LEN.len : Bits := ⟨25, 0⟩
def Reg.REC.LB_CMD (i : Nat) : Nat := 0x588028 + 128 * i
def Fld.REC.LB_CMD.submit_go : Bits := ⟨0, 0⟩
def Fld.REC.LB_CMD.cancel_go : Bits := ⟨1, 1⟩
def Reg.REC.LB_STA (i : Nat) : Nat := 0x58802c + 128 * i
def Fld.REC.LB_STA.DONE : Bits := ⟨0, 0⟩
def Fld.REC.LB_STA.REFUSED : Bits := ⟨1, 1⟩
def Fld.REC.LB_STA.OVERRUN : Bits := ⟨2, 2⟩
def Fld.REC.LB_STA.CANCELLED : Bits := ⟨3, 3⟩
def Fld.REC.LB_STA.SEQ : Bits := ⟨31, 24⟩
def Reg.REC.LB_STATE (i : Nat) : Nat := 0x588030 + 128 * i
def Fld.REC.LB_STATE.state : Bits := ⟨2, 0⟩
def Fld.REC.LB_STATE.reason : Bits := ⟨7, 4⟩
def Fld.REC.LB_STATE.slots : Bits := ⟨19, 8⟩
def Reg.REC.LB_BOUND (i : Nat) : Nat := 0x588034 + 128 * i
def Fld.REC.LB_BOUND.us : Bits := ⟨31, 0⟩
def Reg.REC.LB_WRITTEN (i : Nat) : Nat := 0x588038 + 128 * i
def Fld.REC.LB_WRITTEN.bytes : Bits := ⟨31, 0⟩
def Reg.REC.LB_FRAMES (i : Nat) : Nat := 0x58803c + 128 * i
def Fld.REC.LB_FRAMES.count : Bits := ⟨31, 0⟩

/-! BRUSH registers (R383). -/
def Reg.BRUSH.CORE_STATE (i : Nat) : Nat := 0x181000 + 64 * i
def Fld.BRUSH.CORE_STATE.state : Bits := ⟨1, 0⟩
def Fld.BRUSH.CORE_STATE.kernel : Bits := ⟨15, 8⟩
def Fld.BRUSH.CORE_STATE.template : Bits := ⟨21, 16⟩
def Fld.BRUSH.CORE_STATE.slot : Bits := ⟨27, 24⟩
def Reg.BRUSH.CORE_PC (i : Nat) : Nat := 0x181004 + 64 * i
def Fld.BRUSH.CORE_PC.pc : Bits := ⟨14, 0⟩
def Reg.BRUSH.CORE_FLAGS (i : Nat) : Nat := 0x181008 + 64 * i
def Fld.BRUSH.CORE_FLAGS.flags : Bits := ⟨5, 0⟩
def Reg.BRUSH.CORE_INV_CNT (i : Nat) : Nat := 0x18100c + 64 * i
def Fld.BRUSH.CORE_INV_CNT.count : Bits := ⟨31, 0⟩
def Reg.BRUSH.CORE_ICNT_LO (i : Nat) : Nat := 0x181010 + 64 * i
def Fld.BRUSH.CORE_ICNT_LO.count : Bits := ⟨31, 0⟩
def Reg.BRUSH.CORE_ICNT_HI (i : Nat) : Nat := 0x181014 + 64 * i
def Fld.BRUSH.CORE_ICNT_HI.count : Bits := ⟨31, 0⟩
def Reg.BRUSH.CORE_ECC_CNT (i : Nat) : Nat := 0x181018 + 64 * i
def Fld.BRUSH.CORE_ECC_CNT.count : Bits := ⟨31, 0⟩

/-! BRUSH registers (R384). -/
def Reg.BRUSH.KRN_STATE (i : Nat) : Nat := 0x184000 + 64 * i
def Fld.BRUSH.KRN_STATE.loaded : Bits := ⟨0, 0⟩
def Fld.BRUSH.KRN_STATE.builtin : Bits := ⟨1, 1⟩
def Fld.BRUSH.KRN_STATE.signed : Bits := ⟨2, 2⟩
def Fld.BRUSH.KRN_STATE.cores : Bits := ⟨13, 8⟩
def Fld.BRUSH.KRN_STATE.queued : Bits := ⟨29, 16⟩
def Reg.BRUSH.KRN_WC_BASE (i : Nat) : Nat := 0x184004 + 64 * i
def Fld.BRUSH.KRN_WC_BASE.base : Bits := ⟨23, 0⟩
def Reg.BRUSH.KRN_WC_VEC (i : Nat) : Nat := 0x184008 + 64 * i
def Fld.BRUSH.KRN_WC_VEC.vec : Bits := ⟨15, 0⟩
def Fld.BRUSH.KRN_WC_VEC.outmax : Bits := ⟨23, 16⟩
def Reg.BRUSH.KRN_CRC (i : Nat) : Nat := 0x18400c + 64 * i
def Fld.BRUSH.KRN_CRC.crc : Bits := ⟨31, 0⟩
def Reg.BRUSH.KRN_RUN_CNT (i : Nat) : Nat := 0x184010 + 64 * i
def Fld.BRUSH.KRN_RUN_CNT.count : Bits := ⟨31, 0⟩
def Reg.BRUSH.KRN_CANCEL_CNT (i : Nat) : Nat := 0x184014 + 64 * i
def Fld.BRUSH.KRN_CANCEL_CNT.count : Bits := ⟨31, 0⟩
def Reg.BRUSH.KRN_TIME_CNT (i : Nat) : Nat := 0x184018 + 64 * i
def Fld.BRUSH.KRN_TIME_CNT.count : Bits := ⟨31, 0⟩
def Reg.BRUSH.KRN_FAULT_CNT (i : Nat) : Nat := 0x18401c + 64 * i
def Fld.BRUSH.KRN_FAULT_CNT.count : Bits := ⟨31, 0⟩
def Reg.BRUSH.KRN_LAST_FAULT (i : Nat) : Nat := 0x184020 + 64 * i
def Fld.BRUSH.KRN_LAST_FAULT.cause : Bits := ⟨7, 0⟩
def Fld.BRUSH.KRN_LAST_FAULT.addr : Bits := ⟨30, 16⟩
def Reg.BRUSH.KRN_OUTDROP_CNT (i : Nat) : Nat := 0x184024 + 64 * i
def Fld.BRUSH.KRN_OUTDROP_CNT.count : Bits := ⟨31, 0⟩

/-! BLOT registers (R413). -/
def Reg.BLOT.PL_CFG (i : Nat) : Nat := 0x601000 + 0x100 * i
def Fld.BLOT.PL_CFG.pair : Bits := ⟨6, 0⟩
def Fld.BLOT.PL_CFG.doubtful : Bits := ⟨7, 7⟩
def Fld.BLOT.PL_CFG.clip_lo : Bits := ⟨8, 8⟩
def Fld.BLOT.PL_CFG.clip_hi : Bits := ⟨9, 9⟩
def Fld.BLOT.PL_CFG.send_en : Bits := ⟨10, 10⟩
def Fld.BLOT.PL_CFG.send_link : Bits := ⟨11, 11⟩
def Fld.BLOT.PL_CFG.merge_en : Bits := ⟨12, 12⟩
def Fld.BLOT.PL_CFG.ch : Bits := ⟨14, 13⟩
def Fld.BLOT.PL_CFG.snap_clear : Bits := ⟨15, 15⟩
def Fld.BLOT.PL_CFG.rows : Bits := ⟨25, 16⟩
def Reg.BLOT.PL_ROWMAP (i : Nat) : Nat := 0x601004 + 0x100 * i
def Fld.BLOT.PL_ROWMAP.lo : Bits := ⟨15, 0⟩
def Fld.BLOT.PL_ROWMAP.step : Bits := ⟨31, 16⟩
def Reg.BLOT.PL_PERSIST (i : Nat) : Nat := 0x601008 + 0x100 * i
def Fld.BLOT.PL_PERSIST.d : Bits := ⟨4, 0⟩
def Fld.BLOT.PL_PERSIST.tick : Bits := ⟨20, 5⟩
def Reg.BLOT.PL_MAP (i : Nat) : Nat := 0x60100c + 0x100 * i
def Fld.BLOT.PL_MAP.log : Bits := ⟨0, 0⟩
def Fld.BLOT.PL_MAP.sh : Bits := ⟨5, 1⟩
def Fld.BLOT.PL_MAP.k : Bits := ⟨13, 6⟩
def Reg.BLOT.PL_SNAP_BASE (i : Nat) : Nat := 0x601010 + 0x100 * i
def Fld.BLOT.PL_SNAP_BASE.base : Bits := ⟨25, 0⟩
def Reg.BLOT.PL_SNAP_DEST (i : Nat) : Nat := 0x601014 + 0x100 * i
def Fld.BLOT.PL_SNAP_DEST.exportCh : Bits := ⟨5, 0⟩
def Fld.BLOT.PL_SNAP_DEST.exportEn : Bits := ⟨6, 6⟩
def Fld.BLOT.PL_SNAP_DEST.area_en : Bits := ⟨7, 7⟩
def Fld.BLOT.PL_SNAP_DEST.policy : Bits := ⟨8, 8⟩
def Reg.BLOT.PL_CMD (i : Nat) : Nat := 0x601018 + 0x100 * i
def Fld.BLOT.PL_CMD.enable_go : Bits := ⟨0, 0⟩
def Fld.BLOT.PL_CMD.disable_go : Bits := ⟨1, 1⟩
def Fld.BLOT.PL_CMD.commit_go : Bits := ⟨2, 2⟩
def Fld.BLOT.PL_CMD.clear_go : Bits := ⟨3, 3⟩
def Fld.BLOT.PL_CMD.snap_go : Bits := ⟨4, 4⟩
def Fld.BLOT.PL_CMD.restart_go : Bits := ⟨5, 5⟩
def Reg.BLOT.PL_STA (i : Nat) : Nat := 0x60101c + 0x100 * i
def Fld.BLOT.PL_STA.COMMITTED : Bits := ⟨0, 0⟩
def Fld.BLOT.PL_STA.REFUSED : Bits := ⟨1, 1⟩
def Fld.BLOT.PL_STA.SAT : Bits := ⟨2, 2⟩
def Fld.BLOT.PL_STA.SNAP_DONE : Bits := ⟨3, 3⟩
def Fld.BLOT.PL_STA.MERGE_LOSS : Bits := ⟨4, 4⟩
def Fld.BLOT.PL_STA.FLOW_STOP : Bits := ⟨5, 5⟩
def Fld.BLOT.PL_STA.SEQ : Bits := ⟨31, 24⟩
def Reg.BLOT.PL_STATE (i : Nat) : Nat := 0x601020 + 0x100 * i
def Fld.BLOT.PL_STATE.state : Bits := ⟨1, 0⟩
def Fld.BLOT.PL_STATE.ganged : Bits := ⟨2, 2⟩
def Fld.BLOT.PL_STATE.snapping : Bits := ⟨3, 3⟩
def Fld.BLOT.PL_STATE.reason : Bits := ⟨7, 4⟩
def Fld.BLOT.PL_STATE.marks : Bits := ⟨15, 8⟩
def Reg.BLOT.PL_HITS_LO (i : Nat) : Nat := 0x601024 + 0x100 * i
def Fld.BLOT.PL_HITS_LO.count : Bits := ⟨31, 0⟩
def Reg.BLOT.PL_HITS_HI (i : Nat) : Nat := 0x601028 + 0x100 * i
def Fld.BLOT.PL_HITS_HI.count : Bits := ⟨31, 0⟩
def Reg.BLOT.PL_SKIP_CNT (i : Nat) : Nat := 0x60102c + 0x100 * i
def Fld.BLOT.PL_SKIP_CNT.count : Bits := ⟨31, 0⟩
def Reg.BLOT.PL_SNAP_SEQ (i : Nat) : Nat := 0x601030 + 0x100 * i
def Fld.BLOT.PL_SNAP_SEQ.seq : Bits := ⟨31, 0⟩
def Reg.BLOT.MERGE_DROP_CNT (i : Nat) : Nat := 0x601034 + 0x100 * i
def Fld.BLOT.MERGE_DROP_CNT.count : Bits := ⟨31, 0⟩
def Reg.BLOT.MERGE_LOSS_CNT (i : Nat) : Nat := 0x601038 + 0x100 * i
def Fld.BLOT.MERGE_LOSS_CNT.count : Bits := ⟨31, 0⟩

/-! DISP registers (R414). -/
def Reg.DISP.DP_CFG (i : Nat) : Nat := 0x681000 + 0x200 * i
def Fld.DISP.DP_CFG.rate : Bits := ⟨0, 0⟩
def Fld.DISP.DP_CFG.replay_en : Bits := ⟨1, 1⟩
def Reg.DISP.DP_PCLK (i : Nat) : Nat := 0x681004 + 0x200 * i
def Fld.DISP.DP_PCLK.hz : Bits := ⟨31, 0⟩
def Reg.DISP.DP_H (i : Nat) : Nat := 0x681008 + 0x200 * i
def Fld.DISP.DP_H.hact : Bits := ⟨12, 0⟩
def Fld.DISP.DP_H.htot : Bits := ⟨28, 16⟩
def Reg.DISP.DP_HS (i : Nat) : Nat := 0x68100c + 0x200 * i
def Fld.DISP.DP_HS.hs_start : Bits := ⟨12, 0⟩
def Fld.DISP.DP_HS.hs_width : Bits := ⟨24, 16⟩
def Fld.DISP.DP_HS.hs_neg : Bits := ⟨25, 25⟩
def Reg.DISP.DP_V (i : Nat) : Nat := 0x681010 + 0x200 * i
def Fld.DISP.DP_V.vact : Bits := ⟨11, 0⟩
def Fld.DISP.DP_V.vtot : Bits := ⟨27, 16⟩
def Reg.DISP.DP_VS (i : Nat) : Nat := 0x681014 + 0x200 * i
def Fld.DISP.DP_VS.vs_start : Bits := ⟨11, 0⟩
def Fld.DISP.DP_VS.vs_width : Bits := ⟨23, 16⟩
def Fld.DISP.DP_VS.vs_neg : Bits := ⟨24, 24⟩
def Reg.DISP.DP_CMD (i : Nat) : Nat := 0x681018 + 0x200 * i
def Fld.DISP.DP_CMD.enable_go : Bits := ⟨0, 0⟩
def Fld.DISP.DP_CMD.disable_go : Bits := ⟨1, 1⟩
def Fld.DISP.DP_CMD.replay_hold_go : Bits := ⟨2, 2⟩
def Fld.DISP.DP_CMD.replay_exit_go : Bits := ⟨3, 3⟩
def Reg.DISP.DP_STATE (i : Nat) : Nat := 0x68101c + 0x200 * i
def Fld.DISP.DP_STATE.state : Bits := ⟨2, 0⟩
def Fld.DISP.DP_STATE.replay_cap : Bits := ⟨3, 3⟩
def Fld.DISP.DP_STATE.hpd : Bits := ⟨4, 4⟩
def Fld.DISP.DP_STATE.reason : Bits := ⟨11, 8⟩
def Reg.DISP.DP_FRAME_CNT (i : Nat) : Nat := 0x681020 + 0x200 * i
def Fld.DISP.DP_FRAME_CNT.count : Bits := ⟨31, 0⟩
def Reg.DISP.DP_CHK_FAIL_CNT (i : Nat) : Nat := 0x681024 + 0x200 * i
def Fld.DISP.DP_CHK_FAIL_CNT.count : Bits := ⟨31, 0⟩
def Reg.DISP.CHK_POS (i j : Nat) : Nat := 0x681100 + 0x200 * i + 16 * j
def Fld.DISP.CHK_POS.x0 : Bits := ⟨11, 0⟩
def Fld.DISP.CHK_POS.y0 : Bits := ⟨27, 16⟩
def Reg.DISP.CHK_SIZE (i j : Nat) : Nat := 0x681104 + 0x200 * i + 16 * j
def Fld.DISP.CHK_SIZE.w : Bits := ⟨11, 0⟩
def Fld.DISP.CHK_SIZE.h : Bits := ⟨27, 16⟩
def Fld.DISP.CHK_SIZE.en : Bits := ⟨31, 31⟩
def Reg.DISP.CHK_EXP (i j : Nat) : Nat := 0x681108 + 0x200 * i + 16 * j
def Fld.DISP.CHK_EXP.crc : Bits := ⟨31, 0⟩
def Reg.DISP.CHK_LAST (i j : Nat) : Nat := 0x68110c + 0x200 * i + 16 * j
def Fld.DISP.CHK_LAST.crc : Bits := ⟨31, 0⟩

/-! DISP registers (R415). -/
def Reg.DISP.DISP_CFG : Nat := 0x681800
def Fld.DISP.DISP_CFG.tiled : Bits := ⟨0, 0⟩
def Reg.DISP.DISP_BG : Nat := 0x681804
def Fld.DISP.DISP_BG.rgb : Bits := ⟨23, 0⟩
def Reg.DISP.DISP_CMD : Nat := 0x681808
def Fld.DISP.DISP_CMD.commit_go : Bits := ⟨0, 0⟩
def Fld.DISP.DISP_CMD.release_go : Bits := ⟨1, 1⟩
def Fld.DISP.DISP_CMD.touch_go : Bits := ⟨2, 2⟩
def Reg.DISP.DISP_STATE : Nat := 0x68180c
def Fld.DISP.DISP_STATE.reason : Bits := ⟨3, 0⟩
def Reg.DISP.DISP_AREA_BASE : Nat := 0x681810
def Fld.DISP.DISP_AREA_BASE.base : Bits := ⟨25, 0⟩
def Reg.DISP.DISP_AREA_LEN : Nat := 0x681814
def Fld.DISP.DISP_AREA_LEN.len : Bits := ⟨25, 0⟩
def Reg.DISP.DISP_AREA_REQ : Nat := 0x681818
def Fld.DISP.DISP_AREA_REQ.mib : Bits := ⟨15, 0⟩
def Reg.DISP.REL_BASE : Nat := 0x681820
def Fld.DISP.REL_BASE.base : Bits := ⟨25, 0⟩
def Reg.DISP.REL_LEN : Nat := 0x681824
def Fld.DISP.REL_LEN.len : Bits := ⟨25, 0⟩
def Reg.DISP.REL_TAG : Nat := 0x681828
def Fld.DISP.REL_TAG.tag : Bits := ⟨15, 0⟩
def Reg.DISP.LY_BASE (i : Nat) : Nat := 0x682020 + 32 * i
def Fld.DISP.LY_BASE.base : Bits := ⟨25, 0⟩
def Reg.DISP.LY_STRIDE (i : Nat) : Nat := 0x682024 + 32 * i
def Fld.DISP.LY_STRIDE.stride : Bits := ⟨15, 0⟩
def Reg.DISP.LY_POS (i : Nat) : Nat := 0x682028 + 32 * i
def Fld.DISP.LY_POS.x : Bits := ⟨12, 0⟩
def Fld.DISP.LY_POS.y : Bits := ⟨27, 16⟩
def Reg.DISP.LY_SIZE (i : Nat) : Nat := 0x68202c + 32 * i
def Fld.DISP.LY_SIZE.w : Bits := ⟨12, 0⟩
def Fld.DISP.LY_SIZE.h : Bits := ⟨27, 16⟩
def Reg.DISP.LY_CTL (i : Nat) : Nat := 0x682030 + 32 * i
def Fld.DISP.LY_CTL.en : Bits := ⟨0, 0⟩
def Fld.DISP.LY_CTL.galpha : Bits := ⟨15, 8⟩
def Reg.DISP.VP_CFG (i : Nat) : Nat := 0x682100 + 8 * i
def Fld.DISP.VP_CFG.en : Bits := ⟨0, 0⟩
def Fld.DISP.VP_CFG.plane : Bits := ⟨4, 1⟩
def Fld.DISP.VP_CFG.sx : Bits := ⟨6, 5⟩
def Fld.DISP.VP_CFG.sy : Bits := ⟨8, 7⟩
def Reg.DISP.VP_POS (i : Nat) : Nat := 0x682104 + 8 * i
def Fld.DISP.VP_POS.x : Bits := ⟨12, 0⟩
def Fld.DISP.VP_POS.y : Bits := ⟨27, 16⟩
def Reg.DISP.TR_CFG (i : Nat) : Nat := 0x682180 + 8 * i
def Fld.DISP.TR_CFG.en : Bits := ⟨0, 0⟩
def Fld.DISP.TR_CFG.mask : Bits := ⟨4, 1⟩
def Fld.DISP.TR_CFG.viewport : Bits := ⟨7, 5⟩
def Reg.DISP.TR_COLOUR (i : Nat) : Nat := 0x682184 + 8 * i
def Fld.DISP.TR_COLOUR.argb : Bits := ⟨31, 0⟩
def Reg.DISP.CUR_BASE : Nat := 0x682200
def Fld.DISP.CUR_BASE.base : Bits := ⟨25, 0⟩
def Reg.DISP.CUR_POS : Nat := 0x682204
def Fld.DISP.CUR_POS.x : Bits := ⟨13, 0⟩
def Fld.DISP.CUR_POS.y : Bits := ⟨28, 16⟩
def Reg.DISP.TXT_BASE : Nat := 0x682208
def Fld.DISP.TXT_BASE.base : Bits := ⟨25, 0⟩
def Reg.DISP.FONT_BASE : Nat := 0x68220c
def Fld.DISP.FONT_BASE.base : Bits := ⟨25, 0⟩
def Reg.DISP.TXT_CTL : Nat := 0x682210
def Fld.DISP.TXT_CTL.cur_en : Bits := ⟨0, 0⟩
def Fld.DISP.TXT_CTL.txt_en : Bits := ⟨1, 1⟩

/-! INK registers (R437). -/
def Reg.INK.INK_STATE : Nat := 0x701000
def Fld.INK.INK_STATE.ch_run : Bits := ⟨15, 0⟩
def Fld.INK.INK_STATE.redirect : Bits := ⟨16, 16⟩
def Fld.INK.INK_STATE.redirect_ch : Bits := ⟨20, 17⟩
def Reg.INK.INK_CAP : Nat := 0x701004
def Fld.INK.INK_CAP.user_gib : Bits := ⟨7, 0⟩
def Fld.INK.INK_CAP.reserve_mib : Bits := ⟨31, 8⟩
def Reg.INK.INK_SEL : Nat := 0x701008
def Fld.INK.INK_SEL.channel : Bits := ⟨3, 0⟩
def Reg.INK.INK_CMD : Nat := 0x70100c
def Fld.INK.INK_CMD.retrain_go : Bits := ⟨0, 0⟩
def Fld.INK.INK_CMD.xlate_go : Bits := ⟨1, 1⟩
def Fld.INK.INK_CMD.elog_pop_go : Bits := ⟨2, 2⟩
def Fld.INK.INK_CMD.scrub_go : Bits := ⟨3, 3⟩
def Reg.INK.INK_XLATE_LO : Nat := 0x701010
def Fld.INK.INK_XLATE_LO.addr : Bits := ⟨31, 0⟩
def Reg.INK.INK_XLATE_HI : Nat := 0x701014
def Fld.INK.INK_XLATE_HI.addr : Bits := ⟨7, 0⟩
def Reg.INK.INK_XLATE_RES : Nat := 0x701018
def Fld.INK.INK_XLATE_RES.loc : Bits := ⟨31, 0⟩
def Reg.INK.INK_XLATE_FLAGS : Nat := 0x70101c
def Fld.INK.INK_XLATE_FLAGS.flags : Bits := ⟨3, 0⟩
def Reg.INK.INK_ELOG_LEVEL : Nat := 0x701020
def Fld.INK.INK_ELOG_LEVEL.level : Bits := ⟨4, 0⟩
def Reg.INK.INK_ELOG0 : Nat := 0x701024
def Fld.INK.INK_ELOG0.entry : Bits := ⟨31, 0⟩
def Reg.INK.INK_ELOG1 : Nat := 0x701028
def Fld.INK.INK_ELOG1.entry : Bits := ⟨31, 0⟩
def Reg.INK.INK_ELOG2 : Nat := 0x70102c
def Fld.INK.INK_ELOG2.entry : Bits := ⟨31, 0⟩
def Reg.INK.INK_ELOG3 : Nat := 0x701030
def Fld.INK.INK_ELOG3.entry : Bits := ⟨31, 0⟩
def Reg.INK.INK_CE_CNT : Nat := 0x701040
def Fld.INK.INK_CE_CNT.count : Bits := ⟨31, 0⟩
def Reg.INK.INK_UE_CNT : Nat := 0x701044
def Fld.INK.INK_UE_CNT.count : Bits := ⟨31, 0⟩
def Reg.INK.INK_ADDR_ERR_CNT : Nat := 0x701048
def Fld.INK.INK_ADDR_ERR_CNT.count : Bits := ⟨31, 0⟩
def Reg.INK.INK_POISON_READ_CNT : Nat := 0x70104c
def Fld.INK.INK_POISON_READ_CNT.count : Bits := ⟨31, 0⟩
def Reg.INK.INK_RMW_CNT_LO : Nat := 0x701050
def Fld.INK.INK_RMW_CNT_LO.count : Bits := ⟨31, 0⟩
def Reg.INK.INK_RMW_CNT_HI : Nat := 0x701054
def Fld.INK.INK_RMW_CNT_HI.count : Bits := ⟨31, 0⟩
def Reg.INK.INK_ELOG_DROP_CNT : Nat := 0x701058
def Fld.INK.INK_ELOG_DROP_CNT.count : Bits := ⟨31, 0⟩
def Reg.INK.CLASS_AGE (i : Nat) : Nat := 0x701060 + 4 * i
def Fld.INK.CLASS_AGE.ns : Bits := ⟨23, 0⟩
def Reg.INK.PROMOTE_CNT (i : Nat) : Nat := 0x701070 + 4 * i
def Fld.INK.PROMOTE_CNT.count : Bits := ⟨31, 0⟩

/-! INK registers (R438). -/
def Reg.INK.CH_STATE (i : Nat) : Nat := 0x702000 + 0x100 * i
def Fld.INK.CH_STATE.state : Bits := ⟨2, 0⟩
def Fld.INK.CH_STATE.rate : Bits := ⟨4, 3⟩
def Fld.INK.CH_STATE.debt : Bits := ⟨9, 5⟩
def Fld.INK.CH_STATE.spare_used : Bits := ⟨10, 10⟩
def Fld.INK.CH_STATE.spared_bank : Bits := ⟨15, 11⟩
def Fld.INK.CH_STATE.exhausted : Bits := ⟨16, 16⟩
def Reg.INK.CH_ROWS (i : Nat) : Nat := 0x702004 + 0x100 * i
def Fld.INK.CH_ROWS.remapped : Bits := ⟨12, 0⟩
def Reg.INK.CH_MARGIN (i : Nat) : Nat := 0x702008 + 0x100 * i
def Fld.INK.CH_MARGIN.read_eye : Bits := ⟨6, 0⟩
def Fld.INK.CH_MARGIN.write_eye : Bits := ⟨13, 7⟩
def Fld.INK.CH_MARGIN.vref : Bits := ⟨23, 14⟩
def Reg.INK.CH_DRIFT (i : Nat) : Nat := 0x70200c + 0x100 * i
def Fld.INK.CH_DRIFT.offset : Bits := ⟨5, 0⟩
def Fld.INK.CH_DRIFT.osc : Bits := ⟨31, 16⟩
def Reg.INK.CH_CE_CNT (i : Nat) : Nat := 0x702010 + 0x100 * i
def Fld.INK.CH_CE_CNT.count : Bits := ⟨31, 0⟩
def Reg.INK.CH_UE_CNT (i : Nat) : Nat := 0x702014 + 0x100 * i
def Fld.INK.CH_UE_CNT.count : Bits := ⟨31, 0⟩
def Reg.INK.CH_REFRESH_FORCED_CNT (i : Nat) : Nat := 0x702018 + 0x100 * i
def Fld.INK.CH_REFRESH_FORCED_CNT.count : Bits := ⟨31, 0⟩
def Reg.INK.TRN_CTL (i : Nat) : Nat := 0x702040 + 0x100 * i
def Fld.INK.TRN_CTL.pattern : Bits := ⟨2, 0⟩
def Fld.INK.TRN_CTL.target : Bits := ⟨3, 3⟩
def Reg.INK.TRN_CMD (i : Nat) : Nat := 0x702044 + 0x100 * i
def Fld.INK.TRN_CMD.run_go : Bits := ⟨0, 0⟩
def Reg.INK.TRN_RESULT (i : Nat) : Nat := 0x702048 + 0x100 * i
def Fld.INK.TRN_RESULT.fail : Bits := ⟨23, 0⟩

/-! HOSTQ registers (R464). -/
def Reg.HOSTQ.HQ_CFG : Nat := 0x781000
def Fld.HOSTQ.HQ_CFG.retry_max : Bits := ⟨2, 0⟩
def Fld.HOSTQ.HQ_CFG.ro_en : Bits := ⟨3, 3⟩
def Reg.HOSTQ.HQ_OUTAGE : Nat := 0x781004
def Fld.HOSTQ.HQ_OUTAGE.gib : Bits := ⟨6, 0⟩
def Reg.HOSTQ.HQ_WIN_BASE : Nat := 0x781008
def Fld.HOSTQ.HQ_WIN_BASE.gib : Bits := ⟨7, 0⟩
def Reg.HOSTQ.HQ_CMD : Nat := 0x78100c
def Fld.HOSTQ.HQ_CMD.commit_go : Bits := ⟨0, 0⟩
def Fld.HOSTQ.HQ_CMD.win_commit_go : Bits := ⟨1, 1⟩
def Reg.HOSTQ.HQ_LINK : Nat := 0x781010
def Fld.HOSTQ.HQ_LINK.up : Bits := ⟨0, 0⟩
def Fld.HOSTQ.HQ_LINK.gen : Bits := ⟨2, 1⟩
def Fld.HOSTQ.HQ_LINK.width : Bits := ⟨7, 3⟩
def Fld.HOSTQ.HQ_LINK.rate : Bits := ⟨31, 8⟩
def Reg.HOSTQ.HQ_RESET_CNT : Nat := 0x781014
def Fld.HOSTQ.HQ_RESET_CNT.count : Bits := ⟨31, 0⟩
def Reg.HOSTQ.HQ_EVT_DROP_CNT : Nat := 0x781018
def Fld.HOSTQ.HQ_EVT_DROP_CNT.count : Bits := ⟨31, 0⟩
def Reg.HOSTQ.HQ_COMPL_DROP_CNT : Nat := 0x78101c
def Fld.HOSTQ.HQ_COMPL_DROP_CNT.count : Bits := ⟨31, 0⟩
def Reg.HOSTQ.DB_BAD_CNT : Nat := 0x781020
def Fld.HOSTQ.DB_BAD_CNT.count : Bits := ⟨31, 0⟩

/-! HOSTQ registers (R465). -/
def Reg.HOSTQ.CRING_BASE_LO (i : Nat) : Nat := 0x788000 + 64 * i
def Fld.HOSTQ.CRING_BASE_LO.base : Bits := ⟨31, 12⟩
def Reg.HOSTQ.RRING_BASE_LO (i : Nat) : Nat := 0x7a0000 + 64 * i
def Fld.HOSTQ.RRING_BASE_LO.base : Bits := ⟨31, 12⟩
def Reg.HOSTQ.CRING_BASE_HI (i : Nat) : Nat := 0x788004 + 64 * i
def Fld.HOSTQ.CRING_BASE_HI.base : Bits := ⟨31, 0⟩
def Reg.HOSTQ.RRING_BASE_HI (i : Nat) : Nat := 0x7a0004 + 64 * i
def Fld.HOSTQ.RRING_BASE_HI.base : Bits := ⟨31, 0⟩
def Reg.HOSTQ.CRING_CFG (i : Nat) : Nat := 0x788008 + 64 * i
def Fld.HOSTQ.CRING_CFG.size : Bits := ⟨3, 0⟩
def Fld.HOSTQ.CRING_CFG.type : Bits := ⟨6, 4⟩
def Fld.HOSTQ.CRING_CFG.wb_en : Bits := ⟨7, 7⟩
def Fld.HOSTQ.CRING_CFG.cq : Bits := ⟨19, 8⟩
def Reg.HOSTQ.RRING_CFG (i : Nat) : Nat := 0x7a0008 + 64 * i
def Fld.HOSTQ.RRING_CFG.size : Bits := ⟨3, 0⟩
def Fld.HOSTQ.RRING_CFG.type : Bits := ⟨6, 4⟩
def Fld.HOSTQ.RRING_CFG.wb_en : Bits := ⟨7, 7⟩
def Fld.HOSTQ.RRING_CFG.vector : Bits := ⟨27, 20⟩
def Fld.HOSTQ.RRING_CFG.irq_en : Bits := ⟨28, 28⟩
def Reg.HOSTQ.CRING_WB_LO (i : Nat) : Nat := 0x78800c + 64 * i
def Fld.HOSTQ.CRING_WB_LO.wb : Bits := ⟨31, 3⟩
def Reg.HOSTQ.RRING_WB_LO (i : Nat) : Nat := 0x7a000c + 64 * i
def Fld.HOSTQ.RRING_WB_LO.wb : Bits := ⟨31, 3⟩
def Reg.HOSTQ.CRING_WB_HI (i : Nat) : Nat := 0x788010 + 64 * i
def Fld.HOSTQ.CRING_WB_HI.wb : Bits := ⟨31, 0⟩
def Reg.HOSTQ.RRING_WB_HI (i : Nat) : Nat := 0x7a0010 + 64 * i
def Fld.HOSTQ.RRING_WB_HI.wb : Bits := ⟨31, 0⟩
def Reg.HOSTQ.RRING_COAL (i : Nat) : Nat := 0x7a0014 + 64 * i
def Fld.HOSTQ.RRING_COAL.coal_count : Bits := ⟨15, 0⟩
def Fld.HOSTQ.RRING_COAL.coal_us : Bits := ⟨31, 16⟩
def Reg.HOSTQ.CRING_CMD (i : Nat) : Nat := 0x788018 + 64 * i
def Fld.HOSTQ.CRING_CMD.enable_go : Bits := ⟨0, 0⟩
def Fld.HOSTQ.CRING_CMD.disable_go : Bits := ⟨1, 1⟩
def Fld.HOSTQ.CRING_CMD.resume_go : Bits := ⟨2, 2⟩
def Fld.HOSTQ.CRING_CMD.reset_go : Bits := ⟨3, 3⟩
def Reg.HOSTQ.RRING_CMD (i : Nat) : Nat := 0x7a0018 + 64 * i
def Fld.HOSTQ.RRING_CMD.enable_go : Bits := ⟨0, 0⟩
def Fld.HOSTQ.RRING_CMD.disable_go : Bits := ⟨1, 1⟩
def Fld.HOSTQ.RRING_CMD.resume_go : Bits := ⟨2, 2⟩
def Fld.HOSTQ.RRING_CMD.reset_go : Bits := ⟨3, 3⟩
def Reg.HOSTQ.CRING_STA (i : Nat) : Nat := 0x78801c + 64 * i
def Fld.HOSTQ.CRING_STA.HALTED : Bits := ⟨0, 0⟩
def Fld.HOSTQ.CRING_STA.REFUSED : Bits := ⟨1, 1⟩
def Fld.HOSTQ.CRING_STA.DB_BAD : Bits := ⟨2, 2⟩
def Fld.HOSTQ.CRING_STA.SEQ : Bits := ⟨31, 24⟩
def Reg.HOSTQ.RRING_STA (i : Nat) : Nat := 0x7a001c + 64 * i
def Fld.HOSTQ.RRING_STA.HALTED : Bits := ⟨0, 0⟩
def Fld.HOSTQ.RRING_STA.REFUSED : Bits := ⟨1, 1⟩
def Fld.HOSTQ.RRING_STA.DB_BAD : Bits := ⟨2, 2⟩
def Fld.HOSTQ.RRING_STA.SEQ : Bits := ⟨31, 24⟩
def Reg.HOSTQ.CRING_STATE (i : Nat) : Nat := 0x788020 + 64 * i
def Fld.HOSTQ.CRING_STATE.state : Bits := ⟨1, 0⟩
def Fld.HOSTQ.CRING_STATE.reason : Bits := ⟨6, 4⟩
def Fld.HOSTQ.CRING_STATE.owner : Bits := ⟨11, 8⟩
def Reg.HOSTQ.RRING_STATE (i : Nat) : Nat := 0x7a0020 + 64 * i
def Fld.HOSTQ.RRING_STATE.state : Bits := ⟨1, 0⟩
def Fld.HOSTQ.RRING_STATE.reason : Bits := ⟨6, 4⟩
def Fld.HOSTQ.RRING_STATE.owner : Bits := ⟨11, 8⟩
def Reg.HOSTQ.CRING_HEAD (i : Nat) : Nat := 0x788024 + 64 * i
def Fld.HOSTQ.CRING_HEAD.h : Bits := ⟨31, 0⟩
def Reg.HOSTQ.RRING_HEAD (i : Nat) : Nat := 0x7a0024 + 64 * i
def Fld.HOSTQ.RRING_HEAD.h : Bits := ⟨31, 0⟩
def Reg.HOSTQ.CRING_TAIL (i : Nat) : Nat := 0x788028 + 64 * i
def Fld.HOSTQ.CRING_TAIL.t : Bits := ⟨31, 0⟩
def Reg.HOSTQ.RRING_TAIL (i : Nat) : Nat := 0x7a0028 + 64 * i
def Fld.HOSTQ.RRING_TAIL.t : Bits := ⟨31, 0⟩
def Reg.HOSTQ.CRING_RETRY_CNT (i : Nat) : Nat := 0x78802c + 64 * i
def Fld.HOSTQ.CRING_RETRY_CNT.count : Bits := ⟨31, 0⟩
def Reg.HOSTQ.RRING_RETRY_CNT (i : Nat) : Nat := 0x7a002c + 64 * i
def Fld.HOSTQ.RRING_RETRY_CNT.count : Bits := ⟨31, 0⟩

/-! DMA registers (R466). -/
def Reg.DMA.DMA_CFG (i : Nat) : Nat := 0x801000 + 0x100 * i
def Fld.DMA.DMA_CFG.buf_mib : Bits := ⟨14, 0⟩
def Fld.DMA.DMA_CFG.pack : Bits := ⟨15, 15⟩
def Fld.DMA.DMA_CFG.flush_us : Bits := ⟨21, 16⟩
def Reg.DMA.DMA_SHADOW (i : Nat) : Nat := 0x801004 + 0x100 * i
def Fld.DMA.DMA_SHADOW.ring : Bits := ⟨11, 0⟩
def Fld.DMA.DMA_SHADOW.freelist : Bits := ⟨25, 16⟩
def Reg.DMA.DMA_ACTIVE (i : Nat) : Nat := 0x801008 + 0x100 * i
def Fld.DMA.DMA_ACTIVE.set_ : Bits := ⟨25, 0⟩
def Reg.DMA.DMA_CMD (i : Nat) : Nat := 0x80100c + 0x100 * i
def Fld.DMA.DMA_CMD.enable_go : Bits := ⟨0, 0⟩
def Fld.DMA.DMA_CMD.disable_go : Bits := ⟨1, 1⟩
def Fld.DMA.DMA_CMD.promote_go : Bits := ⟨2, 2⟩
def Fld.DMA.DMA_CMD.resume_go : Bits := ⟨3, 3⟩
def Reg.DMA.DMA_STA (i : Nat) : Nat := 0x801010 + 0x100 * i
def Fld.DMA.DMA_STA.HALTED : Bits := ⟨0, 0⟩
def Fld.DMA.DMA_STA.PROMOTED : Bits := ⟨1, 1⟩
def Fld.DMA.DMA_STA.POISON : Bits := ⟨2, 2⟩
def Fld.DMA.DMA_STA.REPLAY : Bits := ⟨3, 3⟩
def Fld.DMA.DMA_STA.REFUSED : Bits := ⟨4, 4⟩
def Fld.DMA.DMA_STA.SEQ : Bits := ⟨31, 24⟩
def Reg.DMA.DMA_STATE (i : Nat) : Nat := 0x801014 + 0x100 * i
def Fld.DMA.DMA_STATE.state : Bits := ⟨2, 0⟩
def Fld.DMA.DMA_STATE.shadow_valid : Bits := ⟨3, 3⟩
def Fld.DMA.DMA_STATE.reason : Bits := ⟨5, 4⟩
def Fld.DMA.DMA_STATE.fill : Bits := ⟨14, 8⟩
def Reg.DMA.DMA_BYTES_LO (i : Nat) : Nat := 0x801018 + 0x100 * i
def Fld.DMA.DMA_BYTES_LO.count : Bits := ⟨31, 0⟩
def Reg.DMA.DMA_BYTES_HI (i : Nat) : Nat := 0x80101c + 0x100 * i
def Fld.DMA.DMA_BYTES_HI.count : Bits := ⟨31, 0⟩
def Reg.DMA.DMA_ITEM_CNT (i : Nat) : Nat := 0x801020 + 0x100 * i
def Fld.DMA.DMA_ITEM_CNT.count : Bits := ⟨31, 0⟩
def Reg.DMA.DMA_RETRY_CNT (i : Nat) : Nat := 0x801024 + 0x100 * i
def Fld.DMA.DMA_RETRY_CNT.count : Bits := ⟨31, 0⟩
def Reg.DMA.DMA_POISON_CNT (i : Nat) : Nat := 0x801028 + 0x100 * i
def Fld.DMA.DMA_POISON_CNT.count : Bits := ⟨31, 0⟩
def Reg.DMA.DMA_PAIR (i j : Nat) : Nat := 0x801030 + 0x100 * i + 4 * j
def Fld.DMA.DMA_PAIR.pair : Bits := ⟨6, 0⟩
def Fld.DMA.DMA_PAIR.en : Bits := ⟨7, 7⟩
def Fld.DMA.DMA_PAIR.policy : Bits := ⟨8, 8⟩
def Fld.DMA.DMA_PAIR.avg : Bits := ⟨9, 9⟩

/-! STOR registers (R484). -/
def Reg.STOR.STOR_CFG : Nat := 0x881000
def Fld.STOR.STOR_CFG.bif0 : Bits := ⟨1, 0⟩
def Fld.STOR.STOR_CFG.bif1 : Bits := ⟨3, 2⟩
def Reg.STOR.STOR_SETID_LO : Nat := 0x881004
def Fld.STOR.STOR_SETID_LO.set_ : Bits := ⟨31, 0⟩
def Reg.STOR.STOR_SETID_HI : Nat := 0x881008
def Fld.STOR.STOR_SETID_HI.set_ : Bits := ⟨31, 0⟩
def Reg.STOR.STOR_WEAR : Nat := 0x88100c
def Fld.STOR.STOR_WEAR.warn : Bits := ⟨7, 0⟩
def Fld.STOR.STOR_WEAR.retire : Bits := ⟨15, 8⟩
def Reg.STOR.RD_LBA_LO : Nat := 0x881010
def Fld.STOR.RD_LBA_LO.lba : Bits := ⟨31, 0⟩
def Reg.STOR.RD_LBA_HI : Nat := 0x881014
def Fld.STOR.RD_LBA_HI.lba : Bits := ⟨31, 0⟩
def Reg.STOR.RD_CFG : Nat := 0x881018
def Fld.STOR.RD_CFG.drive : Bits := ⟨2, 0⟩
def Fld.STOR.RD_CFG.count : Bits := ⟨14, 3⟩
def Reg.STOR.RD_DST : Nat := 0x88101c
def Fld.STOR.RD_DST.dst : Bits := ⟨25, 0⟩
def Reg.STOR.STOR_CMD : Nat := 0x881020
def Fld.STOR.STOR_CMD.read_go : Bits := ⟨0, 0⟩
def Reg.STOR.RD_STATE : Nat := 0x881024
def Fld.STOR.RD_STATE.busy : Bits := ⟨0, 0⟩
def Fld.STOR.RD_STATE.refused : Bits := ⟨1, 1⟩
def Fld.STOR.RD_STATE.error : Bits := ⟨2, 2⟩

/-! STOR registers (R485). -/
def Reg.STOR.DRV_NSID (i : Nat) : Nat := 0x882000 + 0x100 * i
def Fld.STOR.DRV_NSID.nsid : Bits := ⟨31, 0⟩
def Reg.STOR.DRV_CMD (i : Nat) : Nat := 0x882004 + 0x100 * i
def Fld.STOR.DRV_CMD.attach_go : Bits := ⟨0, 0⟩
def Fld.STOR.DRV_CMD.format_go : Bits := ⟨1, 1⟩
def Fld.STOR.DRV_CMD.measure_go : Bits := ⟨2, 2⟩
def Fld.STOR.DRV_CMD.retire_go : Bits := ⟨3, 3⟩
def Fld.STOR.DRV_CMD.detach_go : Bits := ⟨4, 4⟩
def Reg.STOR.DRV_STA (i : Nat) : Nat := 0x882008 + 0x100 * i
def Fld.STOR.DRV_STA.LOST : Bits := ⟨0, 0⟩
def Fld.STOR.DRV_STA.RETIRED : Bits := ⟨1, 1⟩
def Fld.STOR.DRV_STA.WEAR_WARN : Bits := ⟨2, 2⟩
def Fld.STOR.DRV_STA.SLOW : Bits := ⟨3, 3⟩
def Fld.STOR.DRV_STA.REFUSED : Bits := ⟨4, 4⟩
def Fld.STOR.DRV_STA.SEQ : Bits := ⟨31, 24⟩
def Reg.STOR.DRV_STATE (i : Nat) : Nat := 0x88200c + 0x100 * i
def Fld.STOR.DRV_STATE.state : Bits := ⟨2, 0⟩
def Fld.STOR.DRV_STATE.gen : Bits := ⟨4, 3⟩
def Fld.STOR.DRV_STATE.width : Bits := ⟨9, 5⟩
def Fld.STOR.DRV_STATE.reason : Bits := ⟨12, 10⟩
def Reg.STOR.DRV_RATE (i : Nat) : Nat := 0x882010 + 0x100 * i
def Fld.STOR.DRV_RATE.mbs : Bits := ⟨31, 0⟩
def Reg.STOR.DRV_WEAR (i : Nat) : Nat := 0x882014 + 0x100 * i
def Fld.STOR.DRV_WEAR.used : Bits := ⟨7, 0⟩
def Fld.STOR.DRV_WEAR.crit : Bits := ⟨15, 8⟩
def Reg.STOR.DRV_SLOTS (i : Nat) : Nat := 0x882018 + 0x100 * i
def Fld.STOR.DRV_SLOTS.slots : Bits := ⟨31, 0⟩
def Reg.STOR.DRV_WRITTEN_LO (i : Nat) : Nat := 0x88201c + 0x100 * i
def Fld.STOR.DRV_WRITTEN_LO.count : Bits := ⟨31, 0⟩
def Reg.STOR.DRV_WRITTEN_HI (i : Nat) : Nat := 0x882020 + 0x100 * i
def Fld.STOR.DRV_WRITTEN_HI.count : Bits := ⟨31, 0⟩
def Reg.STOR.DRV_TIMEOUT_CNT (i : Nat) : Nat := 0x882024 + 0x100 * i
def Fld.STOR.DRV_TIMEOUT_CNT.count : Bits := ⟨31, 0⟩

/-! STOR registers (R486). -/
def Reg.STOR.DS_CFG (i : Nat) : Nat := 0x884000 + 0x100 * i
def Fld.STOR.DS_CFG.drives : Bits := ⟨7, 0⟩
def Fld.STOR.DS_CFG.mode : Bits := ⟨8, 8⟩
def Fld.STOR.DS_CFG.policy : Bits := ⟨9, 9⟩
def Fld.STOR.DS_CFG.buf_mib : Bits := ⟨24, 10⟩
def Reg.STOR.DS_SRC (i : Nat) : Nat := 0x884004 + 0x100 * i
def Fld.STOR.DS_SRC.pair : Bits := ⟨6, 0⟩
def Fld.STOR.DS_SRC.pair_en : Bits := ⟨7, 7⟩
def Fld.STOR.DS_SRC.avg : Bits := ⟨8, 8⟩
def Reg.STOR.DS_CMD (i : Nat) : Nat := 0x884008 + 0x100 * i
def Fld.STOR.DS_CMD.enable_go : Bits := ⟨0, 0⟩
def Fld.STOR.DS_CMD.disable_go : Bits := ⟨1, 1⟩
def Fld.STOR.DS_CMD.restart_go : Bits := ⟨2, 2⟩
def Reg.STOR.DS_STA (i : Nat) : Nat := 0x88400c + 0x100 * i
def Fld.STOR.DS_STA.FULL : Bits := ⟨0, 0⟩
def Fld.STOR.DS_STA.STOPPED : Bits := ⟨1, 1⟩
def Fld.STOR.DS_STA.THROTTLE : Bits := ⟨2, 2⟩
def Fld.STOR.DS_STA.POISON : Bits := ⟨3, 3⟩
def Fld.STOR.DS_STA.REFUSED : Bits := ⟨4, 4⟩
def Fld.STOR.DS_STA.SEQ : Bits := ⟨31, 24⟩
def Reg.STOR.DS_STATE (i : Nat) : Nat := 0x884010 + 0x100 * i
def Fld.STOR.DS_STATE.state : Bits := ⟨2, 0⟩
def Fld.STOR.DS_STATE.throttle : Bits := ⟨6, 3⟩
def Fld.STOR.DS_STATE.fill : Bits := ⟨14, 8⟩
def Reg.STOR.DS_RATE (i : Nat) : Nat := 0x884014 + 0x100 * i
def Fld.STOR.DS_RATE.mbs : Bits := ⟨31, 0⟩
def Reg.STOR.DS_SEQ_LO (i : Nat) : Nat := 0x884018 + 0x100 * i
def Fld.STOR.DS_SEQ_LO.seq : Bits := ⟨31, 0⟩
def Reg.STOR.DS_SEQ_HI (i : Nat) : Nat := 0x88401c + 0x100 * i
def Fld.STOR.DS_SEQ_HI.seq : Bits := ⟨31, 0⟩
def Reg.STOR.DS_DROP_CNT (i : Nat) : Nat := 0x884020 + 0x100 * i
def Fld.STOR.DS_DROP_CNT.count : Bits := ⟨31, 0⟩
def Reg.STOR.DS_REWRITE_CNT (i : Nat) : Nat := 0x884024 + 0x100 * i
def Fld.STOR.DS_REWRITE_CNT.count : Bits := ⟨31, 0⟩
def Reg.STOR.DS_POISON_CNT (i : Nat) : Nat := 0x884028 + 0x100 * i
def Fld.STOR.DS_POISON_CNT.count : Bits := ⟨31, 0⟩

/-! STEWARD registers (R517). -/
def Reg.STEWARD.STW_STATE : Nat := 0x81000
def Fld.STEWARD.STW_STATE.active : Bits := ⟨0, 0⟩
def Fld.STEWARD.STW_STATE.standby_ready : Bits := ⟨1, 1⟩
def Fld.STEWARD.STW_STATE.image : Bits := ⟨2, 2⟩
def Fld.STEWARD.STW_STATE.confirmed : Bits := ⟨3, 3⟩
def Fld.STEWARD.STW_STATE.resume : Bits := ⟨6, 4⟩
def Fld.STEWARD.STW_STATE.resume_inh : Bits := ⟨7, 7⟩
def Reg.STEWARD.STW_CMD : Nat := 0x81004
def Fld.STEWARD.STW_CMD.hold_go : Bits := ⟨0, 0⟩
def Fld.STEWARD.STW_CMD.resume_go : Bits := ⟨1, 1⟩
def Fld.STEWARD.STW_CMD.discard_go : Bits := ⟨2, 2⟩
def Fld.STEWARD.STW_CMD.avs_commit_go : Bits := ⟨3, 3⟩
def Reg.STEWARD.STW_FW_A : Nat := 0x81008
def Fld.STEWARD.STW_FW_A.version : Bits := ⟨31, 0⟩
def Reg.STEWARD.STW_FW_B : Nat := 0x8100c
def Fld.STEWARD.STW_FW_B.version : Bits := ⟨31, 0⟩
def Reg.STEWARD.AVS_CFG : Nat := 0x81010
def Fld.STEWARD.AVS_CFG.floor : Bits := ⟨9, 0⟩
def Fld.STEWARD.AVS_CFG.ceiling : Bits := ⟨25, 16⟩
def Fld.STEWARD.AVS_CFG.avs_en : Bits := ⟨26, 26⟩
def Reg.STEWARD.AVS_STATE : Nat := 0x81014
def Fld.STEWARD.AVS_STATE.vcore : Bits := ⟨9, 0⟩
def Fld.STEWARD.AVS_STATE.margin : Bits := ⟨23, 16⟩
def Reg.STEWARD.AVS_MIN_UNIT : Nat := 0x81018
def Fld.STEWARD.AVS_MIN_UNIT.block : Bits := ⟨4, 0⟩
def Fld.STEWARD.AVS_MIN_UNIT.inst : Bits := ⟨15, 8⟩
def Reg.STEWARD.AVS_STEP_CNT : Nat := 0x8101c
def Fld.STEWARD.AVS_STEP_CNT.count : Bits := ⟨31, 0⟩
def Reg.STEWARD.TAKEOVER_CNT : Nat := 0x81020
def Fld.STEWARD.TAKEOVER_CNT.count : Bits := ⟨31, 0⟩

/-! CAL registers (R518). -/
def Reg.CAL.CAL_CFG : Nat := 0xa01000
def Fld.CAL.CAL_CFG.bg_en : Bits := ⟨0, 0⟩
def Fld.CAL.CAL_CFG.bg_period : Bits := ⟨12, 1⟩
def Fld.CAL.CAL_CFG.retry : Bits := ⟨15, 13⟩
def Reg.CAL.CAL_SEL : Nat := 0xa01004
def Fld.CAL.CAL_SEL.target : Bits := ⟨3, 0⟩
def Fld.CAL.CAL_SEL.inst : Bits := ⟨19, 4⟩
def Reg.CAL.CAL_CMD : Nat := 0xa01008
def Fld.CAL.CAL_CMD.cal_go : Bits := ⟨0, 0⟩
def Fld.CAL.CAL_CMD.commit_go : Bits := ⟨1, 1⟩
def Reg.CAL.CAL_STATE : Nat := 0xa0100c
def Fld.CAL.CAL_STATE.state : Bits := ⟨1, 0⟩
def Fld.CAL.CAL_STATE.result : Bits := ⟨6, 4⟩
def Fld.CAL.CAL_STATE.target : Bits := ⟨11, 8⟩
def Reg.CAL.CAL_QUAL : Nat := 0xa01010
def Fld.CAL.CAL_QUAL.q1 : Bits := ⟨15, 0⟩
def Fld.CAL.CAL_QUAL.q2 : Bits := ⟨31, 16⟩
def Reg.CAL.CAL_DONE_CNT : Nat := 0xa01014
def Fld.CAL.CAL_DONE_CNT.count : Bits := ⟨31, 0⟩
def Reg.CAL.CAL_DISAGREE_CNT : Nat := 0xa01018
def Fld.CAL.CAL_DISAGREE_CNT.count : Bits := ⟨31, 0⟩
def Reg.CAL.CAL_PRECOND_CNT : Nat := 0xa0101c
def Fld.CAL.CAL_PRECOND_CNT.count : Bits := ⟨31, 0⟩

/-! SPARE registers (R519). -/
def Reg.SPARE.SPARE_THR : Nat := 0xa81000
def Fld.SPARE.SPARE_THR.pace : Bits := ⟨3, 0⟩
def Fld.SPARE.SPARE_THR.ecc : Bits := ⟨23, 8⟩
def Reg.SPARE.SPARE_CMD : Nat := 0xa81004
def Fld.SPARE.SPARE_CMD.commit_go : Bits := ⟨0, 0⟩
def Reg.SPARE.SPARE_LAST : Nat := 0xa81008
def Fld.SPARE.SPARE_LAST.kind : Bits := ⟨3, 0⟩
def Fld.SPARE.SPARE_LAST.cause : Bits := ⟨7, 4⟩
def Fld.SPARE.SPARE_LAST.inst : Bits := ⟨23, 8⟩
def Fld.SPARE.SPARE_LAST.compare_fail : Bits := ⟨24, 24⟩
def Reg.SPARE.HANDOVER_CNT : Nat := 0xa8100c
def Fld.SPARE.HANDOVER_CNT.count : Bits := ⟨31, 0⟩
def Reg.SPARE.HANDOVER_FAIL_CNT : Nat := 0xa81010
def Fld.SPARE.HANDOVER_FAIL_CNT.count : Bits := ⟨31, 0⟩
def Reg.SPARE.SP_TOTAL (i : Nat) : Nat := 0xa81100 + 16 * i
def Fld.SPARE.SP_TOTAL.total : Bits := ⟨23, 0⟩
def Reg.SPARE.SP_FREE (i : Nat) : Nat := 0xa81104 + 16 * i
def Fld.SPARE.SP_FREE.free : Bits := ⟨23, 0⟩
def Reg.SPARE.SP_SUSPECT (i : Nat) : Nat := 0xa81108 + 16 * i
def Fld.SPARE.SP_SUSPECT.suspect : Bits := ⟨23, 0⟩
def Reg.SPARE.SP_USED (i : Nat) : Nat := 0xa8110c + 16 * i
def Fld.SPARE.SP_USED.used : Bits := ⟨23, 0⟩

/-! RETAIN registers (R520). -/
def Reg.RETAIN.RT_STATE : Nat := 0xb01000
def Fld.RETAIN.RT_STATE.valid : Bits := ⟨5, 0⟩
def Fld.RETAIN.RT_STATE.slot : Bits := ⟨13, 8⟩
def Fld.RETAIN.RT_STATE.factory : Bits := ⟨14, 14⟩
def Reg.RETAIN.RT_SESSION_SEQ_LO : Nat := 0xb01004
def Fld.RETAIN.RT_SESSION_SEQ_LO.seq : Bits := ⟨31, 0⟩
def Reg.RETAIN.RT_SESSION_SEQ_HI : Nat := 0xb01008
def Fld.RETAIN.RT_SESSION_SEQ_HI.seq : Bits := ⟨31, 0⟩
def Reg.RETAIN.RT_FR_COUNT : Nat := 0xb0100c
def Fld.RETAIN.RT_FR_COUNT.count : Bits := ⟨31, 0⟩
def Reg.RETAIN.RT_LOG_COUNT : Nat := 0xb01010
def Fld.RETAIN.RT_LOG_COUNT.count : Bits := ⟨31, 0⟩
def Reg.RETAIN.RT_BAD_CNT : Nat := 0xb01014
def Fld.RETAIN.RT_BAD_CNT.count : Bits := ⟨31, 0⟩
def Reg.RETAIN.KEY_STATE : Nat := 0xb01018
def Fld.RETAIN.KEY_STATE.keys : Bits := ⟨7, 0⟩
def Fld.RETAIN.KEY_STATE.require_signed : Bits := ⟨8, 8⟩

/-! PWR registers (R549). -/
def Reg.PWR.PWR_STATE : Nat := 0xc01000
def Fld.PWR.PWR_STATE.phases_ok : Bits := ⟨3, 0⟩
def Fld.PWR.PWR_STATE.phase_short : Bits := ⟨4, 4⟩
def Fld.PWR.PWR_STATE.therm : Bits := ⟨5, 5⟩
def Fld.PWR.PWR_STATE.vin_low : Bits := ⟨6, 6⟩
def Fld.PWR.PWR_STATE.service : Bits := ⟨7, 7⟩
def Reg.PWR.PWR_VIN : Nat := 0xc01004
def Fld.PWR.PWR_VIN.mv : Bits := ⟨15, 0⟩
def Fld.PWR.PWR_VIN.ma10 : Bits := ⟨31, 16⟩
def Reg.PWR.PWR_VAUX : Nat := 0xc01008
def Fld.PWR.PWR_VAUX.mv : Bits := ⟨15, 0⟩
def Fld.PWR.PWR_VAUX.ma : Bits := ⟨31, 16⟩
def Reg.PWR.PWR_POWER : Nat := 0xc0100c
def Fld.PWR.PWR_POWER.dw : Bits := ⟨15, 0⟩
def Reg.PWR.PWR_TEMP : Nat := 0xc01010
def Fld.PWR.PWR_TEMP.case : Bits := ⟨7, 0⟩
def Fld.PWR.PWR_TEMP.junction : Bits := ⟨15, 8⟩
def Fld.PWR.PWR_TEMP.optical : Bits := ⟨23, 16⟩
def Fld.PWR.PWR_TEMP.dram : Bits := ⟨31, 24⟩
def Reg.PWR.PWR_PHASE : Nat := 0xc01014
def Fld.PWR.PWR_PHASE.ok : Bits := ⟨13, 0⟩
def Fld.PWR.PWR_PHASE.shed : Bits := ⟨29, 16⟩
def Reg.PWR.PWR_HOURS : Nat := 0xc01018
def Fld.PWR.PWR_HOURS.hours : Bits := ⟨31, 0⟩
def Reg.PWR.THERM_CNT : Nat := 0xc0101c
def Fld.PWR.THERM_CNT.count : Bits := ⟨31, 0⟩
def Reg.PWR.PHASE_SHED_CNT : Nat := 0xc01020
def Fld.PWR.PHASE_SHED_CNT.count : Bits := ⟨31, 0⟩
def Reg.PWR.VIN_LOW_CNT : Nat := 0xc01024
def Fld.PWR.VIN_LOW_CNT.count : Bits := ⟨31, 0⟩

/-! BRUSH registers (R384). -/
def Reg.BRUSH.BR_LOAD_LAST : Nat := 0x183000
def Fld.BRUSH.BR_LOAD_LAST.code : Bits := ⟨7, 0⟩
def Fld.BRUSH.BR_LOAD_LAST.arg : Bits := ⟨31, 16⟩

/-! COND registers (R255). -/
def Reg.COND.COEF (i j : Nat) : Nat := 0x408000 + 0x400 * i + 4 * j
def Fld.COND.COEF.coef : Bits := ⟨17, 0⟩

/-! BLOT registers (R413). -/
def Reg.BLOT.COLOUR_MAP (i j : Nat) : Nat := 0x608000 + 0x400 * i + 4 * j
def Fld.BLOT.COLOUR_MAP.argb : Bits := ⟨31, 0⟩

/-! DISP registers (R415). -/
def Reg.DISP.PALETTE (i : Nat) : Nat := 0x682240 + 4 * i
def Fld.DISP.PALETTE.argb : Bits := ⟨31, 0⟩

/-! HOSTQ registers (R457). -/
def Reg.HOSTQ.MSIX_ADDR_LO (i : Nat) : Nat := 0x7e0000 + 16 * i
def Fld.HOSTQ.MSIX_ADDR_LO.addr : Bits := ⟨31, 2⟩
def Reg.HOSTQ.MSIX_ADDR_HI (i : Nat) : Nat := 0x7e0004 + 16 * i
def Fld.HOSTQ.MSIX_ADDR_HI.addr : Bits := ⟨31, 0⟩
def Reg.HOSTQ.MSIX_DATA (i : Nat) : Nat := 0x7e0008 + 16 * i
def Fld.HOSTQ.MSIX_DATA.data : Bits := ⟨31, 0⟩
def Reg.HOSTQ.MSIX_CTRL (i : Nat) : Nat := 0x7e000c + 16 * i
def Fld.HOSTQ.MSIX_CTRL.mask : Bits := ⟨0, 0⟩
def Reg.HOSTQ.MSIX_PBA (i : Nat) : Nat := 0x7e1000 + 4 * i
def Fld.HOSTQ.MSIX_PBA.pba : Bits := ⟨31, 0⟩

end Sys2Proof.Machine
end

