-- ==== Sys2Proof/Machine/RegTable.lean ====
section
/-! DEFINITION. The register map as data, one row for each register or array of registers of the spec's tables:
its offset in the block, its index ranges with their strides, its fields with their access class (R38) and reset
value, and the enable scope its CFG and STAGE fields belong to (none: the block-wide scope). Bits no row names are
RSV with reset 0. -/

namespace Sys2Proof.Machine

/-- The access classes of R38. `rw` is the MSI-X table entry of the PCIe Base Specification (R441), which is plain
read and write. -/
inductive AccessClass where
  | cfg | stage | ctl | sta | cnt | ro | rw
deriving DecidableEq, Repr

/-- The kinds of unit scope that R558 counts, with the scopes of rings (R465) among them. -/
inductive ScopeKind where
  | core | port | laneTest | synth | clkOut | tdc | ival | regr | spk | zoom | pair | win | mask | mec | timer | seq
  | trigOut | template | job | plane | output | inkChan | cring | rring | exportCh | drive | diskStream
  | cascLink | cascLaneTest
deriving DecidableEq, Repr

structure FieldRow where
  bits : Bits
  cls : AccessClass
  reset : Nat
deriving DecidableEq, Repr

/-- One register, or an array of registers of one layout: `dims` gives (count, stride) for each index, the widest
stride first. `half` is 1 for the low and 2 for the high half of a designated 64-bit counter (R54), otherwise 0. -/
structure RegRow where
  offset : Nat
  dims : List (Nat × Nat)
  scope : Option ScopeKind
  scopeDims : Nat
  half : Nat
  fields : List FieldRow
deriving DecidableEq, Repr

def cfgF (b : Bits) (r : Nat) : FieldRow := ⟨b, .cfg, r⟩
def stageF (b : Bits) (r : Nat) : FieldRow := ⟨b, .stage, r⟩
def ctlF (b : Bits) : FieldRow := ⟨b, .ctl, 0⟩
def staF (b : Bits) : FieldRow := ⟨b, .sta, 0⟩
def cntF (b : Bits) (r : Nat) : FieldRow := ⟨b, .cnt, r⟩
def roF (b : Bits) (r : Nat) : FieldRow := ⟨b, .ro, r⟩

/-- The rows of the common block header (R45 to R51). -/
def headerRows : List RegRow := [
  { offset := 0, dims := [], scope := none, scopeDims := 0, half := 0,
    fields := [roF Fld.HDR.BLK_ID.index 0, roF Fld.HDR.BLK_ID.stepping 177, roF Fld.HDR.BLK_ID.scopes 0] },
  { offset := 4, dims := [], scope := none, scopeDims := 0, half := 0,
    fields := [ctlF Fld.HDR.BLK_CMD.enable_go, ctlF Fld.HDR.BLK_CMD.disable_go, ctlF Fld.HDR.BLK_CMD.crc_commit, ctlF Fld.HDR.BLK_CMD.rescrub_go] },
  { offset := 8, dims := [], scope := none, scopeDims := 0, half := 0,
    fields := [roF Fld.HDR.BLK_STATE.state 0, roF Fld.HDR.BLK_STATE.stage_pending 0, roF Fld.HDR.BLK_STATE.handover 0, roF Fld.HDR.BLK_STATE.compare_held 0, roF Fld.HDR.BLK_STATE.enabled 0] },
  { offset := 12, dims := [], scope := none, scopeDims := 0, half := 0,
    fields := [staF Fld.HDR.BLK_STA.ACCESS_ERR, staF Fld.HDR.BLK_STA.CFG_WHILE_EN, staF Fld.HDR.BLK_STA.CFG_DRIFT, staF Fld.HDR.BLK_STA.XDOM_TIMEOUT, staF Fld.HDR.BLK_STA.BUSY_DROP, staF Fld.HDR.BLK_STA.DRIFT_UNRESOLVED, staF Fld.HDR.BLK_STA.block_bits, staF Fld.HDR.BLK_STA.SEQ] },
  { offset := 16, dims := [], scope := none, scopeDims := 0, half := 0,
    fields := [cntF Fld.HDR.ACCESS_ERR_CNT.count 0] },
  { offset := 20, dims := [], scope := none, scopeDims := 0, half := 0,
    fields := [cntF Fld.HDR.CFG_WHILE_EN_CNT.count 0] },
  { offset := 24, dims := [], scope := none, scopeDims := 0, half := 0,
    fields := [cntF Fld.HDR.BUSY_DROP_CNT.count 0] },
  { offset := 28, dims := [], scope := none, scopeDims := 0, half := 0,
    fields := [cntF Fld.HDR.STALE_CLEAR_CNT.count 0] },
  { offset := 32, dims := [], scope := none, scopeDims := 0, half := 0,
    fields := [cntF Fld.HDR.CFG_DRIFT_CNT.count 0] },
  { offset := 36, dims := [], scope := none, scopeDims := 0, half := 0,
    fields := [roF Fld.HDR.ACCESS_LOG_ADDR.offset 0] },
  { offset := 40, dims := [], scope := none, scopeDims := 0, half := 0,
    fields := [roF Fld.HDR.ACCESS_LOG_INFO.requester 0, roF Fld.HDR.ACCESS_LOG_INFO.byte_en 0, roF Fld.HDR.ACCESS_LOG_INFO.kind 0] },
  { offset := 44, dims := [], scope := none, scopeDims := 0, half := 0,
    fields := [stageF Fld.HDR.CRC_REF.crc 0] },
  { offset := 48, dims := [], scope := none, scopeDims := 0, half := 0,
    fields := [roF Fld.HDR.CRC_COMMITTED.crc 0] },
  { offset := 52, dims := [], scope := none, scopeDims := 0, half := 0,
    fields := [roF Fld.HDR.CRC_LIVE.crc 0] },
  { offset := 56, dims := [], scope := none, scopeDims := 0, half := 0,
    fields := [roF Fld.HDR.SCRUB_AGE.us 0] }]

def rows_GLOBAL_0 : List RegRow := [
  { offset := 0x1000, dims := [(1024, 4)], scope := none, scopeDims := 0, half := 0,
    fields := [stageF Fld.GLOBAL.EVT_ROUTE.ring 0, stageF Fld.GLOBAL.EVT_ROUTE.vector 0, stageF Fld.GLOBAL.EVT_ROUTE.route_en 0, stageF Fld.GLOBAL.EVT_ROUTE.irq_en 0] },
  { offset := 0x2000, dims := [], scope := none, scopeDims := 0, half := 0,
    fields := [ctlF Fld.GLOBAL.EVT_ROUTE_CMD.route_commit] }]

/-- The registers of block GLOBAL beyond the header (R71). -/
def rows_GLOBAL : List RegRow := rows_GLOBAL_0

def rows_STEWARD_0 : List RegRow := [
  { offset := 0x1000, dims := [], scope := none, scopeDims := 0, half := 0,
    fields := [roF Fld.STEWARD.STW_STATE.active 0, roF Fld.STEWARD.STW_STATE.standby_ready 0, roF Fld.STEWARD.STW_STATE.image 0, roF Fld.STEWARD.STW_STATE.confirmed 0, roF Fld.STEWARD.STW_STATE.resume 0, roF Fld.STEWARD.STW_STATE.resume_inh 0] },
  { offset := 0x1004, dims := [], scope := none, scopeDims := 0, half := 0,
    fields := [ctlF Fld.STEWARD.STW_CMD.hold_go, ctlF Fld.STEWARD.STW_CMD.resume_go, ctlF Fld.STEWARD.STW_CMD.discard_go, ctlF Fld.STEWARD.STW_CMD.avs_commit_go] },
  { offset := 0x1008, dims := [], scope := none, scopeDims := 0, half := 0,
    fields := [roF Fld.STEWARD.STW_FW_A.version 0] },
  { offset := 0x100c, dims := [], scope := none, scopeDims := 0, half := 0,
    fields := [roF Fld.STEWARD.STW_FW_B.version 0] },
  { offset := 0x1010, dims := [], scope := none, scopeDims := 0, half := 0,
    fields := [stageF Fld.STEWARD.AVS_CFG.floor 0x2bc, stageF Fld.STEWARD.AVS_CFG.ceiling 0x352, stageF Fld.STEWARD.AVS_CFG.avs_en 1] },
  { offset := 0x1014, dims := [], scope := none, scopeDims := 0, half := 0,
    fields := [roF Fld.STEWARD.AVS_STATE.vcore 0x352, roF Fld.STEWARD.AVS_STATE.margin 0] },
  { offset := 0x1018, dims := [], scope := none, scopeDims := 0, half := 0,
    fields := [roF Fld.STEWARD.AVS_MIN_UNIT.block 0, roF Fld.STEWARD.AVS_MIN_UNIT.inst 0] },
  { offset := 0x101c, dims := [], scope := none, scopeDims := 0, half := 0,
    fields := [cntF Fld.STEWARD.AVS_STEP_CNT.count 0] },
  { offset := 0x1020, dims := [], scope := none, scopeDims := 0, half := 0,
    fields := [cntF Fld.STEWARD.TAKEOVER_CNT.count 0] }]

/-- The registers of block STEWARD beyond the header (R517). -/
def rows_STEWARD : List RegRow := rows_STEWARD_0

def rows_NIB_0 : List RegRow := [
  { offset := 0x1000, dims := [(12, 0x100)], scope := none, scopeDims := 0, half := 0,
    fields := [ctlF Fld.NIB.PROG_CTL.stop_go, ctlF Fld.NIB.PROG_CTL.restart_go] },
  { offset := 0x1004, dims := [(12, 0x100)], scope := none, scopeDims := 0, half := 0,
    fields := [staF Fld.NIB.PROG_STA.EXC, staF Fld.NIB.PROG_STA.HALTED, staF Fld.NIB.PROG_STA.MOVED, staF Fld.NIB.PROG_STA.SEQ] },
  { offset := 0x1008, dims := [(12, 0x100)], scope := none, scopeDims := 0, half := 0,
    fields := [roF Fld.NIB.PROG_STATE.state 0, roF Fld.NIB.PROG_STATE.in_loopm 0, roF Fld.NIB.PROG_STATE.rrb 0] },
  { offset := 0x100c, dims := [(12, 0x100)], scope := none, scopeDims := 0, half := 0,
    fields := [roF Fld.NIB.PROG_PC.pc 0] },
  { offset := 0x1010, dims := [(12, 0x100)], scope := none, scopeDims := 0, half := 0,
    fields := [roF Fld.NIB.PROG_CAUSE.cause 0, roF Fld.NIB.PROG_CAUSE.epc 0] },
  { offset := 0x1014, dims := [(12, 0x100)], scope := none, scopeDims := 0, half := 1,
    fields := [cntF Fld.NIB.PROG_ICNT_LO.icnt 0] },
  { offset := 0x1018, dims := [(12, 0x100)], scope := none, scopeDims := 0, half := 2,
    fields := [cntF Fld.NIB.PROG_ICNT_HI.icnt 0] },
  { offset := 0x101c, dims := [(12, 0x100)], scope := none, scopeDims := 0, half := 0,
    fields := [cntF Fld.NIB.PROG_IGN_CNT.count 0] },
  { offset := 0x1020, dims := [(12, 0x100)], scope := none, scopeDims := 0, half := 0,
    fields := [cntF Fld.NIB.PROG_TIMEOUT_CNT.count 0] },
  { offset := 0x1024, dims := [(12, 0x100)], scope := none, scopeDims := 0, half := 0,
    fields := [roF Fld.NIB.PROG_IMAGE_CRC.crc 0] },
  { offset := 0x1c00, dims := [], scope := none, scopeDims := 0, half := 0,
    fields := [roF Fld.NIB.ADMIT_LAST.code 0, roF Fld.NIB.ADMIT_LAST.arg 0] },
  { offset := 0x1c04, dims := [], scope := none, scopeDims := 0, half := 0,
    fields := [cntF Fld.NIB.ADMIT_REFUSE_CNT.count 0] }]

def rows_NIB_1 : List RegRow := [
  { offset := 0x1c08, dims := [], scope := none, scopeDims := 0, half := 0,
    fields := [cntF Fld.NIB.ECC_CORR_CNT.count 0] }]

/-- The registers of block NIB beyond the header (R104, R106). -/
def rows_NIB : List RegRow := rows_NIB_0 ++ rows_NIB_1

def rows_BRUSH_0 : List RegRow := [
  { offset := 0x1000, dims := [(40, 64)], scope := some .core, scopeDims := 1, half := 0,
    fields := [roF Fld.BRUSH.CORE_STATE.state 0, roF Fld.BRUSH.CORE_STATE.kernel 0, roF Fld.BRUSH.CORE_STATE.template 0, roF Fld.BRUSH.CORE_STATE.slot 0] },
  { offset := 0x1004, dims := [(40, 64)], scope := some .core, scopeDims := 1, half := 0,
    fields := [roF Fld.BRUSH.CORE_PC.pc 0] },
  { offset := 0x1008, dims := [(40, 64)], scope := some .core, scopeDims := 1, half := 0,
    fields := [roF Fld.BRUSH.CORE_FLAGS.flags 0] },
  { offset := 0x100c, dims := [(40, 64)], scope := some .core, scopeDims := 1, half := 0,
    fields := [cntF Fld.BRUSH.CORE_INV_CNT.count 0] },
  { offset := 0x1010, dims := [(40, 64)], scope := some .core, scopeDims := 1, half := 1,
    fields := [cntF Fld.BRUSH.CORE_ICNT_LO.count 0] },
  { offset := 0x1014, dims := [(40, 64)], scope := some .core, scopeDims := 1, half := 2,
    fields := [cntF Fld.BRUSH.CORE_ICNT_HI.count 0] },
  { offset := 0x1018, dims := [(40, 64)], scope := some .core, scopeDims := 1, half := 0,
    fields := [cntF Fld.BRUSH.CORE_ECC_CNT.count 0] },
  { offset := 0x4000, dims := [(256, 64)], scope := none, scopeDims := 0, half := 0,
    fields := [roF Fld.BRUSH.KRN_STATE.loaded 0, roF Fld.BRUSH.KRN_STATE.builtin 0, roF Fld.BRUSH.KRN_STATE.signed 0, roF Fld.BRUSH.KRN_STATE.cores 0, roF Fld.BRUSH.KRN_STATE.queued 0] },
  { offset := 0x4004, dims := [(256, 64)], scope := none, scopeDims := 0, half := 0,
    fields := [roF Fld.BRUSH.KRN_WC_BASE.base 0] },
  { offset := 0x4008, dims := [(256, 64)], scope := none, scopeDims := 0, half := 0,
    fields := [roF Fld.BRUSH.KRN_WC_VEC.vec 0, roF Fld.BRUSH.KRN_WC_VEC.outmax 0] },
  { offset := 0x400c, dims := [(256, 64)], scope := none, scopeDims := 0, half := 0,
    fields := [roF Fld.BRUSH.KRN_CRC.crc 0] },
  { offset := 0x4010, dims := [(256, 64)], scope := none, scopeDims := 0, half := 0,
    fields := [cntF Fld.BRUSH.KRN_RUN_CNT.count 0] }]

def rows_BRUSH_1 : List RegRow := [
  { offset := 0x4014, dims := [(256, 64)], scope := none, scopeDims := 0, half := 0,
    fields := [cntF Fld.BRUSH.KRN_CANCEL_CNT.count 0] },
  { offset := 0x4018, dims := [(256, 64)], scope := none, scopeDims := 0, half := 0,
    fields := [cntF Fld.BRUSH.KRN_TIME_CNT.count 0] },
  { offset := 0x401c, dims := [(256, 64)], scope := none, scopeDims := 0, half := 0,
    fields := [cntF Fld.BRUSH.KRN_FAULT_CNT.count 0] },
  { offset := 0x4020, dims := [(256, 64)], scope := none, scopeDims := 0, half := 0,
    fields := [roF Fld.BRUSH.KRN_LAST_FAULT.cause 0, roF Fld.BRUSH.KRN_LAST_FAULT.addr 0] },
  { offset := 0x4024, dims := [(256, 64)], scope := none, scopeDims := 0, half := 0,
    fields := [cntF Fld.BRUSH.KRN_OUTDROP_CNT.count 0] },
  { offset := 0x3000, dims := [], scope := none, scopeDims := 0, half := 0,
    fields := [roF Fld.BRUSH.BR_LOAD_LAST.code 0, roF Fld.BRUSH.BR_LOAD_LAST.arg 0] }]

/-- The registers of block BRUSH beyond the header (R383, R384). -/
def rows_BRUSH : List RegRow := rows_BRUSH_0 ++ rows_BRUSH_1

def rows_FLANE_0 : List RegRow := [
  { offset := 0x1000, dims := [(8, 0x400)], scope := some .port, scopeDims := 1, half := 0,
    fields := [cfgF Fld.FLANE.PORT_CFG.mode 0, cfgF Fld.FLANE.PORT_CFG.spare_en 1, cfgF Fld.FLANE.PORT_CFG.fallback_en 1] },
  { offset := 0x1004, dims := [(8, 0x400)], scope := some .port, scopeDims := 1, half := 0,
    fields := [ctlF Fld.FLANE.PORT_CMD.restore_go, ctlF Fld.FLANE.PORT_CMD.retrain_go] },
  { offset := 0x1008, dims := [(8, 0x400)], scope := some .port, scopeDims := 1, half := 0,
    fields := [staF Fld.FLANE.PORT_STA.LANE_FAIL, staF Fld.FLANE.PORT_STA.RESTRIPED, staF Fld.FLANE.PORT_STA.FALLBACK, staF Fld.FLANE.PORT_STA.DOWN, staF Fld.FLANE.PORT_STA.SKEW, staF Fld.FLANE.PORT_STA.SEQ] },
  { offset := 0x100c, dims := [(8, 0x400)], scope := some .port, scopeDims := 1, half := 0,
    fields := [roF Fld.FLANE.PORT_STATE.state 0, roF Fld.FLANE.PORT_STATE.spare_ready 0, roF Fld.FLANE.PORT_STATE.skew 0] },
  { offset := 0x1010, dims := [(8, 0x400)], scope := some .port, scopeDims := 1, half := 0,
    fields := [roF Fld.FLANE.RX_MAP.slots 0xfff, roF Fld.FLANE.RX_MAP.spare 7, roF Fld.FLANE.RX_MAP.reversed 0] },
  { offset := 0x1014, dims := [(8, 0x400)], scope := some .port, scopeDims := 1, half := 0,
    fields := [roF Fld.FLANE.TX_MAP.map 0x7fff] },
  { offset := 0x1018, dims := [(8, 0x400)], scope := some .port, scopeDims := 1, half := 0,
    fields := [cntF Fld.FLANE.FRAME_DROP_CNT.count 0] },
  { offset := 0x101c, dims := [(8, 0x400)], scope := some .port, scopeDims := 1, half := 0,
    fields := [cntF Fld.FLANE.TYPE_DROP_CNT.count 0] },
  { offset := 0x1020, dims := [(8, 0x400)], scope := some .port, scopeDims := 1, half := 0,
    fields := [cntF Fld.FLANE.LATE_DROP_CNT.count 0] },
  { offset := 0x1024, dims := [(8, 0x400)], scope := some .port, scopeDims := 1, half := 0,
    fields := [cntF Fld.FLANE.LANE_GAP_CNT.count 0] },
  { offset := 0x1100, dims := [(8, 0x400), (5, 64)], scope := some .port, scopeDims := 1, half := 0,
    fields := [roF Fld.FLANE.LANE_STATE.state 0, roF Fld.FLANE.LANE_STATE.los 1, roF Fld.FLANE.LANE_STATE.lock 0, roF Fld.FLANE.LANE_STATE.inverted 0, roF Fld.FLANE.LANE_STATE.far_index 7] },
  { offset := 0x1104, dims := [(8, 0x400), (5, 64)], scope := some .port, scopeDims := 1, half := 0,
    fields := [staF Fld.FLANE.LANE_STA.LOS, staF Fld.FLANE.LANE_STA.LOL, staF Fld.FLANE.LANE_STA.POL_FLIP, staF Fld.FLANE.LANE_STA.STUFF_ERR, staF Fld.FLANE.LANE_STA.HDR_ERR, staF Fld.FLANE.LANE_STA.DFE_RAIL, staF Fld.FLANE.LANE_STA.TEST_REFUSED, staF Fld.FLANE.LANE_STA.TEST_ABORT, staF Fld.FLANE.LANE_STA.SEQ] }]

def rows_FLANE_1 : List RegRow := [
  { offset := 0x1108, dims := [(8, 0x400), (5, 64)], scope := some .port, scopeDims := 1, half := 0,
    fields := [stageF Fld.FLANE.LANE_ADAPT.hold 0, stageF Fld.FLANE.LANE_ADAPT.rate 4] },
  { offset := 0x110c, dims := [(8, 0x400), (5, 64)], scope := some .port, scopeDims := 1, half := 0,
    fields := [roF Fld.FLANE.DFE_TAPS_A.taps1_4 0] },
  { offset := 0x1110, dims := [(8, 0x400), (5, 64)], scope := some .port, scopeDims := 1, half := 0,
    fields := [roF Fld.FLANE.DFE_TAPS_B.taps5_6 0] },
  { offset := 0x1114, dims := [(8, 0x400), (5, 64)], scope := some .port, scopeDims := 1, half := 0,
    fields := [roF Fld.FLANE.LANE_EYE.width 0, roF Fld.FLANE.LANE_EYE.height 0] },
  { offset := 0x1118, dims := [(8, 0x400), (5, 64)], scope := some .port, scopeDims := 1, half := 0,
    fields := [roF Fld.FLANE.LANE_OPT.power 0] },
  { offset := 0x111c, dims := [(8, 0x400), (5, 64)], scope := some .port, scopeDims := 1, half := 0,
    fields := [cntF Fld.FLANE.SYNC_MISS_CNT.count 0] },
  { offset := 0x1120, dims := [(8, 0x400), (5, 64)], scope := some .laneTest, scopeDims := 2, half := 0,
    fields := [cfgF Fld.FLANE.TEST_CFG.pattern 0, cfgF Fld.FLANE.TEST_CFG.gen_en 0, cfgF Fld.FLANE.TEST_CFG.chk_en 0] },
  { offset := 0x1124, dims := [(8, 0x400), (5, 64)], scope := some .laneTest, scopeDims := 2, half := 0,
    fields := [stageF Fld.FLANE.TEST_INJ.rate_en 0, stageF Fld.FLANE.TEST_INJ.rate_exp 8, stageF Fld.FLANE.TEST_INJ.burst 1] },
  { offset := 0x1128, dims := [(8, 0x400), (5, 64)], scope := some .laneTest, scopeDims := 2, half := 0,
    fields := [ctlF Fld.FLANE.TEST_CMD.single_go, ctlF Fld.FLANE.TEST_CMD.burst_go, ctlF Fld.FLANE.TEST_CMD.test_enable_go, ctlF Fld.FLANE.TEST_CMD.test_disable_go] },
  { offset := 0x112c, dims := [(8, 0x400), (5, 64)], scope := some .laneTest, scopeDims := 2, half := 0,
    fields := [roF Fld.FLANE.TEST_STATE.chk_lock 0] },
  { offset := 0x1130, dims := [(8, 0x400), (5, 64)], scope := some .laneTest, scopeDims := 2, half := 1,
    fields := [cntF Fld.FLANE.TEST_ERR_LO.errors 0] },
  { offset := 0x1134, dims := [(8, 0x400), (5, 64)], scope := some .laneTest, scopeDims := 2, half := 2,
    fields := [cntF Fld.FLANE.TEST_ERR_HI.errors 0] }]

def rows_FLANE_2 : List RegRow := [
  { offset := 0x1138, dims := [(8, 0x400), (5, 64)], scope := some .laneTest, scopeDims := 2, half := 1,
    fields := [cntF Fld.FLANE.TEST_BITS_LO.bits 0] },
  { offset := 0x113c, dims := [(8, 0x400), (5, 64)], scope := some .laneTest, scopeDims := 2, half := 2,
    fields := [cntF Fld.FLANE.TEST_BITS_HI.bits 0] }]

/-- The registers of block FLANE beyond the header (R139, R140). -/
def rows_FLANE : List RegRow := rows_FLANE_0 ++ rows_FLANE_1 ++ rows_FLANE_2

def rows_FLINK_0 : List RegRow := [
  { offset := 0x1000, dims := [(8, 0x400)], scope := some .port, scopeDims := 1, half := 0,
    fields := [cfgF Fld.FLINK.LINK_CFG.standby_en 0, cfgF Fld.FLINK.LINK_CFG.standby_for 0, cfgF Fld.FLINK.LINK_CFG.take_down 1, cfgF Fld.FLINK.LINK_CFG.take_eol 0] },
  { offset := 0x1004, dims := [(8, 0x400)], scope := some .port, scopeDims := 1, half := 0,
    fields := [stageF Fld.FLINK.LINK_ASYM.asym 0] },
  { offset := 0x1008, dims := [(8, 0x400)], scope := some .port, scopeDims := 1, half := 0,
    fields := [ctlF Fld.FLINK.LINK_CMD.id_req_go, ctlF Fld.FLINK.LINK_CMD.image_activate_go, ctlF Fld.FLINK.LINK_CMD.takeover_go, ctlF Fld.FLINK.LINK_CMD.revert_go, ctlF Fld.FLINK.LINK_CMD.rtt_reset_go] },
  { offset := 0x100c, dims := [(8, 0x400)], scope := some .port, scopeDims := 1, half := 0,
    fields := [staF Fld.FLINK.LINK_STA.HEAD_NEW, staF Fld.FLINK.LINK_STA.HEAD_WARN, staF Fld.FLINK.LINK_STA.HEAD_EOL, staF Fld.FLINK.LINK_STA.HEAD_ALARM, staF Fld.FLINK.LINK_STA.MSG_FAIL, staF Fld.FLINK.LINK_STA.HEAD_REFUSED, staF Fld.FLINK.LINK_STA.HEAD_SILENT, staF Fld.FLINK.LINK_STA.TAKEOVER, staF Fld.FLINK.LINK_STA.IMAGE_DONE, staF Fld.FLINK.LINK_STA.IMAGE_FAIL, staF Fld.FLINK.LINK_STA.DELAY_STEP, staF Fld.FLINK.LINK_STA.SEQ] },
  { offset := 0x1010, dims := [(8, 0x400)], scope := some .port, scopeDims := 1, half := 0,
    fields := [roF Fld.FLINK.HEAD_STATE.state 0, roF Fld.FLINK.HEAD_STATE.warn 0, roF Fld.FLINK.HEAD_STATE.eol 0, roF Fld.FLINK.HEAD_STATE.refuse 0] },
  { offset := 0x1014, dims := [(8, 0x400)], scope := some .port, scopeDims := 1, half := 0,
    fields := [roF Fld.FLINK.HEAD_UID_LO.uid 0] },
  { offset := 0x1018, dims := [(8, 0x400)], scope := some .port, scopeDims := 1, half := 0,
    fields := [roF Fld.FLINK.HEAD_UID_HI.uid 0] },
  { offset := 0x101c, dims := [(8, 0x400)], scope := some .port, scopeDims := 1, half := 0,
    fields := [roF Fld.FLINK.HEAD_MODEL.model_build 0] },
  { offset := 0x1020, dims := [(8, 0x400)], scope := some .port, scopeDims := 1, half := 0,
    fields := [roF Fld.FLINK.HEAD_FW.fw 0] },
  { offset := 0x1024, dims := [(8, 0x400)], scope := some .port, scopeDims := 1, half := 0,
    fields := [roF Fld.FLINK.HEAD_LAT.lat 0] },
  { offset := 0x1028, dims := [(8, 0x400)], scope := some .port, scopeDims := 1, half := 0,
    fields := [roF Fld.FLINK.LIFE_DOSE.dose 0] },
  { offset := 0x102c, dims := [(8, 0x400)], scope := some .port, scopeDims := 1, half := 0,
    fields := [roF Fld.FLINK.LIFE_OVL.ovl 0] }]

def rows_FLINK_1 : List RegRow := [
  { offset := 0x1030, dims := [(8, 0x400)], scope := some .port, scopeDims := 1, half := 0,
    fields := [roF Fld.FLINK.LIFE_HOURS.hours 0] },
  { offset := 0x1034, dims := [(8, 0x400)], scope := some .port, scopeDims := 1, half := 0,
    fields := [roF Fld.FLINK.LIFE_MATE.mate 0] },
  { offset := 0x1038, dims := [(8, 0x400)], scope := some .port, scopeDims := 1, half := 0,
    fields := [roF Fld.FLINK.LIFE_PCT.pct 0] },
  { offset := 0x103c, dims := [(8, 0x400)], scope := some .port, scopeDims := 1, half := 0,
    fields := [roF Fld.FLINK.ALARM_LAST.code 0, roF Fld.FLINK.ALARM_LAST.severity 0] },
  { offset := 0x1040, dims := [(8, 0x400)], scope := some .port, scopeDims := 1, half := 0,
    fields := [roF Fld.FLINK.DELAY.d 0] },
  { offset := 0x1044, dims := [(8, 0x400)], scope := some .port, scopeDims := 1, half := 0,
    fields := [roF Fld.FLINK.RTT_LAST.rtt 0] },
  { offset := 0x1048, dims := [(8, 0x400)], scope := some .port, scopeDims := 1, half := 0,
    fields := [cntF Fld.FLINK.MSG_DROP_CNT.count 0] },
  { offset := 0x104c, dims := [(8, 0x400)], scope := some .port, scopeDims := 1, half := 0,
    fields := [cntF Fld.FLINK.MSG_BAD_CNT.count 0] },
  { offset := 0x1050, dims := [(8, 0x400)], scope := some .port, scopeDims := 1, half := 0,
    fields := [cntF Fld.FLINK.TAG_DROP_CNT.count 0] },
  { offset := 0x1054, dims := [(8, 0x400)], scope := some .port, scopeDims := 1, half := 0,
    fields := [cntF Fld.FLINK.RETX_CNT.count 0] },
  { offset := 0x1058, dims := [(8, 0x400)], scope := some .port, scopeDims := 1, half := 0,
    fields := [cntF Fld.FLINK.RTT_OUTLIER_CNT.count 0] },
  { offset := 0x105c, dims := [(8, 0x400)], scope := some .port, scopeDims := 1, half := 0,
    fields := [roF Fld.FLINK.STBY_OFFSET.offset 0] }]

def rows_FLINK_2 : List RegRow := [
  { offset := 0x1060, dims := [(8, 0x400)], scope := some .port, scopeDims := 1, half := 0,
    fields := [roF Fld.FLINK.CAL_ADDR.addr 0] }]

/-- The registers of block FLINK beyond the header (R169). -/
def rows_FLINK : List RegRow := rows_FLINK_0 ++ rows_FLINK_1 ++ rows_FLINK_2

def rows_CLK_0 : List RegRow := [
  { offset := 0x1000, dims := [(4, 0x800)], scope := some .synth, scopeDims := 1, half := 0,
    fields := [cfgF Fld.CLK.PLL_CFG.ref_sel 0, cfgF Fld.CLK.PLL_CFG.ref_auto 1, cfgF Fld.CLK.PLL_CFG.rdiv 0, cfgF Fld.CLK.PLL_CFG.dither_en 0, cfgF Fld.CLK.PLL_CFG.pair_lock 1] },
  { offset := 0x1004, dims := [(4, 0x800)], scope := some .synth, scopeDims := 1, half := 0,
    fields := [cfgF Fld.CLK.PLL_NINT.nint 96] },
  { offset := 0x1008, dims := [(4, 0x800)], scope := some .synth, scopeDims := 1, half := 0,
    fields := [cfgF Fld.CLK.PLL_NFRAC.nfrac 0] },
  { offset := 0x100c, dims := [(4, 0x800)], scope := some .synth, scopeDims := 1, half := 0,
    fields := [cfgF Fld.CLK.PLL_SEED.seed 1] },
  { offset := 0x1010, dims := [(4, 0x800)], scope := some .synth, scopeDims := 1, half := 0,
    fields := [cfgF Fld.CLK.PLL_SETTLE.count 0x1000] },
  { offset := 0x1014, dims := [(4, 0x800)], scope := some .synth, scopeDims := 1, half := 0,
    fields := [ctlF Fld.CLK.PLL_CMD.enable_go, ctlF Fld.CLK.PLL_CMD.disable_go, ctlF Fld.CLK.PLL_CMD.twin_swap_go, ctlF Fld.CLK.PLL_CMD.ref_revert_go] },
  { offset := 0x1018, dims := [(4, 0x800)], scope := some .synth, scopeDims := 1, half := 0,
    fields := [staF Fld.CLK.PLL_STA.LOL, staF Fld.CLK.PLL_STA.LOCKED, staF Fld.CLK.PLL_STA.TWIN_SWAP, staF Fld.CLK.PLL_STA.STOPPED, staF Fld.CLK.PLL_STA.HOLDOVER, staF Fld.CLK.PLL_STA.REF_LOSS, staF Fld.CLK.PLL_STA.REF_SWITCH, staF Fld.CLK.PLL_STA.BAND_NONE, staF Fld.CLK.PLL_STA.DELAY_REFUSED, staF Fld.CLK.PLL_STA.REF_LOOP, staF Fld.CLK.PLL_STA.RUNT, staF Fld.CLK.PLL_STA.SEQ] },
  { offset := 0x101c, dims := [(4, 0x800)], scope := some .synth, scopeDims := 1, half := 0,
    fields := [roF Fld.CLK.PLL_STATE.state 0, roF Fld.CLK.PLL_STATE.core 0, roF Fld.CLK.PLL_STATE.twin_locked 0, roF Fld.CLK.PLL_STATE.ref_in_use 0, roF Fld.CLK.PLL_STATE.override 0, roF Fld.CLK.PLL_STATE.band 0] },
  { offset := 0x1020, dims := [(4, 0x800)], scope := some .synth, scopeDims := 1, half := 0,
    fields := [roF Fld.CLK.PLL_MEAS.fvco 0] },
  { offset := 0x1024, dims := [(4, 0x800)], scope := some .synth, scopeDims := 1, half := 0,
    fields := [roF Fld.CLK.PLL_PHERR.pherr 0] },
  { offset := 0x1028, dims := [(4, 0x800)], scope := some .synth, scopeDims := 1, half := 0,
    fields := [cntF Fld.CLK.LOL_CNT.count 0] },
  { offset := 0x102c, dims := [(4, 0x800)], scope := some .synth, scopeDims := 1, half := 0,
    fields := [cntF Fld.CLK.SWAP_CNT.count 0] }]

def rows_CLK_1 : List RegRow := [
  { offset := 0x1030, dims := [(4, 0x800)], scope := some .synth, scopeDims := 1, half := 0,
    fields := [cntF Fld.CLK.RUNT_CNT.count 0] },
  { offset := 0x1100, dims := [(4, 0x800), (64, 4)], scope := some .synth, scopeDims := 1, half := 0,
    fields := [cfgF Fld.CLK.BAND.fmin 0, cfgF Fld.CLK.BAND.fmax 0] },
  { offset := 0x1200, dims := [(4, 0x800), (8, 16)], scope := some .clkOut, scopeDims := 2, half := 0,
    fields := [cfgF Fld.CLK.OUT_CFG.div 0] },
  { offset := 0x1204, dims := [(4, 0x800), (8, 16)], scope := some .clkOut, scopeDims := 2, half := 0,
    fields := [stageF Fld.CLK.OUT_DELAY.delay 0] },
  { offset := 0x1208, dims := [(4, 0x800), (8, 16)], scope := some .clkOut, scopeDims := 2, half := 0,
    fields := [ctlF Fld.CLK.OUT_CMD.enable_go, ctlF Fld.CLK.OUT_CMD.disable_go] },
  { offset := 0x120c, dims := [(4, 0x800), (8, 16)], scope := some .clkOut, scopeDims := 2, half := 0,
    fields := [roF Fld.CLK.OUT_STATE.running 0, roF Fld.CLK.OUT_STATE.delay_now 0] },
  { offset := 0x3000, dims := [], scope := none, scopeDims := 0, half := 0,
    fields := [roF Fld.CLK.DOMAIN_RUN.run 0x1000] }]

/-- The registers of block CLK beyond the header (R195, R196). -/
def rows_CLK : List RegRow := rows_CLK_0 ++ rows_CLK_1

def rows_TIME_0 : List RegRow := [
  { offset := 0x1000, dims := [], scope := none, scopeDims := 0, half := 0,
    fields := [ctlF Fld.TIME.TIME_CMD.snap_go, ctlF Fld.TIME.TIME_CMD.incr_commit_go, ctlF Fld.TIME.TIME_CMD.once_go, ctlF Fld.TIME.TIME_CMD.tbm_commit_go] },
  { offset := 0x1004, dims := [], scope := none, scopeDims := 0, half := 0,
    fields := [roF Fld.TIME.TIME_STATE.tbw_set 0, roF Fld.TIME.TIME_STATE.tbm_holdover 0, roF Fld.TIME.TIME_STATE.tbm_stopped 0, roF Fld.TIME.TIME_STATE.tbm_estimated 0, roF Fld.TIME.TIME_STATE.track_hold 1] },
  { offset := 0x1008, dims := [], scope := none, scopeDims := 0, half := 0,
    fields := [roF Fld.TIME.SNAP_SEQ.seq 0] },
  { offset := 0x1010, dims := [], scope := none, scopeDims := 0, half := 0,
    fields := [roF Fld.TIME.SNAP_TBS_LO.tbs 0] },
  { offset := 0x1014, dims := [], scope := none, scopeDims := 0, half := 0,
    fields := [roF Fld.TIME.SNAP_TBS_HI.tbs 0] },
  { offset := 0x1018, dims := [], scope := none, scopeDims := 0, half := 0,
    fields := [roF Fld.TIME.SNAP_TBM_LO.tbm 0] },
  { offset := 0x101c, dims := [], scope := none, scopeDims := 0, half := 0,
    fields := [roF Fld.TIME.SNAP_TBM_HI.tbm 0] },
  { offset := 0x1020, dims := [], scope := none, scopeDims := 0, half := 0,
    fields := [roF Fld.TIME.SNAP_TBW_LO.ns 0] },
  { offset := 0x1024, dims := [], scope := none, scopeDims := 0, half := 0,
    fields := [roF Fld.TIME.SNAP_TBW_HI.ns 0] },
  { offset := 0x1028, dims := [], scope := none, scopeDims := 0, half := 0,
    fields := [roF Fld.TIME.SNAP_FLAGS.frac 0, roF Fld.TIME.SNAP_FLAGS.holdover 0, roF Fld.TIME.SNAP_FLAGS.estimated 0] },
  { offset := 0x1030, dims := [], scope := none, scopeDims := 0, half := 0,
    fields := [stageF Fld.TIME.TB_W_INCR_LO.frac 0] },
  { offset := 0x1034, dims := [], scope := none, scopeDims := 0, half := 0,
    fields := [stageF Fld.TIME.TB_W_INCR_HI.ns 10] }]

def rows_TIME_1 : List RegRow := [
  { offset := 0x1038, dims := [], scope := none, scopeDims := 0, half := 0,
    fields := [stageF Fld.TIME.TB_W_ONCE_LO.ns 0] },
  { offset := 0x103c, dims := [], scope := none, scopeDims := 0, half := 0,
    fields := [stageF Fld.TIME.TB_W_ONCE_HI.ns 0] },
  { offset := 0x1040, dims := [], scope := none, scopeDims := 0, half := 0,
    fields := [stageF Fld.TIME.TB_W_ONCE_FRAC.frac 0] },
  { offset := 0x1050, dims := [], scope := none, scopeDims := 0, half := 0,
    fields := [cfgF Fld.TIME.TBM_CFG.mpb 0, cfgF Fld.TIME.TBM_CFG.fid_sel 0, cfgF Fld.TIME.TBM_CFG.fid_realign 0] },
  { offset := 0x1054, dims := [], scope := none, scopeDims := 0, half := 0,
    fields := [cfgF Fld.TIME.TBM_HARM.harmonic 1, cfgF Fld.TIME.TBM_HARM.fid_bucket 0] },
  { offset := 0x1058, dims := [], scope := none, scopeDims := 0, half := 0,
    fields := [stageF Fld.TIME.TBM_TURN_LOAD_LO.turn 0] },
  { offset := 0x105c, dims := [], scope := none, scopeDims := 0, half := 0,
    fields := [stageF Fld.TIME.TBM_TURN_LOAD_HI.turn 0] },
  { offset := 0x1060, dims := [], scope := none, scopeDims := 0, half := 0,
    fields := [cntF Fld.TIME.TBM_SLIP_CNT.count 0] },
  { offset := 0x1070, dims := [], scope := none, scopeDims := 0, half := 0,
    fields := [cfgF Fld.TIME.PPS_CFG.out_en 0, cfgF Fld.TIME.PPS_CFG.in_en 0, cfgF Fld.TIME.PPS_CFG.width_us 0x186a0] },
  { offset := 0x1074, dims := [], scope := none, scopeDims := 0, half := 0,
    fields := [roF Fld.TIME.PPS_IN_TBW_LO.ns 0] },
  { offset := 0x1078, dims := [], scope := none, scopeDims := 0, half := 0,
    fields := [roF Fld.TIME.PPS_IN_TBW_HI.ns 0] },
  { offset := 0x107c, dims := [], scope := none, scopeDims := 0, half := 0,
    fields := [roF Fld.TIME.PPS_IN_TBS_LO.tbs 0] }]

def rows_TIME_2 : List RegRow := [
  { offset := 0x1080, dims := [], scope := none, scopeDims := 0, half := 0,
    fields := [roF Fld.TIME.PPS_IN_TBS_HI.tbs 0] },
  { offset := 0x1084, dims := [], scope := none, scopeDims := 0, half := 0,
    fields := [cntF Fld.TIME.PPS_IN_EARLY_CNT.count 0] },
  { offset := 0x3200, dims := [], scope := none, scopeDims := 0, half := 0,
    fields := [cfgF Fld.TIME.TRACK_CFG.track_en 0] },
  { offset := 0x3204, dims := [], scope := none, scopeDims := 0, half := 0,
    fields := [cfgF Fld.TIME.TRACK_RATIO.num 1, cfgF Fld.TIME.TRACK_RATIO.den 1] },
  { offset := 0x3208, dims := [], scope := none, scopeDims := 0, half := 0,
    fields := [cfgF Fld.TIME.TRACK_LIMIT.rms 0x3e8] },
  { offset := 0x320c, dims := [], scope := none, scopeDims := 0, half := 0,
    fields := [roF Fld.TIME.TRACK_B_FRAC.b 0] },
  { offset := 0x3210, dims := [], scope := none, scopeDims := 0, half := 0,
    fields := [roF Fld.TIME.TRACK_B_INT.b 0] },
  { offset := 0x2000, dims := [(20, 64)], scope := some .tdc, scopeDims := 1, half := 0,
    fields := [cfgF Fld.TIME.TDC_CFG.edge 0, cfgF Fld.TIME.TDC_CFG.prescale 0, cfgF Fld.TIME.TDC_CFG.fifo_en 0] },
  { offset := 0x2004, dims := [(20, 64)], scope := some .tdc, scopeDims := 1, half := 0,
    fields := [ctlF Fld.TIME.TDC_CMD.pop_go, ctlF Fld.TIME.TDC_CMD.enable_go, ctlF Fld.TIME.TDC_CMD.disable_go] },
  { offset := 0x2008, dims := [(20, 64)], scope := some .tdc, scopeDims := 1, half := 0,
    fields := [roF Fld.TIME.TDC_LEVEL.level 0] },
  { offset := 0x200c, dims := [(20, 64)], scope := some .tdc, scopeDims := 1, half := 0,
    fields := [roF Fld.TIME.TDC_HEAD0.record 0] },
  { offset := 0x2010, dims := [(20, 64)], scope := some .tdc, scopeDims := 1, half := 0,
    fields := [roF Fld.TIME.TDC_HEAD1.record 0] }]

def rows_TIME_3 : List RegRow := [
  { offset := 0x2014, dims := [(20, 64)], scope := some .tdc, scopeDims := 1, half := 0,
    fields := [roF Fld.TIME.TDC_HEAD2.record 0] },
  { offset := 0x2018, dims := [(20, 64)], scope := some .tdc, scopeDims := 1, half := 0,
    fields := [roF Fld.TIME.TDC_HEAD3.record 0] },
  { offset := 0x201c, dims := [(20, 64)], scope := some .tdc, scopeDims := 1, half := 0,
    fields := [cntF Fld.TIME.MISSED_CNT.count 0] },
  { offset := 0x2020, dims := [(20, 64)], scope := some .tdc, scopeDims := 1, half := 0,
    fields := [cntF Fld.TIME.LOST_CNT.count 0] },
  { offset := 0x2024, dims := [(20, 64)], scope := some .tdc, scopeDims := 1, half := 0,
    fields := [roF Fld.TIME.TDC_QUAL.rms 0, roF Fld.TIME.TDC_QUAL.phys 0] },
  { offset := 0x3000, dims := [(4, 32)], scope := some .ival, scopeDims := 1, half := 0,
    fields := [cfgF Fld.TIME.IVAL_CFG.start 0, cfgF Fld.TIME.IVAL_CFG.stop 0, cfgF Fld.TIME.IVAL_CFG.timeout 0] },
  { offset := 0x3004, dims := [(4, 32)], scope := some .ival, scopeDims := 1, half := 0,
    fields := [ctlF Fld.TIME.IVAL_CMD.arm_go] },
  { offset := 0x3008, dims := [(4, 32)], scope := some .ival, scopeDims := 1, half := 0,
    fields := [roF Fld.TIME.IVAL_LO.delta 0] },
  { offset := 0x300c, dims := [(4, 32)], scope := some .ival, scopeDims := 1, half := 0,
    fields := [roF Fld.TIME.IVAL_HI.delta 0] },
  { offset := 0x3010, dims := [(4, 32)], scope := some .ival, scopeDims := 1, half := 0,
    fields := [roF Fld.TIME.IVAL_FLAGS.flags 0] },
  { offset := 0x3100, dims := [(4, 64)], scope := some .regr, scopeDims := 1, half := 0,
    fields := [cfgF Fld.TIME.FREQ_CFG.channel 0, cfgF Fld.TIME.FREQ_CFG.continuous 0] },
  { offset := 0x3104, dims := [(4, 64)], scope := some .regr, scopeDims := 1, half := 0,
    fields := [cfgF Fld.TIME.FREQ_GATE.gate 1] }]

def rows_TIME_4 : List RegRow := [
  { offset := 0x3108, dims := [(4, 64)], scope := some .regr, scopeDims := 1, half := 0,
    fields := [ctlF Fld.TIME.FREQ_CMD.start_go, ctlF Fld.TIME.FREQ_CMD.stop_go] },
  { offset := 0x310c, dims := [(4, 64)], scope := some .regr, scopeDims := 1, half := 0,
    fields := [roF Fld.TIME.RES_SEQ.seq 0] },
  { offset := 0x3110, dims := [(4, 64)], scope := some .regr, scopeDims := 1, half := 0,
    fields := [roF Fld.TIME.RES_PER_FRAC.period 0] },
  { offset := 0x3114, dims := [(4, 64)], scope := some .regr, scopeDims := 1, half := 0,
    fields := [roF Fld.TIME.RES_PER_INT.period 0] },
  { offset := 0x3118, dims := [(4, 64)], scope := some .regr, scopeDims := 1, half := 0,
    fields := [roF Fld.TIME.RES_PHASE_LO.a 0] },
  { offset := 0x311c, dims := [(4, 64)], scope := some .regr, scopeDims := 1, half := 0,
    fields := [roF Fld.TIME.RES_PHASE_HI.a 0] },
  { offset := 0x3120, dims := [(4, 64)], scope := some .regr, scopeDims := 1, half := 0,
    fields := [roF Fld.TIME.RES_RMS.rms 0] },
  { offset := 0x3124, dims := [(4, 64)], scope := some .regr, scopeDims := 1, half := 0,
    fields := [roF Fld.TIME.RES_COUNT.n 0, roF Fld.TIME.RES_COUNT.log2m 0, roF Fld.TIME.RES_COUNT.nofit 0] }]

/-- The registers of block TIME beyond the header (R225, R226, R227). -/
def rows_TIME : List RegRow := rows_TIME_0 ++ rows_TIME_1 ++ rows_TIME_2 ++ rows_TIME_3 ++ rows_TIME_4

def rows_COND_0 : List RegRow := [
  { offset := 0x1000, dims := [(8, 0x100)], scope := some .spk, scopeDims := 1, half := 0,
    fields := [cfgF Fld.COND.SPK_CFG.window 0, cfgF Fld.COND.SPK_CFG.rank_mode 0, cfgF Fld.COND.SPK_CFG.rank 1] },
  { offset := 0x1004, dims := [(8, 0x100)], scope := some .spk, scopeDims := 1, half := 0,
    fields := [stageF Fld.COND.SPK_THR.thr 0xfff] },
  { offset := 0x1008, dims := [(8, 0x100)], scope := some .spk, scopeDims := 1, half := 0,
    fields := [cfgF Fld.COND.SPK_BURST.limit 0] },
  { offset := 0x100c, dims := [(8, 0x100)], scope := some .spk, scopeDims := 1, half := 0,
    fields := [ctlF Fld.COND.SPK_CMD.enable_go, ctlF Fld.COND.SPK_CMD.disable_go, ctlF Fld.COND.SPK_CMD.commit_go] },
  { offset := 0x1010, dims := [(8, 0x100)], scope := some .spk, scopeDims := 1, half := 0,
    fields := [roF Fld.COND.SPK_LAST_A.s0 0, roF Fld.COND.SPK_LAST_A.s1 0] },
  { offset := 0x1014, dims := [(8, 0x100)], scope := some .spk, scopeDims := 1, half := 0,
    fields := [roF Fld.COND.SPK_LAST_B.s2 0, roF Fld.COND.SPK_LAST_B.s3 0] },
  { offset := 0x1018, dims := [(8, 0x100)], scope := some .spk, scopeDims := 1, half := 0,
    fields := [cntF Fld.COND.SPK_REPL_CNT.count 0] },
  { offset := 0x101c, dims := [(8, 0x100)], scope := some .spk, scopeDims := 1, half := 0,
    fields := [roF Fld.COND.SPK_STATE.enabled 0, roF Fld.COND.SPK_STATE.unsettled 0] },
  { offset := 0x2000, dims := [(32, 0x200)], scope := some .zoom, scopeDims := 1, half := 0,
    fields := [cfgF Fld.COND.ZC_CFG.tap 1, cfgF Fld.COND.ZC_CFG.cic_r 1, cfgF Fld.COND.ZC_CFG.hb1 0, cfgF Fld.COND.ZC_CFG.hb2 0, cfgF Fld.COND.ZC_CFG.fir_dec 0, cfgF Fld.COND.ZC_CFG.rs_en 0, cfgF Fld.COND.ZC_CFG.rs_mode 0, cfgF Fld.COND.ZC_CFG.rs_min 1, cfgF Fld.COND.ZC_CFG.per_bucket 0] },
  { offset := 0x2004, dims := [(32, 0x200)], scope := some .zoom, scopeDims := 1, half := 0,
    fields := [cfgF Fld.COND.ZC_IO.in_id 0, cfgF Fld.COND.ZC_IO.out_id 0] },
  { offset := 0x2008, dims := [(32, 0x200)], scope := some .zoom, scopeDims := 1, half := 0,
    fields := [stageF Fld.COND.ZC_FTW_LO.ftw 0] },
  { offset := 0x200c, dims := [(32, 0x200)], scope := some .zoom, scopeDims := 1, half := 0,
    fields := [stageF Fld.COND.ZC_FTW_HI.ftw 0, stageF Fld.COND.ZC_FTW_HI.phase 0] }]

def rows_COND_1 : List RegRow := [
  { offset := 0x2010, dims := [(32, 0x200)], scope := some .zoom, scopeDims := 1, half := 0,
    fields := [stageF Fld.COND.ZC_FIR.taps 1, stageF Fld.COND.ZC_FIR.fade 255] },
  { offset := 0x2014, dims := [(32, 0x200)], scope := some .zoom, scopeDims := 1, half := 0,
    fields := [stageF Fld.COND.ZC_RS_RATIO.ratio 0x10000000] },
  { offset := 0x2018, dims := [(32, 0x200)], scope := some .zoom, scopeDims := 1, half := 0,
    fields := [stageF Fld.COND.ZC_RS_OFFSET.offset 0] },
  { offset := 0x201c, dims := [(32, 0x200)], scope := some .zoom, scopeDims := 1, half := 0,
    fields := [cfgF Fld.COND.ZC_RS_SLEW.slew 16] },
  { offset := 0x2020, dims := [(32, 0x200)], scope := some .zoom, scopeDims := 1, half := 0,
    fields := [stageF Fld.COND.ZC_OUT.shift 0] },
  { offset := 0x2030, dims := [(32, 0x200)], scope := some .zoom, scopeDims := 1, half := 0,
    fields := [ctlF Fld.COND.ZC_CMD.enable_go, ctlF Fld.COND.ZC_CMD.disable_go, ctlF Fld.COND.ZC_CMD.commit_go] },
  { offset := 0x2034, dims := [(32, 0x200)], scope := some .zoom, scopeDims := 1, half := 0,
    fields := [staF Fld.COND.ZC_STA.COMMITTED, staF Fld.COND.ZC_STA.COEF_REFUSED, staF Fld.COND.ZC_STA.SAT, staF Fld.COND.ZC_STA.RS_RANGE, staF Fld.COND.ZC_STA.TH_UP, staF Fld.COND.ZC_STA.TH_DOWN, staF Fld.COND.ZC_STA.COEF_BUSY, staF Fld.COND.ZC_STA.CFG_REFUSED, staF Fld.COND.ZC_STA.SEQ] },
  { offset := 0x2038, dims := [(32, 0x200)], scope := some .zoom, scopeDims := 1, half := 0,
    fields := [roF Fld.COND.ZC_STATE.state 0, roF Fld.COND.ZC_STATE.bank 0, roF Fld.COND.ZC_STATE.unsettled 0] },
  { offset := 0x203c, dims := [(32, 0x200)], scope := some .zoom, scopeDims := 1, half := 0,
    fields := [roF Fld.COND.ZC_GDELAY.g2 0] },
  { offset := 0x2040, dims := [(32, 0x200)], scope := some .zoom, scopeDims := 1, half := 0,
    fields := [roF Fld.COND.ZC_SETTLE.count 0] },
  { offset := 0x2044, dims := [(32, 0x200)], scope := some .zoom, scopeDims := 1, half := 0,
    fields := [cntF Fld.COND.ZC_SAT_CNT.count 0] },
  { offset := 0x2048, dims := [(32, 0x200)], scope := some .zoom, scopeDims := 1, half := 0,
    fields := [roF Fld.COND.ZC_RS_NOW.ratio 0] }]

def rows_COND_2 : List RegRow := [
  { offset := 0x2080, dims := [(32, 0x200)], scope := some .zoom, scopeDims := 1, half := 0,
    fields := [cfgF Fld.COND.TH_CFG.mean 0, cfgF Fld.COND.TH_CFG.lm 63, cfgF Fld.COND.TH_CFG.src_sel 0, cfgF Fld.COND.TH_CFG.up_en 0, cfgF Fld.COND.TH_CFG.down_en 0] },
  { offset := 0x2084, dims := [(32, 0x200)], scope := some .zoom, scopeDims := 1, half := 0,
    fields := [stageF Fld.COND.TH_UPPER.level 0xffff, stageF Fld.COND.TH_UPPER.hyst 0] },
  { offset := 0x2088, dims := [(32, 0x200)], scope := some .zoom, scopeDims := 1, half := 0,
    fields := [stageF Fld.COND.TH_LOWER.level 0, stageF Fld.COND.TH_LOWER.hyst 0] },
  { offset := 0x208c, dims := [(32, 0x200)], scope := some .zoom, scopeDims := 1, half := 0,
    fields := [stageF Fld.COND.TH_DWELL.up 1, stageF Fld.COND.TH_DWELL.down 1] },
  { offset := 0x2090, dims := [(32, 0x200)], scope := some .zoom, scopeDims := 1, half := 0,
    fields := [roF Fld.COND.TH_STATE.up 0, roF Fld.COND.TH_STATE.down 0, roF Fld.COND.TH_STATE.power 0] },
  { offset := 0x2094, dims := [(32, 0x200)], scope := some .zoom, scopeDims := 1, half := 0,
    fields := [cntF Fld.COND.TH_UP_CNT.count 0] },
  { offset := 0x2098, dims := [(32, 0x200)], scope := some .zoom, scopeDims := 1, half := 0,
    fields := [cntF Fld.COND.TH_DOWN_CNT.count 0] },
  { offset := 0x8000, dims := [(32, 0x400), (255, 4)], scope := some .zoom, scopeDims := 1, half := 0,
    fields := [stageF Fld.COND.COEF.coef 0] }]

/-- The registers of block COND beyond the header (R254, R255). -/
def rows_COND : List RegRow := rows_COND_0 ++ rows_COND_1 ++ rows_COND_2

def rows_XFORM_0 : List RegRow := [
  { offset := 0x1000, dims := [], scope := none, scopeDims := 0, half := 0,
    fields := [roF Fld.XFORM.XF_BUDGET.slots_used 0, roF Fld.XFORM.XF_BUDGET.tiles_used 0] },
  { offset := 0x1100, dims := [(8, 64)], scope := some .win, scopeDims := 1, half := 0,
    fields := [cfgF Fld.XFORM.WIN_CFG.log2n 6] },
  { offset := 0x1104, dims := [(8, 64)], scope := some .win, scopeDims := 1, half := 0,
    fields := [cfgF Fld.XFORM.WIN_ADDR.index 0] },
  { offset := 0x1108, dims := [(8, 64)], scope := some .win, scopeDims := 1, half := 0,
    fields := [cfgF Fld.XFORM.WIN_DATA.value 0] },
  { offset := 0x110c, dims := [(8, 64)], scope := some .win, scopeDims := 1, half := 0,
    fields := [ctlF Fld.XFORM.WIN_CMD.enable_go, ctlF Fld.XFORM.WIN_CMD.disable_go] },
  { offset := 0x1110, dims := [(8, 64)], scope := some .win, scopeDims := 1, half := 0,
    fields := [roF Fld.XFORM.WIN_STATE.enabled 0, roF Fld.XFORM.WIN_STATE.users 0] },
  { offset := 0x1114, dims := [(8, 64)], scope := some .win, scopeDims := 1, half := 0,
    fields := [roF Fld.XFORM.WIN_CG.cg 0] },
  { offset := 0x1118, dims := [(8, 64)], scope := some .win, scopeDims := 1, half := 0,
    fields := [roF Fld.XFORM.WIN_ENBW.enbw 0] },
  { offset := 0x111c, dims := [(8, 64)], scope := some .win, scopeDims := 1, half := 0,
    fields := [roF Fld.XFORM.WIN_CRC.crc 0] },
  { offset := 0x2000, dims := [(128, 0x100)], scope := some .pair, scopeDims := 1, half := 0,
    fields := [cfgF Fld.XFORM.XF_CFG.stream 0, cfgF Fld.XFORM.XF_CFG.log2n 6, cfgF Fld.XFORM.XF_CFG.ov 0, cfgF Fld.XFORM.XF_CFG.det 2, cfgF Fld.XFORM.XF_CFG.res 0, cfgF Fld.XFORM.XF_CFG.align_en 0] },
  { offset := 0x2004, dims := [(128, 0x100)], scope := some .pair, scopeDims := 1, half := 0,
    fields := [stageF Fld.XFORM.XF_WIN.win 0, stageF Fld.XFORM.XF_WIN.param 0, stageF Fld.XFORM.XF_WIN.slot 0] },
  { offset := 0x2008, dims := [(128, 0x100)], scope := some .pair, scopeDims := 1, half := 0,
    fields := [stageF Fld.XFORM.XF_AVG.mode 0, stageF Fld.XFORM.XF_AVG.k 0, stageF Fld.XFORM.XF_AVG.cont 0, stageF Fld.XFORM.XF_AVG.m 0] }]

def rows_XFORM_1 : List RegRow := [
  { offset := 0x200c, dims := [(128, 0x100)], scope := some .pair, scopeDims := 1, half := 0,
    fields := [stageF Fld.XFORM.XF_BINS.lo 0, stageF Fld.XFORM.XF_BINS.hi 0xffff] },
  { offset := 0x2010, dims := [(128, 0x100)], scope := some .pair, scopeDims := 1, half := 0,
    fields := [stageF Fld.XFORM.XF_RED.red_en 0, stageF Fld.XFORM.XF_RED.op 0, stageF Fld.XFORM.XF_RED.c 0x7ff] },
  { offset := 0x2014, dims := [(128, 0x100)], scope := some .pair, scopeDims := 1, half := 0,
    fields := [cfgF Fld.XFORM.XF_ALIGN_LO.tbs 0] },
  { offset := 0x2018, dims := [(128, 0x100)], scope := some .pair, scopeDims := 1, half := 0,
    fields := [cfgF Fld.XFORM.XF_ALIGN_HI.tbs 0] },
  { offset := 0x201c, dims := [(128, 0x100)], scope := some .pair, scopeDims := 1, half := 0,
    fields := [cfgF Fld.XFORM.XF_SG_BASE.base 0] },
  { offset := 0x2020, dims := [(128, 0x100)], scope := some .pair, scopeDims := 1, half := 0,
    fields := [cfgF Fld.XFORM.XF_SG_LEN.len 0] },
  { offset := 0x2024, dims := [(128, 0x100)], scope := some .pair, scopeDims := 1, half := 0,
    fields := [ctlF Fld.XFORM.XF_CMD.enable_go, ctlF Fld.XFORM.XF_CMD.disable_go, ctlF Fld.XFORM.XF_CMD.commit_go, ctlF Fld.XFORM.XF_CMD.hold_reset_go] },
  { offset := 0x2028, dims := [(128, 0x100)], scope := some .pair, scopeDims := 1, half := 0,
    fields := [staF Fld.XFORM.XF_STA.COMMITTED, staF Fld.XFORM.XF_STA.REFUSED, staF Fld.XFORM.XF_STA.ALIGN_LATE, staF Fld.XFORM.XF_STA.SG_WRAP, staF Fld.XFORM.XF_STA.SEQ] },
  { offset := 0x202c, dims := [(128, 0x100)], scope := some .pair, scopeDims := 1, half := 0,
    fields := [roF Fld.XFORM.XF_STATE.state 0, roF Fld.XFORM.XF_STATE.avg_unsettled 0, roF Fld.XFORM.XF_STATE.fallback 0, roF Fld.XFORM.XF_STATE.slots 0, roF Fld.XFORM.XF_STATE.tiles 0] },
  { offset := 0x2030, dims := [(128, 0x100)], scope := some .pair, scopeDims := 1, half := 0,
    fields := [roF Fld.XFORM.XF_REFUSE.reason 0] },
  { offset := 0x2034, dims := [(128, 0x100)], scope := some .pair, scopeDims := 1, half := 0,
    fields := [roF Fld.XFORM.XF_SG_WPTR.wptr 0] },
  { offset := 0x2038, dims := [(128, 0x100)], scope := some .pair, scopeDims := 1, half := 0,
    fields := [cntF Fld.XFORM.XF_SG_WRAPS.count 0] }]

def rows_XFORM_2 : List RegRow := [
  { offset := 0x203c, dims := [(128, 0x100)], scope := some .pair, scopeDims := 1, half := 1,
    fields := [cntF Fld.XFORM.XF_FRAMES_LO.count 0] },
  { offset := 0x2040, dims := [(128, 0x100)], scope := some .pair, scopeDims := 1, half := 2,
    fields := [cntF Fld.XFORM.XF_FRAMES_HI.count 0] },
  { offset := 0x2044, dims := [(128, 0x100)], scope := some .pair, scopeDims := 1, half := 0,
    fields := [cntF Fld.XFORM.XF_GAP_CNT.count 0] },
  { offset := 0x2048, dims := [(128, 0x100)], scope := some .pair, scopeDims := 1, half := 0,
    fields := [roF Fld.XFORM.XF_CG.cg 0] },
  { offset := 0x204c, dims := [(128, 0x100)], scope := some .pair, scopeDims := 1, half := 0,
    fields := [roF Fld.XFORM.XF_ENBW.enbw 0] },
  { offset := 0x2050, dims := [(128, 0x100)], scope := some .pair, scopeDims := 1, half := 0,
    fields := [roF Fld.XFORM.XF_POI.poi 0] }]

/-- The registers of block XFORM beyond the header (R288, R289, R290). -/
def rows_XFORM : List RegRow := rows_XFORM_0 ++ rows_XFORM_1 ++ rows_XFORM_2

def rows_TRIG_0 : List RegRow := [
  { offset := 0x1000, dims := [(16, 64)], scope := some .mask, scopeDims := 1, half := 0,
    fields := [cfgF Fld.TRIG.MASK_CFG.pair 0] },
  { offset := 0x1004, dims := [(16, 64)], scope := some .mask, scopeDims := 1, half := 0,
    fields := [stageF Fld.TRIG.MASK_CTL.k 0, stageF Fld.TRIG.MASK_CTL.mofl 0, stageF Fld.TRIG.MASK_CTL.m 0, stageF Fld.TRIG.MASK_CTL.depth 0] },
  { offset := 0x1008, dims := [(16, 64)], scope := some .mask, scopeDims := 1, half := 0,
    fields := [ctlF Fld.TRIG.MASK_CMD.enable_go, ctlF Fld.TRIG.MASK_CMD.disable_go, ctlF Fld.TRIG.MASK_CMD.commit_go] },
  { offset := 0x100c, dims := [(16, 64)], scope := some .mask, scopeDims := 1, half := 0,
    fields := [staF Fld.TRIG.MASK_STA.COMMITTED, staF Fld.TRIG.MASK_STA.REFUSED, staF Fld.TRIG.MASK_STA.QUALIFIED, staF Fld.TRIG.MASK_STA.SEQ] },
  { offset := 0x1010, dims := [(16, 64)], scope := some .mask, scopeDims := 1, half := 0,
    fields := [roF Fld.TRIG.MASK_STATE.enabled 0, roF Fld.TRIG.MASK_STATE.active 0, roF Fld.TRIG.MASK_STATE.viol 0, roF Fld.TRIG.MASK_STATE.reason 0] },
  { offset := 0x1014, dims := [(16, 64)], scope := some .mask, scopeDims := 1, half := 0,
    fields := [cntF Fld.TRIG.MASK_VIOL_CNT.count 0] },
  { offset := 0x1018, dims := [(16, 64)], scope := some .mask, scopeDims := 1, half := 0,
    fields := [cntF Fld.TRIG.MASK_QUAL_CNT.count 0] },
  { offset := 0x8000, dims := [(16, 0x2000), (2048, 4)], scope := some .mask, scopeDims := 1, half := 0,
    fields := [stageF Fld.TRIG.MASK_ENTRY.lower 0, stageF Fld.TRIG.MASK_ENTRY.upper 0xffff] },
  { offset := 0x1800, dims := [(8, 32)], scope := some .mec, scopeDims := 1, half := 0,
    fields := [stageF Fld.TRIG.MEC_BUCKET.bucket 0] },
  { offset := 0x1804, dims := [(8, 32)], scope := some .mec, scopeDims := 1, half := 0,
    fields := [stageF Fld.TRIG.MEC_PERIOD.period 0] },
  { offset := 0x1808, dims := [(8, 32)], scope := some .mec, scopeDims := 1, half := 0,
    fields := [stageF Fld.TRIG.MEC_PHASE.phase 0] },
  { offset := 0x180c, dims := [(8, 32)], scope := some .mec, scopeDims := 1, half := 0,
    fields := [ctlF Fld.TRIG.MEC_CMD.enable_go, ctlF Fld.TRIG.MEC_CMD.disable_go, ctlF Fld.TRIG.MEC_CMD.commit_go] }]

def rows_TRIG_1 : List RegRow := [
  { offset := 0x1810, dims := [(8, 32)], scope := some .mec, scopeDims := 1, half := 0,
    fields := [cntF Fld.TRIG.MEC_CNT.count 0] },
  { offset := 0x1a00, dims := [(8, 32)], scope := some .timer, scopeDims := 1, half := 0,
    fields := [cfgF Fld.TRIG.TMR_START_LO.start 0] },
  { offset := 0x1a04, dims := [(8, 32)], scope := some .timer, scopeDims := 1, half := 0,
    fields := [cfgF Fld.TRIG.TMR_START_HI.start 0] },
  { offset := 0x1a08, dims := [(8, 32)], scope := some .timer, scopeDims := 1, half := 0,
    fields := [cfgF Fld.TRIG.TMR_PER_LO.period 0] },
  { offset := 0x1a0c, dims := [(8, 32)], scope := some .timer, scopeDims := 1, half := 0,
    fields := [cfgF Fld.TRIG.TMR_PER_HI.period 0] },
  { offset := 0x1a10, dims := [(8, 32)], scope := some .timer, scopeDims := 1, half := 0,
    fields := [cfgF Fld.TRIG.TMR_COUNT.count 0] },
  { offset := 0x1a14, dims := [(8, 32)], scope := some .timer, scopeDims := 1, half := 0,
    fields := [ctlF Fld.TRIG.TMR_CMD.enable_go, ctlF Fld.TRIG.TMR_CMD.disable_go] },
  { offset := 0x1a18, dims := [(8, 32)], scope := some .timer, scopeDims := 1, half := 0,
    fields := [cntF Fld.TRIG.TMR_FIRED.count 0] },
  { offset := 0x1c00, dims := [], scope := none, scopeDims := 0, half := 0,
    fields := [ctlF Fld.TRIG.SW_FIRE.fire] },
  { offset := 0x1c40, dims := [(4, 16)], scope := some .trigOut, scopeDims := 1, half := 0,
    fields := [cfgF Fld.TRIG.OUT_CFG.width 24, cfgF Fld.TRIG.OUT_CFG.invert 0] },
  { offset := 0x1c44, dims := [(4, 16)], scope := some .trigOut, scopeDims := 1, half := 0,
    fields := [ctlF Fld.TRIG.OUT_CMD.enable_go, ctlF Fld.TRIG.OUT_CMD.disable_go] },
  { offset := 0x1c48, dims := [(4, 16)], scope := some .trigOut, scopeDims := 1, half := 0,
    fields := [cntF Fld.TRIG.OUT_CNT.count 0] }]

def rows_TRIG_2 : List RegRow := [
  { offset := 0x1c4c, dims := [(4, 16)], scope := some .trigOut, scopeDims := 1, half := 0,
    fields := [cntF Fld.TRIG.OUT_MERGE_CNT.count 0] },
  { offset := 0x2000, dims := [(16, 0x200)], scope := some .seq, scopeDims := 1, half := 0,
    fields := [cfgF Fld.TRIG.SEQ_CFG.template 0] },
  { offset := 0x2004, dims := [(16, 0x200)], scope := some .seq, scopeDims := 1, half := 0,
    fields := [cfgF Fld.TRIG.SEQ_QLIM.qlim 0x960] },
  { offset := 0x2008, dims := [(16, 0x200)], scope := some .seq, scopeDims := 1, half := 0,
    fields := [ctlF Fld.TRIG.SEQ_CMD.enable_go, ctlF Fld.TRIG.SEQ_CMD.disable_go, ctlF Fld.TRIG.SEQ_CMD.arm_go, ctlF Fld.TRIG.SEQ_CMD.disarm_go, ctlF Fld.TRIG.SEQ_CMD.commit_go] },
  { offset := 0x200c, dims := [(16, 0x200)], scope := some .seq, scopeDims := 1, half := 0,
    fields := [staF Fld.TRIG.SEQ_STA.COMMITTED, staF Fld.TRIG.SEQ_STA.REFUSED, staF Fld.TRIG.SEQ_STA.TP_FULL, staF Fld.TRIG.SEQ_STA.TRIG_EARLY, staF Fld.TRIG.SEQ_STA.SEQ] },
  { offset := 0x2010, dims := [(16, 0x200)], scope := some .seq, scopeDims := 1, half := 0,
    fields := [roF Fld.TRIG.SEQ_STATE.state 0, roF Fld.TRIG.SEQ_STATE.armed 0, roF Fld.TRIG.SEQ_STATE.stage_wait 0, roF Fld.TRIG.SEQ_STATE.undecided 0, roF Fld.TRIG.SEQ_STATE.outstanding 0, roF Fld.TRIG.SEQ_STATE.reason 0] },
  { offset := 0x2014, dims := [(16, 0x200)], scope := some .seq, scopeDims := 1, half := 0,
    fields := [cntF Fld.TRIG.TP_OPEN_CNT.count 0] },
  { offset := 0x2018, dims := [(16, 0x200)], scope := some .seq, scopeDims := 1, half := 0,
    fields := [cntF Fld.TRIG.TP_COMMIT_CNT.count 0] },
  { offset := 0x201c, dims := [(16, 0x200)], scope := some .seq, scopeDims := 1, half := 0,
    fields := [cntF Fld.TRIG.TP_ROLLBACK_CNT.count 0] },
  { offset := 0x2020, dims := [(16, 0x200)], scope := some .seq, scopeDims := 1, half := 0,
    fields := [cntF Fld.TRIG.TRIG_EARLY_CNT.count 0] },
  { offset := 0x2024, dims := [(16, 0x200)], scope := some .seq, scopeDims := 1, half := 0,
    fields := [cntF Fld.TRIG.TP_FULL_CNT.count 0] },
  { offset := 0x2028, dims := [(16, 0x200)], scope := some .seq, scopeDims := 1, half := 0,
    fields := [roF Fld.TRIG.TP_LAST_ROLLBACK.reason 0] }]

def rows_TRIG_3 : List RegRow := [
  { offset := 0x2100, dims := [(16, 0x200), (8, 32)], scope := some .seq, scopeDims := 1, half := 0,
    fields := [stageF Fld.TRIG.ST_TERM.src 0xfffffff, stageF Fld.TRIG.ST_TERM.inv 0] },
  { offset := 0x2104, dims := [(16, 0x200), (8, 32)], scope := some .seq, scopeDims := 1, half := 0,
    fields := [stageF Fld.TRIG.ST_CTRL.op 0, stageF Fld.TRIG.ST_CTRL.count 0, stageF Fld.TRIG.ST_CTRL.next_a 0, stageF Fld.TRIG.ST_CTRL.next_t 0, stageF Fld.TRIG.ST_CTRL.act_a 0, stageF Fld.TRIG.ST_CTRL.act_t 0] },
  { offset := 0x2108, dims := [(16, 0x200), (8, 32)], scope := some .seq, scopeDims := 1, half := 0,
    fields := [stageF Fld.TRIG.ST_HOLD.holdoff 0] },
  { offset := 0x210c, dims := [(16, 0x200), (8, 32)], scope := some .seq, scopeDims := 1, half := 0,
    fields := [stageF Fld.TRIG.ST_TMO.timeout 0] },
  { offset := 0x2110, dims := [(16, 0x200), (8, 32)], scope := some .seq, scopeDims := 1, half := 0,
    fields := [stageF Fld.TRIG.ST_WIN.window 0] },
  { offset := 0x2114, dims := [(16, 0x200), (8, 32)], scope := some .seq, scopeDims := 1, half := 0,
    fields := [stageF Fld.TRIG.ST_OUTMAP.trig_out 0, stageF Fld.TRIG.ST_OUTMAP.sync 0, stageF Fld.TRIG.ST_OUTMAP.casc 0] }]

/-- The registers of block TRIG beyond the header (R324, R325, R326). -/
def rows_TRIG : List RegRow := rows_TRIG_0 ++ rows_TRIG_1 ++ rows_TRIG_2 ++ rows_TRIG_3

def rows_REC_0 : List RegRow := [
  { offset := 0x1000, dims := [(256, 32)], scope := none, scopeDims := 0, half := 0,
    fields := [roF Fld.REC.RAW_BASE.base 0] },
  { offset := 0x1004, dims := [(256, 32)], scope := none, scopeDims := 0, half := 0,
    fields := [roF Fld.REC.RAW_LEN.cells 0] },
  { offset := 0x1008, dims := [(256, 32)], scope := none, scopeDims := 0, half := 1,
    fields := [roF Fld.REC.RAW_WCELL_LO.wcell 0] },
  { offset := 0x100c, dims := [(256, 32)], scope := none, scopeDims := 0, half := 2,
    fields := [roF Fld.REC.RAW_WCELL_HI.wcell 0] },
  { offset := 0x1010, dims := [(256, 32)], scope := none, scopeDims := 0, half := 0,
    fields := [roF Fld.REC.RAW_IDX_BASE.base 0] },
  { offset := 0x1014, dims := [(256, 32)], scope := none, scopeDims := 0, half := 0,
    fields := [roF Fld.REC.RAW_IDX_LEN.entries 0] },
  { offset := 0x1018, dims := [(256, 32)], scope := none, scopeDims := 0, half := 0,
    fields := [roF Fld.REC.RAW_IDX_WPTR.count 0] },
  { offset := 0x101c, dims := [(256, 32)], scope := none, scopeDims := 0, half := 0,
    fields := [roF Fld.REC.RAW_STATE.configured 0, roF Fld.REC.RAW_STATE.shrunk 0] },
  { offset := 0x4000, dims := [(64, 0x100)], scope := some .template, scopeDims := 1, half := 0,
    fields := [cfgF Fld.REC.TPL_CFG.nstr 0, cfgF Fld.REC.TPL_CFG.policy 0, cfgF Fld.REC.TPL_CFG.exportCh 0, cfgF Fld.REC.TPL_CFG.exportEn 0, cfgF Fld.REC.TPL_CFG.disk 0, cfgF Fld.REC.TPL_CFG.disk_en 0] },
  { offset := 0x4010, dims := [(64, 0x100), (4, 16)], scope := some .template, scopeDims := 1, half := 0,
    fields := [cfgF Fld.REC.TPL_S_ID.stream 0] },
  { offset := 0x4014, dims := [(64, 0x100), (4, 16)], scope := some .template, scopeDims := 1, half := 0,
    fields := [cfgF Fld.REC.TPL_S_PRE.pre 0] },
  { offset := 0x4018, dims := [(64, 0x100), (4, 16)], scope := some .template, scopeDims := 1, half := 0,
    fields := [cfgF Fld.REC.TPL_S_POST.post 0] }]

def rows_REC_1 : List RegRow := [
  { offset := 0x4050, dims := [(64, 0x100), (8, 8)], scope := some .template, scopeDims := 1, half := 0,
    fields := [cfgF Fld.REC.TPL_SEC_A.type 0, cfgF Fld.REC.TPL_SEC_A.sidx 0, cfgF Fld.REC.TPL_SEC_A.pair 0, cfgF Fld.REC.TPL_SEC_A.kernel 0] },
  { offset := 0x4054, dims := [(64, 0x100), (8, 8)], scope := some .template, scopeDims := 1, half := 0,
    fields := [cfgF Fld.REC.TPL_SEC_B.param 0] },
  { offset := 0x4090, dims := [(64, 0x100)], scope := some .template, scopeDims := 1, half := 0,
    fields := [ctlF Fld.REC.TPL_CMD.enable_go, ctlF Fld.REC.TPL_CMD.disable_go, ctlF Fld.REC.TPL_CMD.restart_go] },
  { offset := 0x4094, dims := [(64, 0x100)], scope := some .template, scopeDims := 1, half := 0,
    fields := [staF Fld.REC.TPL_STA.REFUSED, staF Fld.REC.TPL_STA.STOPPED, staF Fld.REC.TPL_STA.THROTTLE, staF Fld.REC.TPL_STA.POISON, staF Fld.REC.TPL_STA.SEQ] },
  { offset := 0x4098, dims := [(64, 0x100)], scope := some .template, scopeDims := 1, half := 0,
    fields := [roF Fld.REC.TPL_STATE.state 0, roF Fld.REC.TPL_STATE.throttle 0, roF Fld.REC.TPL_STATE.reason 0] },
  { offset := 0x409c, dims := [(64, 0x100)], scope := some .template, scopeDims := 1, half := 1,
    fields := [roF Fld.REC.REC_SEQ_LO.seq 0] },
  { offset := 0x40a0, dims := [(64, 0x100)], scope := some .template, scopeDims := 1, half := 2,
    fields := [roF Fld.REC.REC_SEQ_HI.seq 0] },
  { offset := 0x40a4, dims := [(64, 0x100)], scope := some .template, scopeDims := 1, half := 0,
    fields := [cntF Fld.REC.REC_OUT_CNT.count 0] },
  { offset := 0x40a8, dims := [(64, 0x100)], scope := some .template, scopeDims := 1, half := 0,
    fields := [cntF Fld.REC.REC_DROP_CNT.count 0] },
  { offset := 0x40ac, dims := [(64, 0x100)], scope := some .template, scopeDims := 1, half := 0,
    fields := [roF Fld.REC.TPL_MAXLEN.bytes 0] },
  { offset := 0x40b0, dims := [(64, 0x100)], scope := some .template, scopeDims := 1, half := 0,
    fields := [cntF Fld.REC.REC_POISON_CNT.count 0] },
  { offset := 0x8000, dims := [(8, 128)], scope := some .job, scopeDims := 1, half := 0,
    fields := [cfgF Fld.REC.LB_CFG.src 0, cfgF Fld.REC.LB_CFG.out_id 0, cfgF Fld.REC.LB_CFG.zoom 0, cfgF Fld.REC.LB_CFG.xf_en 0] }]

def rows_REC_2 : List RegRow := [
  { offset := 0x8004, dims := [(8, 128)], scope := some .job, scopeDims := 1, half := 0,
    fields := [cfgF Fld.REC.LB_XF.log2n 6, cfgF Fld.REC.LB_XF.ov 0, cfgF Fld.REC.LB_XF.det 2, cfgF Fld.REC.LB_XF.win 0, cfgF Fld.REC.LB_XF.param 0, cfgF Fld.REC.LB_XF.mean 0, cfgF Fld.REC.LB_XF.m 0] },
  { offset := 0x8008, dims := [(8, 128)], scope := some .job, scopeDims := 1, half := 0,
    fields := [cfgF Fld.REC.LB_T0_LO.t0 0] },
  { offset := 0x800c, dims := [(8, 128)], scope := some .job, scopeDims := 1, half := 0,
    fields := [cfgF Fld.REC.LB_T0_HI.t0 0] },
  { offset := 0x8010, dims := [(8, 128)], scope := some .job, scopeDims := 1, half := 0,
    fields := [cfgF Fld.REC.LB_T1_LO.t1 0] },
  { offset := 0x8014, dims := [(8, 128)], scope := some .job, scopeDims := 1, half := 0,
    fields := [cfgF Fld.REC.LB_T1_HI.t1 0] },
  { offset := 0x8018, dims := [(8, 128)], scope := some .job, scopeDims := 1, half := 0,
    fields := [cfgF Fld.REC.LB_RATE.rate 0] },
  { offset := 0x801c, dims := [(8, 128)], scope := some .job, scopeDims := 1, half := 0,
    fields := [cfgF Fld.REC.LB_DEADLINE.us 0] },
  { offset := 0x8020, dims := [(8, 128)], scope := some .job, scopeDims := 1, half := 0,
    fields := [cfgF Fld.REC.LB_OUT_BASE.base 0] },
  { offset := 0x8024, dims := [(8, 128)], scope := some .job, scopeDims := 1, half := 0,
    fields := [cfgF Fld.REC.LB_OUT_LEN.len 0] },
  { offset := 0x8028, dims := [(8, 128)], scope := some .job, scopeDims := 1, half := 0,
    fields := [ctlF Fld.REC.LB_CMD.submit_go, ctlF Fld.REC.LB_CMD.cancel_go] },
  { offset := 0x802c, dims := [(8, 128)], scope := some .job, scopeDims := 1, half := 0,
    fields := [staF Fld.REC.LB_STA.DONE, staF Fld.REC.LB_STA.REFUSED, staF Fld.REC.LB_STA.OVERRUN, staF Fld.REC.LB_STA.CANCELLED, staF Fld.REC.LB_STA.SEQ] },
  { offset := 0x8030, dims := [(8, 128)], scope := some .job, scopeDims := 1, half := 0,
    fields := [roF Fld.REC.LB_STATE.state 0, roF Fld.REC.LB_STATE.reason 0, roF Fld.REC.LB_STATE.slots 0] }]

def rows_REC_3 : List RegRow := [
  { offset := 0x8034, dims := [(8, 128)], scope := some .job, scopeDims := 1, half := 0,
    fields := [roF Fld.REC.LB_BOUND.us 0] },
  { offset := 0x8038, dims := [(8, 128)], scope := some .job, scopeDims := 1, half := 0,
    fields := [roF Fld.REC.LB_WRITTEN.bytes 0] },
  { offset := 0x803c, dims := [(8, 128)], scope := some .job, scopeDims := 1, half := 0,
    fields := [roF Fld.REC.LB_FRAMES.count 0] }]

/-- The registers of block REC beyond the header (R355, R356, R357). -/
def rows_REC : List RegRow := rows_REC_0 ++ rows_REC_1 ++ rows_REC_2 ++ rows_REC_3

def rows_BLOT_0 : List RegRow := [
  { offset := 0x1000, dims := [(16, 0x100)], scope := some .plane, scopeDims := 1, half := 0,
    fields := [cfgF Fld.BLOT.PL_CFG.pair 0, cfgF Fld.BLOT.PL_CFG.doubtful 0, cfgF Fld.BLOT.PL_CFG.clip_lo 1, cfgF Fld.BLOT.PL_CFG.clip_hi 1, cfgF Fld.BLOT.PL_CFG.send_en 0, cfgF Fld.BLOT.PL_CFG.send_link 0, cfgF Fld.BLOT.PL_CFG.merge_en 0, cfgF Fld.BLOT.PL_CFG.ch 0, cfgF Fld.BLOT.PL_CFG.snap_clear 0, cfgF Fld.BLOT.PL_CFG.rows 0x3ff] },
  { offset := 0x1004, dims := [(16, 0x100)], scope := some .plane, scopeDims := 1, half := 0,
    fields := [stageF Fld.BLOT.PL_ROWMAP.lo 0x6400, stageF Fld.BLOT.PL_ROWMAP.step 25] },
  { offset := 0x1008, dims := [(16, 0x100)], scope := some .plane, scopeDims := 1, half := 0,
    fields := [stageF Fld.BLOT.PL_PERSIST.d 0, stageF Fld.BLOT.PL_PERSIST.tick 100] },
  { offset := 0x100c, dims := [(16, 0x100)], scope := some .plane, scopeDims := 1, half := 0,
    fields := [stageF Fld.BLOT.PL_MAP.log 0, stageF Fld.BLOT.PL_MAP.sh 0, stageF Fld.BLOT.PL_MAP.k 16] },
  { offset := 0x1010, dims := [(16, 0x100)], scope := some .plane, scopeDims := 1, half := 0,
    fields := [cfgF Fld.BLOT.PL_SNAP_BASE.base 0] },
  { offset := 0x1014, dims := [(16, 0x100)], scope := some .plane, scopeDims := 1, half := 0,
    fields := [cfgF Fld.BLOT.PL_SNAP_DEST.exportCh 0, cfgF Fld.BLOT.PL_SNAP_DEST.exportEn 0, cfgF Fld.BLOT.PL_SNAP_DEST.area_en 0, cfgF Fld.BLOT.PL_SNAP_DEST.policy 0] },
  { offset := 0x1018, dims := [(16, 0x100)], scope := some .plane, scopeDims := 1, half := 0,
    fields := [ctlF Fld.BLOT.PL_CMD.enable_go, ctlF Fld.BLOT.PL_CMD.disable_go, ctlF Fld.BLOT.PL_CMD.commit_go, ctlF Fld.BLOT.PL_CMD.clear_go, ctlF Fld.BLOT.PL_CMD.snap_go, ctlF Fld.BLOT.PL_CMD.restart_go] },
  { offset := 0x101c, dims := [(16, 0x100)], scope := some .plane, scopeDims := 1, half := 0,
    fields := [staF Fld.BLOT.PL_STA.COMMITTED, staF Fld.BLOT.PL_STA.REFUSED, staF Fld.BLOT.PL_STA.SAT, staF Fld.BLOT.PL_STA.SNAP_DONE, staF Fld.BLOT.PL_STA.MERGE_LOSS, staF Fld.BLOT.PL_STA.FLOW_STOP, staF Fld.BLOT.PL_STA.SEQ] },
  { offset := 0x1020, dims := [(16, 0x100)], scope := some .plane, scopeDims := 1, half := 0,
    fields := [roF Fld.BLOT.PL_STATE.state 0, roF Fld.BLOT.PL_STATE.ganged 0, roF Fld.BLOT.PL_STATE.snapping 0, roF Fld.BLOT.PL_STATE.reason 0, roF Fld.BLOT.PL_STATE.marks 0] },
  { offset := 0x1024, dims := [(16, 0x100)], scope := some .plane, scopeDims := 1, half := 1,
    fields := [cntF Fld.BLOT.PL_HITS_LO.count 0] },
  { offset := 0x1028, dims := [(16, 0x100)], scope := some .plane, scopeDims := 1, half := 2,
    fields := [cntF Fld.BLOT.PL_HITS_HI.count 0] },
  { offset := 0x102c, dims := [(16, 0x100)], scope := some .plane, scopeDims := 1, half := 0,
    fields := [cntF Fld.BLOT.PL_SKIP_CNT.count 0] }]

def rows_BLOT_1 : List RegRow := [
  { offset := 0x1030, dims := [(16, 0x100)], scope := some .plane, scopeDims := 1, half := 0,
    fields := [roF Fld.BLOT.PL_SNAP_SEQ.seq 0] },
  { offset := 0x1034, dims := [(16, 0x100)], scope := some .plane, scopeDims := 1, half := 0,
    fields := [cntF Fld.BLOT.MERGE_DROP_CNT.count 0] },
  { offset := 0x1038, dims := [(16, 0x100)], scope := some .plane, scopeDims := 1, half := 0,
    fields := [cntF Fld.BLOT.MERGE_LOSS_CNT.count 0] },
  { offset := 0x8000, dims := [(16, 0x400), (256, 4)], scope := some .plane, scopeDims := 1, half := 0,
    fields := [stageF Fld.BLOT.COLOUR_MAP.argb 0] }]

/-- The registers of block BLOT beyond the header (R413). -/
def rows_BLOT : List RegRow := rows_BLOT_0 ++ rows_BLOT_1

def rows_DISP_0 : List RegRow := [
  { offset := 0x1000, dims := [(2, 0x200)], scope := some .output, scopeDims := 1, half := 0,
    fields := [cfgF Fld.DISP.DP_CFG.rate 1, cfgF Fld.DISP.DP_CFG.replay_en 1] },
  { offset := 0x1004, dims := [(2, 0x200)], scope := some .output, scopeDims := 1, half := 0,
    fields := [cfgF Fld.DISP.DP_PCLK.hz 0] },
  { offset := 0x1008, dims := [(2, 0x200)], scope := some .output, scopeDims := 1, half := 0,
    fields := [cfgF Fld.DISP.DP_H.hact 0, cfgF Fld.DISP.DP_H.htot 0] },
  { offset := 0x100c, dims := [(2, 0x200)], scope := some .output, scopeDims := 1, half := 0,
    fields := [cfgF Fld.DISP.DP_HS.hs_start 0, cfgF Fld.DISP.DP_HS.hs_width 0, cfgF Fld.DISP.DP_HS.hs_neg 0] },
  { offset := 0x1010, dims := [(2, 0x200)], scope := some .output, scopeDims := 1, half := 0,
    fields := [cfgF Fld.DISP.DP_V.vact 0, cfgF Fld.DISP.DP_V.vtot 0] },
  { offset := 0x1014, dims := [(2, 0x200)], scope := some .output, scopeDims := 1, half := 0,
    fields := [cfgF Fld.DISP.DP_VS.vs_start 0, cfgF Fld.DISP.DP_VS.vs_width 0, cfgF Fld.DISP.DP_VS.vs_neg 0] },
  { offset := 0x1018, dims := [(2, 0x200)], scope := some .output, scopeDims := 1, half := 0,
    fields := [ctlF Fld.DISP.DP_CMD.enable_go, ctlF Fld.DISP.DP_CMD.disable_go, ctlF Fld.DISP.DP_CMD.replay_hold_go, ctlF Fld.DISP.DP_CMD.replay_exit_go] },
  { offset := 0x101c, dims := [(2, 0x200)], scope := some .output, scopeDims := 1, half := 0,
    fields := [roF Fld.DISP.DP_STATE.state 0, roF Fld.DISP.DP_STATE.replay_cap 0, roF Fld.DISP.DP_STATE.hpd 0, roF Fld.DISP.DP_STATE.reason 0] },
  { offset := 0x1020, dims := [(2, 0x200)], scope := some .output, scopeDims := 1, half := 0,
    fields := [cntF Fld.DISP.DP_FRAME_CNT.count 0] },
  { offset := 0x1024, dims := [(2, 0x200)], scope := some .output, scopeDims := 1, half := 0,
    fields := [cntF Fld.DISP.DP_CHK_FAIL_CNT.count 0] },
  { offset := 0x1100, dims := [(2, 0x200), (16, 16)], scope := some .output, scopeDims := 1, half := 0,
    fields := [stageF Fld.DISP.CHK_POS.x0 0, stageF Fld.DISP.CHK_POS.y0 0] },
  { offset := 0x1104, dims := [(2, 0x200), (16, 16)], scope := some .output, scopeDims := 1, half := 0,
    fields := [stageF Fld.DISP.CHK_SIZE.w 0, stageF Fld.DISP.CHK_SIZE.h 0, stageF Fld.DISP.CHK_SIZE.en 0] }]

def rows_DISP_1 : List RegRow := [
  { offset := 0x1108, dims := [(2, 0x200), (16, 16)], scope := some .output, scopeDims := 1, half := 0,
    fields := [stageF Fld.DISP.CHK_EXP.crc 0] },
  { offset := 0x110c, dims := [(2, 0x200), (16, 16)], scope := some .output, scopeDims := 1, half := 0,
    fields := [roF Fld.DISP.CHK_LAST.crc 0] },
  { offset := 0x1800, dims := [], scope := none, scopeDims := 0, half := 0,
    fields := [cfgF Fld.DISP.DISP_CFG.tiled 1] },
  { offset := 0x1804, dims := [], scope := none, scopeDims := 0, half := 0,
    fields := [stageF Fld.DISP.DISP_BG.rgb 0] },
  { offset := 0x1808, dims := [], scope := none, scopeDims := 0, half := 0,
    fields := [ctlF Fld.DISP.DISP_CMD.commit_go, ctlF Fld.DISP.DISP_CMD.release_go, ctlF Fld.DISP.DISP_CMD.touch_go] },
  { offset := 0x180c, dims := [], scope := none, scopeDims := 0, half := 0,
    fields := [roF Fld.DISP.DISP_STATE.reason 0] },
  { offset := 0x1810, dims := [], scope := none, scopeDims := 0, half := 0,
    fields := [roF Fld.DISP.DISP_AREA_BASE.base 0] },
  { offset := 0x1814, dims := [], scope := none, scopeDims := 0, half := 0,
    fields := [roF Fld.DISP.DISP_AREA_LEN.len 0] },
  { offset := 0x1818, dims := [], scope := none, scopeDims := 0, half := 0,
    fields := [cfgF Fld.DISP.DISP_AREA_REQ.mib 0x100] },
  { offset := 0x1820, dims := [], scope := none, scopeDims := 0, half := 0,
    fields := [stageF Fld.DISP.REL_BASE.base 0] },
  { offset := 0x1824, dims := [], scope := none, scopeDims := 0, half := 0,
    fields := [stageF Fld.DISP.REL_LEN.len 0] },
  { offset := 0x1828, dims := [], scope := none, scopeDims := 0, half := 0,
    fields := [stageF Fld.DISP.REL_TAG.tag 0] }]

def rows_DISP_2 : List RegRow := [
  { offset := 0x2020, dims := [(5, 32)], scope := none, scopeDims := 0, half := 0,
    fields := [stageF Fld.DISP.LY_BASE.base 0] },
  { offset := 0x2024, dims := [(5, 32)], scope := none, scopeDims := 0, half := 0,
    fields := [stageF Fld.DISP.LY_STRIDE.stride 0] },
  { offset := 0x2028, dims := [(5, 32)], scope := none, scopeDims := 0, half := 0,
    fields := [stageF Fld.DISP.LY_POS.x 0, stageF Fld.DISP.LY_POS.y 0] },
  { offset := 0x202c, dims := [(5, 32)], scope := none, scopeDims := 0, half := 0,
    fields := [stageF Fld.DISP.LY_SIZE.w 0, stageF Fld.DISP.LY_SIZE.h 0] },
  { offset := 0x2030, dims := [(5, 32)], scope := none, scopeDims := 0, half := 0,
    fields := [stageF Fld.DISP.LY_CTL.en 0, stageF Fld.DISP.LY_CTL.galpha 255] },
  { offset := 0x2100, dims := [(8, 8)], scope := none, scopeDims := 0, half := 0,
    fields := [stageF Fld.DISP.VP_CFG.en 0, stageF Fld.DISP.VP_CFG.plane 0, stageF Fld.DISP.VP_CFG.sx 0, stageF Fld.DISP.VP_CFG.sy 0] },
  { offset := 0x2104, dims := [(8, 8)], scope := none, scopeDims := 0, half := 0,
    fields := [stageF Fld.DISP.VP_POS.x 0, stageF Fld.DISP.VP_POS.y 0] },
  { offset := 0x2180, dims := [(4, 8)], scope := none, scopeDims := 0, half := 0,
    fields := [stageF Fld.DISP.TR_CFG.en 0, stageF Fld.DISP.TR_CFG.mask 0, stageF Fld.DISP.TR_CFG.viewport 0] },
  { offset := 0x2184, dims := [(4, 8)], scope := none, scopeDims := 0, half := 0,
    fields := [stageF Fld.DISP.TR_COLOUR.argb 0xffffffff] },
  { offset := 0x2200, dims := [], scope := none, scopeDims := 0, half := 0,
    fields := [stageF Fld.DISP.CUR_BASE.base 0] },
  { offset := 0x2204, dims := [], scope := none, scopeDims := 0, half := 0,
    fields := [stageF Fld.DISP.CUR_POS.x 0, stageF Fld.DISP.CUR_POS.y 0] },
  { offset := 0x2208, dims := [], scope := none, scopeDims := 0, half := 0,
    fields := [stageF Fld.DISP.TXT_BASE.base 0] }]

def rows_DISP_3 : List RegRow := [
  { offset := 0x220c, dims := [], scope := none, scopeDims := 0, half := 0,
    fields := [stageF Fld.DISP.FONT_BASE.base 0] },
  { offset := 0x2210, dims := [], scope := none, scopeDims := 0, half := 0,
    fields := [stageF Fld.DISP.TXT_CTL.cur_en 0, stageF Fld.DISP.TXT_CTL.txt_en 0] },
  { offset := 0x2240, dims := [(16, 4)], scope := none, scopeDims := 0, half := 0,
    fields := [stageF Fld.DISP.PALETTE.argb 0] }]

/-- The registers of block DISP beyond the header (R414, R415). -/
def rows_DISP : List RegRow := rows_DISP_0 ++ rows_DISP_1 ++ rows_DISP_2 ++ rows_DISP_3

def rows_INK_0 : List RegRow := [
  { offset := 0x1000, dims := [], scope := none, scopeDims := 0, half := 0,
    fields := [roF Fld.INK.INK_STATE.ch_run 0, roF Fld.INK.INK_STATE.redirect 0, roF Fld.INK.INK_STATE.redirect_ch 0] },
  { offset := 0x1004, dims := [], scope := none, scopeDims := 0, half := 0,
    fields := [roF Fld.INK.INK_CAP.user_gib 192, roF Fld.INK.INK_CAP.reserve_mib 0x1c71] },
  { offset := 0x1008, dims := [], scope := none, scopeDims := 0, half := 0,
    fields := [stageF Fld.INK.INK_SEL.channel 0] },
  { offset := 0x100c, dims := [], scope := none, scopeDims := 0, half := 0,
    fields := [ctlF Fld.INK.INK_CMD.retrain_go, ctlF Fld.INK.INK_CMD.xlate_go, ctlF Fld.INK.INK_CMD.elog_pop_go, ctlF Fld.INK.INK_CMD.scrub_go] },
  { offset := 0x1010, dims := [], scope := none, scopeDims := 0, half := 0,
    fields := [stageF Fld.INK.INK_XLATE_LO.addr 0] },
  { offset := 0x1014, dims := [], scope := none, scopeDims := 0, half := 0,
    fields := [stageF Fld.INK.INK_XLATE_HI.addr 0] },
  { offset := 0x1018, dims := [], scope := none, scopeDims := 0, half := 0,
    fields := [roF Fld.INK.INK_XLATE_RES.loc 0] },
  { offset := 0x101c, dims := [], scope := none, scopeDims := 0, half := 0,
    fields := [roF Fld.INK.INK_XLATE_FLAGS.flags 0] },
  { offset := 0x1020, dims := [], scope := none, scopeDims := 0, half := 0,
    fields := [roF Fld.INK.INK_ELOG_LEVEL.level 0] },
  { offset := 0x1024, dims := [], scope := none, scopeDims := 0, half := 0,
    fields := [roF Fld.INK.INK_ELOG0.entry 0] },
  { offset := 0x1028, dims := [], scope := none, scopeDims := 0, half := 0,
    fields := [roF Fld.INK.INK_ELOG1.entry 0] },
  { offset := 0x102c, dims := [], scope := none, scopeDims := 0, half := 0,
    fields := [roF Fld.INK.INK_ELOG2.entry 0] }]

def rows_INK_1 : List RegRow := [
  { offset := 0x1030, dims := [], scope := none, scopeDims := 0, half := 0,
    fields := [roF Fld.INK.INK_ELOG3.entry 0] },
  { offset := 0x1040, dims := [], scope := none, scopeDims := 0, half := 0,
    fields := [cntF Fld.INK.INK_CE_CNT.count 0] },
  { offset := 0x1044, dims := [], scope := none, scopeDims := 0, half := 0,
    fields := [cntF Fld.INK.INK_UE_CNT.count 0] },
  { offset := 0x1048, dims := [], scope := none, scopeDims := 0, half := 0,
    fields := [cntF Fld.INK.INK_ADDR_ERR_CNT.count 0] },
  { offset := 0x104c, dims := [], scope := none, scopeDims := 0, half := 0,
    fields := [cntF Fld.INK.INK_POISON_READ_CNT.count 0] },
  { offset := 0x1050, dims := [], scope := none, scopeDims := 0, half := 1,
    fields := [cntF Fld.INK.INK_RMW_CNT_LO.count 0] },
  { offset := 0x1054, dims := [], scope := none, scopeDims := 0, half := 2,
    fields := [cntF Fld.INK.INK_RMW_CNT_HI.count 0] },
  { offset := 0x1058, dims := [], scope := none, scopeDims := 0, half := 0,
    fields := [cntF Fld.INK.INK_ELOG_DROP_CNT.count 0] },
  { offset := 0x1060, dims := [(4, 4)], scope := none, scopeDims := 0, half := 0,
    fields := [roF Fld.INK.CLASS_AGE.ns 0] },
  { offset := 0x1070, dims := [(4, 4)], scope := none, scopeDims := 0, half := 0,
    fields := [cntF Fld.INK.PROMOTE_CNT.count 0] },
  { offset := 0x2000, dims := [(16, 0x100)], scope := some .inkChan, scopeDims := 1, half := 0,
    fields := [roF Fld.INK.CH_STATE.state 0, roF Fld.INK.CH_STATE.rate 0, roF Fld.INK.CH_STATE.debt 0, roF Fld.INK.CH_STATE.spare_used 0, roF Fld.INK.CH_STATE.spared_bank 0, roF Fld.INK.CH_STATE.exhausted 0] },
  { offset := 0x2004, dims := [(16, 0x100)], scope := some .inkChan, scopeDims := 1, half := 0,
    fields := [roF Fld.INK.CH_ROWS.remapped 0] }]

def rows_INK_2 : List RegRow := [
  { offset := 0x2008, dims := [(16, 0x100)], scope := some .inkChan, scopeDims := 1, half := 0,
    fields := [roF Fld.INK.CH_MARGIN.read_eye 0, roF Fld.INK.CH_MARGIN.write_eye 0, roF Fld.INK.CH_MARGIN.vref 0] },
  { offset := 0x200c, dims := [(16, 0x100)], scope := some .inkChan, scopeDims := 1, half := 0,
    fields := [roF Fld.INK.CH_DRIFT.offset 0, roF Fld.INK.CH_DRIFT.osc 0] },
  { offset := 0x2010, dims := [(16, 0x100)], scope := some .inkChan, scopeDims := 1, half := 0,
    fields := [cntF Fld.INK.CH_CE_CNT.count 0] },
  { offset := 0x2014, dims := [(16, 0x100)], scope := some .inkChan, scopeDims := 1, half := 0,
    fields := [cntF Fld.INK.CH_UE_CNT.count 0] },
  { offset := 0x2018, dims := [(16, 0x100)], scope := some .inkChan, scopeDims := 1, half := 0,
    fields := [cntF Fld.INK.CH_REFRESH_FORCED_CNT.count 0] },
  { offset := 0x2040, dims := [(16, 0x100)], scope := some .inkChan, scopeDims := 1, half := 0,
    fields := [cfgF Fld.INK.TRN_CTL.pattern 0, cfgF Fld.INK.TRN_CTL.target 0] },
  { offset := 0x2044, dims := [(16, 0x100)], scope := some .inkChan, scopeDims := 1, half := 0,
    fields := [ctlF Fld.INK.TRN_CMD.run_go] },
  { offset := 0x2048, dims := [(16, 0x100)], scope := some .inkChan, scopeDims := 1, half := 0,
    fields := [roF Fld.INK.TRN_RESULT.fail 0] }]

/-- The registers of block INK beyond the header (R437, R438). -/
def rows_INK : List RegRow := rows_INK_0 ++ rows_INK_1 ++ rows_INK_2

def rows_HOSTQ_0 : List RegRow := [
  { offset := 0x1000, dims := [], scope := none, scopeDims := 0, half := 0,
    fields := [stageF Fld.HOSTQ.HQ_CFG.retry_max 3, stageF Fld.HOSTQ.HQ_CFG.ro_en 1] },
  { offset := 0x1004, dims := [], scope := none, scopeDims := 0, half := 0,
    fields := [stageF Fld.HOSTQ.HQ_OUTAGE.gib 16] },
  { offset := 0x1008, dims := [], scope := none, scopeDims := 0, half := 0,
    fields := [stageF Fld.HOSTQ.HQ_WIN_BASE.gib 0] },
  { offset := 0x100c, dims := [], scope := none, scopeDims := 0, half := 0,
    fields := [ctlF Fld.HOSTQ.HQ_CMD.commit_go, ctlF Fld.HOSTQ.HQ_CMD.win_commit_go] },
  { offset := 0x1010, dims := [], scope := none, scopeDims := 0, half := 0,
    fields := [roF Fld.HOSTQ.HQ_LINK.up 0, roF Fld.HOSTQ.HQ_LINK.gen 0, roF Fld.HOSTQ.HQ_LINK.width 0, roF Fld.HOSTQ.HQ_LINK.rate 0] },
  { offset := 0x1014, dims := [], scope := none, scopeDims := 0, half := 0,
    fields := [cntF Fld.HOSTQ.HQ_RESET_CNT.count 0] },
  { offset := 0x1018, dims := [], scope := none, scopeDims := 0, half := 0,
    fields := [cntF Fld.HOSTQ.HQ_EVT_DROP_CNT.count 0] },
  { offset := 0x101c, dims := [], scope := none, scopeDims := 0, half := 0,
    fields := [cntF Fld.HOSTQ.HQ_COMPL_DROP_CNT.count 0] },
  { offset := 0x1020, dims := [], scope := none, scopeDims := 0, half := 0,
    fields := [cntF Fld.HOSTQ.DB_BAD_CNT.count 0] },
  { offset := 0x8000, dims := [(1024, 64)], scope := some .cring, scopeDims := 1, half := 0,
    fields := [cfgF Fld.HOSTQ.CRING_BASE_LO.base 0] },
  { offset := 0x20000, dims := [(3072, 64)], scope := some .rring, scopeDims := 1, half := 0,
    fields := [cfgF Fld.HOSTQ.RRING_BASE_LO.base 0] },
  { offset := 0x8004, dims := [(1024, 64)], scope := some .cring, scopeDims := 1, half := 0,
    fields := [cfgF Fld.HOSTQ.CRING_BASE_HI.base 0] }]

def rows_HOSTQ_1 : List RegRow := [
  { offset := 0x20004, dims := [(3072, 64)], scope := some .rring, scopeDims := 1, half := 0,
    fields := [cfgF Fld.HOSTQ.RRING_BASE_HI.base 0] },
  { offset := 0x8008, dims := [(1024, 64)], scope := some .cring, scopeDims := 1, half := 0,
    fields := [cfgF Fld.HOSTQ.CRING_CFG.size 0, cfgF Fld.HOSTQ.CRING_CFG.type 0, cfgF Fld.HOSTQ.CRING_CFG.wb_en 0, cfgF Fld.HOSTQ.CRING_CFG.cq 0] },
  { offset := 0x20008, dims := [(3072, 64)], scope := some .rring, scopeDims := 1, half := 0,
    fields := [cfgF Fld.HOSTQ.RRING_CFG.size 0, cfgF Fld.HOSTQ.RRING_CFG.type 0, cfgF Fld.HOSTQ.RRING_CFG.wb_en 0, cfgF Fld.HOSTQ.RRING_CFG.vector 0, cfgF Fld.HOSTQ.RRING_CFG.irq_en 0] },
  { offset := 0x800c, dims := [(1024, 64)], scope := some .cring, scopeDims := 1, half := 0,
    fields := [cfgF Fld.HOSTQ.CRING_WB_LO.wb 0] },
  { offset := 0x2000c, dims := [(3072, 64)], scope := some .rring, scopeDims := 1, half := 0,
    fields := [cfgF Fld.HOSTQ.RRING_WB_LO.wb 0] },
  { offset := 0x8010, dims := [(1024, 64)], scope := some .cring, scopeDims := 1, half := 0,
    fields := [cfgF Fld.HOSTQ.CRING_WB_HI.wb 0] },
  { offset := 0x20010, dims := [(3072, 64)], scope := some .rring, scopeDims := 1, half := 0,
    fields := [cfgF Fld.HOSTQ.RRING_WB_HI.wb 0] },
  { offset := 0x20014, dims := [(3072, 64)], scope := some .rring, scopeDims := 1, half := 0,
    fields := [stageF Fld.HOSTQ.RRING_COAL.coal_count 0, stageF Fld.HOSTQ.RRING_COAL.coal_us 0] },
  { offset := 0x8018, dims := [(1024, 64)], scope := some .cring, scopeDims := 1, half := 0,
    fields := [ctlF Fld.HOSTQ.CRING_CMD.enable_go, ctlF Fld.HOSTQ.CRING_CMD.disable_go, ctlF Fld.HOSTQ.CRING_CMD.resume_go, ctlF Fld.HOSTQ.CRING_CMD.reset_go] },
  { offset := 0x20018, dims := [(3072, 64)], scope := some .rring, scopeDims := 1, half := 0,
    fields := [ctlF Fld.HOSTQ.RRING_CMD.enable_go, ctlF Fld.HOSTQ.RRING_CMD.disable_go, ctlF Fld.HOSTQ.RRING_CMD.resume_go, ctlF Fld.HOSTQ.RRING_CMD.reset_go] },
  { offset := 0x801c, dims := [(1024, 64)], scope := some .cring, scopeDims := 1, half := 0,
    fields := [staF Fld.HOSTQ.CRING_STA.HALTED, staF Fld.HOSTQ.CRING_STA.REFUSED, staF Fld.HOSTQ.CRING_STA.DB_BAD, staF Fld.HOSTQ.CRING_STA.SEQ] },
  { offset := 0x2001c, dims := [(3072, 64)], scope := some .rring, scopeDims := 1, half := 0,
    fields := [staF Fld.HOSTQ.RRING_STA.HALTED, staF Fld.HOSTQ.RRING_STA.REFUSED, staF Fld.HOSTQ.RRING_STA.DB_BAD, staF Fld.HOSTQ.RRING_STA.SEQ] }]

def rows_HOSTQ_2 : List RegRow := [
  { offset := 0x8020, dims := [(1024, 64)], scope := some .cring, scopeDims := 1, half := 0,
    fields := [roF Fld.HOSTQ.CRING_STATE.state 0, roF Fld.HOSTQ.CRING_STATE.reason 0, roF Fld.HOSTQ.CRING_STATE.owner 15] },
  { offset := 0x20020, dims := [(3072, 64)], scope := some .rring, scopeDims := 1, half := 0,
    fields := [roF Fld.HOSTQ.RRING_STATE.state 0, roF Fld.HOSTQ.RRING_STATE.reason 0, roF Fld.HOSTQ.RRING_STATE.owner 15] },
  { offset := 0x8024, dims := [(1024, 64)], scope := some .cring, scopeDims := 1, half := 0,
    fields := [roF Fld.HOSTQ.CRING_HEAD.h 0] },
  { offset := 0x20024, dims := [(3072, 64)], scope := some .rring, scopeDims := 1, half := 0,
    fields := [roF Fld.HOSTQ.RRING_HEAD.h 0] },
  { offset := 0x8028, dims := [(1024, 64)], scope := some .cring, scopeDims := 1, half := 0,
    fields := [roF Fld.HOSTQ.CRING_TAIL.t 0] },
  { offset := 0x20028, dims := [(3072, 64)], scope := some .rring, scopeDims := 1, half := 0,
    fields := [roF Fld.HOSTQ.RRING_TAIL.t 0] },
  { offset := 0x802c, dims := [(1024, 64)], scope := some .cring, scopeDims := 1, half := 0,
    fields := [cntF Fld.HOSTQ.CRING_RETRY_CNT.count 0] },
  { offset := 0x2002c, dims := [(3072, 64)], scope := some .rring, scopeDims := 1, half := 0,
    fields := [cntF Fld.HOSTQ.RRING_RETRY_CNT.count 0] },
  { offset := 0x60000, dims := [(256, 16)], scope := none, scopeDims := 0, half := 0,
    fields := [⟨Fld.HOSTQ.MSIX_ADDR_LO.addr, .rw, 0⟩] },
  { offset := 0x60004, dims := [(256, 16)], scope := none, scopeDims := 0, half := 0,
    fields := [⟨Fld.HOSTQ.MSIX_ADDR_HI.addr, .rw, 0⟩] },
  { offset := 0x60008, dims := [(256, 16)], scope := none, scopeDims := 0, half := 0,
    fields := [⟨Fld.HOSTQ.MSIX_DATA.data, .rw, 0⟩] },
  { offset := 0x6000c, dims := [(256, 16)], scope := none, scopeDims := 0, half := 0,
    fields := [⟨Fld.HOSTQ.MSIX_CTRL.mask, .rw, 1⟩] }]

def rows_HOSTQ_3 : List RegRow := [
  { offset := 0x61000, dims := [(8, 4)], scope := none, scopeDims := 0, half := 0,
    fields := [roF Fld.HOSTQ.MSIX_PBA.pba 0] }]

/-- The registers of block HOSTQ beyond the header (R457, R464, R465). -/
def rows_HOSTQ : List RegRow := rows_HOSTQ_0 ++ rows_HOSTQ_1 ++ rows_HOSTQ_2 ++ rows_HOSTQ_3

def rows_DMA_0 : List RegRow := [
  { offset := 0x1000, dims := [(64, 0x100)], scope := some .exportCh, scopeDims := 1, half := 0,
    fields := [cfgF Fld.DMA.DMA_CFG.buf_mib 0x100, cfgF Fld.DMA.DMA_CFG.pack 0, cfgF Fld.DMA.DMA_CFG.flush_us 10] },
  { offset := 0x1004, dims := [(64, 0x100)], scope := some .exportCh, scopeDims := 1, half := 0,
    fields := [stageF Fld.DMA.DMA_SHADOW.ring 0, stageF Fld.DMA.DMA_SHADOW.freelist 0] },
  { offset := 0x1008, dims := [(64, 0x100)], scope := some .exportCh, scopeDims := 1, half := 0,
    fields := [roF Fld.DMA.DMA_ACTIVE.set_ 0] },
  { offset := 0x100c, dims := [(64, 0x100)], scope := some .exportCh, scopeDims := 1, half := 0,
    fields := [ctlF Fld.DMA.DMA_CMD.enable_go, ctlF Fld.DMA.DMA_CMD.disable_go, ctlF Fld.DMA.DMA_CMD.promote_go, ctlF Fld.DMA.DMA_CMD.resume_go] },
  { offset := 0x1010, dims := [(64, 0x100)], scope := some .exportCh, scopeDims := 1, half := 0,
    fields := [staF Fld.DMA.DMA_STA.HALTED, staF Fld.DMA.DMA_STA.PROMOTED, staF Fld.DMA.DMA_STA.POISON, staF Fld.DMA.DMA_STA.REPLAY, staF Fld.DMA.DMA_STA.REFUSED, staF Fld.DMA.DMA_STA.SEQ] },
  { offset := 0x1014, dims := [(64, 0x100)], scope := some .exportCh, scopeDims := 1, half := 0,
    fields := [roF Fld.DMA.DMA_STATE.state 0, roF Fld.DMA.DMA_STATE.shadow_valid 0, roF Fld.DMA.DMA_STATE.reason 0, roF Fld.DMA.DMA_STATE.fill 0] },
  { offset := 0x1018, dims := [(64, 0x100)], scope := some .exportCh, scopeDims := 1, half := 1,
    fields := [cntF Fld.DMA.DMA_BYTES_LO.count 0] },
  { offset := 0x101c, dims := [(64, 0x100)], scope := some .exportCh, scopeDims := 1, half := 2,
    fields := [cntF Fld.DMA.DMA_BYTES_HI.count 0] },
  { offset := 0x1020, dims := [(64, 0x100)], scope := some .exportCh, scopeDims := 1, half := 0,
    fields := [cntF Fld.DMA.DMA_ITEM_CNT.count 0] },
  { offset := 0x1024, dims := [(64, 0x100)], scope := some .exportCh, scopeDims := 1, half := 0,
    fields := [cntF Fld.DMA.DMA_RETRY_CNT.count 0] },
  { offset := 0x1028, dims := [(64, 0x100)], scope := some .exportCh, scopeDims := 1, half := 0,
    fields := [cntF Fld.DMA.DMA_POISON_CNT.count 0] },
  { offset := 0x1030, dims := [(64, 0x100), (4, 4)], scope := some .exportCh, scopeDims := 1, half := 0,
    fields := [cfgF Fld.DMA.DMA_PAIR.pair 0, cfgF Fld.DMA.DMA_PAIR.en 0, cfgF Fld.DMA.DMA_PAIR.policy 0, cfgF Fld.DMA.DMA_PAIR.avg 0] }]

/-- The registers of block DMA beyond the header (R466). -/
def rows_DMA : List RegRow := rows_DMA_0

def rows_STOR_0 : List RegRow := [
  { offset := 0x1000, dims := [], scope := none, scopeDims := 0, half := 0,
    fields := [cfgF Fld.STOR.STOR_CFG.bif0 0, cfgF Fld.STOR.STOR_CFG.bif1 0] },
  { offset := 0x1004, dims := [], scope := none, scopeDims := 0, half := 0,
    fields := [cfgF Fld.STOR.STOR_SETID_LO.set_ 0] },
  { offset := 0x1008, dims := [], scope := none, scopeDims := 0, half := 0,
    fields := [cfgF Fld.STOR.STOR_SETID_HI.set_ 0] },
  { offset := 0x100c, dims := [], scope := none, scopeDims := 0, half := 0,
    fields := [cfgF Fld.STOR.STOR_WEAR.warn 80, cfgF Fld.STOR.STOR_WEAR.retire 100] },
  { offset := 0x1010, dims := [], scope := none, scopeDims := 0, half := 0,
    fields := [stageF Fld.STOR.RD_LBA_LO.lba 0] },
  { offset := 0x1014, dims := [], scope := none, scopeDims := 0, half := 0,
    fields := [stageF Fld.STOR.RD_LBA_HI.lba 0] },
  { offset := 0x1018, dims := [], scope := none, scopeDims := 0, half := 0,
    fields := [stageF Fld.STOR.RD_CFG.drive 0, stageF Fld.STOR.RD_CFG.count 0] },
  { offset := 0x101c, dims := [], scope := none, scopeDims := 0, half := 0,
    fields := [stageF Fld.STOR.RD_DST.dst 0] },
  { offset := 0x1020, dims := [], scope := none, scopeDims := 0, half := 0,
    fields := [ctlF Fld.STOR.STOR_CMD.read_go] },
  { offset := 0x1024, dims := [], scope := none, scopeDims := 0, half := 0,
    fields := [roF Fld.STOR.RD_STATE.busy 0, roF Fld.STOR.RD_STATE.refused 0, roF Fld.STOR.RD_STATE.error 0] },
  { offset := 0x2000, dims := [(8, 0x100)], scope := some .drive, scopeDims := 1, half := 0,
    fields := [cfgF Fld.STOR.DRV_NSID.nsid 1] },
  { offset := 0x2004, dims := [(8, 0x100)], scope := some .drive, scopeDims := 1, half := 0,
    fields := [ctlF Fld.STOR.DRV_CMD.attach_go, ctlF Fld.STOR.DRV_CMD.format_go, ctlF Fld.STOR.DRV_CMD.measure_go, ctlF Fld.STOR.DRV_CMD.retire_go, ctlF Fld.STOR.DRV_CMD.detach_go] }]

def rows_STOR_1 : List RegRow := [
  { offset := 0x2008, dims := [(8, 0x100)], scope := some .drive, scopeDims := 1, half := 0,
    fields := [staF Fld.STOR.DRV_STA.LOST, staF Fld.STOR.DRV_STA.RETIRED, staF Fld.STOR.DRV_STA.WEAR_WARN, staF Fld.STOR.DRV_STA.SLOW, staF Fld.STOR.DRV_STA.REFUSED, staF Fld.STOR.DRV_STA.SEQ] },
  { offset := 0x200c, dims := [(8, 0x100)], scope := some .drive, scopeDims := 1, half := 0,
    fields := [roF Fld.STOR.DRV_STATE.state 0, roF Fld.STOR.DRV_STATE.gen 0, roF Fld.STOR.DRV_STATE.width 0, roF Fld.STOR.DRV_STATE.reason 0] },
  { offset := 0x2010, dims := [(8, 0x100)], scope := some .drive, scopeDims := 1, half := 0,
    fields := [roF Fld.STOR.DRV_RATE.mbs 0] },
  { offset := 0x2014, dims := [(8, 0x100)], scope := some .drive, scopeDims := 1, half := 0,
    fields := [roF Fld.STOR.DRV_WEAR.used 0, roF Fld.STOR.DRV_WEAR.crit 0] },
  { offset := 0x2018, dims := [(8, 0x100)], scope := some .drive, scopeDims := 1, half := 0,
    fields := [roF Fld.STOR.DRV_SLOTS.slots 0] },
  { offset := 0x201c, dims := [(8, 0x100)], scope := some .drive, scopeDims := 1, half := 1,
    fields := [cntF Fld.STOR.DRV_WRITTEN_LO.count 0] },
  { offset := 0x2020, dims := [(8, 0x100)], scope := some .drive, scopeDims := 1, half := 2,
    fields := [cntF Fld.STOR.DRV_WRITTEN_HI.count 0] },
  { offset := 0x2024, dims := [(8, 0x100)], scope := some .drive, scopeDims := 1, half := 0,
    fields := [cntF Fld.STOR.DRV_TIMEOUT_CNT.count 0] },
  { offset := 0x4000, dims := [(16, 0x100)], scope := some .diskStream, scopeDims := 1, half := 0,
    fields := [cfgF Fld.STOR.DS_CFG.drives 0, cfgF Fld.STOR.DS_CFG.mode 0, cfgF Fld.STOR.DS_CFG.policy 0, cfgF Fld.STOR.DS_CFG.buf_mib 0x100] },
  { offset := 0x4004, dims := [(16, 0x100)], scope := some .diskStream, scopeDims := 1, half := 0,
    fields := [cfgF Fld.STOR.DS_SRC.pair 0, cfgF Fld.STOR.DS_SRC.pair_en 0, cfgF Fld.STOR.DS_SRC.avg 0] },
  { offset := 0x4008, dims := [(16, 0x100)], scope := some .diskStream, scopeDims := 1, half := 0,
    fields := [ctlF Fld.STOR.DS_CMD.enable_go, ctlF Fld.STOR.DS_CMD.disable_go, ctlF Fld.STOR.DS_CMD.restart_go] },
  { offset := 0x400c, dims := [(16, 0x100)], scope := some .diskStream, scopeDims := 1, half := 0,
    fields := [staF Fld.STOR.DS_STA.FULL, staF Fld.STOR.DS_STA.STOPPED, staF Fld.STOR.DS_STA.THROTTLE, staF Fld.STOR.DS_STA.POISON, staF Fld.STOR.DS_STA.REFUSED, staF Fld.STOR.DS_STA.SEQ] }]

def rows_STOR_2 : List RegRow := [
  { offset := 0x4010, dims := [(16, 0x100)], scope := some .diskStream, scopeDims := 1, half := 0,
    fields := [roF Fld.STOR.DS_STATE.state 0, roF Fld.STOR.DS_STATE.throttle 0, roF Fld.STOR.DS_STATE.fill 0] },
  { offset := 0x4014, dims := [(16, 0x100)], scope := some .diskStream, scopeDims := 1, half := 0,
    fields := [roF Fld.STOR.DS_RATE.mbs 0] },
  { offset := 0x4018, dims := [(16, 0x100)], scope := some .diskStream, scopeDims := 1, half := 1,
    fields := [roF Fld.STOR.DS_SEQ_LO.seq 0] },
  { offset := 0x401c, dims := [(16, 0x100)], scope := some .diskStream, scopeDims := 1, half := 2,
    fields := [roF Fld.STOR.DS_SEQ_HI.seq 0] },
  { offset := 0x4020, dims := [(16, 0x100)], scope := some .diskStream, scopeDims := 1, half := 0,
    fields := [cntF Fld.STOR.DS_DROP_CNT.count 0] },
  { offset := 0x4024, dims := [(16, 0x100)], scope := some .diskStream, scopeDims := 1, half := 0,
    fields := [cntF Fld.STOR.DS_REWRITE_CNT.count 0] },
  { offset := 0x4028, dims := [(16, 0x100)], scope := some .diskStream, scopeDims := 1, half := 0,
    fields := [cntF Fld.STOR.DS_POISON_CNT.count 0] }]

/-- The registers of block STOR beyond the header (R484, R485, R486). -/
def rows_STOR : List RegRow := rows_STOR_0 ++ rows_STOR_1 ++ rows_STOR_2

def rows_CASC_0 : List RegRow := [
  { offset := 0x1100, dims := [(2, 0x400), (2, 64)], scope := some .cascLink, scopeDims := 1, half := 0,
    fields := [roF Fld.CASC.LANE_STATE.state 0, roF Fld.CASC.LANE_STATE.los 1, roF Fld.CASC.LANE_STATE.lock 0, roF Fld.CASC.LANE_STATE.inverted 0, roF Fld.CASC.LANE_STATE.far_index 7] },
  { offset := 0x1104, dims := [(2, 0x400), (2, 64)], scope := some .cascLink, scopeDims := 1, half := 0,
    fields := [staF Fld.CASC.LANE_STA.LOS, staF Fld.CASC.LANE_STA.LOL, staF Fld.CASC.LANE_STA.POL_FLIP, staF Fld.CASC.LANE_STA.STUFF_ERR, staF Fld.CASC.LANE_STA.HDR_ERR, staF Fld.CASC.LANE_STA.DFE_RAIL, staF Fld.CASC.LANE_STA.TEST_REFUSED, staF Fld.CASC.LANE_STA.TEST_ABORT, staF Fld.CASC.LANE_STA.SEQ] },
  { offset := 0x1108, dims := [(2, 0x400), (2, 64)], scope := some .cascLink, scopeDims := 1, half := 0,
    fields := [stageF Fld.CASC.LANE_ADAPT.hold 0, stageF Fld.CASC.LANE_ADAPT.rate 4] },
  { offset := 0x110c, dims := [(2, 0x400), (2, 64)], scope := some .cascLink, scopeDims := 1, half := 0,
    fields := [roF Fld.CASC.DFE_TAPS_A.taps1_4 0] },
  { offset := 0x1110, dims := [(2, 0x400), (2, 64)], scope := some .cascLink, scopeDims := 1, half := 0,
    fields := [roF Fld.CASC.DFE_TAPS_B.taps5_6 0] },
  { offset := 0x1114, dims := [(2, 0x400), (2, 64)], scope := some .cascLink, scopeDims := 1, half := 0,
    fields := [roF Fld.CASC.LANE_EYE.width 0, roF Fld.CASC.LANE_EYE.height 0] },
  { offset := 0x1118, dims := [(2, 0x400), (2, 64)], scope := some .cascLink, scopeDims := 1, half := 0,
    fields := [roF Fld.CASC.LANE_OPT.power 0] },
  { offset := 0x111c, dims := [(2, 0x400), (2, 64)], scope := some .cascLink, scopeDims := 1, half := 0,
    fields := [cntF Fld.CASC.SYNC_MISS_CNT.count 0] },
  { offset := 0x1120, dims := [(2, 0x400), (2, 64)], scope := some .cascLaneTest, scopeDims := 2, half := 0,
    fields := [cfgF Fld.CASC.TEST_CFG.pattern 0, cfgF Fld.CASC.TEST_CFG.gen_en 0, cfgF Fld.CASC.TEST_CFG.chk_en 0] },
  { offset := 0x1124, dims := [(2, 0x400), (2, 64)], scope := some .cascLaneTest, scopeDims := 2, half := 0,
    fields := [stageF Fld.CASC.TEST_INJ.rate_en 0, stageF Fld.CASC.TEST_INJ.rate_exp 8, stageF Fld.CASC.TEST_INJ.burst 1] },
  { offset := 0x1128, dims := [(2, 0x400), (2, 64)], scope := some .cascLaneTest, scopeDims := 2, half := 0,
    fields := [ctlF Fld.CASC.TEST_CMD.single_go, ctlF Fld.CASC.TEST_CMD.burst_go, ctlF Fld.CASC.TEST_CMD.test_enable_go, ctlF Fld.CASC.TEST_CMD.test_disable_go] },
  { offset := 0x112c, dims := [(2, 0x400), (2, 64)], scope := some .cascLaneTest, scopeDims := 2, half := 0,
    fields := [roF Fld.CASC.TEST_STATE.chk_lock 0] }]

def rows_CASC_1 : List RegRow := [
  { offset := 0x1130, dims := [(2, 0x400), (2, 64)], scope := some .cascLaneTest, scopeDims := 2, half := 1,
    fields := [cntF Fld.CASC.TEST_ERR_LO.errors 0] },
  { offset := 0x1134, dims := [(2, 0x400), (2, 64)], scope := some .cascLaneTest, scopeDims := 2, half := 2,
    fields := [cntF Fld.CASC.TEST_ERR_HI.errors 0] },
  { offset := 0x1138, dims := [(2, 0x400), (2, 64)], scope := some .cascLaneTest, scopeDims := 2, half := 1,
    fields := [cntF Fld.CASC.TEST_BITS_LO.bits 0] },
  { offset := 0x113c, dims := [(2, 0x400), (2, 64)], scope := some .cascLaneTest, scopeDims := 2, half := 2,
    fields := [cntF Fld.CASC.TEST_BITS_HI.bits 0] },
  { offset := 0x1000, dims := [(2, 0x400)], scope := some .cascLink, scopeDims := 1, half := 0,
    fields := [cfgF Fld.CASC.LINK_CFG.loopback 0, cfgF Fld.CASC.LINK_CFG.single_ok 1] },
  { offset := 0x1004, dims := [(2, 0x400)], scope := some .cascLink, scopeDims := 1, half := 0,
    fields := [ctlF Fld.CASC.LINK_CMD.retrain_go] },
  { offset := 0x1008, dims := [(2, 0x400)], scope := some .cascLink, scopeDims := 1, half := 0,
    fields := [staF Fld.CASC.LINK_STA.LANE_FAIL, staF Fld.CASC.LINK_STA.SINGLE, staF Fld.CASC.LINK_STA.SLIP, staF Fld.CASC.LINK_STA.DOWN, staF Fld.CASC.LINK_STA.SEQ] },
  { offset := 0x100c, dims := [(2, 0x400)], scope := some .cascLink, scopeDims := 1, half := 0,
    fields := [roF Fld.CASC.LINK_STATE.state 0] },
  { offset := 0x1010, dims := [(2, 0x400)], scope := some .cascLink, scopeDims := 1, half := 0,
    fields := [cntF Fld.CASC.FRAME_DROP_CNT.count 0] },
  { offset := 0x1014, dims := [(2, 0x400)], scope := some .cascLink, scopeDims := 1, half := 0,
    fields := [cntF Fld.CASC.TYPE_DROP_CNT.count 0] },
  { offset := 0x1018, dims := [(2, 0x400)], scope := some .cascLink, scopeDims := 1, half := 0,
    fields := [cntF Fld.CASC.SLIP_CNT.count 0] },
  { offset := 0x101c, dims := [(2, 0x400)], scope := some .cascLink, scopeDims := 1, half := 0,
    fields := [cntF Fld.CASC.NIBMSG_DROP_CNT.count 0] }]

/-- The registers of block CASC beyond the header (R140, R141). -/
def rows_CASC : List RegRow := rows_CASC_0 ++ rows_CASC_1

def rows_SYNC_0 : List RegRow := [
  { offset := 0x1000, dims := [], scope := none, scopeDims := 0, half := 0,
    fields := [cfgF Fld.SYNC.SYNC_CFG.master 0, cfgF Fld.SYNC.SYNC_CFG.epoch_line 0, cfgF Fld.SYNC.SYNC_CFG.module 0] },
  { offset := 0x1004, dims := [], scope := none, scopeDims := 0, half := 0,
    fields := [stageF Fld.SYNC.SYNC_EPOCH_LO.epoch 0] },
  { offset := 0x1008, dims := [], scope := none, scopeDims := 0, half := 0,
    fields := [stageF Fld.SYNC.SYNC_EPOCH_HI.epoch 0] },
  { offset := 0x100c, dims := [], scope := none, scopeDims := 0, half := 0,
    fields := [ctlF Fld.SYNC.SYNC_CMD.epoch_go] },
  { offset := 0x1010, dims := [], scope := none, scopeDims := 0, half := 0,
    fields := [roF Fld.SYNC.SYNC_STATE.phase_valid 0, roF Fld.SYNC.SYNC_STATE.epoch_valid 0] },
  { offset := 0x1014, dims := [], scope := none, scopeDims := 0, half := 0,
    fields := [roF Fld.SYNC.BUS_REF_CYC_LO.cyc 0] },
  { offset := 0x1018, dims := [], scope := none, scopeDims := 0, half := 0,
    fields := [roF Fld.SYNC.BUS_REF_CYC_HI.cyc 0] },
  { offset := 0x101c, dims := [], scope := none, scopeDims := 0, half := 1,
    fields := [roF Fld.SYNC.BUS_REF_TBS_LO.tbs 0] },
  { offset := 0x1020, dims := [], scope := none, scopeDims := 0, half := 2,
    fields := [roF Fld.SYNC.BUS_REF_TBS_HI.tbs 0] },
  { offset := 0x1024, dims := [], scope := none, scopeDims := 0, half := 0,
    fields := [roF Fld.SYNC.SYNC_HALF.half 0] },
  { offset := 0x1028, dims := [], scope := none, scopeDims := 0, half := 0,
    fields := [cntF Fld.SYNC.SYNC_GLITCH_CNT.count 0] },
  { offset := 0x102c, dims := [], scope := none, scopeDims := 0, half := 0,
    fields := [cntF Fld.SYNC.CASC_TRIG_DROP_CNT.count 0] }]

/-- The registers of block SYNC beyond the header (R328). -/
def rows_SYNC : List RegRow := rows_SYNC_0

def rows_CAL_0 : List RegRow := [
  { offset := 0x1000, dims := [], scope := none, scopeDims := 0, half := 0,
    fields := [stageF Fld.CAL.CAL_CFG.bg_en 0, stageF Fld.CAL.CAL_CFG.bg_period 60, stageF Fld.CAL.CAL_CFG.retry 3] },
  { offset := 0x1004, dims := [], scope := none, scopeDims := 0, half := 0,
    fields := [stageF Fld.CAL.CAL_SEL.target 0, stageF Fld.CAL.CAL_SEL.inst 0] },
  { offset := 0x1008, dims := [], scope := none, scopeDims := 0, half := 0,
    fields := [ctlF Fld.CAL.CAL_CMD.cal_go, ctlF Fld.CAL.CAL_CMD.commit_go] },
  { offset := 0x100c, dims := [], scope := none, scopeDims := 0, half := 0,
    fields := [roF Fld.CAL.CAL_STATE.state 0, roF Fld.CAL.CAL_STATE.result 0, roF Fld.CAL.CAL_STATE.target 0] },
  { offset := 0x1010, dims := [], scope := none, scopeDims := 0, half := 0,
    fields := [roF Fld.CAL.CAL_QUAL.q1 0, roF Fld.CAL.CAL_QUAL.q2 0] },
  { offset := 0x1014, dims := [], scope := none, scopeDims := 0, half := 0,
    fields := [cntF Fld.CAL.CAL_DONE_CNT.count 0] },
  { offset := 0x1018, dims := [], scope := none, scopeDims := 0, half := 0,
    fields := [cntF Fld.CAL.CAL_DISAGREE_CNT.count 0] },
  { offset := 0x101c, dims := [], scope := none, scopeDims := 0, half := 0,
    fields := [cntF Fld.CAL.CAL_PRECOND_CNT.count 0] }]

/-- The registers of block CAL beyond the header (R518). -/
def rows_CAL : List RegRow := rows_CAL_0

def rows_SPARE_0 : List RegRow := [
  { offset := 0x1000, dims := [], scope := none, scopeDims := 0, half := 0,
    fields := [stageF Fld.SPARE.SPARE_THR.pace 6, stageF Fld.SPARE.SPARE_THR.ecc 64] },
  { offset := 0x1004, dims := [], scope := none, scopeDims := 0, half := 0,
    fields := [ctlF Fld.SPARE.SPARE_CMD.commit_go] },
  { offset := 0x1008, dims := [], scope := none, scopeDims := 0, half := 0,
    fields := [roF Fld.SPARE.SPARE_LAST.kind 0, roF Fld.SPARE.SPARE_LAST.cause 0, roF Fld.SPARE.SPARE_LAST.inst 0, roF Fld.SPARE.SPARE_LAST.compare_fail 0] },
  { offset := 0x100c, dims := [], scope := none, scopeDims := 0, half := 0,
    fields := [cntF Fld.SPARE.HANDOVER_CNT.count 0] },
  { offset := 0x1010, dims := [], scope := none, scopeDims := 0, half := 0,
    fields := [cntF Fld.SPARE.HANDOVER_FAIL_CNT.count 0] },
  { offset := 0x1100, dims := [(12, 16)], scope := none, scopeDims := 0, half := 0,
    fields := [roF Fld.SPARE.SP_TOTAL.total 0] },
  { offset := 0x1104, dims := [(12, 16)], scope := none, scopeDims := 0, half := 0,
    fields := [roF Fld.SPARE.SP_FREE.free 0] },
  { offset := 0x1108, dims := [(12, 16)], scope := none, scopeDims := 0, half := 0,
    fields := [roF Fld.SPARE.SP_SUSPECT.suspect 0] },
  { offset := 0x110c, dims := [(12, 16)], scope := none, scopeDims := 0, half := 0,
    fields := [roF Fld.SPARE.SP_USED.used 0] }]

/-- The registers of block SPARE beyond the header (R519). -/
def rows_SPARE : List RegRow := rows_SPARE_0

def rows_RETAIN_0 : List RegRow := [
  { offset := 0x1000, dims := [], scope := none, scopeDims := 0, half := 0,
    fields := [roF Fld.RETAIN.RT_STATE.valid 0, roF Fld.RETAIN.RT_STATE.slot 0, roF Fld.RETAIN.RT_STATE.factory 0] },
  { offset := 0x1004, dims := [], scope := none, scopeDims := 0, half := 1,
    fields := [roF Fld.RETAIN.RT_SESSION_SEQ_LO.seq 0] },
  { offset := 0x1008, dims := [], scope := none, scopeDims := 0, half := 2,
    fields := [roF Fld.RETAIN.RT_SESSION_SEQ_HI.seq 0] },
  { offset := 0x100c, dims := [], scope := none, scopeDims := 0, half := 0,
    fields := [roF Fld.RETAIN.RT_FR_COUNT.count 0] },
  { offset := 0x1010, dims := [], scope := none, scopeDims := 0, half := 0,
    fields := [roF Fld.RETAIN.RT_LOG_COUNT.count 0] },
  { offset := 0x1014, dims := [], scope := none, scopeDims := 0, half := 0,
    fields := [cntF Fld.RETAIN.RT_BAD_CNT.count 0] },
  { offset := 0x1018, dims := [], scope := none, scopeDims := 0, half := 0,
    fields := [roF Fld.RETAIN.KEY_STATE.keys 0, roF Fld.RETAIN.KEY_STATE.require_signed 0] }]

/-- The registers of block RETAIN beyond the header (R520). -/
def rows_RETAIN : List RegRow := rows_RETAIN_0

def rows_NET_0 : List RegRow := [
  { offset := 0x1000, dims := [], scope := none, scopeDims := 0, half := 0,
    fields := [cfgF Fld.NET.NET_CFG.fec 0, cfgF Fld.NET.NET_CFG.tx_ring 0] },
  { offset := 0x1004, dims := [], scope := none, scopeDims := 0, half := 0,
    fields := [cfgF Fld.NET.NET_RXRING.rx_ring 0, cfgF Fld.NET.NET_RXRING.rx_free 0] },
  { offset := 0x1008, dims := [], scope := none, scopeDims := 0, half := 0,
    fields := [cfgF Fld.NET.NET_MAC_LO.mac 0] },
  { offset := 0x100c, dims := [], scope := none, scopeDims := 0, half := 0,
    fields := [cfgF Fld.NET.NET_MAC_HI.mac 0] },
  { offset := 0x1010, dims := [], scope := none, scopeDims := 0, half := 0,
    fields := [cfgF Fld.NET.NET_RX_COMP.comp 0x760] },
  { offset := 0x1014, dims := [], scope := none, scopeDims := 0, half := 0,
    fields := [cfgF Fld.NET.NET_TX_COMP.comp 0x600] },
  { offset := 0x1018, dims := [], scope := none, scopeDims := 0, half := 0,
    fields := [ctlF Fld.NET.NET_TXTS_CMD.pop_go] },
  { offset := 0x101c, dims := [], scope := none, scopeDims := 0, half := 0,
    fields := [roF Fld.NET.NET_TXTS_LEVEL.level 0] },
  { offset := 0x1020, dims := [], scope := none, scopeDims := 0, half := 0,
    fields := [roF Fld.NET.NET_TXTS_0.ns 0] },
  { offset := 0x1024, dims := [], scope := none, scopeDims := 0, half := 0,
    fields := [roF Fld.NET.NET_TXTS_1.ns 0] },
  { offset := 0x1028, dims := [], scope := none, scopeDims := 0, half := 0,
    fields := [roF Fld.NET.NET_TXTS_2.frac 0, roF Fld.NET.NET_TXTS_2.tag 0] },
  { offset := 0x102c, dims := [], scope := none, scopeDims := 0, half := 0,
    fields := [roF Fld.NET.NET_TXTS_3.seqid 0, roF Fld.NET.NET_TXTS_3.msgtype 0] }]

def rows_NET_1 : List RegRow := [
  { offset := 0x1030, dims := [], scope := none, scopeDims := 0, half := 0,
    fields := [cntF Fld.NET.TXTS_OVF_CNT.count 0] },
  { offset := 0x1034, dims := [], scope := none, scopeDims := 0, half := 0,
    fields := [cntF Fld.NET.STAMP_MISS_CNT.count 0] },
  { offset := 0x1038, dims := [], scope := none, scopeDims := 0, half := 0,
    fields := [cntF Fld.NET.RX_DROP_CNT.count 0] },
  { offset := 0x103c, dims := [], scope := none, scopeDims := 0, half := 0,
    fields := [roF Fld.NET.NET_STATE.link_up 0, roF Fld.NET.NET_STATE.fec_lock 0] },
  { offset := 0x1040, dims := [], scope := none, scopeDims := 0, half := 0,
    fields := [cntF Fld.NET.RX_NOBUF_CNT.count 0] }]

/-- The registers of block NET beyond the header (R228). -/
def rows_NET : List RegRow := rows_NET_0 ++ rows_NET_1

def rows_PWR_0 : List RegRow := [
  { offset := 0x1000, dims := [], scope := none, scopeDims := 0, half := 0,
    fields := [roF Fld.PWR.PWR_STATE.phases_ok 14, roF Fld.PWR.PWR_STATE.phase_short 0, roF Fld.PWR.PWR_STATE.therm 0, roF Fld.PWR.PWR_STATE.vin_low 0, roF Fld.PWR.PWR_STATE.service 0] },
  { offset := 0x1004, dims := [], scope := none, scopeDims := 0, half := 0,
    fields := [roF Fld.PWR.PWR_VIN.mv 0, roF Fld.PWR.PWR_VIN.ma10 0] },
  { offset := 0x1008, dims := [], scope := none, scopeDims := 0, half := 0,
    fields := [roF Fld.PWR.PWR_VAUX.mv 0, roF Fld.PWR.PWR_VAUX.ma 0] },
  { offset := 0x100c, dims := [], scope := none, scopeDims := 0, half := 0,
    fields := [roF Fld.PWR.PWR_POWER.dw 0] },
  { offset := 0x1010, dims := [], scope := none, scopeDims := 0, half := 0,
    fields := [roF Fld.PWR.PWR_TEMP.case 128, roF Fld.PWR.PWR_TEMP.junction 128, roF Fld.PWR.PWR_TEMP.optical 128, roF Fld.PWR.PWR_TEMP.dram 128] },
  { offset := 0x1014, dims := [], scope := none, scopeDims := 0, half := 0,
    fields := [roF Fld.PWR.PWR_PHASE.ok 0x3fff, roF Fld.PWR.PWR_PHASE.shed 0] },
  { offset := 0x1018, dims := [], scope := none, scopeDims := 0, half := 0,
    fields := [roF Fld.PWR.PWR_HOURS.hours 0] },
  { offset := 0x101c, dims := [], scope := none, scopeDims := 0, half := 0,
    fields := [cntF Fld.PWR.THERM_CNT.count 0] },
  { offset := 0x1020, dims := [], scope := none, scopeDims := 0, half := 0,
    fields := [cntF Fld.PWR.PHASE_SHED_CNT.count 0] },
  { offset := 0x1024, dims := [], scope := none, scopeDims := 0, half := 0,
    fields := [cntF Fld.PWR.VIN_LOW_CNT.count 0] }]

/-- The registers of block PWR beyond the header (R549). -/
def rows_PWR : List RegRow := rows_PWR_0

/-- The register rows of a block beyond its header, by block index (R36). -/
def blockRows (b : Nat) : List RegRow :=
  match b with
  | 0 => rows_GLOBAL
  | 1 => rows_STEWARD
  | 2 => rows_NIB
  | 3 => rows_BRUSH
  | 4 => rows_FLANE
  | 5 => rows_FLINK
  | 6 => rows_CLK
  | 7 => rows_TIME
  | 8 => rows_COND
  | 9 => rows_XFORM
  | 10 => rows_TRIG
  | 11 => rows_REC
  | 12 => rows_BLOT
  | 13 => rows_DISP
  | 14 => rows_INK
  | 15 => rows_HOSTQ
  | 16 => rows_DMA
  | 17 => rows_STOR
  | 18 => rows_CASC
  | 19 => rows_SYNC
  | 20 => rows_CAL
  | 21 => rows_SPARE
  | 22 => rows_RETAIN
  | 23 => rows_NET
  | 24 => rows_PWR
  | _ => []

/-- BLK_ID.scopes of each block (R558). -/
def scopesOf (b : Nat) : Nat :=
  match b with
  | 3 => 40
  | 4 => 48
  | 5 => 8
  | 6 => 36
  | 7 => 28
  | 8 => 40
  | 9 => 136
  | 10 => 52
  | 11 => 72
  | 12 => 16
  | 13 => 2
  | 14 => 16
  | 15 => 255
  | 16 => 64
  | 17 => 24
  | 18 => 6
  | _ => 0

end Sys2Proof.Machine
end

