-- ==== Sys2Proof/Machine/Ident.lean ====
section
/-! DEFINITION. Who issues a register access, and the numbering of unit scopes: the operand types that commands and
the State share. -/

namespace Sys2Proof.Machine

/-- Who issues a register access (R51). -/
inductive Requester where
  | hostBar0 | hostBar2 | hostBar4
  | nib (core : Fin 16)
  | steward
deriving DecidableEq, Repr

/-- The state of an enable scope as R41 to R44 see it. -/
inductive ScopeState where
  | off | run | draining
deriving DecidableEq, Repr

/-- One unit scope: its kind and its number within the kind (R558). -/
structure ScopeId where
  kind : ScopeKind
  idx : Nat
deriving DecidableEq, Repr

/-- A lane with a receiver of R140: lane l of field port p, or lane l of cascade link k. -/
inductive Lane where
  | field (p : Fin 8) (l : Fin 5)
  | casc (k : Fin 2) (l : Fin 2)
deriving DecidableEq, Repr

/-- A frame received on a field lane (R109): the port and physical lane, the 16 bits found at the sync position, the
sequence number the lane's receiver expects (it seeds the descrambler, R113), the 2,160 line bits after the sync word,
and the TB-S instant of the arrival. -/
structure FieldFrame where
  port : Fin 8
  lane : Fin 5
  sync : BitVec 16
  seq : BitVec 8
  line : List Bool
  arrival : DWord
deriving DecidableEq, Repr

/-- A frame received on a cascade lane, given as a field frame is. -/
structure CascFrame where
  link : Fin 2
  lane : Fin 2
  sync : BitVec 16
  seq : BitVec 8
  line : List Bool
  arrival : DWord
deriving DecidableEq, Repr

/-- A reference input that can be lost (R176). -/
inductive RefPin where
  | refclk | syncClk | mclk
deriving DecidableEq, Repr

/-- An error of the Inkwell's array that a read finds (R422): the cell, the codeword 0 to 6 or 7 for the address check, the
number of wrong bits (for the address check 1 where the reissued read matches and 2 where it does not), and the
syndrome. -/
structure InkErr where
  cell : Nat
  codeword : Nat
  bits : Nat
  syndrome : BitVec 14
deriving DecidableEq, Repr

/-- A flow (R347): a template's records, spectral flow k of an export channel, a plane's snapshots, or a disk stream. -/
inductive FlowId where
  | template (t : Fin 64)
  | spectral (ch : Fin 64) (k : Fin 4)
  | snapshot (k : Fin 16)
  | disk (s : Fin 16)
deriving DecidableEq, Repr

/-- A ring: a command ring or a result ring (R445). -/
inductive RingId where
  | command (c : Fin 1024)
  | result (r : Fin 3072)
deriving DecidableEq, Repr

/-- The data of a control command as read from host memory: the links of its chain, each with its address, its buffer's
length and the next link's address (R449), and the bytes of its buffers. -/
structure HostData where
  links : List (Nat × Nat × Nat)
  bytes : List Byte
deriving DecidableEq, Repr

/-- What an access to a Brush core's memories finds (R360). -/
inductive EccFind where
  | clean | corrected | uncorrectable
deriving DecidableEq, Repr

/-- A Brush instruction's fields but for its opcode (R365), with what its memory accesses find. -/
structure BrushWord where
  d : BitVec 5
  a : BitVec 5
  b : BitVec 5
  mask : BitVec 3
  trunc : Bool
  aux : BitVec 5
  imm : BitVec 32
  ecc : EccFind
deriving DecidableEq, Repr

/-- The causes of a host-port reset (R462). -/
inductive HostResetKind where
  | linkDown | perst | hotReset | flr
deriving DecidableEq, Repr

end Sys2Proof.Machine
end

