-- ==== Sys2Proof/Syntax.lean ====
section
/-! DEFINITION. The commands of the VX1600, one constructor for each row of spec/opcode_table.json. -/

namespace Sys2Proof

open Sys2Proof.Machine

/-- A command: an operation or event of the opcode table with its operands. -/
inductive Instr where
  /- Registers, configuration check and event routing (ch. 02). Register accesses carry the requester and the BAR0
  byte offset; a write carries its double words with their byte enables, since one request may hold several (R55). -/
  | registerWrite (req : Requester) (addr : BitVec 24) (data : List (Word × BitVec 4))
  | staClear (req : Requester) (addr : BitVec 24) (data : Word)
  | counterLowRead (req : Requester) (addr : BitVec 24)
  | xdomTimeout (req : Requester) (addr : BitVec 24) (write : Bool)
  | blockEnable (block : Fin 25)
  | blockDisable (block : Fin 25)
  | blockDrainEnd (block : Fin 25)
  | unitDrainEnd (scope : ScopeId)
  | crcCommit (block : Fin 25)
  | rescrubGo (block : Fin 25)
  | rescrub (block : Fin 25)
  | compareHoldExpiry (block : Fin 25)
  | driftRepair (block : Fin 25)
  | evtRouteCommit
  /- Sessions and the Nib instruction set (ch. 03). Each Nib command names the program slot that issues it; register
  fields are the raw 5-bit fields of the instruction word (R84). -/
  | progLoad (ring : Fin 1024) (data : HostData) (signatureOk : Bool)
  | progUnload (ring : Fin 1024) (data : HostData)
  | progStop (slot : Fin 12)
  | progRestart (slot : Fin 12)
  | nibAdd (slot : Fin 12) (rd ra rb : BitVec 5)
  | nibSub (slot : Fin 12) (rd ra rb : BitVec 5)
  | nibAnd (slot : Fin 12) (rd ra rb : BitVec 5)
  | nibOr (slot : Fin 12) (rd ra rb : BitVec 5)
  | nibXor (slot : Fin 12) (rd ra rb : BitVec 5)
  | nibSll (slot : Fin 12) (rd ra rb : BitVec 5)
  | nibSrl (slot : Fin 12) (rd ra rb : BitVec 5)
  | nibSra (slot : Fin 12) (rd ra rb : BitVec 5)
  | nibMul (slot : Fin 12) (rd ra rb : BitVec 5)
  | nibMulh (slot : Fin 12) (rd ra rb : BitVec 5)
  | nibMulhu (slot : Fin 12) (rd ra rb : BitVec 5)
  | nibMin (slot : Fin 12) (rd ra rb : BitVec 5)
  | nibMax (slot : Fin 12) (rd ra rb : BitVec 5)
  | nibMinu (slot : Fin 12) (rd ra rb : BitVec 5)
  | nibMaxu (slot : Fin 12) (rd ra rb : BitVec 5)
  | nibClz (slot : Fin 12) (rd ra rb : BitVec 5)
  | nibCmpeq (slot : Fin 12) (rd ra rb : BitVec 5)
  | nibCmpne (slot : Fin 12) (rd ra rb : BitVec 5)
  | nibCmplt (slot : Fin 12) (rd ra rb : BitVec 5)
  | nibCmpltu (slot : Fin 12) (rd ra rb : BitVec 5)
  | nibCmpge (slot : Fin 12) (rd ra rb : BitVec 5)
  | nibCmpgeu (slot : Fin 12) (rd ra rb : BitVec 5)
  | nibPand (slot : Fin 12) (rd ra rb : BitVec 5)
  | nibPor (slot : Fin 12) (rd ra rb : BitVec 5)
  | nibPnot (slot : Fin 12) (rd ra rb : BitVec 5)
  | nibJr (slot : Fin 12) (ra : BitVec 5)
  | nibNop (slot : Fin 12)
  | nibHalt (slot : Fin 12)
  | nibMfs (slot : Fin 12) (rd ra : BitVec 5)
  | nibMts (slot : Fin 12) (rd ra : BitVec 5)
  | nibSbnd (slot : Fin 12)
  | nibEret (slot : Fin 12)
  | nibTread (slot : Fin 12) (rd rb : BitVec 5)
  | nibTwait (slot : Fin 12) (rd ra rb : BitVec 5)
  | nibAddi (slot : Fin 12) (rd ra : BitVec 5) (imm : BitVec 16)
  | nibAndi (slot : Fin 12) (rd ra : BitVec 5) (imm : BitVec 16)
  | nibOri (slot : Fin 12) (rd ra : BitVec 5) (imm : BitVec 16)
  | nibXori (slot : Fin 12) (rd ra : BitVec 5) (imm : BitVec 16)
  | nibLui (slot : Fin 12) (rd : BitVec 5) (imm : BitVec 16)
  | nibShi (slot : Fin 12) (rd ra : BitVec 5) (imm : BitVec 16)
  | nibCmpeqi (slot : Fin 12) (rd ra : BitVec 5) (imm : BitVec 16)
  | nibCmplti (slot : Fin 12) (rd ra : BitVec 5) (imm : BitVec 16)
  | nibCmpltui (slot : Fin 12) (rd ra : BitVec 5) (imm : BitVec 16)
  | nibLw (slot : Fin 12) (rd base : BitVec 5) (off : BitVec 16)
  | nibLh (slot : Fin 12) (rd base : BitVec 5) (off : BitVec 16)
  | nibLhu (slot : Fin 12) (rd base : BitVec 5) (off : BitVec 16)
  | nibLb (slot : Fin 12) (rd base : BitVec 5) (off : BitVec 16)
  | nibLbu (slot : Fin 12) (rd base : BitVec 5) (off : BitVec 16)
  | nibSw (slot : Fin 12) (rd base : BitVec 5) (off : BitVec 16)
  | nibSh (slot : Fin 12) (rd base : BitVec 5) (off : BitVec 16)
  | nibSb (slot : Fin 12) (rd base : BitVec 5) (off : BitVec 16)
  | nibBr (slot : Fin 12) (pred : BitVec 3) (sense : Bool) (off : BitVec 22)
  | nibCall (slot : Fin 12) (pred : BitVec 3) (sense : Bool) (off : BitVec 22)
  | nibLoop (slot : Fin 12) (count : BitVec 5) (len : BitVec 12) (stages : BitVec 2)
  | nibLoopm (slot : Fin 12) (count : BitVec 5) (len : BitVec 12) (stages : BitVec 2)
  | ucmdEnable (slot : Fin 12) (handle : BitVec 10) (a : BitVec 5) (sp : BitVec 3)
  | ucmdDisable (slot : Fin 12) (handle : BitVec 10) (a : BitVec 5) (sp : BitVec 3)
  | ucmdArm (slot : Fin 12) (handle : BitVec 10) (a : BitVec 5) (sp : BitVec 3)
  | ucmdDisarm (slot : Fin 12) (handle : BitVec 10) (a : BitVec 5) (sp : BitVec 3)
  | ucmdStart (slot : Fin 12) (handle : BitVec 10) (a : BitVec 5) (sp : BitVec 3)
  | ucmdStop (slot : Fin 12) (handle : BitVec 10) (a : BitVec 5) (sp : BitVec 3)
  | ucmdFlush (slot : Fin 12) (handle : BitVec 10) (a : BitVec 5) (sp : BitVec 3)
  | ucmdHoldReset (slot : Fin 12) (handle : BitVec 10) (a : BitVec 5) (sp : BitVec 3)
  | pop (slot : Fin 12) (handle : BitVec 10) (a : BitVec 5) (sp : BitVec 3)
  | ustage (slot : Fin 12) (handle : BitVec 10) (a : BitVec 5) (area : BitVec 4) (sp : BitVec 3)
  | ucommit (slot : Fin 12) (handle : BitVec 10) (a : BitVec 5) (sp : BitVec 3)
  | uwait (slot : Fin 12) (handle : BitVec 10) (a : BitVec 5) (cond : BitVec 4) (sp : BitVec 3) (arrived : Bool)
  | uread (slot : Fin 12) (handle : BitVec 10) (a : BitVec 5) (sp : BitVec 3)
  | uwrite (slot : Fin 12) (handle : BitVec 10) (a : BitVec 5) (sp : BitVec 3)
  | post (slot : Fin 12) (handle : BitVec 10) (a : BitVec 5) (sel : BitVec 4) (sp : BitVec 3)
  | postCascade (slot : Fin 12) (handle : BitVec 10) (a : BitVec 5) (sp : BitVec 3)
  | barrier (slot : Fin 12) (handle : BitVec 10) (a : BitVec 5) (sp : BitVec 3)
  | waitDecision (slot : Fin 12) (arrived : Bool)
  | waitTimeout (slot : Fin 12) (arrived : Bool)
  /- Field lanes and cascade lanes (ch. 04). A received frame is given as the line bits of one frame time. -/
  | sampleFrame (f : FieldFrame)
  | idleFrame (f : FieldFrame)
  | rttMark (f : FieldFrame)
  | frameLock (lane : Lane) (inverted : Bool)
  | lossOfLock (lane : Lane) (framesLost : Nat)
  | losAssert (p : Fin 8) (l : Fin 5)
  | losDeassert (p : Fin 8) (l : Fin 5)
  | optLow (p : Fin 8) (l : Fin 5)
  | dfeTapStep (lane : Lane) (up : BitVec 6)
  | dfeRail (lane : Lane)
  | cdrLock (lane : Lane)
  | tapsSettled (lane : Lane)
  | seqFound (lane : Lane) (seq : BitVec 8) (farIndex : BitVec 3)
  | laneReady (lane : Lane) (skewSteps : Nat)
  | portRestore (p : Fin 8)
  | portRetrain (p : Fin 8)
  | singleGo (lane : Lane)
  | burstGo (lane : Lane)
  | rateInject (lane : Lane)
  | testEnable (lane : Lane)
  | testDisable (lane : Lane)
  | checkerLock (lane : Lane)
  | checkerLoss (lane : Lane) (bits errors : Nat)
  | cascSlip (k : Fin 2) (l : Fin 2)
  | linkRetrain (k : Fin 2)
  | trigFrame (f : CascFrame)
  | trigFrameSend (k : Fin 2)
  | densityFrame (f : CascFrame)
  | nibmsgFrame (f : CascFrame)
  /- The field link and the heads (ch. 05). The rows of received messages carry the MESSAGE frame. -/
  | headId (f : FieldFrame)
  | headIdTimeout (p : Fin 8)
  | headLife (f : FieldFrame)
  | headSilent (p : Fin 8)
  | headCfg (f : FieldFrame)
  | headCfgTimeout (p : Fin 8)
  | headCal (f : FieldFrame)
  | laneMap (f : FieldFrame)
  | rttReply (f : FieldFrame)
  | rttMeasure (p : Fin 8) (t1 : DWord)
  | rttAbandon (p : Fin 8)
  | headImageStatus (f : FieldFrame)
  | alarm (f : FieldFrame)
  | ack (f : FieldFrame)
  | ackSend (p : Fin 8)
  | msgResend (p : Fin 8)
  | idReqGo (p : Fin 8)
  | imageActivateGo (p : Fin 8)
  | takeoverGo (q : Fin 8)
  | revertGo (q : Fin 8)
  | rttResetGo (p : Fin 8)
  | headImage (ring : Fin 1024) (data : HostData) (signatureOk : Bool)
  /- Clock synthesis (ch. 06). `mclk` is the frequency on MCLK in Hz, `twin` names PLL-R's core that is not active. -/
  | pllEnable (y : Fin 4) (mclk : Nat)
  | pllDisable (y : Fin 4)
  | twinSwapGo
  | refRevertGo
  | outEnable (y : Fin 4) (o : Fin 8)
  | outDisable (y : Fin 4) (o : Fin 8)
  | delayCommit (y : Fin 4) (o : Fin 8)
  | refLoss (r : RefPin)
  | pllLock (y : Fin 4) (twin : Bool)
  | settleEnd (y : Fin 4)
  | pllLol (y : Fin 4) (twin : Bool)
  | holdoverExpiry
  | refReturn (r : RefPin)
  /- Time bases, TDC and network time (ch. 07). An edge comes with its linearised stamp and its raw counts; a network
  frame runs from its destination address to the end of its payload. -/
  | snapGo
  | incrCommitGo
  | onceGo
  | tbmCommitGo
  | turnLoadApply
  | fiducial (input : BitVec 5)
  | tdcStamp (c : Fin 20) (falling : Bool) (tbs : DWord) (coarse : BitVec 40) (fine : BitVec 10)
  | tdcPop (c : Fin 20)
  | tdcEnable (c : Fin 20)
  | tdcDisable (c : Fin 20)
  | ivalArm (i : Fin 4)
  | ivalTimeout (i : Fin 4)
  | freqStart (r : Fin 4)
  | freqStop (r : Fin 4)
  | gateEnd (r : Fin 4)
  | ppsIn
  | ppsOutPulse
  | ppsOutEnd
  | netRxFrame (frame : List Byte) (fcsOk : Bool)
  | netTxFrame (frame : List Byte)
  | txtsPop
  | netLinkDown
  | netLinkUp
  /- Conditioning (ch. 08). `p` is a port, `o` a stream output of it, `z` a zoom instance. -/
  | spkEnable (p : Fin 8)
  | spkDisable (p : Fin 8)
  | spkCommit (p : Fin 8)
  | spikeBlockEnd (p : Fin 8) (o : Fin 4)
  | zcEnable (z : Fin 32)
  | zcDisable (z : Fin 32)
  | zcCommit (z : Fin 32)
  | zoomBlockBoundary (z : Fin 32)
  | fadeEnd (z : Fin 32)
  | zoomOutput (z : Fin 32)
  /- Transforms (ch. 09). `i` is a pair instance, `w` a window slot. -/
  | xfEnable (i : Fin 128)
  | alignStart (i : Fin 128)
  | xfDisable (i : Fin 128)
  | xfCommit (i : Fin 128)
  | xfHoldReset (i : Fin 128)
  | transformFrame (i : Fin 128)
  | winEnable (w : Fin 8)
  | winDisable (w : Fin 8)
  /- Triggers (ch. 10). `m` is a mask, `c` a comparator, `t` a timer, `o` a TRIG_OUT, `q` a sequencer, `line` a sync line.
  A match comes with its turn and the start of the SAMP cycle in which TB-M reaches the bucket; a pulse with the bus
  cycle it starts in and its length in cycles; a bus measurement with the two stamps of R318. -/
  | maskEnable (m : Fin 16)
  | maskDisable (m : Fin 16)
  | maskCommit (m : Fin 16)
  | mecEnable (c : Fin 8)
  | mecDisable (c : Fin 8)
  | mecCommit (c : Fin 8)
  | mecMatch (c : Fin 8) (turn : BitVec 48) (tbs : DWord)
  | tmrEnable (t : Fin 8)
  | tmrDisable (t : Fin 8)
  | timerFire (t : Fin 8)
  | swFire
  | trigOutEnable (o : Fin 4)
  | trigOutDisable (o : Fin 4)
  | seqEnable (q : Fin 16)
  | seqDisable (q : Fin 16)
  | seqArm (q : Fin 16)
  | seqDisarm (q : Fin 16)
  | seqCommit (q : Fin 16)
  | seqCommitApply (q : Fin 16)
  | arcA (q : Fin 16)
  | arcT (q : Fin 16)
  | tadpoleCommit (q : Fin 16)
  | qualLimit (q : Fin 16)
  | trigOutPulseEnd (o : Fin 4)
  | syncTrgDrive (line : Fin 8)
  | syncPulse (line : Fin 8) (cycle : BitVec 48) (len : Nat)
  | epochGo
  | syncPhaseMeasure (tf tr : DWord)
  | busPhaseLost
  /- Records, raw rings and look-back (ch. 11). `errs` are the array errors that the reads of the step find. -/
  | rawCellWrite (stream : BitVec 8)
  | recordAssembly (errs : List InkErr)
  | throttleDouble (f : FlowId)
  | throttleHalve (f : FlowId)
  | tplEnable (t : Fin 64)
  | tplDisable (t : Fin 64)
  | tplRestart (t : Fin 64)
  | lbSubmit (j : Fin 8)
  | lbCancel (j : Fin 8)
  | lbDone (j : Fin 8) (errs : List InkErr)
  /- Brush vector cores (ch. 12). `c` is a pool core, `w` the instruction's fields. -/
  | brNop (c : Fin 40) (w : BrushWord)
  | brEnd (c : Fin 40) (w : BrushWord)
  | brBrz (c : Fin 40) (w : BrushWord)
  | brBrnz (c : Fin 40) (w : BrushWord)
  | brBrlt (c : Fin 40) (w : BrushWord)
  | brRep (c : Fin 40) (w : BrushWord)
  | brMfs (c : Fin 40) (w : BrushWord)
  | brWaitin (c : Fin 40) (w : BrushWord)
  | brSadd (c : Fin 40) (w : BrushWord)
  | brSaddi (c : Fin 40) (w : BrushWord)
  | brSsub (c : Fin 40) (w : BrushWord)
  | brSmul (c : Fin 40) (w : BrushWord)
  | brSand (c : Fin 40) (w : BrushWord)
  | brSor (c : Fin 40) (w : BrushWord)
  | brSxor (c : Fin 40) (w : BrushWord)
  | brSsh (c : Fin 40) (w : BrushWord)
  | brSld (c : Fin 40) (w : BrushWord)
  | brSst (c : Fin 40) (w : BrushWord)
  | brVext (c : Fin 40) (w : BrushWord)
  | brVins (c : Fin 40) (w : BrushWord)
  | brVadd (c : Fin 40) (w : BrushWord)
  | brVadds (c : Fin 40) (w : BrushWord)
  | brVsub (c : Fin 40) (w : BrushWord)
  | brVsubs (c : Fin 40) (w : BrushWord)
  | brVmul (c : Fin 40) (w : BrushWord)
  | brVmax (c : Fin 40) (w : BrushWord)
  | brVmin (c : Fin 40) (w : BrushWord)
  | brVabs (c : Fin 40) (w : BrushWord)
  | brVand (c : Fin 40) (w : BrushWord)
  | brVor (c : Fin 40) (w : BrushWord)
  | brVxor (c : Fin 40) (w : BrushWord)
  | brVshl (c : Fin 40) (w : BrushWord)
  | brVsra (c : Fin 40) (w : BrushWord)
  | brVspl (c : Fin 40) (w : BrushWord)
  | brVcmplt (c : Fin 40) (w : BrushWord)
  | brVcmpeq (c : Fin 40) (w : BrushWord)
  | brVsel (c : Fin 40) (w : BrushWord)
  | brNorm (c : Fin 40) (w : BrushWord)
  | brExpx (c : Fin 40) (w : BrushWord)
  | brVshlv (c : Fin 40) (w : BrushWord)
  | brVrot (c : Fin 40) (w : BrushWord)
  | brMsetn (c : Fin 40) (w : BrushWord)
  | brAclr (c : Fin 40) (w : BrushWord)
  | brVmac (c : Fin 40) (w : BrushWord)
  | brVmsu (c : Fin 40) (w : BrushWord)
  | brVdot (c : Fin 40) (w : BrushWord)
  | brAcadd (c : Fin 40) (w : BrushWord)
  | brAcx (c : Fin 40) (w : BrushWord)
  | brAcred (c : Fin 40) (w : BrushWord)
  | brAcxf (c : Fin 40) (w : BrushWord)
  | brAcxd (c : Fin 40) (w : BrushWord)
  | brVcvtf (c : Fin 40) (w : BrushWord)
  | brVfadd (c : Fin 40) (w : BrushWord)
  | brVfmul (c : Fin 40) (w : BrushWord)
  | brVfmax (c : Fin 40) (w : BrushWord)
  | brVfmin (c : Fin 40) (w : BrushWord)
  | brVcvtq (c : Fin 40) (w : BrushWord)
  | brAcfadd (c : Fin 40) (w : BrushWord)
  | brVld (c : Fin 40) (w : BrushWord)
  | brVst (c : Fin 40) (w : BrushWord)
  | brVldi (c : Fin 40) (w : BrushWord)
  | brVsti (c : Fin 40) (w : BrushWord)
  | brInblk (c : Fin 40) (w : BrushWord)
  | brOute (c : Fin 40) (w : BrushWord)
  | inblkDone (c : Fin 40) (errs : List InkErr)
  | invocationStart (kernel : BitVec 8)
  | krnTime (c : Fin 40)
  | invocationCancel (c : Fin 40)
  | kernelLoad (ring : Fin 1024) (data : HostData) (signatureOk : Bool)
  /- Density planes and the display (ch. 13). `k` is a logical plane, `o` an output. -/
  | plEnable (k : Fin 16)
  | plDisable (k : Fin 16)
  | plCommit (k : Fin 16)
  | plClear (k : Fin 16)
  | plSnap (k : Fin 16)
  | plRestart (k : Fin 16)
  | snapDone (k : Fin 16)
  | persistTick (k : Fin 16)
  | dispCommit
  | layerRelease
  | touchGo
  | dpEnable (o : Fin 2)
  | dpDisable (o : Fin 2)
  | replayHoldGo (o : Fin 2)
  | replayExitGo (o : Fin 2)
  | dispFrameStart (o : Fin 2) (errs : List InkErr)
  | dpLinkLost (o : Fin 2) (hpd : Bool)
  | dpLinkRetry (o : Fin 2)
  | dpLinkUp (o : Fin 2) (replayCap : Bool)
  /- The Inkwell (ch. 14). `src` is a source of R429, `c` a channel; `errs` are the array errors that the reads of the
  step find. `busy` says that a C0 or promoted request waits, `paid` how many refreshes the channel has made up, `away`
  whether the oscillator departs by 1/64 UI or more and to which side, `fail` the compare failures. -/
  | inkRead (src : Fin 14) (addr : BitVec 40) (len : Nat) (errs : List InkErr)
  | inkWrite (src : Fin 14) (addr : BitVec 40) (data : List Byte) (errs : List InkErr)
  | patrolScrub (errs : List InkErr)
  | scrubGo
  | refreshDue (c : Fin 16) (busy : Bool) (paid : Nat)
  | tempStatusRead (c : Fin 16) (rate : Fin 3)
  | requestPromote (c : Fin 16) (k : Fin 4)
  | driftRead (c : Fin 16) (osc : BitVec 16) (away : Option Bool)
  | rowRemapped (c : Fin 16) (bank : BitVec 5) (row : BitVec 16)
  | bankSpared (c : Fin 16) (bank : BitVec 5)
  | channelFailed (c : Fin 16)
  | channelRetrained
  | inkRetrain
  | xlateGo
  | elogPop
  | trnRun (c : Fin 16) (fail : BitVec 24)
  /- The host port (ch. 15). A doorbell access is a write of `data` or, without it, a read, of `len` bytes at a BAR4 offset;
  `entries` are the entries of host memory that the new count publishes. A BAR2 write gives each byte with its enable.
  `bad` are the offsets in a burst or a payload of the bytes whose Inkwell read returned an error. -/
  | doorbell (offset : BitVec 20) (len : Nat) (data : Option Word) (entries : List (List Byte))
  | ringEnable (r : RingId)
  | ringDisable (r : RingId)
  | ringResume (r : RingId)
  | ringReset (r : RingId)
  | hqCommit
  | winCommit
  | bar2Access (offset : BitVec 36) (len : Nat) (data : Option (List (Byte × Bool))) (errs : List InkErr)
  | ctrlNop (ring : Fin 1024) (data : HostData)
  | readRetry (r : RingId)
  | coalTimer (r : Fin 3072)
  | dmaBurst (ch : Fin 64) (bad : List Nat)
  | flushTimer (ch : Fin 64)
  | freelistRetry (ch : Fin 64)
  | dmaEnable (ch : Fin 64)
  | dmaDisable (ch : Fin 64)
  | dmaPromote (ch : Fin 64)
  | dmaResume (ch : Fin 64)
  | hostReset (kind : HostResetKind)
  | linkRate (gen : BitVec 2) (width : BitVec 5)
  /- Streaming to drives (ch. 16). `d` is a drive slot, `n` a disk stream. An attach comes with the label copies and the
  journal entries found on the drive, a drive that comes up with its link, its logical block size, whether it carries
  metadata and its size in blocks, a finished read with its bytes unless the drive failed. -/
  | attachGo (d : Fin 8) (labels : List (List Byte)) (journal : List (List Byte))
  | formatGo (d : Fin 8)
  | measureGo (d : Fin 8)
  | retireGo (d : Fin 8)
  | detachGo (d : Fin 8)
  | dsEnable (n : Fin 16)
  | dsDisable (n : Fin 16)
  | dsRestart (n : Fin 16)
  | readGo
  | readDone (data : Option (List Byte))
  | extentWrite (n : Fin 16) (bad : List Nat)
  | journalFlush (d : Fin 8)
  | journalBlockDone (d : Fin 8)
  | drvLost (d : Fin 8) (timeout : Bool)
  | driveLinkUp (d : Fin 8) (gen : BitVec 2) (width : BitVec 5) (lbaSize : Nat) (metadata : Bool) (blocks : Nat)
  | measureEnd (d : Fin 8) (mbs : Word)
  | wearRead (d : Fin 8) (used crit : Byte)
  | drvSlow (d : Fin 8)
  /- The Steward (ch. 17). A unit is a spare kind with an instance; `values1` and `values2` are the adjusted values of two
  runs in units of their step, `held` whether the precondition held throughout both, `q` the quality figure. -/
  | calGo
  | calCommit
  | calRunEnd (values1 values2 : List Int) (held : Bool) (q : Nat × Nat)
  | calRetry
  | calBackground
  | calRun (ring : Fin 1024) (data : HostData)
  | handoverStart (block : Fin 25) (kind : Fin 12) (inst : BitVec 16) (cause : Fin 6)
  | shadowCompare (block : Fin 25) (gap agree : Bool)
  | handoverSwitch (block : Fin 25)
  | unitFailure (block : Fin 25) (kind : Fin 12) (inst : BitVec 16)
  | spareSelftest (kind : Fin 12) (num : BitVec 16) (pass : Bool)
  | spareCommit
  | spareRetest (ring : Fin 1024) (data : HostData) (pass : Bool)
  | paceRead (margins : List (Nat × Int))
  | keepalive
  | keepaliveTimeout
  | avsCommit
  | liveImageUpdate
  | sessionCommit (ring : Fin 1024) (data : HostData) (written : Bool)
  | sessionClear (ring : Fin 1024) (data : HostData) (written : Bool)
  | keyChange (ring : Fin 1024) (data : HostData) (signatureOk : Bool)
  | fwUpdate (ring : Fin 1024) (data : HostData) (signatureOk : Bool)
  | fwSwitch
  | fwConfirm
  | serviceBundle (ring : Fin 1024) (data : HostData) (maker : List Byte)
  | holdGo
  | resumeGo
  | discardGo
  | holdWindowEnd
  | stewardTakeover
  | standbyReady
  /- The module (ch. 18). Temperatures are signed bytes in °C; `bad` are the phases that fail their check, or at POWER_UP
  the retained regions without a valid slot, with the calibration records whose check fails; `vaux` says whether VAUX stays within range; a JTAG command
  loads its instruction and makes one data scan: `pins` are the levels captured, `tdi` the bits shifted in. -/
  | powerUp (resumeInh service : Bool) (bad : BitVec 6) (badCal : List Nat)
  | perstRelease
  | perstTimeout
  | vinLow (vaux : Bool)
  | thermWarn (case_ junction optical dram : Byte)
  | thermalShutdown
  | railFault
  | phaseCheck (bad : BitVec 14)
  | smbusRegRead (code : Byte)
  | smbusIdent
  | smbusAra
  | jtagBypass (tdi : List Bool)
  | jtagIdcode (tdi : List Bool)
  | jtagSamplePreload (pins tdi : List Bool)
  | jtagExtest (pins tdi : List Bool)
  | jtagClamp (tdi : List Bool)
  | jtagHighz (tdi : List Bool)
  | hostLinkUp (gen : BitVec 2) (width : BitVec 5)
  | vauxWithinRange
deriving DecidableEq, Repr

end Sys2Proof
end

