-- ==== Sys2Proof/Config.lean ====
section
/-! DEFINITION. The free values: constants without a body, one for each value the spec leaves open. A meaning applies
one to the operands it depends on, or to the State's counter of free values. Nothing can evaluate them or prove a value
of them. -/

namespace Sys2Proof.Config

/-- Whether a quotient that is not exact, at a place where the spec states no rounding, is rounded up; the first
argument names the place. -/
opaque roundsUp : Nat → Int → Nat → Bool
/-- Byte i of the SHA-384 digest of a byte string: FIPS 180-4 defines it, not this spec. -/
opaque sha384 : List Byte → Nat → Byte
/-- A value the spec leaves open, at a place named by the first argument; the second is the State's count of free
values drawn. -/
opaque freeNat : Nat → Nat → Nat
/-- MACH cycles in tick n of 50 ns: MCLK comes from outside. -/
opaque machCycles : Nat → Nat
/-- Where the exact decibel value of a power num/den lies between two LOGP16 codes, whether the upper one is delivered:
R270 allows either. -/
opaque logUp : Nat → Nat → Bool
/-- Which of the binary32 values within 2^-22 of the exact power num/den is delivered (R270). -/
opaque powUlp : Nat → Nat → Nat
/-- The number of fractional bits of the FFT's twiddle factors, which R266 does not state. -/
opaque twiddleBits : Nat
/-- The deviation of an NCO table value from the nearest Q1.17 number, by table address (R235). -/
opaque ncoError : Nat → Nat
/-- One part of a half-band output from its input window, newest first (ch. 08 states no coefficients); the first
argument is 1 for HB1 and 2 for HB2. -/
opaque halfBand : Nat → List Int → Int
/-- One part of a resampler output from the newest inputs of the stage and the fractional position (R240 states no
interpolation kernel). -/
opaque farrow : List Int → Nat → Int
/-- The stored value of a window whose defined value is below 0, by index and N: R264 stores unsigned numbers only. -/
opaque negWindow : Nat → Nat → Int
/-- Where a channel position lies among the rows of its channel: the translation of R417, which the manual leaves open. -/
opaque inkPosition : Nat → Nat
/-- The bits of a NaN result, which neither R366 nor IEEE 754 fixes, from the operands. -/
opaque nanBits : Nat → Nat → Nat
/-- Which operand binary32 maximum (true) or minimum of two operands gives where an operand is a NaN or the two are zeros of
unequal sign: R366 does not say. -/
opaque pickSecond : Bool → Nat → Nat → Bool
/-- What a NaN converts to (VCVTQ, ACFADD), which R366 does not say. -/
opaque nanFixed : Nat → Int
/-- binary64 bits of 10 log10 of a power num/den (R346), whose rounding is not stated. -/
opaque decibel : Nat → Nat → Nat
/-- binary64 bits of the square root of num/den (R346), whose rounding is not stated. -/
opaque root : Nat → Nat → Nat
/-- binary64 bits of result A, B or C (0, 1, 2) of the period kernel on a complex stream, from the sample index, I and Q of each
sample used and the sample period: the unwrapped argument of R346. -/
opaque phaseFit : Nat → List (Nat × Int × Int) → Nat → Nat
/-- The first slot of a drive's partition for a disk stream and its number of slots, which R470 leaves open: by drive, slots of
the drive and stream. -/
opaque partition : Nat → Nat → Nat → Nat × Nat
/-- A Brush result that R366 does not state, by opcode, operand and modifier: a shift amount outside its range, a selector that
names nothing, the least count of no lane, a column that a lane does not hold. -/
opaque brushOpen : Nat → Nat → Nat → Nat
/-- binary64 bits of result A, B or C (0, 1, 2) of the peak kernel away from a band edge, from the decibel values of three powers
given as numerators and denominators (R346), whose logarithms and roundings are not stated; A also from the frequency of the
peak's column and the width of a column. -/
opaque peakFit : Nat → List (Int × Nat) → Nat

end Sys2Proof.Config
end

