-- ==== Sys2Proof/Machine/Sparse.lean ====
section
/-! DEFINITION. Sparse maps: a list of (key, value) pairs in one canonical form, keys strictly rising and no entry
equal to what an unlisted key reads as. The register file, the memories and the tables of the State are such lists,
each with its own default function. -/

namespace Sys2Proof.Machine

variable {α : Type}

/-- The value at a key: the listed one, or the default. -/
def sparseGet (d : Nat → α) : List (Nat × α) → Nat → α
  | [], k => d k
  | (k', v) :: t, k => if k' = k then v else sparseGet d t k

/-- A sparse map with the value at one key replaced, in canonical form. -/
def sparsePut [DecidableEq α] (d : Nat → α) (k : Nat) (v : α) : List (Nat × α) → List (Nat × α)
  | [] => if v = d k then [] else [(k, v)]
  | (k', v') :: t =>
    if k < k' then (if v = d k then (k', v') :: t else (k, v) :: (k', v') :: t)
    else if k = k' then (if v = d k then t else (k, v) :: t)
    else (k', v') :: sparsePut d k v t

/-- Every key of the list lies above a bound, and they rise. -/
def keysAbove (b : Nat) : List (Nat × α) → Bool
  | [] => true
  | (k, _) :: t => decide (b < k) && keysAbove k t

/-- The keys rise strictly. -/
def keysRise : List (Nat × α) → Bool
  | [] => true
  | (k, _) :: t => keysAbove k t

/-- The canonical form: strictly rising keys, no entry equal to the default. -/
def sparseWf [DecidableEq α] (d : Nat → α) (m : List (Nat × α)) : Bool :=
  keysRise m && m.all (fun e => decide (e.2 ≠ d e.1))

/-- n values from key k on. -/
def sparseGetN (d : Nat → α) (m : List (Nat × α)) (k : Nat) : Nat → List α
  | 0 => []
  | n + 1 => sparseGet d m k :: sparseGetN d m (k + 1) n

/-- Values written to consecutive keys from k on. -/
def sparsePutN [DecidableEq α] (d : Nat → α) (m : List (Nat × α)) (k : Nat) : List α → List (Nat × α)
  | [] => m
  | v :: t => sparsePutN d (sparsePut d k v m) (k + 1) t

/-- A sparse map without the entries whose key fails a test. -/
def sparseFilter (p : Nat → Bool) (m : List (Nat × α)) : List (Nat × α) := m.filter (fun e => p e.1)

end Sys2Proof.Machine
end

