-- ==== Sys2Proof/Machine/RegMap.lean ====
section
/-! DEFINITION. Finding a register from its BAR0 offset (R36, R37), the reset value of every register, and the
CRC-32C of a block's configuration (R63, R551). -/

namespace Sys2Proof.Machine

/-- The index of a byte offset in an array of registers, one number for each dimension; none where the offset is not
the offset of a register of the array. -/
def locate : List (Nat × Nat) → Nat → Option (List Nat)
  | [], r => if r = 0 then some [] else none
  | (c, st) :: t, r => if r / st < c then (locate t (r % st)).map (fun l => r / st :: l) else none

/-- A register found: its row, its block, and its indexes. -/
structure RegRef where
  row : RegRow
  block : Nat
  idx : List Nat
deriving DecidableEq, Repr

/-- The first row that has a register at an offset of its block. -/
def findRow (b off : Nat) : List RegRow → Option RegRef
  | [] => none
  | r :: t =>
    if off < r.offset then findRow b off t
    else match locate r.dims (off - r.offset) with
      | some ix => some ⟨r, b, ix⟩
      | none => findRow b off t

/-- The register at a BAR0 offset (R36, R45): none where no register lies there, or in blocks 25 to 31 (R37). -/
def lookupReg (a : Nat) : Option RegRef :=
  let b := a / 0x80000
  let off := a % 0x80000
  if 25 ≤ b then none
  else if off < 0x1000 then findRow b off headerRows
  else findRow b off (blockRows b)

/-- The number of a unit among those of its kind, from a register's indexes. -/
def scopeIndex (r : RegRow) : List Nat → Nat
  | [] => 0
  | i :: t =>
    if r.scopeDims ≤ 1 then i
    else match t, r.dims with
      | j :: _, _ :: (c, _) :: _ => i * c + j
      | _, _ => i

/-- The unit scope a register's CFG and STAGE fields belong to; none for the block-wide scope. -/
def RegRef.scope (r : RegRef) : Option ScopeId := r.row.scope.map (fun k => ⟨k, scopeIndex r.row r.idx⟩)

/-- The mask of the fields of a row whose class passes a test. -/
def rowMask (p : AccessClass → Bool) (r : RegRow) : Word :=
  r.fields.foldl (fun m f => if p f.cls then m ||| BitVec.ofNat 32 (fieldMask f.bits) else m) 0

/-- Whether a row has a field of a class. -/
def hasClass (c : AccessClass) (r : RegRow) : Bool := r.fields.any (fun f => f.cls = c)

/-- The reset value of a row's fields. -/
def rowReset (r : RegRow) : Word := r.fields.foldl (fun w f => putField f.bits f.reset w) 0

/-- SP_TOTAL of each kind (R494). -/
def spareTotal (kind : Nat) : Nat :=
  match kind with
  | 0 => 16 | 1 => 8 | 2 => 4 | 3 => 2 | 4 => 8 | 5 => 2 | 6 => 2 | 7 => 1 | 8 => 65536 | 9 => 16 | 10 => 2048
  | 11 => 2 | _ => 0

/-- CLASS_AGE limits in ns (R428). -/
def classAge (k : Nat) : Nat :=
  match k with
  | 0 => 0x3E8 | 1 => 0xFA0 | 2 => 0x9C40 | _ => 0x30D40

/-- wc_base and wc_vec of a built-in kernel (R377). -/
def builtinWc (k : Nat) : Nat × Nat :=
  match k with
  | 1 => (400, 12) | 2 => (200, 4) | 3 => (300, 3) | 4 => (300, 3) | 5 => (600, 5) | _ => (400, 4)

/-- The kernel registers of a built-in kernel by their offset (R384): loaded and builtin read 1 at all times; the table of
R377 gives its times, and it writes one result entry (R345). -/
def builtinReset (k off : Nat) : Word :=
  match off with
  | 0 => 3
  | 4 => BitVec.ofNat 32 (builtinWc k).1
  | 8 => BitVec.ofNat 32 ((builtinWc k).2 + 2 ^ 16)
  | _ => 0

/-- The reset value of a register but for the CRC registers of the header. -/
def plainReset (a : Nat) : Word :=
  match lookupReg a with
  | none => 0
  | some r =>
    let b := r.block
    if a = Reg.HDR.BLK_ID b then
      putField Fld.HDR.BLK_ID.scopes (scopesOf b) (putField Fld.HDR.BLK_ID.index b (rowReset r.row))
    else if b = 21 then
      (if (a - Reg.SPARE.SP_TOTAL 0) % 16 < 8 && decide (Reg.SPARE.SP_TOTAL 0 ≤ a) then
        BitVec.ofNat 32 (spareTotal ((a - Reg.SPARE.SP_TOTAL 0) / 16)) else rowReset r.row)
    else if b = 3 && decide (Reg.BRUSH.KRN_STATE 1 ≤ a) && decide (a < Reg.BRUSH.KRN_STATE 7) then
      builtinReset ((a - Reg.BRUSH.KRN_STATE 0) / 64) ((a - Reg.BRUSH.KRN_STATE 0) % 64)
    else if b = 14 && decide (Reg.INK.CLASS_AGE 0 ≤ a) && decide (a < Reg.INK.CLASS_AGE 4) then
      BitVec.ofNat 32 (classAge ((a - Reg.INK.CLASS_AGE 0) / 4))
    else rowReset r.row

/-- One byte of the reflected CRC-32C (R63). -/
def crc32cByte (c : Word) (b : Byte) : Word :=
  let rec go : Nat → Word → Word
    | 0, x => x
    | n + 1, x => go n (if x.getLsbD 0 then (x >>> 1) ^^^ 0x82F63B78 else x >>> 1)
  go 8 (c ^^^ b.setWidth 32)

/-- CRC-32C of a byte string, initial value and final XOR 0xFFFF_FFFF (R63). -/
def crc32c (l : List Byte) : Word := (l.foldl crc32cByte 0xFFFFFFFF) ^^^ 0xFFFFFFFF

/-- The four little-endian bytes of a register, RSV and RO bits as 0, when it holds CFG or STAGE fields (R63). -/
def crcBytesOf (val : Nat → Word) (a : Nat) : List Byte :=
  match lookupReg a with
  | none => []
  | some r =>
    let m := rowMask (fun c => c = .cfg || c = .stage) r.row
    if m = 0 then [] else leBytes 4 (val a &&& m).toNat

/-- The CRC over n registers' offsets of a block from one on, in ascending order. -/
def crcScan (val : Nat → Word) (a : Nat) : Nat → Word → Word
  | 0, c => c
  | n + 1, c => crcScan val (a + 4) n ((crcBytesOf val a).foldl crc32cByte c)

/-- The span of an array of registers in bytes. -/
def dimsSpan : List (Nat × Nat) → Nat
  | [] => 4
  | (c, st) :: t => (c - 1) * st + dimsSpan t

/-- The end of the registers of a block. -/
def blockTop (b : Nat) : Nat := (blockRows b).foldl (fun m r => max m (r.offset + dimsSpan r.dims)) 0x1000

/-- CRC_LIVE of a block for the register values given (R63); CRC_REF lies in the header and is not covered. -/
def crcOfBlock (val : Nat → Word) (b : Nat) : Word :=
  crcScan val (b * 0x80000 + 0x1000) ((blockTop b - 0x1000) / 4) 0xFFFFFFFF ^^^ 0xFFFFFFFF

/-- The reset value of every register; CRC_REF and CRC_COMMITTED hold the CRC of the reset configuration (R551). -/
def resetWord (a : Nat) : Word :=
  if a % 0x80000 = 0x2C || a % 0x80000 = 0x30 then
    (if a / 0x80000 < 25 then crcOfBlock plainReset (a / 0x80000) else 0)
  else plainReset a

end Sys2Proof.Machine
end

