-- ==== Sys2Proof/Machine/State.lean ====
section
/-! DEFINITION. The State of the VX1600 as plain data, and the State right after reset. -/

namespace Sys2Proof.Machine

/-- An event record of R68. `tbw` and `tbs` hold the 48-bit stamps the record carries. -/
structure EventRecord where
  id : Nat
  severity : Nat
  dropped : Bool
  anchor : Bool
  tsHeld : Bool
  arg : Nat
  tbw : Nat
  tbs : Nat
deriving DecidableEq, Repr

/-- An entry of a result ring (R445), by the ring's type. -/
inductive ResultEntry where
  | completion (cookie : Nat) (code op arg ring : Nat) (tbw : Nat)
  | data (addr len flags tag seq offset items channel kind : Nat)
  | event (r : EventRecord)
  | posted (bytes : List Byte)
  | netRx (bytes : List Byte)
deriving DecidableEq, Repr

/-- The 32-byte entry of a command ring, as the host wrote it. -/
abbrev CommandEntry := List Byte

/-- The rings' contents beside their registers (R445 to R452): entries written to a result ring and not yet consumed
by the host, entries of a command ring not yet consumed by the VX1600, both oldest first; the entry in hand that
halted a ring; the count of unsignalled entries (R448) and whether the coalescing timer runs; the upper time-base
bits of a ring's last anchor (R69); whether the next record carries DROPPED (R70); the failed reads in a row of the entry
at a ring's head (R451). -/
structure Rings where
  result : List (Nat × List ResultEntry)
  command : List (Nat × List CommandEntry)
  waiting : List (Nat × List ResultEntry)
  unsignalled : List (Nat × Nat)
  anchors : List (Nat × Option (Nat × Nat))
  dropped : List (Nat × Bool)
  retries : List (Nat × Nat)
deriving DecidableEq, Repr

/-- What a block hides behind its header registers: the rescrub in progress and the tick of the last completed one
(R64), and whether the 100 ms hold of the comparison has run out (R64). -/
structure BlockHidden where
  scrubbing : Bool
  scrubTick : Nat
  holdExpired : Bool
deriving DecidableEq, Repr

/-- An effect on the world outside the block, as a command left it. -/
inductive Output where
  | readData (r : Requester) (v : Word)
  | readBytes (r : Requester) (bytes : List Byte)
  | msix (vector : Nat)
  | writeback (ring : Nat) (count : Nat)
  | hostWrite (addr : Nat) (bytes : List Byte)
  | smbus (bytes : List Byte)
  | tdo (bits : List Bool)
  | boundary (levels : Option (List Bool))
  | pin (name : String) (level : Bool)
  | fieldLine (port lane : Nat) (line : List Bool)
  | cascLine (link lane : Nat) (line : List Bool)
  | testInvert (lane : Nat) (bits : Nat)
  | netFrame (bytes : List Byte)
  | trigOut (o : Nat) (level : Bool)
  | syncLine (line : Nat) (halves : Nat)
  | driveWrite (drive lba : Nat) (bytes : List Byte)
  | display (o : Nat) (what : Nat)
  | bundle (bytes : List Byte)
deriving DecidableEq, Repr

/-- The time bases and the tick count (ch. 07): TB-S in 1/256 sample ticks, TB-W as whole nanoseconds and 32 bits of
fraction, TB-M as turns, buckets and machine cycles. `tick` is the model's own count of 50 ns ticks. -/
structure TimeBases where
  tbs : DWord
  tbwNs : DWord
  tbwFrac : Word
  turn : BitVec 48
  bucket : BitVec 16
  cycle : BitVec 4
  tick : Nat
deriving DecidableEq, Repr

/-- PROG_STATE.state (R104). -/
inductive NibState where
  | empty | running | waiting | halted | exceptionHalt | inHandler | paused
deriving DecidableEq, Repr

/-- One active loop (R98, R99): `stages` is 0 for LOOP and S for LOOPM; `count` is N; the body is [start, stop);
`pass` counts from 0 and `left` is the number of passes still to run after the current one. -/
structure LoopFrame where
  stages : Nat
  count : Nat
  start : Nat
  stop : Nat
  pass : Nat
  left : Nat
deriving DecidableEq, Repr

/-- What a Nib waits for (R88, R93, R95). -/
inductive WaitKind where
  | time (selector : Nat) (value : DWord)
  | unit (handle : Nat) (cond : Nat)
  | barrier (handle : Nat) (released : Bool)
deriving DecidableEq, Repr

/-- A wait in progress: its kind, its timeout left in REF cycles, the status predicate to write at its end (0 for
none), and whether the program was in its handler. -/
structure NibWait where
  kind : WaitKind
  left : Nat
  sp : Nat
  handler : Bool
deriving DecidableEq, Repr

/-- What a logical handle is bound to (R73, R77). -/
inductive Binding where
  | port (p : Nat)
  | stream (id : Nat)
  | zoom (z : Nat)
  | pair (i : Nat)
  | plane (k : Nat) (ganged : Bool)
  | seq (q : Nat)
  | trigSrc (n : Nat)
  | commandRing (c : Nat)
  | resultRing (r : Nat) (event : Bool)
  | brush (kernel : Nat) (cores : List Nat)
  | exportCh (ch : Nat) (rate : Nat)
  | disk (s : Nat) (rate : Nat)
  | barrier (participants : Nat)
  | tdc (c : Nat)
  | unit (block inst : Nat) (sendOnly : Bool)
deriving DecidableEq, Repr

/-- One declaration entry of a program image (R77), as read. -/
structure Decl where
  kind : Nat
  flags : Nat
  handle : Nat
  param : Nat
deriving DecidableEq, Repr

/-- One program slot (R80, R81, R104): the Nib core's registers (physical, before rotation), predicates, special
registers, loops, wait and memories, the admitted image and its bindings, its Inkwell allocation with its base, and the memory words that hold a corrected
or an uncorrectable error (R83). Registers and memories are sparse with default 0. -/
structure NibSlot where
  state : NibState
  regs : List (Nat × Word)
  preds : BitVec 8
  ucc : BitVec 4
  rrb : BitVec 4
  cause : BitVec 8
  epc : BitVec 16
  pc : BitVec 16
  loops : List LoopFrame
  wait : Option NibWait
  imem : List (Nat × Word)
  dmem : List Host.Cell
  eccSoft : List Nat
  eccHard : List Nat
  entry : Nat
  handler : Option Nat
  image : List Byte
  decls : List Decl
  bindings : List (Nat × Binding)
  budget : Nat
  inkMiB : Nat
  inkBase : Nat
  inkBw : Nat
  unloading : Bool
deriving DecidableEq, Repr

/-- The marks of R30 that a sample or an item carries; `sat` is SAT of a zoom item (R250), `poison` POISON of data read
back from the Inkwell. -/
structure Marks where
  gap : Bool
  ovr : Bool
  unsettled : Bool
  laneGap : Bool
  clockGap : Bool
  headEol : Bool
  sat : Bool
  poison : Bool
deriving DecidableEq, Repr

/-- A sample of a stream: its value (q is 0 in a real stream), its stamp in TB-S units, and its marks. -/
structure Sample where
  i : Int
  q : Int
  tbs : Nat
  marks : Marks
deriving DecidableEq, Repr

/-- The source a stream ID is bound to (R556). -/
inductive StreamSource where
  | head (port output : Nat)
  | zoom (z : Nat)
deriving DecidableEq, Repr

/-- A configured stream: its source, its sample period P in TB-S units, its samples so far (newest
last), the number of samples delivered since it was configured, the frame count last seen (R147), the sample index and
base of its stamps (R149), the values waiting to fill a raw cell with their marks, a CLOCK_GAP waiting for its
next sample (R18), the first cell of
its valid history and whether the next stamp index entry carries RESIZE (R332), and the last stamp index entry: its sample
index, stamp, P, D and marks (R335). -/
structure Stream where
  source : Option StreamSource
  cplx : Bool
  period : Nat
  hist : List Sample
  delivered : Nat
  fcount : Option Nat
  index : Nat
  base : Nat
  next : Option Nat
  laneGap : Bool
  clockGap : Bool
  values : List (Int × Marks)
  validFrom : Nat
  resize : Bool
  lastEntry : Option (Nat × Nat × Nat × Nat × Marks)
deriving DecidableEq, Repr

/-- A frame as received: type, sequence, HALF and MAPSW, and the payload. -/
structure RxFrame where
  type : Nat
  seq : Nat
  half : Bool
  mapsw : Bool
  payload : List Byte
  arrival : Nat
deriving DecidableEq, Repr

/-- A lane map the VX1600 has sent and not yet applied (R125, R159): the receive slots, the spare, and whether a slot
moved onto the spare. -/
structure PendingMap where
  slots : List Nat
  spare : Nat
  restripe : Bool
deriving DecidableEq, Repr

/-- What a field port hides behind its registers: the transmit lanes the head reports working (R127), the sequence
number to release next and the frames held for reordering (R124), the sequence of the next outbound frame, whether it
carries MAPSW, the pending map, and whether the port runs at half rate (R126). -/
structure PortHidden where
  txOk : List Bool
  next : Option Nat
  held : List RxFrame
  outSeq : BitVec 8
  mapsw : Bool
  pend : Option PendingMap
  half : Bool
deriving DecidableEq, Repr

/-- A lane's test hidden state: generator bits still to be inverted (R132). -/
structure LaneTest where
  invert : Nat
deriving DecidableEq, Repr

/-- What a cascade link hides behind its registers: program messages waiting (R137), trigger messages waiting (R321),
density segments waiting (R397), the sequence of the next outbound frame, the count of the next trigger message and the
count of the last one received (R322). -/
structure CascLink where
  msgs : List (List Byte)
  trig : List (List Byte)
  density : List (List Byte)
  outSeq : Nat
  mseqTx : Nat
  mseqRx : Option Nat
deriving DecidableEq, Repr

/-- A sequenced message sent and not yet acknowledged (R145): its number, type, body and resends. -/
structure SentMsg where
  seq : Nat
  type : Nat
  body : List Byte
  resends : Nat
deriving DecidableEq, Repr

/-- What a port's field link hides behind its registers: message numbering (R145), the delay history (R151), the mark in
flight with its t1, t4 and turnaround, the pending HEAD_CFG command with its sends (R161), the t_s of every
transmission of a pending START (R160), the head's tables (R154), identity and limits (R152), the instant from which
HEAD_EOL holds (R158), the image in transfer (R167), and the buffer of a standby port (R164). -/
structure Link where
  txSeq : Nat
  rxNext : Nat
  rxAny : Bool
  ackDue : Bool
  unacked : List SentMsg
  history : List Int
  rejects : Nat
  accepted : Nat
  mark : Nat
  t1 : Option Nat
  t4 : Option Nat
  turn : Option Nat
  cmd : Option (Nat × Nat)
  setDone : Bool
  streams : List Nat
  refusals : Nat
  starts : List (Nat × Nat × Nat)
  uid : Option Nat
  known : Bool
  modes : Nat
  tables : Nat
  tableData : List (Nat × Nat × List Byte)
  cursor : Nat × Nat
  base : Option Nat
  started : Bool
  eolFrom : Option Nat
  image : Option Nat
  silent : Bool
  takenBy : Option Nat
  buffer : List (Nat × Sample)
deriving DecidableEq, Repr

/-- What the synthesisers and clock domains hide behind their registers: the references now lost (R176), the MCLK
frequency at PLL-M's last enable, whether PLL-R has been enabled since power-up (R181), the LFSR load of each synthesiser
(R179), the tick at which each domain stopped (R200), and TB-S at the stop of MACH (R204). -/
structure Clocks where
  refclkLost : Bool
  syncLost : Bool
  mclkLost : Bool
  mclk : Nat
  firstDone : Bool
  lfsr : List (Nat × Word)
  stops : List (Nat × Option Nat)
  machStop : Option DWord
deriving DecidableEq, Repr


/-- A stamp record of R212. -/
structure TdcRecord where
  tbs : DWord
  coarse : BitVec 40
  fine : BitVec 10
  flags : BitVec 8
deriving DecidableEq, Repr

/-- What a logical TDC channel hides behind its registers: its FIFO, oldest first (R213), its last stamped edge, the
marks waiting for the next stamp (R212), and the edges counted by the prescaler. -/
structure TdcChan where
  fifo : List TdcRecord
  last : Option DWord
  missed : Bool
  lost : Bool
  cal : Bool
  edges : Nat
deriving DecidableEq, Repr

/-- An armed interval unit: the start and stop edges taken so far (R214). -/
structure IvalUnit where
  start : Option (DWord × BitVec 40)
  stop : Option (DWord × BitVec 40)
deriving DecidableEq, Repr

/-- A regression unit: the stamps of its gate, oldest first, whether it stops after the gate, and b of the previous
result in units of 2^-32 (R215). -/
structure FreqUnit where
  stamps : List DWord
  stopAfter : Bool
  prev : Option Nat
deriving DecidableEq, Repr

/-- A received or sent network frame whose stamp is in progress (R222): the frame, its stamp in 1/65,536 ns, and the
tag of a transmitted one. -/
structure NetStamp where
  frame : List Byte
  stamp : Nat
  tag : Nat
deriving DecidableEq, Repr

/-- What TIME and NET hide behind their registers: a turn load waiting for a turn boundary (R203), whether TB-W has
just crossed a whole second (R219), the level of PPS_OUT, the tick of the last accepted PPS_IN (R218), the TDC channels,
the interval and regression units, the stamps in progress and the transmit stamp queue (R223): stamp, messageType,
sequenceId, tag; and the fitted stamp of the first accepted gate (R242). -/
structure TimeHidden where
  turnLoad : Option (BitVec 48)
  ppsCross : Bool
  ppsOut : Bool
  ppsLast : Option Nat
  tdc : List (Nat × TdcChan)
  ival : List (Nat × IvalUnit)
  freq : List (Nat × FreqUnit)
  netRx : Option NetStamp
  netTx : Option NetStamp
  txts : List (Nat × Nat × Nat × Nat)
  trackA : Option Nat
deriving DecidableEq, Repr


/-- A spike filter on one stream of its port: the sample index at which the current spike block begins, the index of its
first output and, once it is disabled, of the first sample after its last, and the thresholds in force with the index
each applies from, newest first (R232). -/
structure SpikeRun where
  start : Nat
  first : Nat
  last : Option Nat
  thrs : List (Nat × Nat)
deriving DecidableEq, Repr

/-- A port's spike filter: whether a commit waits for a block end (R232), and its streams by output. -/
structure Spike where
  commit : Bool
  runs : List (Nat × SpikeRun)
deriving DecidableEq, Repr

/-- The data path of a zoom channel (R235 to R242): input samples taken, the NCO accumulator, the CIC's integrators and
combs, each stage's delay line with the newest entry first and its count toward the next output, whether a value has
saturated since the last output, and the instant of the next resampler output as base + floor(k · num/q) in 2^-32 TB-S
units with the slew still to
be made; `num` is the step q outputs take, and `bNext` a bucket period for the next block boundary (R242). -/
structure ZoomPath where
  taken : Nat
  acc : Nat
  ints : List (Int × Int)
  combs : List (Int × Int)
  cicN : Nat
  hb1 : List (Int × Int)
  hb1N : Nat
  hb2 : List (Int × Int)
  hb2N : Nat
  fir : List (Int × Int)
  firN : Nat
  rs : List (Int × Int)
  sat : Bool
  base : Option Nat
  k : Nat
  num : Nat
  bNext : Option Nat
  slew : Int
deriving DecidableEq, Repr

/-- A zoom channel beside its registers: its data path, the outputs since the last block boundary, whether a commit waits
for one (R245), the outputs still UNSETTLED, the old coefficients of a fade and its count (R246), whether SAT was raised in
this block, the sample period last seen, the powers of the running mean (R251), the counts and crossings of the two
comparators (R252, R253), the last power judged, as a quotient, with its stamp,
and whether the next output carries GAP after a failure (R23). -/
structure Zoom where
  path : ZoomPath
  outs : Nat
  commit : Bool
  unsettled : Nat
  oldTaps : List Int
  fade : Option Nat
  satSeen : Bool
  period : Nat
  powers : List Nat
  upN : Nat
  downN : Nat
  upAt : Nat
  downAt : Nat
  lastPow : Option (Nat × Nat × Nat)
  gap : Bool
deriving DecidableEq, Repr


/-- An output frame of a pair (R277): its columns (two parts for CPLX24E, one otherwise), frame exponent, index and stamp
of the first frame combined, marks, the frames combined, the columns as LOGP16 that masks and planes take (R271; none for CPLX24E), and the bytes
written. -/
structure SpecFrame where
  cols : List (Int × Int)
  logs : List Nat
  exp : Nat
  seq : Nat
  tbs : Nat
  marks : Marks
  navg : Nat
  bytes : List Byte
deriving DecidableEq, Repr

/-- A pair beside its registers: the index of its first sample, the frames processed, the frames to finish in DRAINING
(R284), the frame at which a commit or a hold reset applies (R274, R283), whether COMMITTED waits for the next output, the
averager's accumulator with its count, first frame and marks, the outputs since its restart (R273), the sample period
last seen (R285), the newest output frames, and whether
the next frame carries GAP after a failure (R23). -/
structure PairRun where
  n0 : Option Nat
  m : Nat
  stop : Option Nat
  commitAt : Option Nat
  resetAt : Option Nat
  announce : Bool
  acc : List (Int × Int)
  accN : Nat
  accSeq : Nat
  accTbs : Nat
  accMarks : Marks
  restarts : Nat
  period : Nat
  frames : List SpecFrame
  gap : Bool
deriving DecidableEq, Repr


/-- An activation or deactivation of a trigger source (R294): its placed instant, whether it turns the source on, and its
marks in the bits of R340. -/
structure SrcItem where
  time : Nat
  on : Bool
  marks : Nat
deriving DecidableEq, Repr

/-- A trigger source: the items it has delivered, oldest first, and the watermark that a cascade link reports (R322). -/
structure Source where
  items : List SrcItem
  through : Nat
deriving DecidableEq, Repr

/-- A frame a mask has judged: whether it violates, its placed instant and its marks (R297, R298). -/
structure Judged where
  viol : Bool
  placed : Nat
  marks : Nat
deriving DecidableEq, Repr

/-- A mask beside its registers: the frames of its run or window, newest last, whether a commit waits for the next frame
(R299), and whether the source is to deactivate at the next frame (R324). -/
structure MaskRun where
  win : List Judged
  commit : Bool
  closing : Bool
deriving DecidableEq, Repr

/-- A comparator beside its registers: the last turn matched, and the turn in which a commit was accepted (R300). -/
structure MecRun where
  last : Option Nat
  commit : Option Nat
deriving DecidableEq, Repr

/-- A timer beside its registers: the number k of its next firing, and the firings so far (R301). -/
structure TimerRun where
  next : Nat
  fired : Nat
deriving DecidableEq, Repr

/-- What the sync bus and the trigger outputs hide behind their registers: the outputs now high (R316), the sync lines
with a pulse of this module pending (1) or driven (2) (R319), whether its epoch pulse is being driven (R320), the last
t_r − t_f accepted, newest last, and the run of rejections (R318). -/
structure TrigOuts where
  high : List (Nat × Bool)
  lines : List (Nat × Nat)
  epoch : Bool
  halves : List Int
  rejects : Nat
deriving DecidableEq, Repr

/-- An event about a tadpole, held until its record has entered its flow (R70, R343): the event, the block bit of BLK_STA
that it sets, and its argument. -/
structure HeldEvent where
  id : Nat
  severity : Nat
  block : Nat
  bitNo : Nat
  arg : Nat
deriving DecidableEq, Repr

/-- An entry of the trigger detail (R338). -/
structure DetailEntry where
  source : Nat
  role : Nat
  marks : Nat
  instant : Nat
deriving DecidableEq, Repr

/-- A tadpole (R309 to R315, R339): its number among all tadpoles, its template, the candidate instant, the instant that
passed it, the trigger detail, the time readings taken at its opening converted to the candidate with their flag bits
of R340, the events held, the counters it has advanced by offset and whether they are 64 bits wide, the result entries of
its MEAS sections, and the sections whose invocation has not finished. -/
structure Tadpole where
  uid : Nat
  tpl : Nat
  cand : Nat
  passed : Option Nat
  detail : List DetailEntry
  tbm : Nat
  tbw : Nat
  tbwFrac : Nat
  flags : Nat
  held : List HeldEvent
  counts : List (Nat × Bool × Nat)
  results : List (Nat × List (List Byte))
  open_ : List Nat
deriving DecidableEq, Repr

/-- A sequencer beside its registers: the arm instant, the entry instant of its state, how far it has taken items (an
instant, and one more than a source number), whether TRIG_EARLY has been raised since the arm, and its outstanding
tadpoles, oldest first. -/
structure Sequencer where
  armAt : Nat
  entry : Nat
  reached : Nat × Nat
  early : Bool
  tadpoles : List Tadpole
deriving DecidableEq, Repr

/-- A committed record that waits for its assembly (R341, R342): its tadpole, sequencer and sequence number, and what
orders it among the records of one step: the step, the port of its primary stream and its template's handle. -/
structure PendingRecord where
  tad : Tadpole
  seq : Nat
  num : Nat
  step : Nat
  port : Nat
  handle : Nat
deriving DecidableEq, Repr

/-- An item of a flow in its sink buffer (R347, R453, R475): its flow, the kind of R456, its sequence number, its stream, its
stamps, its bytes with their header, whether its producer marked it POISON, and whether the mark OVF goes with its end
(R348). -/
structure FlowItem where
  flow : Nat
  kind : Nat
  seq : Nat
  stream : Nat
  tbs : Nat
  tbw : Nat
  bytes : List Byte
  poison : Bool
  ovf : Bool
deriving DecidableEq, Repr

/-- A flow (R347 to R350): the items not delivered since the last one delivered, the exponent j of its throttle factor,
whether STOP has stopped it, and the frames that wait to be combined. -/
structure Flow where
  dropped : Nat
  j : Nat
  stopped : Bool
  held : List SpecFrame
deriving DecidableEq, Repr

/-- A look-back job that runs: the bucket period in force at its acceptance (R352). -/
structure JobRun where
  bucket : Nat
deriving DecidableEq, Repr


/-- A queued or running invocation (R372): the sequencer and the number of its tadpole, the template, the section and the
kernel. -/
structure BrushJob where
  seq : Nat
  uid : Nat
  tpl : Nat
  section_ : Nat
  kernel : Nat
deriving DecidableEq, Repr

/-- An input transfer in progress (R374): its input, the vector memory address and the number of vectors. -/
structure BrushInput where
  sel : Nat
  addr : Nat
  count : Nat
deriving DecidableEq, Repr

/-- A Brush core beside its registers (R360): v by register · 16 + lane, s, a by register · 16 + lane in units of 2^-63,
the lane masks, vector memory, the repetitions that the next instruction makes (R369), the invocation in hand with its
result entries, the transfer that runs, how far each input has been read (R374), and whether
WAITIN waits. -/
structure BrushCore where
  v : List (Nat × Word)
  s : List (Nat × Word)
  a : List (Nat × Int)
  m : List (Nat × Nat)
  vmem : List Host.Cell
  rep : Option Nat
  job : Option BrushJob
  outs : List (List Byte)
  input : Option BrushInput
  pos : List (Nat × Nat)
  waiting : Bool
deriving DecidableEq, Repr


/-- A density plane beside its registers (ch. 13): its nonzero counters by row · 2048 + column, whether it has saturated since
the last persistence tick (R388), what the next snapshot reports (R396): the stamps of the first and last frame, the
frames accumulated and skipped, the frames lost in merging and its flags; the number of the next snapshot, whether a commit
waits for the next frame (R391), whether it stops after the current frame, and the spectrum frames not sent (R397). -/
structure PlaneRun where
  counts : List (Nat × Nat)
  satSeen : Bool
  first : Option Nat
  last : Nat
  frames : Nat
  skipped : Nat
  lost : Nat
  mergeLoss : Bool
  sat : Bool
  seq : Nat
  commit : Bool
  stopping : Bool
  unsent : Nat
deriving DecidableEq, Repr

/-- A display output beside its registers: the frames without a change, the fetch areas (address, length) of the frame in
scan, whether replay_hold_go or disable_go waits for the frame's end, whether replay is held (R411), and whether something
has changed since the last frame (R410). -/
structure PanelRun where
  unchanged : Nat
  areas : List (Nat × Nat)
  holdGo : Bool
  stopGo : Bool
  held : Bool
  exitGo : Bool
  changed : Bool
deriving DecidableEq, Repr


/-- The Inkwell store (ch. 14): bytes by Inkwell address (an address never written reads as 0), the poisoned codewords by
cell · 7 + codeword, the cells whose address check mismatches, the error log, the remapped rows by channel · 2^21 +
bank · 2^16 + row with their pool row, the ticks of the errors of each row (R432; an uncorrectable one counts as eight),
the failed or evacuated channel with the pieces of its pool (R434) and the orphans written since, the channel in
retraining (R435), whether a patrol pass runs, the host-outage buffer region's base and length in bytes (R418), and the
sizes in bytes that a shrink left to sink buffers, by channel or by 64 + disk stream (R436). -/
structure Ink where
  mem : List Host.Cell
  poison : List (Nat × Bool)
  bad : List (Nat × Bool)
  elog : List (List Byte)
  rows : List (Nat × Nat)
  rowErr : List (Nat × List Nat)
  redirect : Option (Nat × List (Nat × Nat))
  filled : List (Nat × Bool)
  retrain : Option Nat
  patrol : Bool
  outage : Nat × Nat
  sinks : List (Nat × Nat)
deriving DecidableEq, Repr


/-- A host buffer in transfer (R454 to R456): its descriptor's 16 bytes, its length, the bytes moved, the seq of the first item in
it and the offset of its first byte in that item, the items that start in it, their kind and flow, and its flags. -/
structure DmaBuf where
  desc : List Byte
  cap : Nat
  used : Nat
  seq : Nat
  offset : Nat
  items : Nat
  kind : Nat
  flow : Nat
  eop : Bool
  poison : Bool
  ovf : Bool
  replay : Bool
deriving DecidableEq, Repr

/-- An export channel beside its registers (R453 to R459): its items, oldest first, the bytes of the first one that written
DATA entries cover, the buffer in transfer, whether the next entry carries REPLAY (R463), the failed reads in a row of a
free-list entry, and whether it has drained after a disable. -/
structure Channel where
  items : List FlowItem
  covered : Nat
  buf : Option DmaBuf
  replay : Bool
  retries : Nat
deriving DecidableEq, Repr


/-- An extent (R471): its disk stream, seq, drive and slot, its header's and its payload's bytes. -/
structure Extent where
  ds : Nat
  seq : Nat
  drive : Nat
  slot : Nat
  header : List Byte
  payload : List Byte
deriving DecidableEq, Repr

/-- A disk stream beside its registers (ch. 16): its items not yet wholly in extents, the bytes of the first one that are, the
extents written whose COMMIT block has not completed (R472), the items discarded since the last extent, whether the next
extent carries LOSS (R476), and the drive last written in rotation. -/
structure DiskRun where
  items : List FlowItem
  placed : Nat
  written : List Extent
  lost : Nat
  loss : Bool
  last : Option Nat
deriving DecidableEq, Repr

/-- A journal entry (R473): its type, disk stream, seq and slot, and its bytes. -/
structure JournalEntry where
  type : Nat
  ds : Nat
  seq : Nat
  slot : Nat
  bytes : List Byte
deriving DecidableEq, Repr

/-- A drive beside its registers: its partitions (first slot, slot count) by disk stream (R470), the count of journal entries, the
entries of the block being collected, the blocks written and not completed (R472), its extents that hold data, by disk
stream, slot and seq, oldest first, whether it leaves its rotations after the extent in hand, whether DRV_WEAR_WARN has been raised,
and its size in blocks. -/
structure Drive where
  parts : List (Nat × Nat)
  count : Nat
  block : List JournalEntry
  flight : List (List JournalEntry)
  valid : List (Nat × Nat × Nat)
  retiring : Bool
  warned : Bool
  blocks : Nat
deriving DecidableEq, Repr

/-- A Steward log entry (R513). -/
structure LogEntry where
  type : Nat
  kind : Nat
  cause : Nat
  inst : Nat
  tbw : Nat
  tbs : Nat
  before : Nat
  after : Nat
deriving DecidableEq, Repr

/-- The state of a spare of the Axolotl pool (R494, R498). -/
inductive SpareState where
  | free | reserved | suspect (passes : Nat) | retired | failed
deriving DecidableEq, Repr

/-- A head's life ledger entry (R156): the larger counters seen, the limits, and the marks raised. -/
structure LedgerEntry where
  uid : Nat
  counters : List Nat
  limits : List Nat
  warned : List Bool
  eol : List Bool
  tables : List Byte
deriving DecidableEq, Repr

/-- A session slot's content (R503, R505): program and kernel images with their slots and IDs, what each program's handles
were bound to, the live image, the region sizes in MiB (0 the display area, 1 the host-outage buffer), and the unit scopes
enabled at the commit. -/
structure SessionImage where
  programs : List (Nat × List Byte)
  bindings : List (Nat × List (Nat × Binding))
  kernels : List (Nat × List Byte)
  regs : List (Nat × Word)
  sizes : List (Nat × Nat)
  scopes : List ScopeId
deriving DecidableEq, Repr

/-- The 64 MiB retained store (R503). `flightAnchor` holds the upper time-base bits of the recorder's last anchor since
power-up (R512); `spares` maps kind * 65536 + number to a state other than FREE; `bindings` maps a logical unit
(kind * 65536 + instance) to the physical one behind it where they differ. -/
structure Retained where
  flight : List EventRecord
  flightAnchor : Option (Nat × Nat)
  log : List LogEntry
  session : Option SessionImage
  live : List (Nat × Word)
  cal : List (Nat × List Int)
  ledger : List LedgerEntry
  spares : List (Nat × SpareState)
  physical : List (Nat × Nat)
  keys : List (Nat × List Byte)
  rollback : Nat
deriving DecidableEq, Repr

/-- A calibration in progress (R490): CAL_STATE gives its step and target; `attempt` counts the attempts made. -/
structure CalRun where
  target : Nat
  inst : Nat
  spareKind : Nat
  spares : List Nat
  attempt : Nat
  background : Bool
  ring : Option (Nat × Nat)
  values : List Int
  quality : Nat × Nat
deriving DecidableEq, Repr

/-- A handover in progress or queued (R495 to R497): the block, the spare kind, the unit's instance, the spare, the row
of R495 that caused it, and the spans compared without a match. -/
structure Handover where
  block : Nat
  kind : Nat
  inst : Nat
  spare : Nat
  cause : Nat
  spans : Nat
  matched : Bool
deriving DecidableEq, Repr

/-- A firmware update in progress (R510, R511). -/
structure FwUpdate where
  version : Nat
  switched : Bool
  ring : Nat
  cookie : Nat
deriving DecidableEq, Repr

/-- The Steward's working state (ch. 17). -/
structure Steward where
  cal : Option CalRun
  bgNext : Nat
  retryWait : Bool
  running : List Handover
  queued : List Handover
  fw : Option FwUpdate
  failedUnits : List (Nat × Nat)
  repairFails : List (Nat × Nat)
  margins : List (Nat × Int)
  highSince : Nat
  holdWindow : Bool
  held : Bool
  resumeStep : Nat
  alive : Nat
deriving DecidableEq, Repr

/-- The depth of the flight recorder (R503). -/
def flightDepth : Nat := 65536
/-- The depth of the Steward log (R503). -/
def logDepth : Nat := 262144

/-- The module around the dies (ch. 18): whether VAUX is within range, whether the module has started and PWRGD is asserted,
whether PERST_N is asserted, whether registers are accessible (R533), FAULT_N and SMB_ALERT_N, whether the module has ever been powered up, the NOR
image versions A and B and the one that boots, the ticks with VIN on before this start and the tick of the start, and the JTAG
port's instruction (0 BYPASS, 1 IDCODE, 2 SAMPLE/PRELOAD, 3 EXTEST, 4 CLAMP, 5 HIGHZ) and boundary register. -/
structure ModuleRun where
  vaux : Bool
  started : Bool
  pwrgd : Bool
  perst : Bool
  accessible : Bool
  fault : Bool
  alert : Bool
  powered : Bool
  versionA : Nat
  versionB : Nat
  bootB : Bool
  onTicks : Nat
  since : Nat
  ir : Nat
  bsr : List Bool
deriving DecidableEq, Repr

/-- Why a command stops the machine. No meaning of this model ends in a fault: every command the spec describes has
its effect, and a command whose stated condition does not hold in the state leaves it unchanged. -/
inductive Fault where
  /-- Raised by nothing: kept so that the type has a value. Safe. -/
  | none
deriving DecidableEq, Repr

/-- Why a command has no meaning. -/
inductive Refusal where
  /-- The command of this mnemonic has no meaning yet: raised by the dispatcher only. Safe: the machine stops. -/
  | notModelled (mnemonic : String)
deriving DecidableEq, Repr

/-- The state of the VX1600. -/
structure State where
  /-- Commands waiting, first in, first out. -/
  pending : List Instr
  /-- Registers: the current (active) value of every BAR0 register that differs from its reset value. -/
  regs : List (Nat × Word)
  /-- Staged copies of STAGE registers not yet committed (R43), by BAR0 offset. -/
  staged : List (Nat × Option Word)
  /-- High halves latched by reads of 64-bit counters (R54), by offset and requester. -/
  latches : List (Nat × Word)
  /-- The state of the unit scopes that have no state register of their own. -/
  scopes : List (Nat × ScopeState)
  /-- What each block hides behind its header. -/
  blocks : List (Nat × BlockHidden)
  /-- Ring contents. -/
  rings : Rings
  /-- Time bases. -/
  time : TimeBases
  /-- Outward effects since reset, oldest first. -/
  out : List Output
  /-- How many free values have been drawn: the model's own counter, not the spec's. -/
  fresh : Nat
  /-- The retained store (ch. 17). -/
  retained : Retained
  /-- The requester code of the last write of 1 to each CTL register. -/
  issuers : List (Nat × Nat)
  /-- Program slots 0 to 11 (R104). -/
  nibs : List (Nat × NibSlot)
  /-- Configured streams by ID (R556). -/
  streams : List (Nat × Stream)
  /-- Field ports beside their registers. -/
  ports : List (Nat × PortHidden)
  /-- Pattern generators by lane number. -/
  tests : List (Nat × LaneTest)
  /-- Cascade links beside their registers. -/
  casc : List (Nat × CascLink)
  /-- Field links beside their registers. -/
  links : List (Nat × Link)
  /-- Synthesisers and domains beside their registers. -/
  clk : Clocks
  /-- TIME and NET beside their registers. -/
  tim : TimeHidden
  /-- Spike filters by port. -/
  spikes : List (Nat × Spike)
  /-- Zoom channels by instance. -/
  zooms : List (Nat × Zoom)
  /-- Pairs by instance. -/
  pairs : List (Nat × PairRun)
  /-- Window slot entries by slot * 65536 + index (R265). -/
  windows : List (Nat × Nat)
  /-- Trigger sources by number (R293). -/
  sources : List (Nat × Source)
  /-- Masks by number. -/
  masks : List (Nat × MaskRun)
  /-- Machine-event comparators by number. -/
  mecs : List (Nat × MecRun)
  /-- Timers by number. -/
  timers : List (Nat × TimerRun)
  /-- Trigger outputs and the sync bus beside their registers. -/
  trg : TrigOuts
  /-- Sequencers by number. -/
  seqs : List (Nat × Sequencer)
  /-- How many tadpoles have been opened. -/
  tadpoles : Nat
  /-- Records committed and not yet assembled, oldest first. -/
  records : List PendingRecord
  /-- Flows (R347). -/
  flows : List (Nat × Flow)
  /-- Look-back jobs by slot. -/
  jobs : List (Nat × JobRun)
  /-- Brush pool cores by number. -/
  brush : List (Nat × BrushCore)
  /-- Invocations waiting, oldest first (R372). -/
  brushQueue : List BrushJob
  /-- Loaded user kernels: their images by ID (R378). -/
  kernels : List (Nat × List Byte)
  /-- Density planes by number. -/
  planes : List (Nat × PlaneRun)
  /-- Display outputs by number. -/
  panels : List (Nat × PanelRun)
  /-- Layer releases that wait for a frame: base, length, tag (R412). -/
  releases : List (Nat × Nat × Nat)
  /-- The Inkwell store. -/
  ink : Ink
  /-- Export channels by number. -/
  channels : List (Nat × Channel)
  /-- Disk streams by number. -/
  disks : List (Nat × DiskRun)
  /-- Drives by slot. -/
  nvme : List (Nat × Drive)
  /-- The Steward's working state (ch. 17). -/
  stw : Steward
  /-- The module around the dies (ch. 18). -/
  mod : ModuleRun
deriving DecidableEq, Repr

/-- The retained store as delivered: every region empty, every spare FREE. DESIGN CHOICE. -/
def Retained.blank : Retained :=
  { flight := [], flightAnchor := none, log := [], session := none, live := [], cal := [], ledger := [], spares := [],
    physical := [], keys := [], rollback := 0 }

/-- The Steward with no duty in hand. -/
def Steward.idle : Steward :=
  { cal := none, bgNext := 0, retryWait := false, running := [], queued := [], fw := none, failedUnits := [],
    repairFails := [], margins := [], highSince := 0, holdWindow := false, held := false, resumeStep := 0,
    alive := 0 }

/-- An empty program slot: every register 0, predicate p0 at 1 (R81). -/
def NibSlot.vacant : NibSlot :=
  { state := .empty, regs := [], preds := 1, ucc := 0, rrb := 0, cause := 0, epc := 0, pc := 0, loops := [],
    wait := none, imem := [], dmem := [], eccSoft := [], eccHard := [], entry := 0, handler := none, image := [],
    decls := [], bindings := [], budget := 0, inkMiB := 0, inkBase := 0, inkBw := 0, unloading := false }

def Marks.none : Marks := ⟨false, false, false, false, false, false, false, false⟩

/-- A stream ID bound to nothing. -/
def Stream.vacant : Stream :=
  { source := none, cplx := false, period := 256, hist := [], delivered := 0, fcount := none, index := 0, base := 0,
    next := none, laneGap := false, clockGap := false, values := [], validFrom := 0, resize := false, lastEntry := none }

/-- A port that has received nothing: every transmit lane taken to work until the head says otherwise. -/
def PortHidden.fresh : PortHidden :=
  { txOk := [true, true, true, true, true], next := none, held := [], outSeq := 0, mapsw := false, pend := none,
    half := false }

def CascLink.fresh : CascLink :=
  { msgs := [], trig := [], density := [], outSeq := 0, mseqTx := 0, mseqRx := none }

/-- A field link before its port enters RUN. -/
def Link.fresh : Link :=
  { txSeq := 0, rxNext := 0, rxAny := false, ackDue := false, unacked := [], history := [], rejects := 0,
    accepted := 0, mark := 0, t1 := none, t4 := none, turn := none, cmd := none, setDone := false, streams := [], refusals := 0, starts := [],
    uid := none, known := false, modes := 0, tables := 0, tableData := [], cursor := (0, 0), base := none,
    started := false, eolFrom := none, image := none, silent := false, takenBy := none, buffer := [] }

def Clocks.fresh : Clocks :=
  { refclkLost := false, syncLost := false, mclkLost := false, mclk := 0, firstDone := false, lfsr := [], stops := [],
    machStop := none }

def TdcChan.fresh : TdcChan := { fifo := [], last := none, missed := false, lost := false, cal := false, edges := 0 }
def IvalUnit.fresh : IvalUnit := { start := none, stop := none }
def FreqUnit.fresh : FreqUnit := { stamps := [], stopAfter := false, prev := none }
def TimeHidden.fresh : TimeHidden :=
  { turnLoad := none, ppsCross := false, ppsOut := false, ppsLast := none, tdc := [], ival := [], freq := [],
    netRx := none, netTx := none, txts := [], trackA := none }

def Spike.fresh : Spike := { commit := false, runs := [] }
def ZoomPath.fresh : ZoomPath :=
  { taken := 0, acc := 0, ints := List.replicate 5 (0, 0), combs := List.replicate 5 (0, 0), cicN := 0,
    hb1 := List.replicate 23 (0, 0), hb1N := 0, hb2 := List.replicate 47 (0, 0), hb2N := 0,
    fir := List.replicate 255 (0, 0), firN := 0, rs := List.replicate 40 (0, 0), sat := false, base := none, k := 0,
    num := 0, bNext := none, slew := 0 }
def Zoom.fresh : Zoom :=
  { path := ZoomPath.fresh, outs := 0, commit := false, unsettled := 0, oldTaps := [], fade := none, satSeen := false,
    period := 0, powers := [], upN := 0, downN := 0, upAt := 0, downAt := 0, lastPow := none,
    gap := false }

def PairRun.fresh : PairRun :=
  { n0 := none, m := 0, stop := none, commitAt := none, resetAt := none, announce := false, acc := [], accN := 0,
    accSeq := 0, accTbs := 0, accMarks := Marks.none, restarts := 0, period := 0, frames := [], gap := false }

def Source.quiet : Source := { items := [], through := 0 }
def MaskRun.fresh : MaskRun := { win := [], commit := false, closing := false }
def MecRun.fresh : MecRun := { last := none, commit := none }
def TimerRun.fresh : TimerRun := { next := 0, fired := 0 }
def TrigOuts.idle : TrigOuts := { high := [], lines := [], epoch := false, halves := [], rejects := 0 }
def Sequencer.idle : Sequencer := { armAt := 0, entry := 0, reached := (0, 0), early := false, tadpoles := [] }

def Flow.fresh : Flow := { dropped := 0, j := 0, stopped := false, held := [] }
def JobRun.fresh : JobRun := { bucket := 0 }

def BrushCore.idle : BrushCore :=
  { v := [], s := [], a := [], m := [], vmem := [], rep := none, job := none, outs := [], input := none,
    pos := [], waiting := false }

def PlaneRun.fresh : PlaneRun :=
  { counts := [], satSeen := false, first := none, last := 0, frames := 0, skipped := 0, lost := 0, mergeLoss := false,
    sat := false, seq := 0, commit := false, stopping := false, unsent := 0 }
def PanelRun.fresh : PanelRun :=
  { unchanged := 0, areas := [], holdGo := false, stopGo := false, held := false, exitGo := false, changed := false }

def Ink.blank : Ink :=
  { mem := [], poison := [], bad := [], elog := [], rows := [], rowErr := [], redirect := none, filled := [],
    retrain := none, patrol := false,
    outage := (0, 0), sinks := [] }


def Channel.idle : Channel := { items := [], covered := 0, buf := none, replay := false, retries := 0 }

def DiskRun.idle : DiskRun := { items := [], placed := 0, written := [], lost := 0, loss := false, last := none }
def Drive.blank : Drive :=
  { parts := [], count := 0, block := [], flight := [], valid := [], retiring := false, warned := false, blocks := 0 }

/-- A module without supplies. -/
def ModuleRun.dark : ModuleRun :=
  { vaux := false, started := false, pwrgd := false, perst := true, accessible := false, fault := false, alert := false,
    powered := false, versionA := 0, versionB := 0, bootB := false, onTicks := 0, since := 0, ir := 1, bsr := [] }


/-- The State right after reset. -/
def State.reset : State where
  pending := []
  regs := []
  staged := []
  latches := []
  scopes := []
  blocks := []
  rings := ⟨[], [], [], [], [], [], []⟩
  time := ⟨0, 0, 0, 0, 0, 0, 0⟩
  out := []
  fresh := 0
  retained := Retained.blank
  issuers := []
  nibs := []
  streams := []
  ports := []
  tests := []
  casc := []
  links := []
  clk := Clocks.fresh
  tim := TimeHidden.fresh
  spikes := []
  zooms := []
  pairs := []
  windows := []
  sources := []
  masks := []
  mecs := []
  timers := []
  trg := TrigOuts.idle
  seqs := []
  tadpoles := 0
  records := []
  flows := []
  jobs := []
  brush := []
  brushQueue := []
  kernels := []
  planes := []
  panels := []
  releases := []
  ink := Ink.blank
  channels := []
  disks := []
  nvme := []
  stw := Steward.idle
  mod := ModuleRun.dark

end Sys2Proof.Machine
end

