-- ==== Sys2Proof/Machine/Ops.lean ====
section
/-! DEFINITION. The named operations over registers, status bits, counters and enable scopes (ch. 02) that every
command's meaning is written with. -/

namespace Sys2Proof.Machine

/-! ## Registers -/

/-- The current (active) value of a register. -/
def State.reg (s : State) (a : Nat) : Word := sparseGet resetWord s.regs a

/-- A register's current value replaced. -/
def State.setReg (s : State) (a : Nat) (v : Word) : State := { s with regs := sparsePut resetWord a v s.regs }

/-- A field of a register. -/
def State.fld (s : State) (a : Nat) (f : Bits) : Nat := getField f (s.reg a)

/-- A field of a register replaced. -/
def State.setFld (s : State) (a : Nat) (f : Bits) (v : Nat) : State := s.setReg a (putField f v (s.reg a))

/-- Whether a one-bit field is 1. -/
def State.flag (s : State) (a : Nat) (f : Bits) : Bool := s.fld a f = 1

/-- A state changed only where a condition holds. -/
def State.when (s : State) (c : Bool) (f : State → State) : State := if c then f s else s

/-- The value of a LO and HI register pair. -/
def State.reg64 (s : State) (lo hi : Nat) : Nat := (s.reg lo).toNat + 2 ^ 32 * (s.reg hi).toNat

/-- A LO and HI register pair set, modulo 2^64. -/
def State.setReg64 (s : State) (lo hi : Nat) (v : Nat) : State :=
  (s.setReg lo (BitVec.ofNat 32 v)).setReg hi (BitVec.ofNat 32 (v / 2 ^ 32))

/-- A 32-bit counter raised by n, saturating (R40). -/
def State.count (s : State) (a : Nat) (n : Nat) : State :=
  s.setReg a (BitVec.ofNat 32 (min ((s.reg a).toNat + n) 0xFFFFFFFF))

/-- A 64-bit counter raised by n, modulo 2^64 (R40). -/
def State.count64 (s : State) (lo hi : Nat) (n : Nat) : State := s.setReg64 lo hi (s.reg64 lo hi + n)

/-- The SEQ field of every STA register (R50). -/
def seqBits : Bits := ⟨31, 24⟩

/-- Hardware sets a bit of an STA register, and SEQ advances by 1 (R50). -/
def State.setSta (s : State) (a : Nat) (f : Bits) : State :=
  let w := putField f 1 (s.reg a)
  s.setReg a (putField seqBits (getField seqBits w + 1) w)

/-- A block bit of BLK_STA, by its bit number. -/
def State.setBlkSta (s : State) (b : Nat) (n : Nat) : State := s.setSta (Reg.HDR.BLK_STA b) ⟨n, n⟩

/-- A software clear of STA bits by the sequence rule (R60); `cnt` is the block's STALE_CLEAR_CNT. -/
def State.clearSta (s : State) (a cnt : Nat) (v : Word) : State :=
  let w := s.reg a
  if getField seqBits v = getField seqBits w then s.setReg a (w &&& ~~~ (v &&& 0x00FFFFFF))
  else s.count cnt 1

/-- A free value drawn: the counter it is applied to, and the state with the counter advanced. -/
def State.draw (s : State) : Nat × State := (s.fresh, { s with fresh := s.fresh + 1 })

/-- An outward effect added. -/
def State.emit (s : State) (o : Output) : State := { s with out := s.out ++ [o] }

/-- A quotient whose rounding the spec does not state: exact where it is exact, else one of its two neighbours, and
which is free. The first argument names the place. -/
def freeDiv (site : Nat) (a : Int) (b : Nat) : Int :=
  if a.fmod b = 0 then a.fdiv b else a.fdiv b + (if Config.roundsUp site a b then 1 else 0)

/-! ## Clock domains -/

/-- The bit of a clock domain in DOMAIN_RUN, in the row order of R16. -/
inductive Domain where
  | ref | samp | mach
  | frx (p : Fin 8)
  | ftx | host | stor | dram | net | disp | tdc
deriving DecidableEq, Repr

def Domain.bit : Domain → Nat
  | .ref => 0 | .samp => 1 | .mach => 2 | .frx p => 3 + p.val | .ftx => 11 | .host => 12 | .stor => 13 | .dram => 14
  | .net => 15 | .disp => 16 | .tdc => 17

/-- Whether a clock domain runs. -/
def State.running (s : State) (d : Domain) : Bool := (s.reg Reg.CLK.DOMAIN_RUN).getLsbD d.bit

/-! ## Program slots -/

def State.nib (s : State) (k : Nat) : NibSlot := sparseGet (fun _ => NibSlot.vacant) s.nibs k

def State.setNib (s : State) (k : Nat) (n : NibSlot) : State :=
  { s with nibs := sparsePut (fun _ => NibSlot.vacant) k n s.nibs }

/-- PROG_STATE.state of a Nib state (R104). -/
def NibState.code : NibState → Nat
  | .empty => 0 | .running => 1 | .waiting => 2 | .halted => 3 | .exceptionHalt => 4 | .inHandler => 5 | .paused => 6

/-! ## Enable scopes -/

def ScopeKind.code : ScopeKind → Nat
  | .core => 0 | .port => 1 | .laneTest => 2 | .synth => 3 | .clkOut => 4 | .tdc => 5 | .ival => 6 | .regr => 7
  | .spk => 8 | .zoom => 9 | .pair => 10 | .win => 11 | .mask => 12 | .mec => 13 | .timer => 14 | .seq => 15
  | .trigOut => 16 | .template => 17 | .job => 18 | .plane => 19 | .output => 20 | .inkChan => 21 | .cring => 22
  | .rring => 23 | .exportCh => 24 | .drive => 25 | .diskStream => 26 | .cascLink => 27 | .cascLaneTest => 28

/-- The key of a scope in the State's list of scopes. -/
def scopeKey (id : ScopeId) : Nat := id.kind.code * 4096 + id.idx

/-- The state of a scope that has no state register. -/
def State.hiddenScope (s : State) (id : ScopeId) : ScopeState := sparseGet (fun _ => .off) s.scopes (scopeKey id)

def State.setScope (s : State) (id : ScopeId) (v : ScopeState) : State :=
  { s with scopes := sparsePut (fun _ => .off) (scopeKey id) v s.scopes }

/-- A state-register value read as a scope state: 0 is OFF, one value DRAINING, every other enabled. -/
def scopeOfValue (draining : Nat) (v : Nat) : ScopeState :=
  if v = 0 then .off else if v = draining then .draining else .run

/-- Whether the Steward itself keeps a TDC channel enabled that no program holds (R557): channel 8 while tracking is on, channels
9 and 10 while SYNC's block-wide scope is. -/
def State.stewardTdc (s : State) (c : Nat) : Bool :=
  let on (b : Nat) : Bool :=
    s.fld (Reg.HDR.BLK_STATE b) Fld.HDR.BLK_STATE.state = 1 || s.fld (Reg.HDR.BLK_STATE b) Fld.HDR.BLK_STATE.state = 3
  let held := (List.range 12).any (fun k => (s.nib k).bindings.any (fun e => e.2 = .tdc c))
  on 7 && !held && ((c = 8 && s.flag Reg.TIME.TRACK_CFG Fld.TIME.TRACK_CFG.track_en) || ((c = 9 || c = 10) && on 19))

/-- The state of an enable scope: read from the unit's own state register where the spec gives it one, else from the
State's list. -/
def State.scopeState (s : State) (id : ScopeId) : ScopeState :=
  let i := id.idx
  match id.kind with
  | .core =>
    if s.fld (Reg.BRUSH.CORE_STATE i) Fld.BRUSH.CORE_STATE.state = 0 then .off
    else if s.hiddenScope id = .draining then .draining else .run
  | .port => scopeOfValue 8 (s.fld (Reg.FLANE.PORT_STATE i) Fld.FLANE.PORT_STATE.state)
  | .synth => scopeOfValue 8 (s.fld (Reg.CLK.PLL_STATE i) Fld.CLK.PLL_STATE.state)
  | .zoom => scopeOfValue 3 (s.fld (Reg.COND.ZC_STATE i) Fld.COND.ZC_STATE.state)
  | .pair => scopeOfValue 3 (s.fld (Reg.XFORM.XF_STATE i) Fld.XFORM.XF_STATE.state)
  | .win =>
    if s.fld (Reg.XFORM.WIN_STATE i) Fld.XFORM.WIN_STATE.enabled = 0 then .off
    else if s.hiddenScope id = .draining then .draining else .run
  | .mask => scopeOfValue 8 (s.fld (Reg.TRIG.MASK_STATE i) Fld.TRIG.MASK_STATE.enabled)
  | .template => scopeOfValue 3 (s.fld (Reg.REC.TPL_STATE i) Fld.REC.TPL_STATE.state)
  | .job => if s.fld (Reg.REC.LB_STATE i) Fld.REC.LB_STATE.state = 1 then .run else .off
  | .plane => scopeOfValue 2 (s.fld (Reg.BLOT.PL_STATE i) Fld.BLOT.PL_STATE.state)
  | .output => scopeOfValue 8 (s.fld (Reg.DISP.DP_STATE i) Fld.DISP.DP_STATE.state)
  | .inkChan => if s.fld (Reg.INK.CH_STATE i) Fld.INK.CH_STATE.state = 2 then .run else .off
  | .cring => scopeOfValue 3 (s.fld (Reg.HOSTQ.CRING_STATE i) Fld.HOSTQ.CRING_STATE.state)
  | .rring => scopeOfValue 3 (s.fld (Reg.HOSTQ.RRING_STATE i) Fld.HOSTQ.RRING_STATE.state)
  | .exportCh => scopeOfValue 5 (s.fld (Reg.DMA.DMA_STATE i) Fld.DMA.DMA_STATE.state)
  | .drive =>
    let v := s.fld (Reg.STOR.DRV_STATE i) Fld.STOR.DRV_STATE.state
    if v ≠ 2 && v ≠ 4 then .off else if s.hiddenScope id = .draining then .draining else .run
  | .diskStream => scopeOfValue 4 (s.fld (Reg.STOR.DS_STATE i) Fld.STOR.DS_STATE.state)
  | .cascLink => scopeOfValue 8 (s.fld (Reg.CASC.LINK_STATE i) Fld.CASC.LINK_STATE.state)
  | .spk =>
    if s.fld (Reg.COND.SPK_STATE i) Fld.COND.SPK_STATE.enabled = 0 then .off
    else if s.hiddenScope id = .draining then .draining else .run
  | .tdc => if s.stewardTdc i then .run else s.hiddenScope id
  | .laneTest | .clkOut | .ival | .regr | .mec | .timer | .seq | .trigOut | .cascLaneTest => s.hiddenScope id

/-- Whether a unit scope is enabled or DRAINING. -/
def State.live (s : State) (id : ScopeId) : Bool := s.scopeState id ≠ .off

/-- The block of a kind of unit scope. -/
def ScopeKind.block : ScopeKind → Nat
  | .core => 3 | .port => 4 | .laneTest => 4 | .synth => 6 | .clkOut => 6 | .tdc => 7 | .ival => 7 | .regr => 7
  | .spk => 8 | .zoom => 8 | .pair => 9 | .win => 9 | .mask => 10 | .mec => 10 | .timer => 10 | .seq => 10
  | .trigOut => 10 | .template => 11 | .job => 11 | .plane => 12 | .output => 13 | .inkChan => 14 | .cring => 15
  | .rring => 15 | .exportCh => 16 | .drive => 17 | .diskStream => 17 | .cascLink => 18 | .cascLaneTest => 18

/-- The kinds of unit scope of a block with their number (R558). -/
def blockScopes (b : Nat) : List (ScopeKind × Nat) :=
  match b with
  | 3 => [(.core, 40)]
  | 4 => [(.port, 8), (.laneTest, 40)]
  | 5 => [(.port, 8)]
  | 6 => [(.synth, 4), (.clkOut, 32)]
  | 7 => [(.tdc, 20), (.ival, 4), (.regr, 4)]
  | 8 => [(.spk, 8), (.zoom, 32)]
  | 9 => [(.pair, 128), (.win, 8)]
  | 10 => [(.mask, 16), (.mec, 8), (.timer, 8), (.seq, 16), (.trigOut, 4)]
  | 11 => [(.template, 64), (.job, 8)]
  | 12 => [(.plane, 16)]
  | 13 => [(.output, 2)]
  | 14 => [(.inkChan, 16)]
  | 15 => [(.cring, 1024), (.rring, 3072)]
  | 16 => [(.exportCh, 64)]
  | 17 => [(.drive, 8), (.diskStream, 16)]
  | 18 => [(.cascLink, 2), (.cascLaneTest, 4)]
  | _ => []

/-- The unit scopes of a block. -/
def scopesOfBlock (b : Nat) : List ScopeId :=
  (blockScopes b).flatMap (fun p => (List.range p.2).map (fun i => ⟨p.1, i⟩))

/-- The number of unit scopes of a block now enabled (R48). -/
def State.enabledScopes (s : State) (b : Nat) : Nat := (scopesOfBlock b).countP (fun id => s.live id)

/-- BLK_STATE.state of a block: 0 IDLE, 1 RUN, 2 DRAINING, 3 FAULT (R48). -/
def State.blockState (s : State) (b : Nat) : Nat := s.fld (Reg.HDR.BLK_STATE b) Fld.HDR.BLK_STATE.state

/-- Whether unit scopes of a block can run: its block-wide scope reads RUN or FAULT (R41, R48). -/
def State.blockOn (s : State) (b : Nat) : Bool := s.blockState b = 1 || s.blockState b = 3

/-- Whether some scope of the block holds uncommitted STAGE writes (R48). -/
def State.stagePending (s : State) (b : Nat) : Bool := s.staged.any (fun e => e.1 / 0x80000 = b)

/-- What a block hides behind its header. -/
def blockHiddenDefault : Nat → BlockHidden := fun _ => ⟨false, 0, false⟩

def State.blk (s : State) (b : Nat) : BlockHidden := sparseGet blockHiddenDefault s.blocks b

def State.setBlk (s : State) (b : Nat) (v : BlockHidden) : State :=
  { s with blocks := sparsePut blockHiddenDefault b v s.blocks }

/-! ## Commits -/

/-- The staged copy of a STAGE register: the uncommitted write if there is one, else the active value (R43). -/
def State.stagedReg (s : State) (a : Nat) : Word := (sparseGet (fun _ => none) s.staged a).getD (s.reg a)

def State.stagedFld (s : State) (a : Nat) (f : Bits) : Nat := getField f (s.stagedReg a)

/-- A STAGE write that waits for a commit. -/
def State.stageWrite (s : State) (a : Nat) (v : Word) : State :=
  { s with staged := sparsePut (fun _ => none) a (some v) s.staged }

/-- CRC_REF becomes CRC_COMMITTED (R65). -/
def State.commitCrc (s : State) (b : Nat) : State :=
  s.setReg (Reg.HDR.CRC_COMMITTED b) (s.reg (Reg.HDR.CRC_REF b))

/-- The staged entries a test selects become active, and CRC_REF is committed with them (R43, R65). -/
def State.commitWhere (s : State) (b : Nat) (p : Nat → Bool) : State :=
  let sel := s.staged.filter (fun e => p e.1)
  let s : State := { s with staged := sparseFilter (fun k => !p k) s.staged }
  let s : State := sel.foldl (fun s e => s.setReg e.1 (e.2.getD (s.reg e.1))) s
  let s : State := s.commitCrc b
  if s.stagePending b then s else s.setBlk b { s.blk b with holdExpired := false }

/-- Whether a register belongs to a unit scope. -/
def inScope (id : ScopeId) (a : Nat) : Bool :=
  match lookupReg a with
  | some r => r.scope = some id && r.block = id.kind.block
  | none => false

/-- A unit scope's staged writes become active (R43). -/
def State.commitScope (s : State) (id : ScopeId) : State := s.commitWhere id.kind.block (inScope id)

/-- The staged writes of a list of registers of a block become active. -/
def State.commitRegs (s : State) (b : Nat) (l : List Nat) : State := s.commitWhere b (fun a => l.contains a)

/-- CRC_LIVE of a block now (R63). -/
def State.crcLive (s : State) (b : Nat) : Word := crcOfBlock s.reg b

/-- The Steward stages and commits the CRC_REF that matches a change it carries out (R65). -/
def State.stewardCrc (s : State) (b : Nat) : State :=
  let c := s.crcLive b
  (s.setReg (Reg.HDR.CRC_REF b) c).setReg (Reg.HDR.CRC_COMMITTED b) c

/-- The output whose divider and delay an output takes: PLL-D output 1 takes those of output 0 under pair_lock (R186). -/
def State.pairOut (s : State) (y o : Nat) : Nat :=
  if y = 2 && o = 1 && s.flag (Reg.CLK.PLL_CFG 2) Fld.CLK.PLL_CFG.pair_lock then 0 else o

end Sys2Proof.Machine
end

