-- ==== Sys2Proof/Machine/Dsp.lean ====
section
/-! DEFINITION. The arithmetic of signals: cosines in fixed point, window values (R263 to R265), the block-floating FFT
(R266 to R268), LOGP16 and binary32 (R270). -/

namespace Sys2Proof.Machine

/-! ## Cosines -/

/-- π in units of 2^-120, truncated. -/
def piFix : Nat := 4175892906503776358826876457663557747

/-- The scale of fixed-point numbers here. -/
def fixOne : Nat := 2 ^ 120

/-- The cosine series at x, x² given, from the k-th term on. -/
def cosSeries (x2 : Int) : Nat → Nat → Int → Int
  | 0, _, _ => 0
  | n + 1, k, t => t + cosSeries x2 n (k + 1) (-(t * x2 / fixOne) / ((2 * k + 1) * (2 * k + 2) : Nat))

/-- cos(2π a/b) in units of 2^-120. -/
def cosTurn (a b : Nat) : Int :=
  let x : Int := (2 * piFix * (a % b) / b : Nat)
  cosSeries (x * x / fixOne) 44 0 fixOne

/-- sin(2π a/b) in units of 2^-120. -/
def sinTurn (a b : Nat) : Int := cosTurn (4 * a + 3 * b) (4 * b)

/-! ## Saturation -/

/-- The limits of a 24-bit value as R239 saturates it. -/
def sat24 (v : Int) : Int × Bool :=
  if 0x7FFFFF < v then (0x7FFFFF, true) else if v < -0x800000 then (-0x7FFFFF, true) else (v, false)

/-! ## Windows -/

/-- A sum of cosines with coefficients in 10^-9, as Q1.17 to nearest; what is stored for a value below 0, which the
flat-top window has and an unsigned number does not hold, is free. -/
def cosWindow (cs : List Int) (n size : Nat) : Int :=
  let v := (cs.zipIdx.map (fun c => c.1 * cosTurn (c.2 * n) size)).sum
  let w := roundDivAway (v * 2 ^ 17) (1000000000 * fixOne)
  if w < 0 then Config.negWindow n size else w

/-- Σ z^k/(k!)² from a term on: I0(2√z). -/
def besselSeries (z : Nat) : Nat → Nat → Nat → Nat
  | 0, _, _ => 0
  | n + 1, k, t => t + besselSeries z n (k + 1) (t * z / fixOne / ((k + 1) * (k + 1)))

/-- Σ y^k/k! from a term on. -/
def expSeries (y : Nat) : Nat → Nat → Nat → Nat
  | 0, _, _ => 0
  | n + 1, k, t => t + expSeries y n (k + 1) (t * y / fixOne / (k + 1))

/-- |2n − N|. -/
def offCentre (n size : Nat) : Nat := if size ≤ 2 * n then 2 * n - size else size - 2 * n

/-- The Kaiser window for β in thousandths. -/
def kaiser (beta n size : Nat) : Nat :=
  let d := offCentre n size
  let z (m : Nat) : Nat := beta * beta * m * fixOne / (4000000 * size * size)
  let a := besselSeries (z (size * size - d * d)) 80 0 fixOne
  let b := besselSeries (z (size * size)) 80 0 fixOne
  (2 * a * 2 ^ 17 + b) / (2 * b)

/-- The Gaussian window for α in tenths. -/
def gaussian (alpha n size : Nat) : Nat :=
  let d := offCentre n size
  let e := expSeries (alpha * alpha * d * d * fixOne / (200 * size * size)) 80 0 fixOne
  (2 * fixOne * 2 ^ 17 + e) / (2 * e)

/-- Window value n of N in Q1.17 (R263, R264); a loaded window is given by its half-table (R265). -/
def windowValue (code param : Nat) (half : Nat → Nat) (size n : Nat) : Int :=
  match code with
  | 0 => 2 ^ 17
  | 1 => cosWindow [500000000, -500000000] n size
  | 2 => cosWindow [358750000, -488290000, 141280000, -11680000] n size
  | 3 => cosWindow [215578950, -416631580, 277263158, -83578947, 6947368] n size
  | 4 => (kaiser (match param with | 0 => 6283 | 1 => 7854 | 2 => 9425 | _ => 10996) n size : Nat)
  | 5 => (gaussian (match param with | 0 => 25 | 1 => 30 | _ => 35) n size : Nat)
  | _ => (half (if n ≤ size / 2 then n else size - n) : Nat)

/-- The window of a pair, N values. -/
def windowTable (code param : Nat) (half : Nat → Nat) (size : Nat) : List Int :=
  (List.range size).map (windowValue code param half size)

/-- CG with 22 fractional bits and ENBW with 16, from the stored values (R264). -/
def windowGain (w : List Int) : Nat × Nat :=
  let s := w.sum
  let q := (w.map (fun x => x * x)).sum
  ((freeDiv 30 (s * 2 ^ 22) (w.length * 2 ^ 17)).toNat, (freeDiv 31 (w.length * q * 2 ^ 16) (s * s).toNat).toNat)

/-! ## The FFT -/

abbrev Cplx := Int × Int

/-- The entries of even and of odd index. -/
def unzip2 : List Cplx → List Cplx × List Cplx
  | [] => ([], [])
  | [a] => ([a], [])
  | a :: b :: t => let r := unzip2 t; (a :: r.1, b :: r.2)

/-- Bit-reversed order, for 2^k entries. -/
def bitRev : Nat → List Cplx → List Cplx
  | 0, l => l
  | k + 1, l => let r := unzip2 l; bitRev k r.1 ++ bitRev k r.2

/-- e^(−j2πk/n) in units of 2^-bits, to nearest; how many bits is free. -/
def twiddle (k n : Nat) : Cplx :=
  let b := Config.twiddleBits
  (roundDivEven (cosTurn k n * 2 ^ b) fixOne, -roundDivEven (sinTurn k n * 2 ^ b) fixOne)

/-- Both outputs of one butterfly, divided by 2^s and rounded half to even. -/
def butterfly (s : Nat) (w a b : Cplx) : Cplx × Cplx :=
  let o := (2 : Int) ^ Config.twiddleBits
  let d := 2 ^ (Config.twiddleBits + s)
  let tr := w.1 * b.1 - w.2 * b.2
  let ti := w.1 * b.2 + w.2 * b.1
  ((roundDivEven (a.1 * o + tr) d, roundDivEven (a.2 * o + ti) d),
   (roundDivEven (a.1 * o - tr) d, roundDivEven (a.2 * o - ti) d))

/-- One block of a stage: its two halves combined. -/
def fftBlock (s half : Nat) (l : List Cplx) : List Cplx :=
  let r := ((l.take half).zip (l.drop half)).zipIdx.map (fun e => butterfly s (twiddle e.2 (2 * half)) e.1.1 e.1.2)
  r.map (·.1) ++ r.map (·.2)

/-- One stage over the blocks of a frame. -/
def fftStage (s half : Nat) : Nat → List Cplx → List Cplx
  | 0, l => l
  | n + 1, l => fftBlock s half (l.take (2 * half)) ++ fftStage s half n (l.drop (2 * half))

/-- The scaling of a stage from the largest magnitude entering it (R266). -/
def stageShift (l : List Cplx) : Nat :=
  let m := l.foldl (fun m x => max m (max x.1.natAbs x.2.natAbs)) 0
  if m < 2 ^ 21 then 0 else if m < 2 ^ 22 then 1 else 2

/-- The stages from one on: k stages left, blocks of 2·half; answers the mantissas and the exponent (R267). -/
def fftStages : Nat → Nat → List Cplx → Nat → List Cplx × Nat
  | 0, _, l, e => (l, e)
  | k + 1, half, l, e =>
    let s := stageShift l
    fftStages k (2 * half) (fftStage s half (2 ^ k) l) (e + s)

/-- The FFT of a windowed frame of 2^k values (R266, R267). -/
def fft (k : Nat) (l : List Cplx) : List Cplx × Nat := fftStages k 1 (bitRev k l) 0

/-- A frame times its window, each part rounded half to even (R264). -/
def applyWindow (l : List Cplx) (w : List Int) : List Cplx :=
  (l.zip w).map (fun e => (roundDivEven (e.1.1 * e.2) (2 ^ 17), roundDivEven (e.1.2 * e.2) (2 ^ 17)))

/-- The bins delivered, in the order of R268. -/
def orderBins (cplx : Bool) (l : List Cplx) : List Cplx :=
  let h := l.length / 2
  if cplx then l.drop h ++ l.take h else l.take h

/-! ## Decibels -/

/-- Whether 10 log10(num/den) is at least v/256 − 200 dB, by exact powers. -/
def atLeastDb (num den v : Nat) : Bool :=
  if 51200 ≤ v then decide (10 ^ (v - 51200) * den ^ 2560 ≤ num ^ 2560)
  else decide (den ^ 2560 ≤ num ^ 2560 * 10 ^ (51200 - v))

/-- The largest code below 2^k above r that the power reaches. -/
def dbFloor (num den : Nat) : Nat → Nat → Nat
  | 0, r => r
  | k + 1, r => dbFloor num den k (if atLeastDb num den (r + 2 ^ k) then r + 2 ^ k else r)

/-- Whether the decibel value is exactly a code. -/
def dbExact (num den v : Nat) : Bool :=
  if 51200 ≤ v then 10 ^ (v - 51200) * den ^ 2560 = num ^ 2560 else den ^ 2560 = num ^ 2560 * 10 ^ (51200 - v)

/-- LOGP16 of a power num/den (R251, R270): one of the codes within 1 LSB of the exact value, saturating at 0 and
0xFFFF. -/
def logp16 (num den : Nat) : Nat :=
  if num = 0 || !atLeastDb num den 0 then 0
  else
    let f := dbFloor num den 16 0
    if dbExact num den f then f else min 0xFFFF (f + (if Config.logUp num den then 1 else 0))

/-! ## binary32 -/

/-- A positive binary32 magnitude num/den in units of 2^-149, rounded half to even; overflow gives infinity. -/
def f32Mag (num den : Nat) : Nat :=
  let e := (num / den).log2 - 23
  let m : Nat := (roundDivEven (num : Int) (den * 2 ^ e)).toNat
  let (m, e) : Nat × Nat := if 2 ^ 24 ≤ m then (m / 2, e + 1) else (m, e)
  if m < 2 ^ 23 then m
  else if 254 ≤ e then 0x7F800000 else (e + 1) * 2 ^ 23 + (m - 2 ^ 23)

/-- binary32 of a number num/den in units of 2^-149. -/
def f32Of (num : Int) (den : Nat) : Nat := f32Mag num.natAbs den + (if num < 0 then 2 ^ 31 else 0)

/-- The value of a finite binary32 in units of 2^-149. -/
def f32Val (w : Nat) : Int :=
  let e := w / 2 ^ 23 % 256
  let m := w % 2 ^ 23
  let v : Nat := if e = 0 then m else (2 ^ 23 + m) * 2 ^ (e - 1)
  if w.testBit 31 then -(v : Int) else (v : Int)

/-- The binary32 the tile delivers for a power num/den: some value within 2^-22 of it (R270). -/
def powF32 (num den : Nat) : Nat :=
  let n := num * 2 ^ 149
  let f := f32Mag n den
  let c : Nat := f + Config.powUlp num den % 9 - 4
  let v : Nat := (f32Val c).toNat
  if (v * den - n) * 2 ^ 22 ≤ n && (n - v * den) * 2 ^ 22 ≤ n then c else f

end Sys2Proof.Machine
end

