-- ==== Sys2Proof/Machine/Floats.lean ====
section
/-! DEFINITION. Binary floating point of the Brush cores (R363): rounding of exact values to binary32 and binary64, and
binary32 arithmetic. No result is subnormal. -/

namespace Sys2Proof.Machine

/-- How a quotient rounds: ties to even, ties toward +∞, or down (R363). -/
inductive RoundMode where
  | even | halfUp | down
deriving DecidableEq, Repr

/-- Round half up: floor(a/b + 1/2). -/
def roundHalfUp (a : Int) (b : Nat) : Int := (2 * a + b).fdiv (2 * b)

def roundBy (m : RoundMode) (a : Int) (b : Nat) : Int :=
  match m with
  | .even => roundDivEven a b
  | .halfUp => roundHalfUp a b
  | .down => a.fdiv b

/-- The greatest e with 2^e ≤ num/den, for positive num and den. -/
def ratLog2 (num den : Nat) : Int :=
  let e : Int := (num.log2 : Int) - den.log2
  let ge (e : Int) : Bool := if 0 ≤ e then decide (den * 2 ^ e.toNat ≤ num) else decide (den ≤ num * 2 ^ (-e).toNat)
  if ge e then e else e - 1

/-- A format: the stored fraction bits and the exponent bias; the exponent field has bias = 2^(w − 1) − 1. -/
structure FloatFormat where
  frac : Nat
  bias : Nat

def binary32 : FloatFormat := ⟨23, 127⟩
def binary64 : FloatFormat := ⟨52, 1023⟩

/-- The sign bit's weight in a format. -/
def FloatFormat.signBit (f : FloatFormat) : Nat := (2 * f.bias + 2) * 2 ^ f.frac
/-- Infinity in a format. -/
def FloatFormat.inf (f : FloatFormat) : Nat := (2 * f.bias + 1) * 2 ^ f.frac

/-- The bits of an exact value num/den in a format (R363): a magnitude below the smallest normal gives a signed zero, one above the
largest finite number infinity, or that number where rounding is down and the value positive. -/
def floatBits (f : FloatFormat) (m : RoundMode) (num : Int) (den : Nat) : Nat :=
  if num = 0 then 0
  else
    let sgn := if num < 0 then f.signBit else 0
    let e := ratLog2 num.natAbs den
    let k : Int := (f.frac : Int) - e
    let v := if 0 ≤ k then roundBy m (num * 2 ^ k.toNat) den else roundBy m num (den * 2 ^ (-k).toNat)
    let (man, e) : Nat × Int := if 2 ^ (f.frac + 1) ≤ v.natAbs then (v.natAbs / 2, e + 1) else (v.natAbs, e)
    if e < 1 - (f.bias : Int) then sgn
    else if (f.bias : Int) < e then
      (if m = .down && decide (0 < num) then f.inf - 1 else sgn + f.inf)
    else sgn + (e + f.bias).toNat * 2 ^ f.frac + (man - 2 ^ f.frac)

/-- A value num · 2^e as binary32 or binary64. -/
def floatScaled (f : FloatFormat) (m : RoundMode) (num : Int) (e : Int) : Nat :=
  if 0 ≤ e then floatBits f m (num * 2 ^ e.toNat) 1 else floatBits f m num (2 ^ (-e).toNat)

/-! ## binary32 arithmetic -/

def f32Exp (w : Nat) : Nat := w / 2 ^ 23 % 256
def f32Nan (w : Nat) : Bool := f32Exp w = 255 && decide (w % 2 ^ 23 ≠ 0)
def f32Inf (w : Nat) : Bool := f32Exp w = 255 && decide (w % 2 ^ 23 = 0)
def f32Neg (w : Nat) : Bool := w.testBit 31
def f32Zero (w : Nat) : Bool := w % 2 ^ 31 = 0

/-- Some NaN. -/
def f32NanOf (a b : Nat) : Nat :=
  let n := Config.nanBits a b
  n % 2 * 2 ^ 31 + 0x7F800001 + n / 2 % (2 ^ 23 - 1)

/-- VFADD on one lane (R363, R366). -/
def f32Add (a b : Nat) : Nat :=
  if f32Nan a || f32Nan b then f32NanOf a b
  else if f32Inf a then (if f32Inf b && f32Neg a != f32Neg b then f32NanOf a b else a)
  else if f32Inf b then b
  else if f32Zero a && f32Zero b then (if f32Neg a && f32Neg b then 2 ^ 31 else 0)
  else floatBits binary32 .even (f32Val a + f32Val b) (2 ^ 149)

/-- VFMUL on one lane. -/
def f32Mul (a b : Nat) : Nat :=
  let sgn := if f32Neg a != f32Neg b then 2 ^ 31 else 0
  if f32Nan a || f32Nan b then f32NanOf a b
  else if f32Inf a || f32Inf b then (if f32Zero a || f32Zero b then f32NanOf a b else sgn + 0x7F800000)
  else if f32Zero a || f32Zero b then sgn
  else floatBits binary32 .even (f32Val a * f32Val b) (2 ^ 298)

/-- A key that orders binary32 values, infinities included. -/
def f32Key (w : Nat) : Int := if f32Neg w then -((w % 2 ^ 31 : Nat) : Int) else (w % 2 ^ 31 : Nat)

/-- VFMAX and VFMIN on one lane. -/
def f32Pick (max : Bool) (a b : Nat) : Nat :=
  if f32Nan a || f32Nan b || (f32Zero a && f32Zero b && decide (a ≠ b)) then
    (if Config.pickSecond max a b then b else a)
  else if (if max then decide (f32Key a ≤ f32Key b) else decide (f32Key b ≤ f32Key a)) then b else a

end Sys2Proof.Machine
end

