-- ==== Sys2Proof/Machine/EventNames.lean ====
section
/-! DEFINITION. The events of the spec's chapters (R67): for each its ID (the block index in [9:5], the local index
in [4:0]) and its severity (0 info, 1 warning, 2 error, 3 failure). -/

namespace Sys2Proof.Machine

structure EventDef where
  id : Nat
  severity : Nat
deriving DecidableEq, Repr

/-- The common local events 0 to 5 of every block (R552), by block index. -/
def Ev.accessErr (b : Nat) : EventDef := ⟨b * 32, 1⟩
def Ev.cfgWhileEn (b : Nat) : EventDef := ⟨b * 32 + 1, 1⟩
def Ev.cfgDrift (b : Nat) : EventDef := ⟨b * 32 + 2, 2⟩
def Ev.xdomTimeout (b : Nat) : EventDef := ⟨b * 32 + 3, 1⟩
def Ev.busyDrop (b : Nat) : EventDef := ⟨b * 32 + 4, 0⟩
def Ev.driftUnresolved (b : Nat) : EventDef := ⟨b * 32 + 5, 3⟩
/-- GLOBAL local 6 (R552, R69). -/
def Ev.GLOBAL.TIME_ANCHOR : EventDef := ⟨6, 0⟩

/-! Events of NIB (R107). -/
def Ev.NIB.PROG_EXC : EventDef := ⟨0x46, 2⟩
def Ev.NIB.PROG_HALT : EventDef := ⟨0x47, 0⟩
def Ev.NIB.ADMIT_REFUSED : EventDef := ⟨0x48, 1⟩
def Ev.NIB.PROG_MOVED : EventDef := ⟨0x49, 0⟩
def Ev.NIB.ECC_CORR : EventDef := ⟨0x4a, 0⟩
/-! Events of FLANE (R142). -/
def Ev.FLANE.LANE_FAIL : EventDef := ⟨0x86, 1⟩
def Ev.FLANE.RESTRIPED : EventDef := ⟨0x87, 0⟩
def Ev.FLANE.PORT_FALLBACK : EventDef := ⟨0x88, 2⟩
def Ev.FLANE.PORT_DOWN : EventDef := ⟨0x89, 3⟩
def Ev.FLANE.PORT_UP : EventDef := ⟨0x8a, 0⟩
def Ev.FLANE.TEST_ABORT : EventDef := ⟨0x8b, 0⟩
def Ev.FLANE.OPT_LOW : EventDef := ⟨0x8c, 1⟩
/-! Events of CASC (R142). -/
def Ev.CASC.CASC_LANE_FAIL : EventDef := ⟨0x246, 1⟩
def Ev.CASC.CASC_SINGLE : EventDef := ⟨0x247, 1⟩
def Ev.CASC.CASC_DOWN : EventDef := ⟨0x248, 2⟩
def Ev.CASC.CASC_UP : EventDef := ⟨0x249, 0⟩
def Ev.CASC.CASC_SLIP : EventDef := ⟨0x24a, 1⟩
/-! Events of FLINK (R170). -/
def Ev.FLINK.HEAD_NEW : EventDef := ⟨0xa6, 0⟩
def Ev.FLINK.HEAD_WARN : EventDef := ⟨0xa7, 1⟩
def Ev.FLINK.HEAD_EOL : EventDef := ⟨0xa8, 2⟩
def Ev.FLINK.HEAD_ALARM : EventDef := ⟨0xa9, 1⟩
def Ev.FLINK.MSG_FAIL : EventDef := ⟨0xaa, 2⟩
def Ev.FLINK.HEAD_REFUSED : EventDef := ⟨0xab, 2⟩
def Ev.FLINK.HEAD_SILENT : EventDef := ⟨0xac, 1⟩
def Ev.FLINK.STANDBY_TAKEOVER : EventDef := ⟨0xad, 1⟩
def Ev.FLINK.IMAGE_DONE : EventDef := ⟨0xae, 0⟩
def Ev.FLINK.IMAGE_FAIL : EventDef := ⟨0xaf, 2⟩
def Ev.FLINK.DELAY_STEP : EventDef := ⟨0xb0, 1⟩
/-! Events of CLK (R198). -/
def Ev.CLK.PLL_LOL : EventDef := ⟨0xc6, 1⟩
def Ev.CLK.PLL_LOCKED : EventDef := ⟨0xc7, 0⟩
def Ev.CLK.TWIN_SWAP : EventDef := ⟨0xc8, 1⟩
def Ev.CLK.PLL_STOP : EventDef := ⟨0xc9, 3⟩
def Ev.CLK.HOLDOVER_START : EventDef := ⟨0xca, 1⟩
def Ev.CLK.HOLDOVER_END : EventDef := ⟨0xcb, 0⟩
def Ev.CLK.REF_LOSS : EventDef := ⟨0xcc, 2⟩
def Ev.CLK.REF_SWITCH : EventDef := ⟨0xcd, 1⟩
def Ev.CLK.BAND_NONE : EventDef := ⟨0xce, 2⟩
def Ev.CLK.CLOCK_STOP : EventDef := ⟨0xcf, 2⟩
def Ev.CLK.CLOCK_RUN : EventDef := ⟨0xd0, 0⟩
def Ev.CLK.RUNT : EventDef := ⟨0xd1, 1⟩
/-! Events of TIME (R229). -/
def Ev.TIME.TBW_STEP : EventDef := ⟨0xe6, 0⟩
def Ev.TIME.INCR_RANGE : EventDef := ⟨0xe7, 1⟩
def Ev.TIME.TBM_SLIP : EventDef := ⟨0xe8, 1⟩
def Ev.TIME.TDC_MISSED : EventDef := ⟨0xe9, 0⟩
def Ev.TIME.TDC_LOST : EventDef := ⟨0xea, 1⟩
def Ev.TIME.TRACK_REJECT : EventDef := ⟨0xeb, 1⟩
def Ev.TIME.PPS_IN : EventDef := ⟨0xec, 0⟩
/-! Events of NET (R229). -/
def Ev.NET.LINK_DOWN : EventDef := ⟨0x2e6, 2⟩
def Ev.NET.LINK_UP : EventDef := ⟨0x2e7, 0⟩
def Ev.NET.TXTS_OVF : EventDef := ⟨0x2e8, 1⟩
def Ev.NET.STAMP_MISS : EventDef := ⟨0x2e9, 1⟩
/-! Events of COND (R257). -/
def Ev.COND.SPIKE_BURST : EventDef := ⟨0x106, 1⟩
def Ev.COND.ZC_SAT : EventDef := ⟨0x107, 1⟩
def Ev.COND.COEF_REFUSED : EventDef := ⟨0x108, 1⟩
def Ev.COND.RS_RANGE : EventDef := ⟨0x109, 1⟩
def Ev.COND.TH_UP : EventDef := ⟨0x10a, 0⟩
def Ev.COND.TH_DOWN : EventDef := ⟨0x10b, 0⟩
def Ev.COND.ZC_REFUSED : EventDef := ⟨0x10c, 1⟩
/-! Events of XFORM (R292). -/
def Ev.XFORM.XF_REFUSED : EventDef := ⟨0x126, 1⟩
def Ev.XFORM.WIN_REFUSED : EventDef := ⟨0x127, 1⟩
def Ev.XFORM.XF_COMMITTED : EventDef := ⟨0x128, 0⟩
def Ev.XFORM.ALIGN_LATE : EventDef := ⟨0x129, 0⟩
/-! Events of TRIG (R329). -/
def Ev.TRIG.TRIG_EARLY : EventDef := ⟨0x146, 0⟩
def Ev.TRIG.TP_FULL : EventDef := ⟨0x147, 1⟩
def Ev.TRIG.SEQ_REFUSED : EventDef := ⟨0x148, 1⟩
def Ev.TRIG.MASK_REFUSED : EventDef := ⟨0x149, 1⟩
def Ev.TRIG.MASK_COMMITTED : EventDef := ⟨0x14a, 0⟩
/-! Events of SYNC (R329). -/
def Ev.SYNC.BUS_EPOCH : EventDef := ⟨0x266, 0⟩
def Ev.SYNC.BUS_PHASE_LOST : EventDef := ⟨0x267, 2⟩
def Ev.SYNC.SYNC_GLITCH : EventDef := ⟨0x268, 1⟩
def Ev.SYNC.BUS_PHASE_STEP : EventDef := ⟨0x269, 1⟩
/-! Events of REC (R359). -/
def Ev.REC.TPL_REFUSED : EventDef := ⟨0x166, 1⟩
def Ev.REC.FLOW_STOP : EventDef := ⟨0x167, 2⟩
def Ev.REC.THROTTLE : EventDef := ⟨0x168, 1⟩
def Ev.REC.LB_REFUSED : EventDef := ⟨0x169, 1⟩
def Ev.REC.LB_DONE : EventDef := ⟨0x16a, 0⟩
def Ev.REC.REC_POISON : EventDef := ⟨0x16b, 2⟩
def Ev.REC.RAW_SHRINK : EventDef := ⟨0x16c, 2⟩
/-! Events of BRUSH (R385). -/
def Ev.BRUSH.KRN_FAULT : EventDef := ⟨0x66, 2⟩
def Ev.BRUSH.KRN_TIME : EventDef := ⟨0x67, 2⟩
def Ev.BRUSH.KRN_LOADED : EventDef := ⟨0x68, 0⟩
def Ev.BRUSH.KRN_REFUSED : EventDef := ⟨0x69, 1⟩
def Ev.BRUSH.ECC_CORR : EventDef := ⟨0x6a, 0⟩
def Ev.BRUSH.OUTDROP : EventDef := ⟨0x6b, 1⟩
/-! Events of BLOT (R416). -/
def Ev.BLOT.PL_REFUSED : EventDef := ⟨0x186, 1⟩
def Ev.BLOT.PL_SAT : EventDef := ⟨0x187, 1⟩
def Ev.BLOT.SNAP_DONE : EventDef := ⟨0x188, 0⟩
def Ev.BLOT.MERGE_LOSS : EventDef := ⟨0x189, 1⟩
def Ev.BLOT.PL_FLOW_STOP : EventDef := ⟨0x18a, 2⟩
def Ev.BLOT.PL_THROTTLE : EventDef := ⟨0x18b, 1⟩
/-! Events of DISP (R416). -/
def Ev.DISP.DISP_CHECK_FAIL : EventDef := ⟨0x1a6, 2⟩
def Ev.DISP.DP_LINK_LOST : EventDef := ⟨0x1a7, 2⟩
def Ev.DISP.DP_LINK_UP : EventDef := ⟨0x1a8, 0⟩
def Ev.DISP.REPLAY_ENTER : EventDef := ⟨0x1a9, 0⟩
def Ev.DISP.REPLAY_EXIT : EventDef := ⟨0x1aa, 0⟩
def Ev.DISP.TIMING_REFUSED : EventDef := ⟨0x1ab, 1⟩
def Ev.DISP.LAYER_RELEASED : EventDef := ⟨0x1ac, 0⟩
def Ev.DISP.RELEASE_BUSY : EventDef := ⟨0x1ad, 1⟩
def Ev.DISP.COMMIT_REFUSED : EventDef := ⟨0x1ae, 1⟩
/-! Events of INK (R439). -/
def Ev.INK.INK_UE : EventDef := ⟨0x1c6, 2⟩
def Ev.INK.INK_ADDR_ERR : EventDef := ⟨0x1c7, 2⟩
def Ev.INK.ROW_REMAPPED : EventDef := ⟨0x1c8, 0⟩
def Ev.INK.BANK_SPARED : EventDef := ⟨0x1c9, 1⟩
def Ev.INK.CHANNEL_FAILED : EventDef := ⟨0x1ca, 3⟩
def Ev.INK.CHANNEL_RETRAINED : EventDef := ⟨0x1cb, 0⟩
def Ev.INK.REFRESH_FORCED : EventDef := ⟨0x1cc, 1⟩
def Ev.INK.INK_HOT : EventDef := ⟨0x1cd, 2⟩
def Ev.INK.ELOG_OVF : EventDef := ⟨0x1ce, 1⟩
def Ev.INK.DRIFT_LIMIT : EventDef := ⟨0x1cf, 1⟩
def Ev.INK.SPARE_EXHAUSTED : EventDef := ⟨0x1d0, 2⟩
/-! Events of HOSTQ (R467). -/
def Ev.HOSTQ.RING_HALT : EventDef := ⟨0x1e6, 2⟩
def Ev.HOSTQ.HOST_RESET : EventDef := ⟨0x1e7, 1⟩
def Ev.HOSTQ.LINK_RATE : EventDef := ⟨0x1e8, 1⟩
def Ev.HOSTQ.DB_BAD : EventDef := ⟨0x1e9, 1⟩
/-! Events of DMA (R467). -/
def Ev.DMA.CH_HALT : EventDef := ⟨0x206, 2⟩
def Ev.DMA.CH_PROMOTED : EventDef := ⟨0x207, 0⟩
def Ev.DMA.CH_POISON : EventDef := ⟨0x208, 2⟩
def Ev.DMA.CH_REPLAY : EventDef := ⟨0x209, 1⟩
/-! Events of STOR (R487). -/
def Ev.STOR.DRV_ATTACHED : EventDef := ⟨0x226, 0⟩
def Ev.STOR.DRV_LOST : EventDef := ⟨0x227, 2⟩
def Ev.STOR.DRV_WEAR_WARN : EventDef := ⟨0x228, 1⟩
def Ev.STOR.DRV_RETIRED : EventDef := ⟨0x229, 2⟩
def Ev.STOR.DRV_SLOW : EventDef := ⟨0x22a, 1⟩
def Ev.STOR.DRV_REFUSED : EventDef := ⟨0x22b, 1⟩
def Ev.STOR.DS_FULL : EventDef := ⟨0x22c, 1⟩
def Ev.STOR.DS_STOP : EventDef := ⟨0x22d, 2⟩
def Ev.STOR.DS_THROTTLE : EventDef := ⟨0x22e, 1⟩
def Ev.STOR.DS_POISON : EventDef := ⟨0x22f, 2⟩
def Ev.STOR.READ_DONE : EventDef := ⟨0x230, 0⟩
/-! Events of STEWARD (R521). -/
def Ev.STEWARD.FW_SWITCHED : EventDef := ⟨0x26, 0⟩
def Ev.STEWARD.FW_REVERTED : EventDef := ⟨0x27, 2⟩
def Ev.STEWARD.STEWARD_TAKEOVER : EventDef := ⟨0x28, 1⟩
def Ev.STEWARD.VCORE_LIMIT : EventDef := ⟨0x29, 1⟩
def Ev.STEWARD.RESUME_DONE : EventDef := ⟨0x2a, 0⟩
def Ev.STEWARD.RESUME_PARTIAL : EventDef := ⟨0x2b, 2⟩
def Ev.STEWARD.RESUME_HELD : EventDef := ⟨0x2c, 0⟩
/-! Events of CAL (R521). -/
def Ev.CAL.CAL_DONE : EventDef := ⟨0x286, 0⟩
def Ev.CAL.CAL_DISAGREE : EventDef := ⟨0x287, 1⟩
def Ev.CAL.CAL_PRECOND : EventDef := ⟨0x288, 0⟩
def Ev.CAL.CAL_FACTORY : EventDef := ⟨0x289, 2⟩
def Ev.CAL.CAL_NO_SPARE : EventDef := ⟨0x28a, 1⟩
/-! Events of SPARE (R521). -/
def Ev.SPARE.HANDOVER : EventDef := ⟨0x2a6, 0⟩
def Ev.SPARE.HANDOVER_FAIL : EventDef := ⟨0x2a7, 1⟩
def Ev.SPARE.SPARE_LOW : EventDef := ⟨0x2a8, 1⟩
def Ev.SPARE.SPARE_EMPTY : EventDef := ⟨0x2a9, 2⟩
def Ev.SPARE.UNIT_FAILED : EventDef := ⟨0x2aa, 3⟩
/-! Events of RETAIN (R521). -/
def Ev.RETAIN.SESSION_COMMITTED : EventDef := ⟨0x2c6, 0⟩
def Ev.RETAIN.RETAIN_BAD_SLOT : EventDef := ⟨0x2c7, 2⟩
def Ev.RETAIN.KEY_CHANGED : EventDef := ⟨0x2c8, 1⟩
/-! Events of PWR (R550). -/
def Ev.PWR.PHASE_SHED : EventDef := ⟨0x306, 1⟩
def Ev.PWR.PHASE_SHORT : EventDef := ⟨0x307, 3⟩
def Ev.PWR.THERM_WARN : EventDef := ⟨0x308, 1⟩
def Ev.PWR.VIN_LOW : EventDef := ⟨0x309, 2⟩
def Ev.PWR.SERVICE_MODE : EventDef := ⟨0x30a, 1⟩

end Sys2Proof.Machine
end

