-- ==== Sys2Proof/Machine/Events.lean ====
section
/-! DEFINITION. Rings as containers (R445, R446), MSI-X vectors, and the raising of events: the record of R68, the
routing of R70 and R71, time anchors (R69) and the flight recorder. -/

namespace Sys2Proof.Machine

/-! ## Result rings -/

/-- The number of slots of a result ring: 2^k with k = size + 4 (R444, R465). -/
def State.rringSize (s : State) (r : Nat) : Nat := 2 ^ (s.fld (Reg.HOSTQ.RRING_CFG r) Fld.HOSTQ.RRING_CFG.size + 4)

def State.rringType (s : State) (r : Nat) : Nat := s.fld (Reg.HOSTQ.RRING_CFG r) Fld.HOSTQ.RRING_CFG.type

def State.rringRuns (s : State) (r : Nat) : Bool := s.fld (Reg.HOSTQ.RRING_STATE r) Fld.HOSTQ.RRING_STATE.state = 1

/-- The entries of a result ring that the host has not consumed: T − H (R446). -/
def State.rringUsed (s : State) (r : Nat) : Nat :=
  ((s.reg (Reg.HOSTQ.RRING_TAIL r)) - (s.reg (Reg.HOSTQ.RRING_HEAD r))).toNat

def State.rringFull (s : State) (r : Nat) : Bool := s.rringSize r ≤ s.rringUsed r

/-- An MSI-X vector signalled: sent at once, or left pending while its table entry is masked (R441); never signalled
while the host link is down (R448). -/
def State.signal (s : State) (v : Nat) : State :=
  if s.fld Reg.HOSTQ.HQ_LINK Fld.HOSTQ.HQ_LINK.up = 0 then s
  else if s.fld (Reg.HOSTQ.MSIX_CTRL v) Fld.HOSTQ.MSIX_CTRL.mask = 1 then
    s.setReg (Reg.HOSTQ.MSIX_PBA (v / 32)) (s.reg (Reg.HOSTQ.MSIX_PBA (v / 32)) ||| BitVec.ofNat 32 (2 ^ (v % 32)))
  else s.emit (.msix v)

/-- An entry written to a result ring: T advances, and with wb_en the count is written back (R448). -/
def State.rringPush (s : State) (r : Nat) (e : ResultEntry) : State :=
  let s : State := { s with rings := { s.rings with
    result := sparsePut (fun _ => []) r (sparseGet (fun _ => []) s.rings.result r ++ [e]) s.rings.result } }
  let s : State := s.setReg (Reg.HOSTQ.RRING_TAIL r) (s.reg (Reg.HOSTQ.RRING_TAIL r) + 1)
  if s.fld (Reg.HOSTQ.RRING_CFG r) Fld.HOSTQ.RRING_CFG.wb_en = 1 then
    s.emit (.writeback (1024 + r) (s.reg (Reg.HOSTQ.RRING_TAIL r)).toNat)
  else s

/-- The coalescing of a ring's own vector after one more entry (R448); coal_count 0 signals after every entry. -/
def State.coalesce (s : State) (r : Nat) : State :=
  if s.fld (Reg.HOSTQ.RRING_CFG r) Fld.HOSTQ.RRING_CFG.irq_en = 0 then s
  else
    let n := sparseGet (fun _ => 0) s.rings.unsignalled r + 1
    if s.fld (Reg.HOSTQ.RRING_COAL r) Fld.HOSTQ.RRING_COAL.coal_count ≤ n then
      ({ s with rings := { s.rings with unsignalled := sparsePut (fun _ => 0) r 0 s.rings.unsignalled } }).signal
        (s.fld (Reg.HOSTQ.RRING_CFG r) Fld.HOSTQ.RRING_CFG.vector)
    else { s with rings := { s.rings with unsignalled := sparsePut (fun _ => 0) r n s.rings.unsignalled } }

/-- An entry for a result ring other than an EVENT ring: written and coalesced when the ring runs and has a free slot,
kept waiting when it runs and is full (R446). `false` when the ring does not run. -/
def State.rringWrite (s : State) (r : Nat) (e : ResultEntry) : State :=
  if s.rringFull r || (sparseGet (fun _ => []) s.rings.waiting r).length ≠ 0 then
    { s with rings := { s.rings with
      waiting := sparsePut (fun _ => []) r (sparseGet (fun _ => []) s.rings.waiting r ++ [e]) s.rings.waiting } }
  else (s.rringPush r e).coalesce r

/-! ## Events -/

/-- The stamps of an event raised now. -/
def State.stampTbw (s : State) : Nat := s.time.tbwNs.toNat
def State.stampTbs (s : State) : Nat := s.time.tbs.toNat

/-- The record of an event raised now (R68), before routing. -/
def State.eventRecord (s : State) (e : EventDef) (arg : Nat) : EventRecord :=
  { id := e.id, severity := e.severity, dropped := false, anchor := false,
    tsHeld := !(s.running .samp && s.running .ref), arg := arg % 0x10000,
    tbw := s.stampTbw % 2 ^ 48, tbs := s.stampTbs / 2 ^ 8 % 2 ^ 48 }

/-- The time anchor before an event raised now (R69). -/
def State.anchorRecord (s : State) : EventRecord :=
  { id := 6, severity := 0, dropped := false, anchor := true, tsHeld := !(s.running .samp && s.running .ref), arg := 0,
    tbw := s.stampTbw / 2 ^ 16 % 2 ^ 48, tbs := s.stampTbs / 2 ^ 16 % 2 ^ 48 }

/-- The upper time-base bits an anchor supplies: TB-W [63:48] and TB-S [63:56]. -/
def State.upperTime (s : State) : Nat × Nat := (s.stampTbw / 2 ^ 48, s.stampTbs / 2 ^ 56)

/-- A record lost on the way to a ring: counted, and the ring's next record carries DROPPED (R70). -/
def State.dropEvent (s : State) (r : Nat) : State :=
  ({ s with rings := { s.rings with dropped := sparsePut (fun _ => false) r true s.rings.dropped } }).count
    Reg.HOSTQ.HQ_EVT_DROP_CNT 1

/-- A record taken to the flight recorder, with an anchor before it under the rule of R69 (R512), the oldest records
leaving when it is full. -/
def State.record (s : State) (e : EventRecord) : State :=
  let due := s.retained.flightAnchor ≠ some s.upperTime
  let fr := s.retained.flight ++ (if due then [s.anchorRecord, e] else [e])
  let s : State := { s with retained := { s.retained with
    flight := fr.drop (fr.length - flightDepth), flightAnchor := some s.upperTime } }
  s.setReg Reg.RETAIN.RT_FR_COUNT (s.reg Reg.RETAIN.RT_FR_COUNT + (if due then 2 else 1))

/-- A record routed to a ring (R69 to R71): an anchor first where one is due, then the record, then the vector. -/
def State.routeEvent (s : State) (id : Nat) (e : EventRecord) : State :=
  let rt := Reg.GLOBAL.EVT_ROUTE id
  if s.fld rt Fld.GLOBAL.EVT_ROUTE.route_en = 0 then s
  else
    let r := s.fld rt Fld.GLOBAL.EVT_ROUTE.ring
    if 3072 ≤ r || !s.rringRuns r || s.rringType r ≠ 2 || s.rringFull r then s.dropEvent r
    else
      let due := sparseGet (fun _ => none) s.rings.anchors r ≠ some s.upperTime
      let s : State := if due then
          let s : State := s.rringPush r (.event s.anchorRecord)
          { s with rings := { s.rings with
            anchors := sparsePut (fun _ => none) r (some s.upperTime) s.rings.anchors } }
        else s
      if s.rringFull r then s.dropEvent r
      else
        let d := sparseGet (fun _ => false) s.rings.dropped r
        let s : State := s.rringPush r (.event { e with dropped := d })
        let s : State := { s with rings := { s.rings with dropped := sparsePut (fun _ => false) r false s.rings.dropped } }
        if s.fld rt Fld.GLOBAL.EVT_ROUTE.irq_en = 1 then s.signal (s.fld rt Fld.GLOBAL.EVT_ROUTE.vector) else s

/-- An event raised: it reaches the flight recorder whatever its routing, and the ring its route names (R70). -/
def State.raise (s : State) (e : EventDef) (arg : Nat) : State :=
  let rec_ := s.eventRecord e arg
  (s.record rec_).routeEvent e.id rec_

/-- Insertion of an event by ascending ID, then ascending argument (R70). -/
def insertEvent (x : EventDef × Nat) : List (EventDef × Nat) → List (EventDef × Nat)
  | [] => [x]
  | y :: t => if x.1.id < y.1.id || (x.1.id = y.1.id && decide (x.2 ≤ y.2)) then x :: y :: t else y :: insertEvent x t

/-- Events raised in one arbitration step, in ascending ID and argument (R70). -/
def State.raiseAll (s : State) (l : List (EventDef × Nat)) : State :=
  (l.foldr insertEvent []).foldl (fun s x => s.raise x.1 x.2) s

/-- An STA bit set with its event. -/
def State.setStaEv (s : State) (a : Nat) (f : Bits) (e : EventDef) (arg : Nat) : State := (s.setSta a f).raise e arg

/-- An event with the block bit of BLK_STA given by number. -/
def State.blkEvent (s : State) (b n : Nat) (e : EventDef) (arg : Nat) : State := (s.setBlkSta b n).raise e arg

/-! ## Refused accesses -/

/-- The requester code of R51. -/
def Requester.code : Requester → Nat
  | .hostBar0 => 0x00 | .hostBar2 => 0x01 | .hostBar4 => 0x02 | .nib c => 0x10 + c.val | .steward => 0x20

end Sys2Proof.Machine
end

