-- ==== Sys2Proof/Machine/RegOps.lean ====
section
/-! DEFINITION. Register accesses (R37 to R62), the configuration check (R63 to R66) and event routing (R71, R72): the
commands of ch. 02 but for the block-wide enable and disable. -/

namespace Sys2Proof.Machine

/-- ACCESS_LOG_ADDR and ACCESS_LOG_INFO take an access (R51). -/
def State.logAccess (s : State) (b off : Nat) (req be kind : Nat) : State :=
  let s : State := s.setFld (Reg.HDR.ACCESS_LOG_ADDR b) Fld.HDR.ACCESS_LOG_ADDR.offset off
  s.setReg (Reg.HDR.ACCESS_LOG_INFO b) (putField Fld.HDR.ACCESS_LOG_INFO.kind kind
    (putField Fld.HDR.ACCESS_LOG_INFO.byte_en be (putField Fld.HDR.ACCESS_LOG_INFO.requester req 0)))

/-- An access refused or partly ignored (R50, R51, R552): logged, counted, and the event raised. -/
def State.accessErr (s : State) (b off : Nat) (req be kind : Nat) : State :=
  ((s.logAccess b off req be kind).count (Reg.HDR.ACCESS_ERR_CNT b) 1).setStaEv (Reg.HDR.BLK_STA b)
    Fld.HDR.BLK_STA.ACCESS_ERR (Ev.accessErr b) (req + kind * 256)

/-- A CFG write ignored (R42). -/
def State.cfgWhileEn (s : State) (b off : Nat) (req : Nat) : State :=
  ((s.logAccess b off req 0xF 7).count (Reg.HDR.CFG_WHILE_EN_CNT b) 1).setStaEv (Reg.HDR.BLK_STA b)
    Fld.HDR.BLK_STA.CFG_WHILE_EN (Ev.cfgWhileEn b) req

/-- A CTL write of 1 to a pending bit (R61). -/
def State.busyDrop (s : State) (b : Nat) (req : Nat) : State :=
  (s.count (Reg.HDR.BUSY_DROP_CNT b) 1).setStaEv (Reg.HDR.BLK_STA b) Fld.HDR.BLK_STA.BUSY_DROP (Ev.busyDrop b) req

/-- The requester of the last write of 1 to a CTL register. -/
def State.issuer (s : State) (a : Nat) : Nat := sparseGet (fun _ => 0) s.issuers a

/-- Whether the enable scope of a register is enabled or DRAINING; a block-wide scope in FAULT counts (R42). -/
def State.scopeOn (s : State) (r : RegRef) : Bool :=
  match r.scope with
  | some id => s.live id
  | none => s.blockState r.block ≠ 0

/-- The outcome of one 32-bit write, as a UWRITE reports it (R89, R94). -/
inductive WriteResult where
  | ok | ignoredEn | busy | access
deriving DecidableEq, Repr

/-- The RSV bits of a row: those no field names. -/
def rsvMask (r : RegRow) : Word := ~~~ rowMask (fun _ => true) r

/-- A write of the fields of a register by its class, for a full 32-bit write to a register found (R38, R39, R42, R43,
R60, R61). RSV bits never change (R62). -/
def State.writeFields (s : State) (req : Requester) (a : Nat) (r : RegRef) (v : Word) : WriteResult × State :=
  let b := r.block
  let row := r.row
  if hasClass .sta row then (.ok, s.clearSta a (Reg.HDR.STALE_CLEAR_CNT b) v)
  else if hasClass .cfg row then
    if s.scopeOn r then (.ignoredEn, s.cfgWhileEn b (a % 0x80000) req.code)
    else (.ok, s.setReg a (mergeMask (rowMask (fun c => c = .cfg) row) (s.reg a) v))
  else if hasClass .stage row then
    let m := rowMask (fun c => c = .stage) row
    if a = Reg.HDR.CRC_REF b then (.ok, s.setReg a v)
    else if b = 8 && decide (Reg.COND.COEF 0 0 ≤ a) &&
        decide (s.fld (Reg.COND.ZC_STATE ((a - Reg.COND.COEF 0 0) / 0x400)) Fld.COND.ZC_STATE.state = 2) then
      (.ok, s.setSta (Reg.COND.ZC_STA ((a - Reg.COND.COEF 0 0) / 0x400)) Fld.COND.ZC_STA.COEF_BUSY)
    else if s.scopeOn r then (.ok, s.stageWrite a (mergeMask m (s.stagedReg a) v))
    else
      let s : State := s.setReg a (mergeMask m (s.stagedReg a) v)
      (.ok, { s with staged := sparsePut (fun _ => none) a none s.staged })
  else if hasClass .ctl row then
    let m := rowMask (fun c => c = .ctl) row
    let again := v &&& m &&& s.reg a
    let s' : State := s.setReg a (s.reg a ||| (v &&& m))
    let s' : State := { s' with issuers := sparsePut (fun _ => 0) a req.code s'.issuers }
    if again ≠ 0 then (.busy, s'.busyDrop b req.code) else (.ok, s')
  else if hasClass .cnt row then
    let m := rowMask (fun c => c = .cnt) row
    if v &&& m = 0 then (.ok, s.setReg a (s.reg a &&& ~~~ m))
    else (.access, s.accessErr b (a % 0x80000) req.code 0xF 2)
  else if hasClass .rw row then
    (.ok, s.setReg a (mergeMask (rowMask (fun c => c = .rw) row) (s.reg a) v))
  else (.access, s.accessErr b (a % 0x80000) req.code 0xF 3)

/-- The training helpers of an Inkwell channel, which only the Steward writes (R438). -/
def trainingHelper (a : Nat) : Bool :=
  a / 0x80000 = 14 && decide (0x2000 ≤ a % 0x80000) && decide (0x40 ≤ a % 0x100) && decide (a % 0x100 < 0x80)

/-- The registers of PLL-R that only the Steward writes: all of them but output 6's OUT_CMD, and the band table while
PLL-R is OFF (R175). -/
def State.pllrOnly (s : State) (a : Nat) : Bool :=
  decide (Reg.CLK.PLL_CFG 0 ≤ a) && decide (a < Reg.CLK.PLL_CFG 1) && decide (a ≠ Reg.CLK.OUT_CMD 0 6) &&
    !(decide (Reg.CLK.BAND 0 0 ≤ a) && decide (a < Reg.CLK.BAND 0 64) &&
      decide (s.fld (Reg.CLK.PLL_STATE 0) Fld.CLK.PLL_STATE.state = 0))

/-- Writes that follow a paired unit and are ignored: PLL-D output 1 under pair_lock (R186), and the commands of display
output 1 in tiled mode (R406). -/
def State.pairedAway (s : State) (a : Nat) : Bool :=
  (s.flag (Reg.CLK.PLL_CFG 2) Fld.CLK.PLL_CFG.pair_lock && decide (Reg.CLK.OUT_CFG 2 1 ≤ a) &&
    decide (a ≤ Reg.CLK.OUT_CMD 2 1)) ||
  (s.flag Reg.DISP.DISP_CFG Fld.DISP.DISP_CFG.tiled && decide (a = Reg.DISP.DP_CMD 1))

/-- Writes to the second instance of a ganged pair of planes, which are ignored and logged (R386). -/
def State.gangedAway (s : State) (a : Nat) : Bool :=
  (List.range 8).any (fun g =>
    s.flag (Reg.BLOT.PL_STATE (2 * g + 1)) Fld.BLOT.PL_STATE.ganged &&
      ((decide (Reg.BLOT.PL_CFG (2 * g + 1) ≤ a) && decide (a ≤ Reg.BLOT.MERGE_LOSS_CNT (2 * g + 1))) ||
        (decide (Reg.BLOT.COLOUR_MAP (2 * g + 1) 0 ≤ a) && decide (a ≤ Reg.BLOT.COLOUR_MAP (2 * g + 1) 255))))

/-- A write to a band table is an override until the next power-up (R181). -/
def State.bandOverride (s : State) (a : Nat) : State :=
  match (List.range 4).find? (fun y => decide (Reg.CLK.BAND y 0 ≤ a) && decide (a < Reg.CLK.BAND y 64)) with
  | some y => s.setFld (Reg.CLK.PLL_STATE y) Fld.CLK.PLL_STATE.override 1
  | none => s

/-- A window slot's entry behind WIN_DATA (R289): a write to WIN_DATA stores the entry at WIN_ADDR, and a write to WIN_ADDR
brings its entry into WIN_DATA. -/
def State.windowHook (s : State) (a : Nat) : State :=
  match (List.range 8).find? (fun w => a = Reg.XFORM.WIN_ADDR w || a = Reg.XFORM.WIN_DATA w) with
  | none => s
  | some w =>
    let k := w * 65536 + s.fld (Reg.XFORM.WIN_ADDR w) Fld.XFORM.WIN_ADDR.index
    if a = Reg.XFORM.WIN_DATA w then
      { s with windows := sparsePut (fun _ => 0) k (s.fld a Fld.XFORM.WIN_DATA.value) s.windows }
    else s.setFld (Reg.XFORM.WIN_DATA w) Fld.XFORM.WIN_DATA.value (sparseGet (fun _ => 0) s.windows k)

/-- An MSI-X entry unmasked sends the message that has been pending for it (R441, R442: the PCIe Base Specification's rule). -/
def State.msixHook (s : State) (a : Nat) : State :=
  match (List.range 256).find? (fun v => a = Reg.HOSTQ.MSIX_CTRL v) with
  | none => s
  | some v =>
    let p := Reg.HOSTQ.MSIX_PBA (v / 32)
    if s.fld a Fld.HOSTQ.MSIX_CTRL.mask = 1 || !(s.reg p).getLsbD (v % 32) then s
    else (s.setReg p (s.reg p &&& ~~~ BitVec.ofNat 32 (2 ^ (v % 32)))).signal v

/-- At a change of NET_CFG.fec the Steward writes the compensations (R224), in 1/16 ns. `old` is the state before the write. -/
def State.fecHook (s old : State) (a : Nat) : State :=
  let f := s.fld Reg.NET.NET_CFG Fld.NET.NET_CFG.fec
  if a ≠ Reg.NET.NET_CFG || f = old.fld Reg.NET.NET_CFG Fld.NET.NET_CFG.fec then s
  else (s.setFld Reg.NET.NET_RX_COMP Fld.NET.NET_RX_COMP.comp (if f = 0 then 1888 else 5776)).setFld Reg.NET.NET_TX_COMP
    Fld.NET.NET_TX_COMP.comp (if f = 0 then 1536 else 1664)

/-- Whether byte enables are contiguous (R53). -/
def contiguous (be : BitVec 4) : Bool :=
  [1, 2, 3, 4, 6, 7, 8, 12, 14, 15].contains be.toNat

/-- One 32-bit write (R37, R39, R53, R62). A write that changes an RSV bit applies its other fields and is logged. -/
def State.write32 (s : State) (req : Requester) (a : Nat) (v : Word) (be : BitVec 4) : WriteResult × State :=
  let b := a / 0x80000
  let off := a % 0x80000
  if be = 0 then (.ok, s)
  else if be ≠ 0xF then
    (.access, if b < 25 then s.accessErr b off req.code be.toNat (if contiguous be then 0 else 1) else s)
  else match lookupReg a with
    | none => (.access, if b < 25 then s.accessErr b off req.code 0xF 4 else s)
    | some r =>
      if ((trainingHelper a || s.pllrOnly a) && decide (req ≠ .steward)) || s.gangedAway a then (.access, s.accessErr b off req.code 0xF 3)
      else if s.pairedAway a then (.ok, s)
      else
        let (res, s') := s.writeFields req a r v
        let s' : State := if res = .ok && decide (req ≠ .steward) then (((s'.bandOverride a).windowHook a).msixHook a).fecHook s a else s'
        if res = .ok && !hasClass .sta r.row && decide (v &&& rsvMask r.row ≠ 0) then
          (.access, s'.accessErr b off req.code 0xF 5)
        else (res, s')

/-- A request of several double words, in ascending address order (R54, R55). -/
def State.writeAll (s : State) (req : Requester) (a : Nat) : List (Word × BitVec 4) → State
  | [] => s
  | (v, be) :: t => (s.write32 req a v be).2.writeAll req (a + 4) t

/-- REGISTER_WRITE (R38): a request of 1 to 16 double words is carried out as separate writes; a longer one is
completed as Unsupported Request and logged, and one of no length does nothing (R53, R55). -/
def execRegisterWrite (req : Requester) (addr : BitVec 24) (data : List (Word × BitVec 4)) (s : State) :
    Host.Outcome State Fault Refusal :=
  let a := addr.toNat / 4 * 4
  if 16 < data.length then
    .next (if a / 0x80000 < 25 then s.accessErr (a / 0x80000) (a % 0x80000) req.code 0xF 6 else s)
  else .next (s.writeAll req a data)

/-- STA_CLEAR (R60). -/
def execStaClear (req : Requester) (addr : BitVec 24) (data : Word) (s : State) : Host.Outcome State Fault Refusal :=
  .next (s.write32 req (addr.toNat / 4 * 4) data 0xF).2

/-! ## Configuration check -/

/-- A CTL bit cleared as its command is accepted (R38). -/
def State.accept (s : State) (a : Nat) (f : Bits) : State := s.setFld a f 0

/-- CRC_COMMIT (R65): no effect while a stage is pending; the bit clears either way. -/
def execCrcCommit (block : Fin 25) (s : State) : Host.Outcome State Fault Refusal :=
  let b := block.val
  let s : State := s.accept (Reg.HDR.BLK_CMD b) Fld.HDR.BLK_CMD.crc_commit
  .next (if s.stagePending b then s else s.commitCrc b)

/-- RESCRUB_GO (R47): a rescrub starts at once; RESCRUB is its completion. -/
def execRescrubGo (block : Fin 25) (s : State) : Host.Outcome State Fault Refusal :=
  let b := block.val
  let s : State := s.accept (Reg.HDR.BLK_CMD b) Fld.HDR.BLK_CMD.rescrub_go
  .next (s.setBlk b { s.blk b with scrubbing := true })

/-- RESCRUB (R64, R66): a rescrub completes. SCRUB_AGE starts again; while a stage is pending the comparison is held
until its hold has run out; a compared rescrub that finds a difference sets CFG_DRIFT, counts it and raises it. -/
def execRescrub (block : Fin 25) (s : State) : Host.Outcome State Fault Refusal :=
  let b := block.val
  let held := s.stagePending b && !(s.blk b).holdExpired
  let s : State := s.setBlk b { s.blk b with scrubbing := false, scrubTick := s.time.tick }
  if held then .next s
  else if s.crcLive b = s.reg (Reg.HDR.CRC_COMMITTED b) then .next s
  else .next ((s.count (Reg.HDR.CFG_DRIFT_CNT b) 1).setStaEv (Reg.HDR.BLK_STA b) Fld.HDR.BLK_STA.CFG_DRIFT
    (Ev.cfgDrift b) 0)

/-- COMPARE_HOLD_EXPIRY (R64): after 100 ms of a continuously pending stage the comparison resumes. -/
def execCompareHoldExpiry (block : Fin 25) (s : State) : Host.Outcome State Fault Refusal :=
  let b := block.val
  if s.stagePending b then .next (s.setBlk b { s.blk b with holdExpired := true }) else .next s

/-- The value of a register in the retained live image (R503). -/
def State.liveReg (s : State) (a : Nat) : Word := sparseGet resetWord s.retained.live a

/-- The registers of a block replaced by a retained image where they hold CFG or STAGE fields: the Steward's repair
path (R44, R66). -/
def State.restoreBlock (s : State) (img : List (Nat × Word)) (b : Nat) : State :=
  let keys := (s.regs.map (·.1) ++ img.map (·.1)).filter (fun a => a / 0x80000 = b)
  keys.foldl (fun s a =>
    match lookupReg a with
    | none => s
    | some r =>
      let m := rowMask (fun c => c = .cfg || c = .stage) r.row
      if m = 0 || a % 0x80000 = 0x2C then s
      else s.setReg a (mergeMask m (s.reg a) (sparseGet resetWord img a))) s

/-- DRIFT_REPAIR (R66): at the next block boundary after CFG_DRIFT the Steward writes the retained image back when the
image's CRC equals CRC_COMMITTED, and starts a rescrub; when the match is not restored, or the image does not match, it
sets DRIFT_UNRESOLVED and leaves the block running. -/
def execDriftRepair (block : Fin 25) (s : State) : Host.Outcome State Fault Refusal :=
  let b := block.val
  if s.fld (Reg.HDR.BLK_STA b) Fld.HDR.BLK_STA.CFG_DRIFT = 0 then .next s
  else
    let good := crcOfBlock s.liveReg b = s.reg (Reg.HDR.CRC_COMMITTED b)
    let s : State := if good then s.restoreBlock s.retained.live b else s
    let s : State := if good then s.setBlk b { s.blk b with scrubbing := true } else s
    if good && decide (s.crcLive b = s.reg (Reg.HDR.CRC_COMMITTED b)) then .next s
    else
      let n := sparseGet (fun _ => 0) s.stw.repairFails b
      let s : State := { s with stw := { s.stw with repairFails := sparsePut (fun _ => 0) b (n + 1) s.stw.repairFails } }
      .next (s.setStaEv (Reg.HDR.BLK_STA b) Fld.HDR.BLK_STA.DRIFT_UNRESOLVED (Ev.driftUnresolved b) 0)

/-! ## Event routing -/

/-- Whether a staged route may be committed (R72). -/
def State.routeOk (s : State) (w : Word) : Bool :=
  getField Fld.GLOBAL.EVT_ROUTE.route_en w = 0 ||
    (decide (getField Fld.GLOBAL.EVT_ROUTE.ring w < 3072) &&
      decide (s.rringType (getField Fld.GLOBAL.EVT_ROUTE.ring w) = 2))

/-- EVT_ROUTE_COMMIT (R71, R72): every staged route becomes active, or, when any entry that writes to a ring names one
that is no EVENT ring, none does and ROUTE_BAD is set. -/
def execEvtRouteCommit (s : State) : Host.Outcome State Fault Refusal :=
  let s : State := s.accept Reg.GLOBAL.EVT_ROUTE_CMD Fld.GLOBAL.EVT_ROUTE_CMD.route_commit
  let routes := (List.range 1024).map Reg.GLOBAL.EVT_ROUTE
  if routes.all (fun a => s.routeOk (s.stagedReg a)) then
    .next (s.commitWhere 0 (fun a => decide (Reg.GLOBAL.EVT_ROUTE 0 ≤ a) && decide (a < Reg.GLOBAL.EVT_ROUTE 1024)))
  else .next (s.setBlkSta 0 8)

end Sys2Proof.Machine
end

