-- ==== Sys2Proof/Machine/Spares.lean ====
section
/-! DEFINITION. The Axolotl pool (R494, R498, R499), physical bindings, and the retained store's bookkeeping (R503, R504,
R513). -/

namespace Sys2Proof.Machine

/-! ## The retained store -/

/-- A region of the retained store written (R504): its other slot is now the valid one. Regions are numbered as in R503. -/
def State.slotWritten (s : State) (region : Nat) : State :=
  let r := Reg.RETAIN.RT_STATE
  let v := s.fld r Fld.RETAIN.RT_STATE.valid
  let n := s.fld r Fld.RETAIN.RT_STATE.slot
  let s : State := s.setFld r Fld.RETAIN.RT_STATE.slot (if n.testBit region then n - 2 ^ region else n + 2 ^ region)
  s.setFld r Fld.RETAIN.RT_STATE.valid (v ||| 2 ^ region)

/-- A Steward log entry (R513). -/
def State.logEntry (s : State) (type kind cause inst before after : Nat) : State :=
  let e : LogEntry := { type := type, kind := kind, cause := cause, inst := inst, tbw := s.time.tbwNs.toNat,
                        tbs := s.time.tbs.toNat, before := before, after := after }
  let l := s.retained.log ++ [e]
  let s : State := { s with retained := { s.retained with log := l.drop (l.length - logDepth) } }
  s.setReg Reg.RETAIN.RT_LOG_COUNT (s.reg Reg.RETAIN.RT_LOG_COUNT + 1)

/-! ## Physical items -/

/-- The logical units of a kind of R494 that the Steward hands over one by one. Lanes are numbered 16 · port + 8 · direction +
lane; the two Steward Nibs are Nib units 12 and 13. SRAM rows have no numbering in the spec. -/
def unitCount (kind : Nat) : Nat :=
  match kind with
  | 0 => 128 | 1 => 32 | 2 => 32 | 3 => 12 | 4 => 40 | 5 => 16 | 6 => 20 | 7 => 1 | 10 => 63488 | _ => 0

/-- The physical items of a kind. -/
def physicalCount (kind : Nat) : Nat :=
  match kind with
  | 3 => 16 | 10 => 65536 | k => unitCount k + spareTotal k

/-- The block of a kind's units; SRAM rows lie in several. -/
def kindBlock (kind block : Nat) : Nat :=
  match kind with
  | 0 => 4 | 1 => 9 | 2 => 8 | 3 => 2 | 4 => 3 | 5 => 12 | 6 => 7 | 7 => 6 | 10 => block | _ => 25

def unitKey (kind inst : Nat) : Nat := kind * 65536 + inst

/-- The physical item of a logical unit before any handover. -/
def homePhysical (key : Nat) : Nat := if key / 65536 = 10 then 2048 + key % 65536 else key % 65536

/-- The physical item behind a logical unit of a kind of R494; behind PLL-R, its active core. -/
def State.physical (s : State) (kind inst : Nat) : Nat :=
  if kind = 7 then s.fld (Reg.CLK.PLL_STATE 0) Fld.CLK.PLL_STATE.core
  else sparseGet homePhysical s.retained.physical (unitKey kind inst)

def State.bindPhysical (s : State) (kind inst phys : Nat) : State :=
  { s with retained := { s.retained with physical := sparsePut homePhysical (unitKey kind inst) phys s.retained.physical } }

/-- Whether a physical item serves a logical unit. -/
def State.inService (s : State) (kind phys : Nat) : Bool :=
  match kind with
  | 7 => phys = s.physical 7 0
  | 10 => 2048 ≤ phys || s.retained.physical.any (fun e => e.1 / 65536 = 10 && decide (e.2 = phys))
  | 3 => (List.range 14).any (fun i => s.physical 3 i = phys)
  | k => (List.range (unitCount k)).any (fun i => s.physical k i = phys)

/-! ## Spares -/

def State.spareState (s : State) (kind phys : Nat) : SpareState := sparseGet (fun _ => .free) s.retained.spares (unitKey kind phys)

def State.setSpare (s : State) (kind phys : Nat) (v : SpareState) : State :=
  { s with retained := { s.retained with spares := sparsePut (fun _ => SpareState.free) (unitKey kind phys) v s.retained.spares } }

/-- Whether a spare is used up (R499). -/
def SpareState.used : SpareState → Bool
  | .retired | .failed => true
  | _ => false

def SpareState.isSuspect : SpareState → Bool
  | .suspect _ => true
  | _ => false

/-- The spares of a kind whose state passes a test. -/
def State.spareCount (s : State) (kind : Nat) (p : SpareState → Bool) : Nat :=
  s.retained.spares.countP (fun e => e.1 / 65536 = kind && p e.2)

/-- The port directions that have lost their spare lane while the port carries frames. -/
def State.lanesSpent (s : State) : Nat :=
  ((List.range 8).map (fun p =>
    let st := s.fld (Reg.FLANE.PORT_STATE p) Fld.FLANE.PORT_STATE.state
    if st = 2 || st = 3 then
      bit (s.fld (Reg.FLANE.RX_MAP p) Fld.FLANE.RX_MAP.spare = 7) + bit (s.fld (Reg.FLANE.TX_MAP p) Fld.FLANE.TX_MAP.map / 8 ^ 4 = 7)
    else 0)).sum

/-- SP_USED: the RETIRED and FAILED spares of a kind (R494, R498). A remapped row or bank has taken a spare and left a RETIRED one;
a shed phase has taken one. -/
def State.spareUsed (s : State) (kind : Nat) : Nat :=
  match kind with
  | 0 => s.lanesSpent
  | 8 => s.ink.rows.length
  | 9 => (List.range 16).countP (fun c => s.flag (Reg.INK.CH_STATE c) Fld.INK.CH_STATE.spare_used)
  | 11 => min 2 ((List.range 14).countP (fun i => (s.fld Reg.PWR.PWR_PHASE Fld.PWR.PWR_PHASE.shed).testBit i))
  | k => s.spareCount k SpareState.used

def State.spareSuspect (s : State) (kind : Nat) : Nat := s.spareCount kind SpareState.isSuspect

/-- SP_FREE. -/
def State.spareFree (s : State) (kind : Nat) : Nat :=
  spareTotal kind - (s.spareUsed kind + s.spareSuspect kind + s.spareCount kind (fun x => x = .reserved))

/-- The lowest spare of a kind whose state passes a test. -/
def State.findSpare (s : State) (kind : Nat) (p : SpareState → Bool) : Option Nat :=
  (List.range (if kind = 10 then 2048 else physicalCount kind)).find? (fun n => !s.inService kind n && p (s.spareState kind n))

/-- The argument of CAL and SPARE events (R521). -/
def spareArg (kind inst : Nat) : Nat := kind % 16 + 16 * (inst % 4096)

/-- SPARE_LOW and SPARE_EMPTY (R499) after a change of a kind's spares; `old` is the state before it. -/
def State.spareAlarm (s old : State) (kind : Nat) : State :=
  let n := spareTotal kind
  let s : State := if 2 * old.spareUsed kind < n && decide (n ≤ 2 * s.spareUsed kind) then
    s.blkEvent 21 10 Ev.SPARE.SPARE_LOW (spareArg kind 0) else s
  if 0 < old.spareFree kind + old.spareSuspect kind && s.spareFree kind + s.spareSuspect kind = 0 then
    s.blkEvent 21 11 Ev.SPARE.SPARE_EMPTY (spareArg kind 0)
  else s

/-- A pool member's state set, with its log entry (type 8), the spare map written and the alarms of R499. -/
def State.poolState (s : State) (kind phys : Nat) (v : SpareState) : State :=
  let code : SpareState → Nat
    | .free => 0 | .reserved => 1 | .suspect _ => 2 | .retired => 3 | .failed => 4
  let was := s.spareState kind phys
  if was = v then s
  else (((s.setSpare kind phys v).slotWritten 4).logEntry 8 kind 0 phys (code was) (code v)).spareAlarm s kind

/-! ## Handovers and calibrations given up -/

/-- A completion for a command ring's completion ring (R446, R452): dropped and counted where that ring is not in RUN. -/
def State.complete (s : State) (ring cookie code op arg : Nat) : State :=
  let q := s.fld (Reg.HOSTQ.CRING_CFG ring) Fld.HOSTQ.CRING_CFG.cq
  if s.rringRuns q then s.rringWrite q (.completion cookie code op (arg % 65536) ring s.stampTbw)
  else s.count Reg.HOSTQ.HQ_COMPL_DROP_CNT 1

/-- The lanes that serve as a port direction's spare: 7 is none. -/
def State.spareLane (s : State) (p dir : Nat) : Nat :=
  if dir = 0 then s.fld (Reg.FLANE.RX_MAP p) Fld.FLANE.RX_MAP.spare else s.fld (Reg.FLANE.TX_MAP p) Fld.FLANE.TX_MAP.map / 8 ^ 4

/-- The spare that would replace a unit (R494): the spare lane of its port and direction, the twin core while it is locked, or the
lowest spare of its kind, where its state passes a test. -/
def State.spareFor (s : State) (kind inst : Nat) (p : SpareState → Bool) : Option Nat :=
  match kind with
  | 0 =>
    let l := s.spareLane (inst / 16) (inst / 8 % 2)
    let n := inst / 8 * 8 + l
    if l ≠ 7 && p (s.spareState 0 n) then some n else none
  | 7 =>
    let n := 1 - s.physical 7 0
    if s.flag (Reg.CLK.PLL_STATE 0) Fld.CLK.PLL_STATE.twin_locked && p (s.spareState 7 n) then some n else none
  | 8 | 9 | 11 => none
  | k => s.findSpare k p

/-- The spare that replaces a failed unit: a FREE one, else a SUSPECT one (R498). -/
def State.spareNow (s : State) (kind inst : Nat) : Option Nat :=
  (s.spareFor kind inst (fun x => x = .free)).or (s.spareFor kind inst SpareState.isSuspect)

def State.setHandover (s : State) (block : Nat) (on : Bool) : State :=
  s.setFld (Reg.HDR.BLK_STATE block) Fld.HDR.BLK_STATE.handover (bit on)

/-- A handover begun (R497): a FREE spare is reserved and shadow-runs; a calibration has reserved its own. Without one the item
stays as it is (R488). -/
def State.beginHandover (s : State) (h : Handover) : State :=
  let pick := if h.cause = 5 then some h.spare else s.spareFor h.kind h.inst (fun x => x = .free)
  match pick with
  | none => s
  | some n =>
    let s : State := s.poolState h.kind n .reserved
    let s : State := { s with stw := { s.stw with running := s.stw.running ++ [{ h with spare := n }] } }
    s.setHandover h.block true

/-- Whether an update of the firmware holds new calibrations and handovers back (R510 step 3). -/
def State.stwHolds (s : State) : Bool := s.stw.fw.any (fun f => !f.switched)

/-- Queued handovers of a block started, one at a time, in the order of R497. -/
def State.nextHandover (s : State) (block : Nat) : State :=
  if s.stwHolds then s
  else (s.stw.queued.filter (fun h => h.block = block)).foldl (fun s h =>
    if s.stw.running.any (fun g => g.block = block) then s
    else { s with stw := { s.stw with queued := s.stw.queued.erase h } }.beginHandover h) s

/-- A handover put into the queue: by the row of R495, then block, then unit. -/
def queueHandover (x : Handover) : List Handover → List Handover
  | [] => [x]
  | y :: t =>
    if x.cause < y.cause || (x.cause = y.cause && (decide (x.block < y.block) || (x.block = y.block && decide (x.inst < y.inst)))) then
      x :: y :: t
    else y :: queueHandover x t

/-- A handover asked for (R495, R497). -/
def State.askHandover (s : State) (h : Handover) : State :=
  { s with stw := { s.stw with queued := queueHandover h s.stw.queued } }.nextHandover h.block

/-- A handover out of the running ones. -/
def State.leaveHandover (s : State) (h : Handover) : State :=
  { s with stw := { s.stw with running := s.stw.running.erase h } }.setHandover h.block false

/-- A calibration ended (R489 to R492): CAL_STATE is IDLE with the result, its handover goes, and a CAL_RUN completes. -/
def State.endCal (s : State) (result code arg : Nat) : State :=
  match s.stw.cal with
  | none => s
  | some c =>
    let s : State := (s.stw.running.filter (fun h => h.cause = 5)).foldl State.leaveHandover s
    let s : State := { s with stw := { s.stw with cal := none, retryWait := false, queued := s.stw.queued.filter (fun h => h.cause ≠ 5) } }
    let s : State := s.setFld Reg.CAL.CAL_STATE Fld.CAL.CAL_STATE.state 0
    let s : State := s.setFld Reg.CAL.CAL_STATE Fld.CAL.CAL_STATE.result result
    match c.ring with
    | some (r, k) => s.complete r k code 0x12 arg
    | none => s

/-- A calibration ended without success, with its spares FREE where they are still reserved (R490). -/
def State.dropCal (s : State) (result code arg : Nat) : State :=
  match s.stw.cal with
  | none => s
  | some c =>
    let s : State := c.spares.foldl (fun s n =>
      if s.spareState c.spareKind n = .reserved then s.poolState c.spareKind n .free else s) s
    s.endCal result code arg

/-- Whether a calibration's spare stands for a unit: the lanes of a port and direction share a spare. -/
def CalRun.standsFor (c : CalRun) (kind inst : Nat) : Bool :=
  c.spareKind = kind && (match c.target with
    | 0 => decide (inst / 8 = c.inst / 8)
    | 1 => decide (inst / 8 = 2 * c.inst)
    | 2 => decide (inst = c.inst)
    | 3 => inst = 9 || inst = 10
    | 4 => true
    | _ => false)

/-- A failure of a unit gives up the shadow run of its block, with the spare FREE (R497), and the calibration whose spare stands
for the unit (R492), which ends with result ABORTED. -/
def State.preempt (s : State) (block kind inst : Nat) : State :=
  let s : State := (s.stw.running.filter (fun h => h.block = block)).foldl (fun s h =>
    let s : State := (s.leaveHandover h).poolState h.kind h.spare .free
    if h.cause = 5 then s.dropCal 4 0x1C 0 else s) s
  match s.stw.cal with
  | some c => if c.standsFor kind inst then s.dropCal 4 0x1C 0 else s
  | none => s

end Sys2Proof.Machine
end

