-- ==== Sys2Proof/Machine/InkStore.lean ====
section
/-! DEFINITION. The Inkwell store: locations (R417, R432 to R434), reads with their checks (R422 to R424), writes and
read-modify-writes (R421), the patrol scrub (R425), refresh (R426, R427), promotion (R428), drift (R431), and the
training helpers (R438). -/

namespace Sys2Proof.Machine

/-! ## Locations -/

/-- The size of the Inkwell's address space: the user allocation and the Steward region (R418). -/
def inkSize : Nat := 0x3020000000
def inkUser : Nat := 0x3000000000
/-- A cell is 56 bytes, seven codewords of 8 (R417, R419). -/
def cellBytes : Nat := 56

/-- The number of cells below an index that a list of pieces of bytes (base, length) holds and that pass a test on the
channel. -/
def cellsIn (pieces : List (Nat × Nat)) (below : Nat) (p : Nat → Bool) : Nat :=
  (pieces.map (fun e =>
    let a := e.1 / cellBytes
    let b := min below ((e.1 + e.2) / cellBytes)
    if b ≤ a then 0 else
      let full := (b - a) / 16
      full * (List.range 16).countP p + ((List.range ((b - a) % 16)).countP (fun d => p ((a + full * 16 + d) % 16))))).sum

/-- Whether a cell lies in one of the pieces. -/
def inPieces (pieces : List (Nat × Nat)) (cell : Nat) : Bool :=
  pieces.any (fun e => decide (e.1 ≤ cell * cellBytes) && decide (cell * cellBytes < e.1 + e.2))

/-- Whether a cell is an orphan of a redirected channel (R434): its data, if any, lies in the pool. -/
def State.orphan (s : State) (cell : Nat) : Bool :=
  match s.ink.redirect with
  | some (c, pieces) => cell % 16 = c && decide (cell * cellBytes < inkUser) && !inPieces pieces cell
  | none => false

/-- The k-th cell of the pool that lies on a working channel, in address order. -/
def poolCell (c : Nat) : List (Nat × Nat) → Nat → Nat
  | [], _ => 0
  | e :: t, k =>
    let n := cellsIn [e] (inkSize / cellBytes) (· ≠ c)
    if k < n then
      let a := e.1 / cellBytes
      let g := a + k / 15 * 16
      ((List.range 32).filterMap (fun d => if (g + d) % 16 ≠ c then some (g + d) else none)).getD (k % 15) g
    else poolCell c t (k - n)

/-- The cell at whose place a cell's data lie: itself, or the pool cell of an orphan (R434). -/
def State.placed (s : State) (cell : Nat) : Nat :=
  match s.ink.redirect with
  | some (c, pieces) =>
    if s.orphan cell then
      let k := (cell + 15 - c) / 16 - cellsIn pieces cell (· = c)
      poolCell c pieces k
    else cell
  | none => cell

/-- The key of a row. -/
def rowKey (c bank row : Nat) : Nat := c * 2 ^ 21 + bank * 2 ^ 16 + row

/-- Channel, bank, row, column of a cell before the remaps of its row and bank (R417): the translation itself is free
within the bounds that the rule states. -/
def State.rawLoc (s : State) (cell : Nat) : Nat × Nat × Nat × Nat :=
  let x := s.placed cell
  let n := Config.inkPosition (x / 16) % ((30 * 65536 + 61440) * 128)
  (x % 16, n / 2 ^ 23, n / 128 % 65536, n % 128)

def State.rowPool (s : State) (k : Nat) : Option Nat := (s.ink.rows.find? (fun e => e.1 = k)).map (·.2)

/-- Whether a channel's spare bank replaces a bank (R433). -/
def State.bankSpared (s : State) (c bank : Nat) : Bool :=
  s.flag (Reg.INK.CH_STATE c) Fld.INK.CH_STATE.spare_used &&
    decide (s.fld (Reg.INK.CH_STATE c) Fld.INK.CH_STATE.spared_bank = bank)

/-- The location of a cell after every remap (R417), and the flags of INK_XLATE_FLAGS. -/
def State.location (s : State) (cell : Nat) : (Nat × Nat × Nat × Nat) × Nat :=
  let (c, b, r, col) := s.rawLoc cell
  let red := if s.orphan cell then 8 else 0
  match s.rowPool (rowKey c b r) with
  | some p => ((c, 30, 61440 + p, col), 1 + 2 + red)
  | none => if s.bankSpared c b then ((c, 31, r, col), 1 + 4 + red) else ((c, b, r, col), 1 + red)

/-! ## The error log -/

/-- The head of the error log in the registers (R424). -/
def State.elogHead (s : State) : State :=
  let v := leNat (s.ink.elog.head?.getD [])
  let s : State := s.setFld Reg.INK.INK_ELOG_LEVEL Fld.INK.INK_ELOG_LEVEL.level s.ink.elog.length
  (((s.setReg Reg.INK.INK_ELOG0 (BitVec.ofNat 32 v)).setReg Reg.INK.INK_ELOG1 (BitVec.ofNat 32 (v / 2 ^ 32))).setReg
    Reg.INK.INK_ELOG2 (BitVec.ofNat 32 (v / 2 ^ 64))).setReg Reg.INK.INK_ELOG3 (BitVec.ofNat 32 (v / 2 ^ 96))

/-- The service class of a source (R429). -/
def sourceClass (src : Nat) : Nat := if src ≤ 2 then 0 else if src ≤ 6 then 1 else if src ≤ 9 then 2 else 3

/-- A finding logged and raised (R424): `where_` is 0 to 6 for a codeword and 7 for the address check. -/
def State.inkLog (s : State) (src kind cell where_ : Nat) (syn : BitVec 14) : State :=
  let ((c, b, r, col), _) := s.location cell
  let s : State :=
    if 16 ≤ s.ink.elog.length then (s.count Reg.INK.INK_ELOG_DROP_CNT 1).blkEvent 14 12 Ev.INK.ELOG_OVF (c * 256)
    else
      let e := leBytes 5 (cell * cellBytes) ++ leBytes 1 (c + 16 * where_) ++ leBytes 1 (b + 32 * kind) ++ leBytes 2 r ++
        leBytes 1 col ++ leBytes 2 syn.toNat ++ leBytes 1 src ++ leBytes 1 (sourceClass src) ++ [0, 0]
      { s with ink := { s.ink with elog := s.ink.elog ++ [e] } }.elogHead
  if where_ = 7 then s.blkEvent 14 9 Ev.INK.INK_ADDR_ERR (src + c * 256)
  else s.blkEvent 14 8 Ev.INK.INK_UE (src + c * 256)

/-! ## Errors of rows -/

/-- 24 h in ticks of 50 ns. -/
def dayTicks : Nat := 1728000000000

/-- Whether a row needs remapping (R432): eight corrected codewords within 24 h, or one finding that counts for eight. -/
def State.rowNeeds (s : State) (k : Nat) : Bool :=
  decide (8 ≤ (sparseGet (fun _ => []) s.ink.rowErr k).countP (fun t => decide (s.time.tick ≤ t + dayTicks)))

/-- n corrected codewords noted against a row; where neither pool nor spare bank is left for a row that needs remapping,
the channel is exhausted (R433). -/
def State.rowNote (s : State) (cell n : Nat) : State :=
  if n = 0 then s
  else
    let (c, b, r, _) := s.rawLoc cell
    let k := rowKey c b r
    let l := sparseGet (fun _ => []) s.ink.rowErr k ++ List.replicate n s.time.tick
    let s : State := { s with ink := { s.ink with rowErr := sparsePut (fun _ => []) k l s.ink.rowErr } }
    let st := Reg.INK.CH_STATE c
    if s.rowNeeds k && decide (4096 ≤ s.fld (Reg.INK.CH_ROWS c) Fld.INK.CH_ROWS.remapped) &&
        s.flag st Fld.INK.CH_STATE.spare_used && !s.flag st Fld.INK.CH_STATE.exhausted then
      (s.setFld st Fld.INK.CH_STATE.exhausted 1).raise Ev.INK.SPARE_EXHAUSTED (c * 256)
    else s

/-! ## Reads -/

def State.poisoned (s : State) (cw : Nat) : Bool := sparseGet (fun _ => false) s.ink.poison cw

def State.setPoison (s : State) (cw : Nat) (v : Bool) : State :=
  { s with ink := { s.ink with poison := sparsePut (fun _ => false) cw v s.ink.poison } }

def State.setBad (s : State) (cell : Nat) (v : Bool) : State :=
  { s with ink := { s.ink with bad := sparsePut (fun _ => false) cell v s.ink.bad } }

/-- Whether an orphan has not been written since its channel was redirected (R434); an evacuated channel keeps its data (R435). -/
def State.unfilled (s : State) (cell : Nat) : Bool := s.orphan cell && s.ink.retrain.isNone && !sparseGet (fun _ => false) s.ink.filled cell

/-- One codeword checked on a read (R422): whether it is in error. -/
def State.readCodeword (s : State) (src kind cell k : Nat) (errs : List InkErr) : Bool × State :=
  let e := errs.find? (fun e => e.codeword = k)
  if decide (3 ≤ (e.map (·.bits)).getD 0) then
    let c := (s.rawLoc cell).1
    let s : State := (s.count Reg.INK.INK_UE_CNT 1).count (Reg.INK.CH_UE_CNT c) 1
    let s : State := (s.setPoison (cell * 7 + k) true).inkLog src kind cell k ((e.map (·.syndrome)).getD 0)
    (true, s.rowNote cell 8)
  else if s.poisoned (cell * 7 + k) then (true, s.count Reg.INK.INK_POISON_READ_CNT 1)
  else (false, s)

/-- A corrected read counted (R422). -/
def State.countCorrected (s : State) (cell n : Nat) : State :=
  if n = 0 then s
  else ((s.count Reg.INK.INK_CE_CNT 1).count (Reg.INK.CH_CE_CNT (s.rawLoc cell).1) 1).rowNote cell n

/-- A cell read (R422): for each of its seven codewords whether the response is an error. -/
def State.readCell (s : State) (src kind cell : Nat) (errs : List InkErr) : List Bool × State :=
  let errs := errs.filter (fun e => e.cell = cell)
  let addr := ((errs.find? (fun e => e.codeword = 7)).map (·.bits)).getD 0
  if s.unfilled cell then (List.replicate 7 true, s)
  else if decide (2 ≤ addr) || sparseGet (fun _ => false) s.ink.bad cell then
    let s : State := (s.count Reg.INK.INK_ADDR_ERR_CNT 1).setBad cell true
    (List.replicate 7 true, (s.inkLog src (if kind = 0 then 1 else kind) cell 7 0).rowNote cell 8)
  else
    let soft := (errs.filter (fun e => decide (e.codeword < 7) && (e.bits = 1 || e.bits = 2))).length
    let s : State := s.countCorrected cell (soft + addr)
    (List.range 7).foldl (fun r k =>
      let (b, s) := r.2.readCodeword src kind cell k errs
      (r.1 ++ [b], s)) ([], s)

/-- The bytes of a read: each with whether it lies in a codeword in error, in which case it reads as 0 (R423). -/
def State.inkRead (s : State) (src a n : Nat) (errs : List InkErr) : List (Byte × Bool) × State :=
  if n = 0 then ([], s)
  else
    let first := a / cellBytes
    let cells := (a + n - 1) / cellBytes + 1 - first
    let (bad, s) := (List.range cells).foldl (fun r d =>
      let (b, s) := r.2.readCell src 0 (first + d) errs
      (r.1 ++ b, s)) (([] : List Bool), s)
    ((List.range n).map (fun d =>
      let e := bad.getD ((a + d) / 8 - first * 7) false
      (if e then 0 else sparseGet (fun _ => 0) s.ink.mem (a + d), e)), s)

/-! ## Writes -/

/-- One cell of a write [a, a + n) (R421): a whole cell directly, any other as a read-modify-write. -/
def State.writeCell (s : State) (src cell a n : Nat) (errs : List InkErr) : State :=
  let lo := cell * cellBytes
  let full := decide (a ≤ lo) && decide (lo + cellBytes ≤ a + n)
  let (old, s) := if full then (List.replicate 7 false, s)
    else (s.count64 Reg.INK.INK_RMW_CNT_LO Reg.INK.INK_RMW_CNT_HI 1).readCell src 4 cell errs
  let s : State := (List.range 7).foldl (fun s k =>
    let all := decide (a ≤ lo + 8 * k) && decide (lo + 8 * k + 8 ≤ a + n)
    s.setPoison (cell * 7 + k) (!all && old.getD k false)) s
  let s : State := s.setBad cell false
  if s.orphan cell then { s with ink := { s.ink with filled := sparsePut (fun _ => false) cell true s.ink.filled } } else s

/-- A write to the Inkwell with the errors its read-modify-writes find. -/
def State.inkWrite (s : State) (src a : Nat) (l : List Byte) (errs : List InkErr) : State :=
  if l.length = 0 then s
  else
    let first := a / cellBytes
    let cells := (a + l.length - 1) / cellBytes + 1 - first
    let s : State := (List.range cells).foldl (fun s d => s.writeCell src (first + d) a l.length errs) s
    { s with ink := { s.ink with mem := sparsePutN (fun _ => 0) s.ink.mem a l } }

/-- A write by a unit of the block. -/
def State.inkStore (s : State) (src a : Nat) (l : List Byte) : State := s.inkWrite src a l []

/-- INK_READ (R422, R423). The data go to the requester. -/
def execInkRead (src : Fin 14) (addr : BitVec 40) (len : Nat) (errs : List InkErr) (s : State) :
    Host.Outcome State Fault Refusal :=
  .next (if addr.toNat + len ≤ inkSize then (s.inkRead src.val addr.toNat len errs).2 else s)

/-- INK_WRITE (R421). -/
def execInkWrite (src : Fin 14) (addr : BitVec 40) (data : List Byte) (errs : List InkErr) (s : State) :
    Host.Outcome State Fault Refusal :=
  .next (if addr.toNat + data.length ≤ inkSize then s.inkWrite src.val addr.toNat data errs else s)

/-- The cells of a list, each once, in ascending order. -/
def cellSet (l : List Nat) : List Nat :=
  (l.foldl (fun m c => sparsePut (fun _ => false) c true m) ([] : List (Nat × Bool))).map (·.1)

/-- PATROL_SCRUB (R425): a pass reads every cell; those with a finding have their effect. -/
def execPatrolScrub (errs : List InkErr) (s : State) : Host.Outcome State Fault Refusal :=
  let cells := cellSet (errs.map (·.cell) ++ s.ink.poison.map (·.1 / 7) ++ s.ink.bad.map (·.1))
  let s : State := { s with ink := { s.ink with patrol := false } }
  .next (cells.foldl (fun s c => (s.readCell 12 3 c errs).2) s)

/-- SCRUB_GO (R425). -/
def execScrubGo (s : State) : Host.Outcome State Fault Refusal :=
  let s : State := s.setFld Reg.INK.INK_CMD Fld.INK.INK_CMD.scrub_go 0
  .next { s with ink := { s.ink with patrol := true } }

/-! ## Refresh, promotion and drift -/

/-- Whether a channel serves requests: RUN, EVACUATING or RESTORING (R435). -/
def State.chServes (s : State) (c : Nat) : Bool :=
  [2, 3, 5].contains (s.fld (Reg.INK.CH_STATE c) Fld.INK.CH_STATE.state)

/-- REFRESH_DUE (R426): postponed into the debt while a request waits or a make-up runs, else issued; the refreshes paid
leave the debt. -/
def execRefreshDue (c : Fin 16) (busy : Bool) (paid : Nat) (s : State) : Host.Outcome State Fault Refusal :=
  let st := Reg.INK.CH_STATE c.val
  if !s.chServes c.val then .next s
  else
    let d := s.fld st Fld.INK.CH_STATE.debt
    let d' := if decide (8 < d) || (busy && decide (d < 8)) then d + 1 else d
    .next (s.setFld st Fld.INK.CH_STATE.debt (min 31 (d' - paid)))

/-- TEMP_STATUS_READ (R427): a higher rate doubles the debt for each step and forces a make-up above 8; a lower one halves
it; the ×4 rate is above the operating range. -/
def execTempStatusRead (c : Fin 16) (rate : Fin 3) (s : State) : Host.Outcome State Fault Refusal :=
  let c := c.val
  let st := Reg.INK.CH_STATE c
  if !s.chServes c then .next s
  else
    let old := s.fld st Fld.INK.CH_STATE.rate
    let d := s.fld st Fld.INK.CH_STATE.debt
    let new := if old < rate.val then d * 2 ^ (rate.val - old) else ceilDiv d (2 ^ (old - rate.val))
    let s : State := (s.setFld st Fld.INK.CH_STATE.rate rate.val).setFld st Fld.INK.CH_STATE.debt (min 31 new)
    let s : State := if old < rate.val && 8 < new then
        (s.count (Reg.INK.CH_REFRESH_FORCED_CNT c) 1).blkEvent 14 10 Ev.INK.REFRESH_FORCED (c * 256) else s
    .next (if old < rate.val && rate.val = 2 then s.blkEvent 14 13 Ev.INK.INK_HOT (c * 256) else s)

/-- REQUEST_PROMOTE (R428). -/
def execRequestPromote (c : Fin 16) (k : Fin 4) (s : State) : Host.Outcome State Fault Refusal :=
  .next (if s.chServes c.val then s.count (Reg.INK.PROMOTE_CNT k.val) 1 else s)

/-! ## Translation, log and training helpers -/

/-- XLATE_GO (R417, R437). -/
def execXlateGo (s : State) : Host.Outcome State Fault Refusal :=
  let s : State := s.setFld Reg.INK.INK_CMD Fld.INK.INK_CMD.xlate_go 0
  let s : State := s.commitRegs 14 [Reg.INK.INK_XLATE_LO, Reg.INK.INK_XLATE_HI]
  let a := (s.reg Reg.INK.INK_XLATE_LO).toNat + 2 ^ 32 * s.fld Reg.INK.INK_XLATE_HI Fld.INK.INK_XLATE_HI.addr
  if inkSize ≤ a then
    .next ((s.setReg Reg.INK.INK_XLATE_RES 0).setFld Reg.INK.INK_XLATE_FLAGS Fld.INK.INK_XLATE_FLAGS.flags 0)
  else
    let ((c, b, r, col), f) := s.location (a / cellBytes)
    .next ((s.setReg Reg.INK.INK_XLATE_RES (BitVec.ofNat 32 (c + b * 2 ^ 4 + r * 2 ^ 9 + col * 2 ^ 25))).setFld
      Reg.INK.INK_XLATE_FLAGS Fld.INK.INK_XLATE_FLAGS.flags f)

/-- ELOG_POP (R424). -/
def execElogPop (s : State) : Host.Outcome State Fault Refusal :=
  let s : State := s.setFld Reg.INK.INK_CMD Fld.INK.INK_CMD.elog_pop_go 0
  .next { s with ink := { s.ink with elog := s.ink.elog.tail } }.elogHead

/-- TRN_RUN (R438): one pattern pass, while the channel is out of RUN. -/
def execTrnRun (c : Fin 16) (fail : BitVec 24) (s : State) : Host.Outcome State Fault Refusal :=
  let s : State := s.setFld (Reg.INK.TRN_CMD c.val) Fld.INK.TRN_CMD.run_go 0
  if s.fld (Reg.INK.CH_STATE c.val) Fld.INK.CH_STATE.state = 2 then .next s
  else .next (s.setFld (Reg.INK.TRN_RESULT c.val) Fld.INK.TRN_RESULT.fail fail.toNat)

/-! ## Sparing of rows and banks -/

/-- The rows of a bank now remapped. -/
def State.bankRows (s : State) (c b : Nat) : List (Nat × Nat) := s.ink.rows.filter (fun e => e.1 / 2 ^ 16 = rowKey c b 0 / 2 ^ 16)

/-- The lowest pool row of a channel not in use. -/
def State.freePoolRow (s : State) (c : Nat) : Option Nat :=
  let used := (s.ink.rows.filter (fun e => e.1 / 2 ^ 21 = c)).map (·.2)
  (List.range 4096).find? (fun r => !used.contains r)

def State.setRows (s : State) (c : Nat) (rows : List (Nat × Nat)) : State :=
  let s : State := { s with ink := { s.ink with rows := rows } }
  s.setFld (Reg.INK.CH_ROWS c) Fld.INK.CH_ROWS.remapped (rows.countP (fun e => e.1 / 2 ^ 21 = c))

/-- ROW_REMAPPED (R432): a row that needs it takes a free row of its channel's pool, data and poison with it. -/
def execRowRemapped (c : Fin 16) (bank : BitVec 5) (row : BitVec 16) (s : State) : Host.Outcome State Fault Refusal :=
  let s0 := s
  let k := rowKey c.val bank.toNat row.toNat
  if !s.rowNeeds k || (s.rowPool k).isSome || !s.chServes c.val then .next s
  else match s.freePoolRow c.val with
    | none => .next s
    | some r =>
      let s : State := s.setRows c.val (s.ink.rows ++ [(k, r)])
      let s : State := { s with ink := { s.ink with rowErr := sparsePut (fun _ => []) k [] s.ink.rowErr } }
      .next ((s.raise Ev.INK.ROW_REMAPPED (c.val * 256)).spareAlarm s0 8)

/-- 1 s in ticks of 50 ns. -/
def secondTicks : Nat := 20000000

/-- Whether uncorrectable errors struck four rows of a bank within 1 s (R433). -/
def State.bankStruck (s : State) (c b : Nat) : Bool :=
  decide (4 ≤ s.ink.rowErr.countP (fun e => e.1 / 2 ^ 16 = rowKey c b 0 / 2 ^ 16 &&
    decide (8 ≤ e.2.countP (fun t => decide (s.time.tick ≤ t + secondTicks)))))

/-- BANK_SPARED (R433): the bank moves into the channel's spare bank, and its pool rows are freed. -/
def execBankSpared (c : Fin 16) (bank : BitVec 5) (s : State) : Host.Outcome State Fault Refusal :=
  let s0 := s
  let c := c.val
  let b := bank.toNat
  let st := Reg.INK.CH_STATE c
  if s.flag st Fld.INK.CH_STATE.spare_used || !s.chServes c || decide (b = 31) ||
      !(decide (256 ≤ (s.bankRows c b).length) || s.bankStruck c b) then .next s
  else
    let s : State := s.setRows c (s.ink.rows.filter (fun e => e.1 / 2 ^ 16 ≠ rowKey c b 0 / 2 ^ 16))
    let s : State := (s.setFld st Fld.INK.CH_STATE.spare_used 1).setFld st Fld.INK.CH_STATE.spared_bank b
    .next ((s.raise Ev.INK.BANK_SPARED (c * 256)).spareAlarm s0 9)

end Sys2Proof.Machine
end

