-- ==== Sys2Proof/Machine/LineCode.lean ====
section
/-! DEFINITION. The line code of field and cascade lanes (R109 to R116): the scrambler, stuffing and fill, and the frame
both ways between its header and payload and its 2,176 line bits. -/

namespace Sys2Proof.Machine

/-- The n low bits of a number, most significant first. -/
def bitsBE : Nat → Nat → List Bool
  | 0, _ => []
  | n + 1, v => v.testBit n :: bitsBE n v

/-- The number that bits spell, most significant first. -/
def natOfBits (l : List Bool) : Nat := l.foldl (fun a b => 2 * a + (if b then 1 else 0)) 0

/-- The bits of bytes, each most significant bit first. -/
def bitsOfBytes (l : List Byte) : List Bool := l.flatMap (fun b => bitsBE 8 b.toNat)

/-- n bytes read from bits, each most significant bit first. -/
def bytesOfBits : Nat → List Bool → List Byte
  | 0, _ => []
  | n + 1, l => BitVec.ofNat 8 (natOfBits (l.take 8)) :: bytesOfBits n (l.drop 8)

/-- The big-endian value of bytes. -/
def beNat (l : List Byte) : Nat := l.foldl (fun a b => 256 * a + b.toNat) 0

/-- The n big-endian bytes of a value. -/
def beBytes (n v : Nat) : List Byte := (leBytes n v).reverse

/-- The big-endian value of n bytes at position i. -/
def beAt (l : List Byte) (i n : Nat) : Nat := beNat ((l.drop i).take n)

/-- The scrambler's state at the first header bit (R113). -/
def scramblerSeed (seq : BitVec 8) (lane : Nat) : BitVec 58 := seq ++ (BitVec.ofNat 3 lane) ++ (0x5A3C96E10F87 : BitVec 47)

/-- The scrambler over header and payload bits; scrambling and descrambling are one operation (R113). -/
def scramble : BitVec 58 → List Bool → List Bool
  | _, [] => []
  | st, b :: t =>
    let o := Bool.xor (st.getLsbD 57) (st.getLsbD 38)
    Bool.xor b o :: scramble ((st <<< 1) ||| (if o then 1 else 0)) t

/-- Stuffing (R114): after a run of 24 equal scrambled bits one bit, its complement. -/
def stuff (run : Nat) (last : Bool) : List Bool → List Bool
  | [] => []
  | b :: t =>
    let run' := if run ≠ 0 && b = last then run + 1 else 1
    if run' = 24 then b :: (!b) :: stuff 0 b t else b :: stuff run' b t

/-- Fill bits of alternating value beginning with 1 (R116). -/
def fillBits : Nat → Bool → List Bool
  | 0, _ => []
  | n + 1, b => b :: fillBits n (!b)

/-- The removal of stuff bits from n data bits (R115); false when a stuff bit does not complement its run. -/
def unstuff (n run : Nat) (last ok : Bool) : List Bool → List Bool × Bool
  | [] => ([], ok && decide (n = 0))
  | b :: t =>
    if run = 24 then unstuff n 0 last (ok && decide (b ≠ last)) t
    else match n with
      | 0 => ([], ok)
      | m + 1 =>
        let r := unstuff m (if run ≠ 0 && b = last then run + 1 else 1) b ok t
        (b :: r.1, r.2)

/-- The sync word (R109). -/
def syncWord : BitVec 16 := 0xF2C4

/-- The header word (R110): even parity over its 16 bits in bit 0. -/
def headerWord (type seq : Nat) (half mapsw : Bool) : Nat :=
  let h := type % 8 * 2 ^ 13 + seq % 256 * 32 + bit half * 16 + bit mapsw * 8
  h + (bitsBE 16 h).countP id % 2

/-- The 2,176 line bits of a frame sent on a physical lane (R109 to R116); the payload is 256 bytes. -/
def encodeFrame (lane type seq : Nat) (half mapsw : Bool) (payload : List Byte) : List Bool :=
  let data := bitsBE 16 (headerWord type seq half mapsw) ++ bitsOfBytes (bytesAt payload 0 256)
  let sc := scramble (scramblerSeed (BitVec.ofNat 8 seq) lane) data
  let body := stuff 0 false sc
  bitsBE 16 syncWord.toNat ++ body ++ fillBits (2160 - body.length) true

/-- A frame decoded from its line bits after the sync word: the header word and payload, and whether the stuffing
held. `inverted` is the lane's polarity correction (R117). -/
def decodeFrame (inverted : Bool) (seq : BitVec 8) (lane : Nat) (line : List Bool) : Nat × List Byte × Bool :=
  let l := if inverted then line.map (fun b => !b) else line
  let r := unstuff 2064 0 false true l
  let d := scramble (scramblerSeed seq lane) r.1
  (natOfBits (d.take 16), bytesOfBits 256 (d.drop 16), r.2)

/-- Even header parity (R110). -/
def headerParity (h : Nat) : Bool := (bitsBE 16 h).countP id % 2 = 0

def headerType (h : Nat) : Nat := h / 2 ^ 13 % 8
def headerSeq (h : Nat) : Nat := h / 32 % 256
def headerHalf (h : Nat) : Bool := h.testBit 4
def headerMapsw (h : Nat) : Bool := h.testBit 3

end Sys2Proof.Machine
end

