-- ==== Sys2Proof/Machine/NibOps.lean ====
section
/-! DEFINITION. The Nib core (R80 to R105): rotating registers, predicates, data memory, loops, exceptions, and the
wrapper every Nib instruction's meaning goes through. -/

namespace Sys2Proof.Machine

/-- The physical register behind a register field (R82). -/
def NibSlot.phys (n : NibSlot) (k : Nat) : Nat := if k < 16 then k else 16 + (k - 16 + n.rrb.toNat) % 16

/-- A register's value; n0 reads 0 (R81). -/
def NibSlot.get (n : NibSlot) (k : BitVec 5) : Word :=
  if k = 0 then 0 else sparseGet (fun _ => 0) n.regs (n.phys k.toNat)

/-- A register written; a write of n0 has no effect (R81). -/
def NibSlot.set (n : NibSlot) (k : BitVec 5) (v : Word) : NibSlot :=
  if k = 0 then n else { n with regs := sparsePut (fun _ => 0) (n.phys k.toNat) v n.regs }

/-- A predicate's value; p0 reads 1 (R81). -/
def NibSlot.pred (n : NibSlot) (k : Nat) : Bool := k = 0 || n.preds.getLsbD k

/-- A predicate written; a write of p0 has no effect (R81). -/
def NibSlot.setPred (n : NibSlot) (k : Nat) (v : Bool) : NibSlot :=
  if k = 0 then n
  else { n with preds := (n.preds &&& ~~~ BitVec.ofNat 8 (2 ^ k)) ||| (if v then BitVec.ofNat 8 (2 ^ k) else 0) }

/-- The special register LC: passes of the innermost loop still to run after the current one (R81). -/
def NibSlot.lc (n : NibSlot) : Nat :=
  match n.loops with
  | f :: _ => f.left
  | [] => 0

/-! ## Loops -/

/-- The word SBND: major opcode 0x01, function 0x004 (R85, R87). -/
def isSbnd (w : Word) : Bool := w.toNat / 2 ^ 26 = 1 && w.toNat % 2 ^ 11 = 4

/-- The SBND words among n words of instruction memory from a byte address on. -/
def NibSlot.sbndCount (n : NibSlot) (a : Nat) : Nat → Nat
  | 0 => 0
  | k + 1 => (if isSbnd (sparseGet (fun _ => 0) n.imem (a / 4)) then 1 else 0) + n.sbndCount (a + 4) k

/-- Whether an address lies in a loop's body. -/
def LoopFrame.holds (f : LoopFrame) (a : Nat) : Bool := decide (f.start ≤ a) && decide (a < f.stop)

/-- The active LOOPM whose body holds the program counter. -/
def NibSlot.loopm (n : NibSlot) : Option LoopFrame :=
  n.loops.find? (fun f => decide (f.stages ≠ 0) && f.holds n.pc.toNat)

/-- The stage predicates p4 to p(3 + S) before pass k (R99): p(4 + s) is 1 when 0 ≤ k − s < N. -/
def NibSlot.stagePreds (n : NibSlot) (f : LoopFrame) : Nat → NibSlot
  | 0 => n
  | s + 1 => (n.stagePreds f s).setPred (4 + s) (decide (s ≤ f.pass) && decide (f.pass - s < f.count))

/-- Whether the instruction at the program counter is squashed: it lies in a segment of a LOOPM whose stage predicate
is 0 (R99). The segment's number is the count of SBND words before it in the body. -/
def NibSlot.squashed (n : NibSlot) : Bool :=
  match n.loopm with
  | none => false
  | some f => !n.pred (4 + n.sbndCount f.start ((n.pc.toNat - f.start) / 4))

/-- Whether a write of a predicate by the instruction at the program counter raises PRED_STAGE (R100). -/
def NibSlot.stageWrite (n : NibSlot) (k : Nat) : Bool :=
  match n.loopm with
  | none => false
  | some f => decide (4 ≤ k) && decide (k < 4 + f.stages)

/-- Arrival at an address by falling through: each loop whose body ends there either runs another pass or ends
(R98, R99). RRB falls by 1 after every pass of a LOOPM, the last one included. -/
def arriveAt (n : NibSlot) : List LoopFrame → Nat → NibSlot
  | [], a => { n with loops := [], pc := BitVec.ofNat 16 a }
  | f :: t, a =>
    if a = f.stop then
      let n := if f.stages = 0 then n else { n with rrb := n.rrb - 1 }
      if f.left = 0 then arriveAt n t a
      else
        let f' := { f with pass := f.pass + 1, left := f.left - 1 }
        { n.stagePreds f' f'.stages with loops := f' :: t, pc := BitVec.ofNat 16 f.start }
    else { n with loops := f :: t, pc := BitVec.ofNat 16 a }

/-- The next instruction in sequence after the one at an address. -/
def NibSlot.advanceFrom (n : NibSlot) (a : Nat) : NibSlot := arriveAt n n.loops (a + 4)

/-- The next instruction in sequence. -/
def NibSlot.advance (n : NibSlot) : NibSlot := n.advanceFrom n.pc.toNat

/-- The loops left standing by a branch: one whose body holds the branch but not its target ends, with every
enclosing loop whose body the branch also leaves (R98). -/
def leaveLoops (pc target : Nat) : List LoopFrame → List LoopFrame
  | [] => []
  | f :: t => if f.holds pc && !f.holds target then leaveLoops pc target t else f :: t

/-- A branch taken to a target. -/
def NibSlot.jump (n : NibSlot) (target : Nat) : NibSlot :=
  { n with loops := leaveLoops n.pc.toNat target n.loops, pc := BitVec.ofNat 16 target }

/-! ## Exceptions -/

/-- The causes of R103. -/
inductive NibExc where
  | illegal | align | addrRange | ecc | loopNest | loopForm | predStage | handle | double
deriving DecidableEq, Repr

def NibExc.code : NibExc → Nat
  | .illegal => 1 | .align => 2 | .addrRange => 3 | .ecc => 4 | .loopNest => 5 | .loopForm => 6 | .predStage => 7
  | .handle => 8 | .double => 9

/-- The events of a halt (R75, R104). -/
def State.nibHalted (s : State) (k : Nat) : State :=
  (s.setSta (Reg.NIB.PROG_STA k) Fld.NIB.PROG_STA.HALTED).raise Ev.NIB.PROG_HALT k

/-- Taking an exception (R103): CAUSE and EPC are recorded and the event raised; the Nib enters the image's handler, or
the program halts when there is none or the exception arose inside the handler (cause DOUBLE). The raising instruction
has written nothing. -/
def State.nibExcept (s : State) (k : Nat) (e : NibExc) : State :=
  let n := s.nib k
  let inH := n.state = .inHandler
  let c := if inH then NibExc.double else e
  let n := { n with cause := BitVec.ofNat 8 c.code, epc := n.pc }
  let ev (s : State) : State :=
    (s.setSta (Reg.NIB.PROG_STA k) Fld.NIB.PROG_STA.EXC).raise Ev.NIB.PROG_EXC (k * 256 + c.code)
  match (if inH then none else n.handler) with
  | some h => ev (s.setNib k { n with state := .inHandler, pc := BitVec.ofNat 16 h })
  | none => (ev (s.setNib k { n with state := .exceptionHalt, wait := none })).nibHalted k

/-! ## The instruction wrapper -/

/-- What an instruction does to its own core. -/
inductive NibRes where
  | done (n : NibSlot)
  | trap (e : NibExc)

/-- An instruction retired, squashed ones included (R104). -/
def State.retire (s : State) (k : Nat) : State := s.count64 (Reg.NIB.PROG_ICNT_LO k) (Reg.NIB.PROG_ICNT_HI k) 1

/-- Whether a slot's program issues instructions. -/
def NibSlot.issues (n : NibSlot) : Bool := n.state = .running || n.state = .inHandler

/-- One Nib instruction: nothing happens when the slot issues none; a squashed instruction only passes; otherwise the
core takes the result, or the exception is taken. The body says where the program counter goes. -/
def nibStep (k : Nat) (body : NibSlot → NibRes) (s : State) : State :=
  let n := s.nib k
  if !n.issues then s
  else if n.squashed then (s.setNib k n.advance).retire k
  else match body n with
    | .done n' => (s.setNib k n').retire k
    | .trap e => s.nibExcept k e

/-- An instruction whose effect is on the whole state: the body answers the state before the retirement. -/
def nibStepS (k : Nat) (body : NibSlot → State → Except NibExc State) (s : State) : State :=
  let n := s.nib k
  if !n.issues then s
  else if n.squashed then (s.setNib k n.advance).retire k
  else match body n s with
    | .ok s' => s'.retire k
    | .error e => s.nibExcept k e

/-- A register result and the next instruction. -/
def NibSlot.result (n : NibSlot) (rd : BitVec 5) (v : Word) : NibRes := .done (n.set rd v).advance

/-- A predicate result: upper field bits must be 0 (R84), and an active stage predicate may not be written (R100). -/
def NibSlot.predResult (n : NibSlot) (rd : BitVec 5) (v : Bool) : NibRes :=
  if 8 ≤ rd.toNat then .trap .illegal
  else if n.stageWrite rd.toNat then .trap .predStage
  else .done (n.setPred rd.toNat v).advance

/-- The effect of an ALU register operation. -/
def nibAlu (k : Fin 12) (rd ra rb : BitVec 5) (f : Word → Word → Word) (s : State) : State :=
  nibStep k (fun n => n.result rd (f (n.get ra) (n.get rb))) s

/-- The effect of an ALU compare. -/
def nibCmp (k : Fin 12) (rd ra rb : BitVec 5) (f : Word → Word → Bool) (s : State) : State :=
  nibStep k (fun n => n.predResult rd (f (n.get ra) (n.get rb))) s

/-- The effect of a predicate operation: all three fields name predicates (R86); `two` when rb is read. -/
def nibPredOp (k : Fin 12) (rd ra rb : BitVec 5) (two : Bool) (f : Bool → Bool → Bool) (s : State) : State :=
  nibStep k (fun n =>
    if 8 ≤ ra.toNat || (two && decide (8 ≤ rb.toNat)) then .trap .illegal
    else n.predResult rd (f (n.pred ra.toNat) (n.pred rb.toNat))) s

/-- The effect of an immediate operation. -/
def nibImm (k : Fin 12) (rd ra : BitVec 5) (f : Word → Word) (s : State) : State :=
  nibStep k (fun n => n.result rd (f (n.get ra))) s

/-- The effect of an immediate compare. -/
def nibCmpImm (k : Fin 12) (rd ra : BitVec 5) (f : Word → Bool) (s : State) : State :=
  nibStep k (fun n => n.predResult rd (f (n.get ra))) s

/-- The high half of a signed product. -/
def mulhSigned (a b : Word) : Word := BitVec.extractLsb' 32 32 (a.signExtend 64 * b.signExtend 64)

/-- The high half of an unsigned product. -/
def mulhUnsigned (a b : Word) : Word := BitVec.extractLsb' 32 32 (a.setWidth 64 * b.setWidth 64)

/-- The number of leading zeros of the low n bits of a word. -/
def leadingZeros (w : Word) : Nat → Nat
  | 0 => 0
  | n + 1 => if w.getLsbD n then 0 else leadingZeros w n + 1

/-- SHI (R85): amount in [4:0], kind in [6:5], the rest must be 0; kind 3 is undefined. -/
def shiftImm (imm : BitVec 16) (a : Word) : Option Word :=
  let n := imm.toNat % 32
  if imm.toNat / 128 ≠ 0 then none
  else match imm.toNat / 32 % 4 with
    | 0 => some (a <<< n)
    | 1 => some (a >>> n)
    | 2 => some (a.sshiftRight n)
    | _ => none

/-! ## Data memory -/

/-- The byte address of an M-format instruction (R84). -/
def nibAddr (n : NibSlot) (base : BitVec 5) (off : BitVec 16) : Nat := (n.get base + off.signExtend 32).toNat

/-- The little-endian value of w bytes of data memory (R83). -/
def NibSlot.loadLe (n : NibSlot) (a w : Nat) : Nat := leNat (sparseGetN (fun _ => 0) n.dmem a w)

/-- w bytes stored little-endian (R83). -/
def NibSlot.storeLe (n : NibSlot) (a w v : Nat) : NibSlot :=
  { n with dmem := sparsePutN (fun _ => 0) n.dmem a (leBytes w v) }

/-- Why an access of w bytes at an address may not be made (R83, R103). -/
def NibSlot.dataTrap (n : NibSlot) (a w : Nat) : Option NibExc :=
  if a % w ≠ 0 then some .align
  else if 65536 < a + w then some .addrRange
  else if (List.range w).any (fun i => n.eccHard.contains (a + i)) then some .ecc
  else none

/-- Corrected errors of an accessed range: the word is written back and counted (R83). -/
def eccScrub (k : Nat) (a w : Nat) (s : State) : State :=
  let n := s.nib k
  if (List.range w).any (fun i => n.eccSoft.contains (a + i)) then
    ((s.setNib k { n with eccSoft := n.eccSoft.filter (fun x => !(decide (a ≤ x) && decide (x < a + w))) }).count
      Reg.NIB.ECC_CORR_CNT 1).raise Ev.NIB.ECC_CORR k
  else s

/-- The effect of a load of w bytes. -/
def nibLoad (k : Fin 12) (rd base : BitVec 5) (off : BitVec 16) (w : Nat) (ext : Nat → Word) (s : State) : State :=
  nibStepS k (fun n s =>
    let a := nibAddr n base off
    match n.dataTrap a w with
    | some e => .error e
    | none => .ok (eccScrub k a w (s.setNib k (n.set rd (ext (n.loadLe a w))).advance))) s

/-- The effect of a store of w bytes. -/
def nibStore (k : Fin 12) (rd base : BitVec 5) (off : BitVec 16) (w : Nat) (s : State) : State :=
  nibStepS k (fun n s =>
    let a := nibAddr n base off
    match n.dataTrap a w with
    | some e => .error e
    | none => .ok (eccScrub k a w (s.setNib k (n.storeLe a w (n.get rd).toNat).advance))) s

/-- Sign extension of a loaded value of n bits. -/
def signExt (n : Nat) (v : Nat) : Word := BitVec.ofInt 32 (signedOf n v)

/-! ## Branches and loops -/

/-- The target of a B-format branch: PC + 4 * offset, signed (R85); none outside 64 KiB (R103). -/
def branchTarget (pc : BitVec 16) (off : BitVec 22) : Option Nat :=
  let t : Int := pc.toNat + 4 * off.toInt
  if 0 ≤ t ∧ t < 65536 then some t.toNat else none

/-- The entry of a loop (R98 to R100): `stages` is 0 for LOOP. A count of 0 skips a LOOP's body; a LOOPM always runs
N + S − 1 passes when N is not 0. A body length of 0 is outside the encoding's range; `bad` says that bits which must
be 0 are not. -/
def nibLoopEntry (k : Fin 12) (count : BitVec 5) (len : BitVec 12) (stages : Nat) (bad : Bool) (s : State) : State :=
  nibStep k (fun n =>
    let start := n.pc.toNat + 4
    let stop := start + 4 * len.toNat
    let c := (n.get count).toNat
    if len = 0 || bad then .trap .illegal
    else if 4 ≤ n.loops.length || (decide (stages ≠ 0) && n.loops.any (fun f => decide (f.stages ≠ 0))) then
      .trap .loopNest
    else if 65536 < stop then .trap .addrRange
    else if stages ≠ 0 && decide (n.sbndCount start len.toNat ≠ stages - 1) then .trap .loopForm
    else if c = 0 then .done (arriveAt n n.loops stop)
    else
      let passes := if stages = 0 then c else c + stages - 1
      let f : LoopFrame := { stages, count := c, start, stop, pass := 0, left := passes - 1 }
      .done { n.stagePreds f stages with loops := f :: n.loops, pc := BitVec.ofNat 16 start }) s

/-! ## Waits -/

/-- TB-M as software reads it: the turn in [63:16], the bucket in [15:0] (R198). -/
def State.tbm (s : State) : DWord := s.time.turn ++ s.time.bucket

/-- The value of a time base that TREAD reads and TWAIT compares (R87): TB-S, TB-M, or TB-W nanoseconds. -/
def State.timeBase (s : State) (sel : Nat) : DWord :=
  match sel with
  | 0 => s.time.tbs
  | 1 => s.tbm
  | _ => s.time.tbwNs

/-- What a handle of a program is bound to (R73). -/
def NibSlot.bound (n : NibSlot) (h : Nat) : Option Binding := (n.bindings.find? (fun e => e.1 = h)).map (·.2)

/-- The command ring behind a handle. -/
def State.userRing (s : State) (k h : Nat) : Option Nat :=
  match (s.nib k).bound h with
  | some (.commandRing c) => some c
  | _ => none

/-- Whether what a program waits for has arrived. A TWAIT on TB-M while MACH is stopped never sees it (ch. 03, Waits
and timeouts); condition 3 ENTRY of a ring holds while an entry is present (R450); the arrival at any other unit is the
command's operand. -/
def State.arrived (s : State) (k : Nat) (w : NibWait) (unit : Bool) : Bool :=
  match w.kind with
  | .time sel v => decide (v ≤ s.timeBase sel) && (decide (sel ≠ 1) || s.running .mach)
  | .unit h cond =>
    match s.userRing k h with
    | some c => if cond = 3 then !(sparseGet (fun _ => []) s.rings.command c).isEmpty else unit
    | none => unit
  | .barrier _ released => released

/-- UCC and the status predicate written at the end of an instruction (R84, R94). -/
def NibSlot.conclude (n : NibSlot) (sp : Nat) (u : Nat) : NibSlot := { n.setPred sp (u = 0) with ucc := BitVec.ofNat 4 u }

/-- A wait ends with a condition code, and the program goes on after the waiting instruction. -/
def State.endWait (s : State) (k : Nat) (w : NibWait) (u : Nat) : State :=
  let n := { s.nib k with state := if w.handler then .inHandler else .running, wait := none }
  let s : State := s.setNib k (n.conclude w.sp u).advance
  if u = 2 then s.count (Reg.NIB.PROG_TIMEOUT_CNT k) 1 else s

/-- A decision step of a wait (R95, R96): arrival wins over a timeout that expires in the same step; a count of
0xFFFF_FFFF waits without limit. -/
def State.decideWait (s : State) (k : Nat) (w : NibWait) (unit : Bool) : State :=
  if s.arrived k w unit then s.endWait k w 0
  else if w.left = 0 then s.endWait k w 2
  else s.setNib k { s.nib k with
    state := .waiting, wait := some { w with left := if w.left = 0xFFFFFFFF then w.left else w.left - 1 } }

end Sys2Proof.Machine
end

