-- ==== Sys2Proof/Machine/Lanes.lean ====
section
/-! DEFINITION. Field lanes and ports (R117 to R129), as far as the field link needs them: lane addresses, outbound
frames and messages, lane maps, and the failing of lanes and ports. -/

namespace Sys2Proof.Machine

/-- The address of a lane's register (R140), named as on a field lane. -/
def Lane.reg (lane : Lane) (f : Nat → Nat → Nat) : Nat :=
  match lane with
  | .field p l => f p.val l.val
  | .casc k l => Reg.CASC.LANE_STATE k.val l.val + (f 0 0 - Reg.FLANE.LANE_STATE 0 0)

/-- LANE_STATE.state (R140). -/
inductive LaneSt where
  | dark | cdr | adapt | sync | seq | ready | slot | test
deriving DecidableEq, Repr

def LaneSt.code : LaneSt → Nat
  | .dark => 0 | .cdr => 1 | .adapt => 2 | .sync => 3 | .seq => 4 | .ready => 5 | .slot => 6 | .test => 7

def State.laneState (s : State) (lane : Lane) : Nat :=
  s.fld (lane.reg Reg.FLANE.LANE_STATE) Fld.FLANE.LANE_STATE.state

def State.setLaneState (s : State) (lane : Lane) (v : LaneSt) : State :=
  s.setFld (lane.reg Reg.FLANE.LANE_STATE) Fld.FLANE.LANE_STATE.state v.code

/-- The number of a lane among all lanes: 0 to 39 the field lanes, 40 to 43 the cascade lanes. -/
def Lane.number : Lane → Nat
  | .field p l => p.val * 5 + l.val
  | .casc k l => 40 + k.val * 2 + l.val

/-- The test scope of a lane. -/
def Lane.testScope : Lane → ScopeId
  | .field p l => ⟨.laneTest, p.val * 5 + l.val⟩
  | .casc k l => ⟨.cascLaneTest, k.val * 2 + l.val⟩

/-- The lane l of a port, for l below 5. -/
def portLane (p l : Nat) : Lane := .field (Fin.ofNat 8 p) (Fin.ofNat 5 l)

def cascLane (k l : Nat) : Lane := .casc (Fin.ofNat 2 k) (Fin.ofNat 2 l)

/-! ## Hidden port state -/

def State.port (s : State) (p : Nat) : PortHidden := sparseGet (fun _ => PortHidden.fresh) s.ports p

def State.setPort (s : State) (p : Nat) (v : PortHidden) : State :=
  { s with ports := sparsePut (fun _ => PortHidden.fresh) p v s.ports }

def State.link (s : State) (p : Nat) : Link := sparseGet (fun _ => Link.fresh) s.links p

def State.setLink (s : State) (p : Nat) (v : Link) : State :=
  { s with links := sparsePut (fun _ => Link.fresh) p v s.links }

def State.cascade (s : State) (k : Nat) : CascLink := sparseGet (fun _ => CascLink.fresh) s.casc k

def State.setCascade (s : State) (k : Nat) (v : CascLink) : State :=
  { s with casc := sparsePut (fun _ => CascLink.fresh) k v s.casc }

def State.stream (s : State) (id : Nat) : Stream := sparseGet (fun _ => Stream.vacant) s.streams id

def State.setStream (s : State) (id : Nat) (v : Stream) : State :=
  { s with streams := sparsePut (fun _ => Stream.vacant) id v s.streams }

/-- PORT_STATE.state: 0 OFF, 1 TRAINING, 2 RUN, 3 FALLBACK, 4 DOWN (R139). -/
def State.portState (s : State) (p : Nat) : Nat := s.fld (Reg.FLANE.PORT_STATE p) Fld.FLANE.PORT_STATE.state

def State.setPortState (s : State) (p v : Nat) : State :=
  s.setFld (Reg.FLANE.PORT_STATE p) Fld.FLANE.PORT_STATE.state v

/-- Whether a port carries samples: RUN or FALLBACK. -/
def State.portUp (s : State) (p : Nat) : Bool := s.portState p = 2 || s.portState p = 3

def State.portMode (s : State) (p : Nat) : Nat := s.fld (Reg.FLANE.PORT_CFG p) Fld.FLANE.PORT_CFG.mode

/-- The number of outputs of a port mode (R148). -/
def modeOutputs (m : Nat) : Nat :=
  match m with
  | 0 => 1 | 1 => 2 | 2 => 1 | _ => 4

/-- P of a port mode at full rate, in TB-S units (R148). -/
def modePeriod (m : Nat) : Nat :=
  match m with
  | 0 => 256 | 1 => 512 | 2 => 512 | _ => 1024

/-- The slot map of a map field: slot i in [3i + 2 : 3i] (R139, R159). -/
def mapSlots (w : Nat) : List Nat := (List.range 4).map (fun i => w / 8 ^ i % 8)

/-- The map field of four slots and a spare. -/
def mapField (slots : List Nat) (spare : Nat) : Nat :=
  (List.range 4).foldl (fun a i => a + (slots.getD i 7) * 8 ^ i) (spare * 8 ^ 4)

def State.rxSlots (s : State) (p : Nat) : List Nat := mapSlots (s.fld (Reg.FLANE.RX_MAP p) Fld.FLANE.RX_MAP.slots)
def State.rxSpare (s : State) (p : Nat) : Nat := s.fld (Reg.FLANE.RX_MAP p) Fld.FLANE.RX_MAP.spare
def State.txSlots (s : State) (p : Nat) : List Nat := mapSlots (s.fld (Reg.FLANE.TX_MAP p) Fld.FLANE.TX_MAP.map)
def State.txSpare (s : State) (p : Nat) : Nat := s.fld (Reg.FLANE.TX_MAP p) Fld.FLANE.TX_MAP.map / 8 ^ 4

/-- The slots of a map that name a lane. -/
def usedSlots (l : List Nat) : List Nat := l.filter (fun x => x ≠ 7)

def State.setRxMap (s : State) (p : Nat) (slots : List Nat) (spare : Nat) : State :=
  s.setReg (Reg.FLANE.RX_MAP p) ((s.reg (Reg.FLANE.RX_MAP p) &&& 0xFFFF8000) |||
    BitVec.ofNat 32 (mapField slots spare % 2 ^ 15))

def State.setTxMap (s : State) (p : Nat) (slots : List Nat) (spare : Nat) : State :=
  s.setReg (Reg.FLANE.TX_MAP p) (BitVec.ofNat 32 (mapField slots spare % 2 ^ 15))

/-- The argument of a FLANE event: the port in [10:8], the lane in [2:0] (R142). -/
def laneArg (p l : Nat) : Nat := p * 256 + l

/-! ## Outbound frames and messages -/

/-- One frame sent by a port (R109, R123): the next sequence number, on the slots in rotation. The frame that carries
MAPSW goes to slot 0. -/
def State.sendFrame (s : State) (p type : Nat) (payload : List Byte) : State :=
  let h := s.port p
  let slots := usedSlots (s.txSlots p)
  let lane := if h.mapsw then slots.getD 0 0 else slots.getD (h.outSeq.toNat % max 1 slots.length) 0
  let s : State := s.setPort p { h with outSeq := h.outSeq + 1, mapsw := false }
  s.emit (.fieldLine p lane (encodeFrame lane type h.outSeq.toNat h.half h.mapsw payload))

/-- The ack value a port sends (R143, R145). -/
def Link.ackValue (k : Link) : Nat := if k.rxAny then (k.rxNext + 32767) % 32768 else 32767

/-- The bytes of a message (R143). -/
def messageBytes (type flags seq ack : Nat) (body : List Byte) : List Byte :=
  let m := beBytes 1 type ++ beBytes 1 flags ++ beBytes 2 body.length ++ beBytes 2 seq ++ beBytes 2 ack ++ body
  bytesAt (m ++ beBytes 4 (crc32c m).toNat) 0 256

/-- The window of sequenced messages that may be unacknowledged (R145). -/
def messageWindow : Nat := 16

/-- A sequenced message put on the line: for START, t_s of this transmission is kept (R160). -/
def State.transmit (s : State) (p : Nat) (m : SentMsg) : State :=
  let k := s.link p
  let seq := (s.port p).outSeq.toNat
  let body := if m.type = 3 then m.body.set 6 (BitVec.ofNat 8 m.resends) else m.body
  let starts := if m.type = 3 && m.body.getD 0 0 = 1 then
      k.starts ++ [(m.seq * 16 + m.resends, seq, s.time.tbs.toNat)] else k.starts
  let s : State := s.setLink p { k with starts := starts, ackDue := false }
  s.sendFrame p 2 (messageBytes m.type 0 m.seq k.ackValue body)

/-- A sequenced message queued, and sent while fewer than 16 are unacknowledged (R145). -/
def State.sendMsg (s : State) (p type : Nat) (body : List Byte) : State :=
  let k := s.link p
  let m : SentMsg := { seq := k.txSeq, type := type, body := body, resends := 0 }
  let s : State := s.setLink p { k with txSeq := (k.txSeq + 1) % 32768, unacked := k.unacked ++ [m] }
  if k.unacked.length < messageWindow then s.transmit p m else s

/-- A HEAD_CFG command (R160): the command, the port mode and the stream IDs of outputs 0 to 3. -/
def State.sendHeadCfg (s : State) (p cmd tries : Nat) : State :=
  let k := s.link p
  let ids := (List.range 4).map (fun o => k.streams.getD o 0)
  let s : State := s.setLink p { k with cmd := some (cmd, tries), starts := if cmd = 1 then [] else k.starts }
  s.sendMsg p 3 (beBytes 1 cmd ++ beBytes 1 (s.portMode p) ++ ids.flatMap (beBytes 1) ++ List.replicate 18 0)

/-! ## Lane maps and failing lanes -/

/-- The far lane index of a receive lane; 7 for none. -/
def State.farIndex (s : State) (p l : Nat) : Nat :=
  if l = 7 then 7 else s.fld (Reg.FLANE.LANE_STATE p l) Fld.FLANE.LANE_STATE.far_index

/-- LANE_MAP sent with the receive map given, in the head's lane numbers (R121, R159). -/
def State.sendLaneMap (s : State) (p flags : Nat) (slots : List Nat) (spare : Nat) : State :=
  let up := mapField (slots.map (s.farIndex p)) (s.farIndex p spare)
  let lost := (List.range 5).foldl (fun a l =>
    if s.fld (Reg.FLANE.LANE_STATE p l) Fld.FLANE.LANE_STATE.lock = 0 then a ||| 2 ^ s.farIndex p l % 32 else a) 0
  s.sendMsg p 5 (beBytes 1 (usedSlots slots).length ++ beBytes 1 flags ++
    beBytes 2 (mapField (s.txSlots p) (s.txSpare p)) ++ beBytes 2 up ++ beBytes 1 0 ++ beBytes 1 lost ++
    List.replicate 4 0)

/-- Every stream of a port gets LANE_GAP at its next sample (R125, R126, R129). -/
def State.markLaneGap (s : State) (p : Nat) : State :=
  let ids := (s.streams.filter (fun e => match e.2.source with
    | some (.head q _) => q = p
    | _ => false)).map (·.1)
  (ids.foldl (fun s id => s.setStream id { s.stream id with laneGap := true }) s).count (Reg.FLANE.LANE_GAP_CNT p) 1

/-- The Steward's own TDC channel 11 + p, enabled while port p is in RUN (R557). -/
def State.portTdc (s : State) (p : Nat) (on : Bool) : State :=
  s.setScope ⟨.tdc, 11 + p⟩ (if on then .run else .off)

/-! ## Clock domains -/

/-- TB-M as one count of buckets advanced by n, H to a turn (R201); a turn load that waits takes effect at the first
turn boundary passed (R203). -/
def State.advanceBuckets (s : State) (n : Nat) : State :=
  let h := max 1 (s.fld Reg.TIME.TBM_HARM Fld.TIME.TBM_HARM.harmonic)
  let t := s.time.bucket.toNat + n
  let wraps := t / h
  let bucket := BitVec.ofNat 16 (t % h)
  match s.tim.turnLoad, wraps with
  | _, 0 => { s with time := { s.time with bucket := bucket } }
  | some l, w + 1 =>
    let s : State := { s with
      time := { s.time with bucket := bucket, turn := l + BitVec.ofNat 48 w }, tim := { s.tim with turnLoad := none } }
    s.setFld Reg.TIME.TIME_STATE Fld.TIME.TIME_STATE.tbm_estimated 0
  | none, w + 1 => { s with time := { s.time with bucket := bucket, turn := s.time.turn + BitVec.ofNat 48 (w + 1) } }

/-- TB-W moved by a signed count of 2^-32 ns, modulo 2^96; whether it crossed a whole second upward is kept for
PPS_OUT (R219). -/
def State.addTbw (s : State) (d : Int) : State :=
  let old := s.time.tbwNs.toNat
  let v := ((old * 2 ^ 32 + s.time.tbwFrac.toNat : Nat) + d) % (2 ^ 96 : Nat)
  let ns := v.toNat / 2 ^ 32
  { s with time := { s.time with tbwNs := BitVec.ofNat 64 ns, tbwFrac := BitVec.ofNat 32 v.toNat },
           tim := { s.tim with ppsCross := decide (old / 1000000000 < ns / 1000000000) } }

/-- TB_W_INCR in 2^-32 ns (R205). -/
def State.increment (s : State) : Nat := s.reg64 Reg.TIME.TB_W_INCR_LO Reg.TIME.TB_W_INCR_HI

/-- The cycles of a stop as the Steward's oscillator measures them: within 200 ppm of the true span plus one cycle
(R200), the error free. `per` is the number of cycles in a tick. -/
def State.stopCycles (s : State) (d : Domain) (per : Nat) : Nat × State :=
  match sparseGet (fun _ => none) s.clk.stops d.bit with
  | none => (0, s)
  | some t =>
    let span := per * (s.time.tick - t)
    let bound := span / 5000 + 1
    let (n, s) := s.draw
    (span + Config.freeNat 10 n % (2 * bound + 1) - bound, s)

/-- A domain's clock stops (R18, R200, R204). -/
def State.domainStop (s : State) (d : Domain) : State :=
  let s : State := { s with clk := { s.clk with
    stops := sparsePut (fun _ => none) d.bit (some s.time.tick) s.clk.stops } }
  match d with
  | .samp | .dram =>
    { s with streams := s.streams.map (fun e => (e.1, { e.2 with
        clockGap := true,
        hist := e.2.hist.dropLast ++ (e.2.hist.getLast?.map (fun x =>
          { x with marks := { x.marks with clockGap := true } })).toList })) }
  | .mach =>
    let s : State := { s with clk := { s.clk with machStop := some s.time.tbs } }
    (s.setFld Reg.TIME.TIME_STATE Fld.TIME.TIME_STATE.tbm_stopped 1).setFld Reg.TIME.TIME_STATE
      Fld.TIME.TIME_STATE.track_hold 1
  | _ => s

/-- A domain's clock returns: its time base takes the length of the stop (R200, R204). -/
def State.domainStart (s : State) (d : Domain) : State :=
  match d with
  | .samp =>
    let (n, s) := s.stopCycles .samp 12
    { s with time := { s.time with tbs := s.time.tbs + BitVec.ofNat 64 (16384 * n) } }
  | .ref =>
    let (n, s) := s.stopCycles .ref 5
    s.addTbw (n * s.increment : Nat)
  | .mach =>
    let s : State := s.setFld Reg.TIME.TIME_STATE Fld.TIME.TIME_STATE.tbm_stopped 0
    match s.clk.machStop with
    | none => s
    | some t =>
      let b := s.reg64 Reg.TIME.TRACK_B_FRAC Reg.TIME.TRACK_B_INT
      let s : State := s.advanceBuckets ((s.time.tbs - t).toNat * 2 ^ 32 / b)
      let s : State := { s with clk := { s.clk with machStop := none } }
      s.setFld Reg.TIME.TIME_STATE Fld.TIME.TIME_STATE.tbm_estimated 1
  | _ => s

/-- A domain's clock comes or goes: DOMAIN_RUN, CLOCK_STOP and CLOCK_RUN (R197). -/
def State.setDomain (s : State) (d : Domain) (on : Bool) : State :=
  if s.running d = on then s
  else
    let s : State := s.setReg Reg.CLK.DOMAIN_RUN (s.reg Reg.CLK.DOMAIN_RUN ^^^ BitVec.ofNat 32 (2 ^ d.bit))
    if on then (s.domainStart d).raise Ev.CLK.CLOCK_RUN d.bit
    else (s.domainStop d).raise Ev.CLK.CLOCK_STOP d.bit

/-! ## Ports -/

/-- The lanes of a port begin bring-up again (R120): lanes with light start at CDR. -/
def State.restartLanes (s : State) (p : Nat) : State :=
  let s : State := (List.range 5).foldl (fun s l =>
    let a := Reg.FLANE.LANE_STATE p l
    if s.fld a Fld.FLANE.LANE_STATE.state = 7 then s
    else
      let st := if s.fld a Fld.FLANE.LANE_STATE.los = 1 then LaneSt.dark else LaneSt.cdr
      (s.setFld a Fld.FLANE.LANE_STATE.state st.code).setFld a Fld.FLANE.LANE_STATE.lock 0) s
  let s : State := s.setRxMap p [7, 7, 7, 7] 7
  let s : State := s.setFld (Reg.FLANE.RX_MAP p) Fld.FLANE.RX_MAP.reversed 0
  s.setTxMap p [7, 7, 7, 7] 7

/-- A port's link as it is before RUN; the head last seen and its ledger data stay. -/
def Link.restart (k : Link) : Link :=
  { Link.fresh with uid := k.uid, eolFrom := k.eolFrom, streams := k.streams, takenBy := k.takenBy, modes := k.modes }

/-- The stream IDs that STREAM entries bind to a port's outputs, by output; 0 where none is bound (R556). -/
def State.portStreams (s : State) (p : Nat) : List (Option Nat) :=
  (List.range 4).map (fun o => (s.streams.find? (fun e => e.2.source = some (.head p o))).map (·.1))

/-- STANDBY_TAKEOVER (R165): q takes over p's streams. Nothing happens when q is not acquiring. -/
def State.takeover (s : State) (q p : Nat) : State :=
  if !(s.link q).started || !s.portUp q then s
  else
    let joined := (s.portStreams p).zipIdx.foldl (fun (s : State) e =>
      match e.1 with
      | none => s
      | some id =>
        let st := s.stream id
        let from_ := st.next.getD 0 + st.period / 2 - st.period
        let smp := ((s.link q).buffer.filter (fun b => b.1 = e.2 && decide (from_ ≤ b.2.tbs))).map (·.2)
        s.setStream id { st with source := some (.head q e.2), base := (s.link q).base.getD 0,
                                 index := smp.length, fcount := none,
                                 next := (smp.getLast?.map (fun x => x.tbs + st.period)).or st.next,
                                 hist := st.hist ++ smp,
                                 values := st.values ++ smp.flatMap (fun x =>
                                   if st.cplx then [(x.i, x.marks), (x.q, x.marks)] else [(x.i, x.marks)]),
                                 delivered := st.delivered + smp.length }) s
    let off := match ((s.link q).base, (s.link p).base) with
      | (some b, some a) => (b + 2 ^ 16 - a % 2 ^ 16) % 2 ^ 16
      | _ => 0
    let s : State := joined.setReg (Reg.FLINK.STBY_OFFSET q) (BitVec.ofNat 32 off)
    let s : State := s.setFld (Reg.FLINK.HEAD_STATE q) Fld.FLINK.HEAD_STATE.state 3
    let s : State := s.setFld (Reg.FLINK.HEAD_STATE p) Fld.FLINK.HEAD_STATE.state 6
    let s : State := s.setLink p { s.link p with takenBy := some q }
    (s.setSta (Reg.FLINK.LINK_STA q) Fld.FLINK.LINK_STA.TAKEOVER).raise Ev.FLINK.STANDBY_TAKEOVER (q * 256 + p)

/-- The standby port of a port whose condition holds, if there is one (R165). -/
def State.standbyOf (s : State) (p : Nat) (cond : Bits) : Option Nat :=
  (List.range 8).find? (fun q => q ≠ p && s.flag (Reg.FLINK.LINK_CFG q) Fld.FLINK.LINK_CFG.standby_en &&
    decide (s.fld (Reg.FLINK.LINK_CFG q) Fld.FLINK.LINK_CFG.standby_for = p) && s.flag (Reg.FLINK.LINK_CFG q) cond)

/-- PORT_DOWN (R128): the port enters DOWN, its head is gone, its streams hold GAP, and bring-up is repeated; a standby
port takes over when its take_down is 1 (R165). -/
def State.portDown (s : State) (p : Nat) : State :=
  let s : State := ((s.setPortState p 4).setSta (Reg.FLANE.PORT_STA p) Fld.FLANE.PORT_STA.DOWN).raise
    Ev.FLANE.PORT_DOWN (laneArg p 0)
  let s : State := (s.portTdc p false).setDomain (.frx (Fin.ofNat 8 p)) false
  let s : State := s.setFld (Reg.FLINK.HEAD_STATE p) Fld.FLINK.HEAD_STATE.state 0
  let s : State := s.restartLanes p
  let s : State := (s.setPort p PortHidden.fresh).setLink p (s.link p).restart
  match s.standbyOf p Fld.FLINK.LINK_CFG.take_down with
  | some q => s.takeover q p
  | none => s

/-- One direction's map after lanes have failed (R125, R127): a failed slot moves onto the spare when that is in use
and working; otherwise the slot is dropped and the rest close up. Answers the slots, the spare and whether a slot
moved. -/
def remap (spareEn : Bool) (ok : Nat → Bool) (slots : List Nat) (spare : Nat) : List Nat × Nat × Bool :=
  let spare := if spare ≠ 7 && !ok spare then 7 else spare
  let r := slots.foldl (fun (r : List Nat × Nat × Bool) x =>
    if x = 7 || ok x then (r.1 ++ [x], r.2)
    else if r.2.1 ≠ 7 && spareEn then (r.1 ++ [r.2.1], 7, true)
    else (r.1 ++ [7], r.2)) ([], spare, false)
  let live := usedSlots r.1
  (live ++ List.replicate (4 - live.length) 7, r.2)

/-- TEST_ABORT (R133): a spare under test returns to framing because a re-striping needs it. -/
def State.abortTest (s : State) (p l : Nat) : State :=
  if l ≠ 7 && decide (s.hiddenScope ⟨.laneTest, p * 5 + l⟩ ≠ .off) then
    let s : State := (s.setScope ⟨.laneTest, p * 5 + l⟩ .off).setLaneState (portLane p l) .ready
    (s.setSta (Reg.FLANE.LANE_STA p l) Fld.FLANE.LANE_STA.TEST_ABORT).raise Ev.FLANE.TEST_ABORT (laneArg p l)
  else s

/-- The decision step after lanes of a port failed (R125 to R128): one LANE_MAP for all failures found; a port with
fewer than three working lanes in either direction, or with three and no fallback allowed, goes down. -/
def State.handleFailures (s : State) (p : Nat) : State :=
  if !s.portUp p then s
  else
    let h := s.port p
    let spareEn := s.flag (Reg.FLANE.PORT_CFG p) Fld.FLANE.PORT_CFG.spare_en
    let s0 := (h.pend.map (·.slots)).getD (s.rxSlots p)
    let sp0 := (h.pend.map (·.spare)).getD (s.rxSpare p)
    let n0 := (usedSlots s0).length
    let rx := remap spareEn (fun l => s.fld (Reg.FLANE.LANE_STATE p l) Fld.FLANE.LANE_STATE.lock = 1 ||
      decide (s.fld (Reg.FLANE.LANE_STATE p l) Fld.FLANE.LANE_STATE.state = 7)) s0 sp0
    let tx := remap spareEn (fun l => h.txOk.getD l true) (s.txSlots p) (s.txSpare p)
    let n := (usedSlots rx.1).length
    let fb := n = 3 && n0 = 4
    if n < 3 || (usedSlots tx.1).length < 3 ||
        (fb && !s.flag (Reg.FLANE.PORT_CFG p) Fld.FLANE.PORT_CFG.fallback_en) then s.portDown p
    else
      let txMoved := decide (tx.1 ≠ s.txSlots p) || decide (tx.2.1 ≠ s.txSpare p)
      let rxMoved := decide (rx.1 ≠ s0) || decide (rx.2.1 ≠ sp0)
      if !txMoved && !rxMoved then s
      else
        let s : State := s.preempt 4 0 (16 * p + (if rxMoved then 0 else 8))
        let s : State := if rx.2.2 then s.abortTest p sp0 else s
        let s : State := if txMoved then
            let s : State := (s.setTxMap p tx.1 tx.2.1).setPort p { s.port p with mapsw := true }
            if tx.2.2 then (s.setSta (Reg.FLANE.PORT_STA p) Fld.FLANE.PORT_STA.RESTRIPED).raise
              Ev.FLANE.RESTRIPED (laneArg p (s.txSpare p)) else s
          else s
        let s : State := if fb then
            ((s.setPortState p 3).setSta (Reg.FLANE.PORT_STA p) Fld.FLANE.PORT_STA.FALLBACK).raise
              Ev.FLANE.PORT_FALLBACK (laneArg p 0)
          else s
        let re := rx.2.2 || (h.pend.map (·.restripe)).getD false
        let s : State := s.setPort p { s.port p with pend := some ⟨rx.1, rx.2.1, re⟩ }
        s.sendLaneMap p (if fb then 2 else 0) rx.1 rx.2.1

/-- A receive lane that holds a slot fails (R125 step 1): its frames in flight are lost and LANE_FAIL is raised. -/
def State.laneFails (s : State) (p l : Nat) : State :=
  if (s.rxSlots p).contains l then
    let s : State := (s.setSta (Reg.FLANE.PORT_STA p) Fld.FLANE.PORT_STA.LANE_FAIL).raise Ev.FLANE.LANE_FAIL
      (laneArg p l)
    ((s.markLaneGap p).handleFailures p).spareAlarm s 0
  else if s.rxSpare p = l then
    s.setFld (Reg.FLANE.RX_MAP p) Fld.FLANE.RX_MAP.spare 7 |>.setFld (Reg.FLANE.PORT_STATE p)
      Fld.FLANE.PORT_STATE.spare_ready 0
  else s

/-- The pending map applies (R121, R125): from the frame that carries MAPSW, or at the head's reply. -/
def State.applyMap (s : State) (p : Nat) : State :=
  match (s.port p).pend with
  | none => s
  | some m =>
    let old := s.rxSlots p
    let new := (usedSlots m.slots).find? (fun l => !old.contains l)
    let s : State := s.setPort p { s.port p with pend := none }
    let s : State := (List.range 5).foldl (fun s l =>
      let st := s.fld (Reg.FLANE.LANE_STATE p l) Fld.FLANE.LANE_STATE.state
      if st = 5 || st = 6 then s.setLaneState (portLane p l) (if m.slots.contains l then .slot else .ready) else s) s
    let s : State := s.setRxMap p m.slots m.spare
    let far := (usedSlots m.slots).map (s.farIndex p)
    let s : State := s.setFld (Reg.FLANE.RX_MAP p) Fld.FLANE.RX_MAP.reversed
      (bit (decide ((usedSlots m.slots).zip far |>.all (fun e => e.1 + e.2 = 4)) && decide (far ≠ [])))
    let s : State := s.setFld (Reg.FLANE.PORT_STATE p) Fld.FLANE.PORT_STATE.spare_ready
      (bit (decide (m.spare ≠ 7) && decide (s.txSpare p ≠ 7)))
    if m.restripe && new.isSome then
      (s.setSta (Reg.FLANE.PORT_STA p) Fld.FLANE.PORT_STA.RESTRIPED).raise Ev.FLANE.RESTRIPED
        (laneArg p (new.getD 0))
    else s

/-- LANE_MAP_SEND (R121): with four lanes READY and no map pending, the VX1600 sends the map it has found, the slots in
the order of the far lane indices. A RETIRED lane is never used again (R498). -/
def State.bringMap (s : State) (p : Nat) : State :=
  let ready := (List.range 5).filter (fun l => s.fld (Reg.FLANE.LANE_STATE p l) Fld.FLANE.LANE_STATE.state = 5 &&
    !(s.spareState 0 (16 * p + l)).used)
  if (s.portState p = 1 || s.portState p = 4) && (s.port p).pend.isNone && decide (4 ≤ ready.length) then
    let byFar := (List.range 8).flatMap (fun i => ready.filter (fun l => s.farIndex p l = i))
    let slots := byFar.take 4
    let spare := byFar.getD 4 7
    let tx := (List.range 5).filter (fun l => !(s.spareState 0 (16 * p + 8 + l)).used)
    let s : State := s.setTxMap p (tx.take 4) (tx.getD 4 7)
    let s : State := s.setPort p { s.port p with pend := some ⟨slots, spare, false⟩ }
    s.sendLaneMap p 0 slots spare
  else s

/-- The port enters RUN at the end of the first LANE_MAP exchange (R121): message numbering restarts (R145), delay
measurements begin (R163), and PORT_UP is raised. -/
def State.portRun (s : State) (p : Nat) : State :=
  let s : State := s.setLink p { (s.link p).restart with streams := (s.portStreams p).map (·.getD 0) }
  let s : State := ((s.setPortState p 2).portTdc p true).setDomain (.frx (Fin.ofNat 8 p)) true
  let s : State := s.setFld (Reg.FLINK.HEAD_STATE p) Fld.FLINK.HEAD_STATE.state 1
  s.raise Ev.FLANE.PORT_UP (laneArg p 0)

/-- A port's scope enabled: TRAINING, and the lanes begin bring-up (ch. 04, Bring-up). -/
def State.portEnable (s : State) (p : Nat) : State :=
  if s.portState p = 0 && s.blockOn 4 && s.blockOn 5 then
    ((s.setPort p PortHidden.fresh).restartLanes p).setPortState p 1
  else s

/-- A port's scope disabled. -/
def State.portDisable (s : State) (p : Nat) : State :=
  if s.portState p = 0 then s
  else
    let s : State := (s.restartLanes p).setPortState p 0
    let s : State := (List.range 5).foldl (fun s l => s.setLaneState (portLane p l) .dark) s
    let s : State := s.setFld (Reg.FLINK.HEAD_STATE p) Fld.FLINK.HEAD_STATE.state 0
    (((s.setPort p PortHidden.fresh).setLink p (s.link p).restart).portTdc p false).setDomain (.frx (Fin.ofNat 8 p)) false

/-- A port refuses its head (R153, R161): it stays in RUN at lane level, and its streams hold GAP. -/
def State.refuseHead (s : State) (p reason refuse : Nat) : State :=
  let s : State := s.setFld (Reg.FLINK.HEAD_STATE p) Fld.FLINK.HEAD_STATE.state 4
  let s : State := s.setFld (Reg.FLINK.HEAD_STATE p) Fld.FLINK.HEAD_STATE.refuse refuse
  let s : State := s.setLink p { s.link p with started := false, base := none, cmd := none }
  (s.setSta (Reg.FLINK.LINK_STA p) Fld.FLINK.LINK_STA.HEAD_REFUSED).raise Ev.FLINK.HEAD_REFUSED (p * 256 + reason)

/-- MSG_FAIL (R145): the port enters DOWN and repeats bring-up. -/
def State.msgFail (s : State) (p type : Nat) : State :=
  ((s.setSta (Reg.FLINK.LINK_STA p) Fld.FLINK.LINK_STA.MSG_FAIL).raise Ev.FLINK.MSG_FAIL (p * 256 + type)).portDown p

end Sys2Proof.Machine
end

