-- ==== Sys2Proof/Machine/FieldLink.lean ====
section
/-! DEFINITION. The field link (ch. 05): delivery of samples into streams, the received messages and what they do,
round-trip delay, heads and the ledger, standby ports, and head images. -/

namespace Sys2Proof.Machine

/-! ## Samples -/

/-- Samples appended to a stream: kept, counted, and their values queued for the raw ring (R331). -/
def Stream.append (st : Stream) (l : List Sample) : Stream :=
  { st with hist := st.hist ++ l, delivered := st.delivered + l.length,
            values := st.values ++ l.flatMap (fun x =>
              if st.cplx then [(x.i, x.marks), (x.q, x.marks)] else [(x.i, x.marks)]),
            next := (l.getLast?.map (fun x => x.tbs + st.period)).or st.next }

/-- n missing samples from a stamp on: value 0 with GAP (R9). -/
def gapSamples (m : Marks) (tbs period : Nat) : Nat → List Sample
  | 0 => []
  | n + 1 => ⟨0, 0, tbs, { m with gap := true }⟩ :: gapSamples m (tbs + period) period n

/-- A 12-bit two's complement code. -/
def code12 (v : Nat) : Int := signedOf 12 v

/-- The codes of a SAMPLE payload in time order (R111). -/
def sampleCodes (payload : List Byte) : List Int :=
  let bits := (bitsOfBytes payload).drop 32
  (List.range 168).map (fun k => code12 (natOfBits ((bits.drop (12 * k)).take 12)))

/-- The samples of a frame: in a complex stream I at value 2k and Q at 2k + 1 (R148). -/
def frameSamples (cplx : Bool) (codes : List Int) (t0 period : Nat) (m : Nat → Nat → Marks) : List Sample :=
  (List.range (if cplx then 84 else 168)).map (fun k =>
    let t := t0 + k * period
    if cplx then ⟨codes.getD (2 * k) 0, codes.getD (2 * k + 1) 0, t, m k t⟩ else ⟨codes.getD k 0, 0, t, m k t⟩)

/-- The delay D in force on a port, in TB-S units (R149, R151). -/
def State.delay (s : State) (p : Nat) : Int := (s.reg (Reg.FLINK.DELAY p)).toInt

/-- SAMPLE_FRAME delivered (R146 to R149): the stream of the tag, the frames missed by fcount as GAP, and the samples of
this one with their stamps and marks. A frame before an accepted START has no t_s and is dropped; a frame whose fcount
does not step is a repeated one. Nothing crosses into a stopped SAMP or DRAM domain (R18). -/
def State.deliverSamples (s : State) (p : Nat) (f : RxFrame) : State :=
  let tag := beAt f.payload 0 4
  let id := tag / 2 ^ 24
  let out := tag / 2 ^ 22 % 4
  let ovr := tag.testBit 21
  let fc := tag % 4096
  let k := s.link p
  let standby := s.flag (Reg.FLINK.LINK_CFG p) Fld.FLINK.LINK_CFG.standby_en && decide (k.takenBy = none) &&
    !((s.streams.any (fun e => e.2.source = some (.head p out))))
  if standby then
    match k.base with
    | none => s
    | some b =>
      if !k.streams.contains id then s.count (Reg.FLINK.TAG_DROP_CNT p) 1
      else
        let per := modePeriod (s.portMode p)
        let n := (k.buffer.filter (fun e => e.1 = out)).length
        let t0 := ((b : Int) + (n * per : Nat) + s.delay p).toNat
        let smp := frameSamples (s.portMode p = 2) (sampleCodes f.payload) t0 per
          (fun _ _ => { Marks.none with ovr := ovr })
        let buf := k.buffer ++ smp.map (fun x => (out, x))
        let newest := t0 + 168 * per
        s.setLink p { k with buffer := buf.filter (fun e => decide (newest ≤ e.2.tbs + 64 * 3932160)) }
  else
    let st := s.stream id
    match st.source, k.base with
    | some (.head q _), some b =>
      if q ≠ p then s.count (Reg.FLINK.TAG_DROP_CNT p) 1
      else if !k.started || !s.running .samp || !s.running .dram then s
      else
        let step := match st.fcount with
          | none => fc + 1
          | some c => (fc + 4096 - c) % 4096
        if step = 0 then s
        else
          let spf := if st.cplx then 84 else 168
          let base := if st.fcount.isNone && decide (st.index = 0) then b else st.base
          let missing := (step - 1) * spf
          let tMiss := ((base : Int) + (st.index * st.period : Nat) + s.delay p).toNat
          let t0 := tMiss + missing * st.period
          let eol (t : Nat) : Bool := match k.eolFrom with
            | some e => decide (e ≤ t)
            | none => false
          let gapM : Marks := { Marks.none with laneGap := f.half, clockGap := st.clockGap }
          let restart := st.fcount.isNone && decide (st.index = 0)
          let hole := match st.next, restart with
            | some e, true => if e < tMiss then ceilDiv (tMiss - e) st.period else 0
            | _, _ => 0
          let overlap := match st.next, restart with
            | some e, true => if t0 < e then ceilDiv (e - t0) st.period else 0
            | _, _ => 0
          let st := st.append (gapSamples gapM (st.next.getD tMiss) st.period hole)
          let st := st.append (gapSamples gapM tMiss st.period missing)
          let smp := frameSamples st.cplx (sampleCodes f.payload) t0 st.period (fun i t =>
            { Marks.none with
              ovr := ovr, laneGap := f.half || (st.laneGap && decide (i = 0)),
              clockGap := st.clockGap && decide (i = 0), headEol := eol t })
          let st := st.append (smp.drop overlap)
          s.setStream id { st with fcount := some fc, base := base, index := st.index + missing + spf,
                                   laneGap := false, clockGap := false }
      | some (.head q _), none => if q ≠ p then s.count (Reg.FLINK.TAG_DROP_CNT p) 1 else s
      | _, _ => s.count (Reg.FLINK.TAG_DROP_CNT p) 1

/-- The rate of a port changes with HALF (R126, R149): n counts again from the first sample at the new rate. -/
def State.rateChange (s : State) (p : Nat) (half : Bool) : State :=
  let s : State := s.setPort p { s.port p with half := half }
  let per := modePeriod (s.portMode p) * (if half then 2 else 1)
  (s.portStreams p).foldl (fun s o =>
    match o with
    | none => s
    | some id =>
      let st := s.stream id
      s.setStream id { st with base := st.base + st.index * st.period, index := 0, period := per,
                               fcount := st.fcount }) (s.markLaneGap p)

/-! ## Ledger -/

/-- Whether some attached head has a UID (R156). -/
def State.attached (s : State) (uid : Nat) : Bool :=
  (List.range 8).any (fun p => (s.link p).uid = some uid && s.portUp p)

/-- A ledger entry moved to the newest place; when the ledger is full the oldest head not attached gives way (R156). -/
def State.ledgerPut (s : State) (e : LedgerEntry) : State :=
  let rest := s.retained.ledger.filter (fun x => x.uid ≠ e.uid)
  let rest := if 512 ≤ rest.length then
      match rest.find? (fun x => !s.attached x.uid) with
      | some v => rest.filter (fun x => x.uid ≠ v.uid)
      | none => rest
    else rest
  { s with retained := { s.retained with ledger := rest ++ [e] } }.slotWritten 3

def State.ledgerGet (s : State) (uid : Nat) : Option LedgerEntry := s.retained.ledger.find? (fun e => e.uid = uid)

/-- A limit taken from a HEAD_ID: only a lower one replaces it, and 0, no limit, counts as higher than any (R156). -/
def lowerLimit (old new : Nat) : Nat := if old = 0 then new else if new = 0 then old else min old new

/-- Usage in percent, 0 where there is no limit (R157). -/
def usage (counter limit : Nat) : Nat := if limit = 0 then 0 else 100 * counter / limit

/-- The crossings of the limits of a port's head: HEAD_WARN at 80 %, HEAD_EOL at 100 %, once for each head and limit
(R157, R158). -/
def State.checkLimits (s : State) (p : Nat) (e : LedgerEntry) : State :=
  let step (r : State × LedgerEntry) (i : Nat) : State × LedgerEntry :=
    let u := usage (r.2.counters.getD i 0) (r.2.limits.getD i 0)
    let r := if 80 ≤ u && !(r.2.warned.getD i false) then
        ((r.1.setSta (Reg.FLINK.LINK_STA p) Fld.FLINK.LINK_STA.HEAD_WARN).raise Ev.FLINK.HEAD_WARN (p * 256 + i),
          { r.2 with warned := r.2.warned.set i true })
      else r
    if 100 ≤ u && !(r.2.eol.getD i false) then
      ((r.1.setSta (Reg.FLINK.LINK_STA p) Fld.FLINK.LINK_STA.HEAD_EOL).raise Ev.FLINK.HEAD_EOL (p * 256 + i),
        { r.2 with eol := r.2.eol.set i true })
    else r
  let before := e.eol.any id
  let (s, e) := [0, 1, 2, 3].foldl step (s, e)
  let s : State := s.ledgerPut e
  let pct := [0, 1, 2, 3].foldl (fun a i =>
    a + min 255 (usage (e.counters.getD i 0) (e.limits.getD i 0)) * 256 ^ i) 0
  let s : State := s.setReg (Reg.FLINK.LIFE_PCT p) (BitVec.ofNat 32 pct)
  let s : State := s.setReg (Reg.FLINK.LIFE_DOSE p) (BitVec.ofNat 32 (e.counters.getD 0 0))
  let s : State := s.setReg (Reg.FLINK.LIFE_OVL p) (BitVec.ofNat 32 (e.counters.getD 1 0))
  let s : State := s.setReg (Reg.FLINK.LIFE_HOURS p) (BitVec.ofNat 32 (e.counters.getD 2 0))
  let s : State := s.setReg (Reg.FLINK.LIFE_MATE p) (BitVec.ofNat 32 (e.counters.getD 3 0))
  let s : State := s.setFld (Reg.FLINK.HEAD_STATE p) Fld.FLINK.HEAD_STATE.warn (bit (e.warned.any id))
  let s : State := s.setFld (Reg.FLINK.HEAD_STATE p) Fld.FLINK.HEAD_STATE.eol (bit (e.eol.any id))
  let s : State := if e.eol.any id && (s.link p).eolFrom.isNone then
      s.setLink p { s.link p with eolFrom := some s.time.tbs.toNat } else s
  if !before && e.eol.any id then
    match s.standbyOf p Fld.FLINK.LINK_CFG.take_eol with
    | some q => s.takeover q p
    | none => s
  else s

/-! ## HEAD_CFG and the start of a head (R160, R161, R163) -/

/-- RESUME_DONE (R506): raised once every port with a head is acquiring. -/
def State.resumeCheck (s : State) : State :=
  if s.stw.resumeStep ≠ 6 then s
  else if (List.range 8).all (fun p => !(s.portUp p) || !(s.link p).known || (s.link p).started) then
    let s : State := { s with stw := { s.stw with resumeStep := 0 } }
    let s : State := if s.fld Reg.STEWARD.STW_STATE Fld.STEWARD.STW_STATE.resume = 3 then
      s.setFld Reg.STEWARD.STW_STATE Fld.STEWARD.STW_STATE.resume 4 else s
    s.raise Ev.STEWARD.RESUME_DONE 0
  else s

/-- START is sent once SET has been carried out and 4 measurements are accepted; during a resume no START is sent before
the programs are readmitted (R163, R506). -/
def State.tryStart (s : State) (p : Nat) : State :=
  let k := s.link p
  if k.setDone && !k.started && k.cmd.isNone && decide (4 ≤ k.accepted) &&
      (s.stw.resumeStep = 0 || decide (6 ≤ s.stw.resumeStep)) then s.sendHeadCfg p 1 0
  else s

/-- The tables of a head are complete: SET follows (R163). -/
def State.tablesDone (s : State) (p : Nat) : State := s.sendHeadCfg p 0 0

/-- The next HEAD_CAL request, by table and then output of the port's mode (R154). -/
def State.requestTable (s : State) (p : Nat) : State :=
  let k := s.link p
  if k.tables ≤ k.cursor.1 then s.tablesDone p
  else
    let have_ := (k.tableData.find? (fun e => e.1 = k.cursor.1 && e.2.1 = k.cursor.2)).map (·.2.2.length)
    s.sendMsg p 4 (beBytes 1 k.cursor.1 ++ beBytes 1 k.cursor.2 ++ beBytes 2 (have_.getD 0) ++ beBytes 2 232 ++
      beBytes 2 0)

/-- The head-table area of a port (R154, R418). -/
def headTableBase (p : Nat) : Nat := 0x3000000000 + 0x100000 * p

/-- The bytes of the head-table area: each table after its 8-byte entry, on an 8-byte boundary (R154). -/
def tableArea (l : List (Nat × Nat × List Byte)) : List Byte :=
  l.flatMap (fun e =>
    let body := leBytes 1 e.1 ++ leBytes 1 e.2.1 ++ leBytes 2 0 ++ leBytes 4 e.2.2.length ++ e.2.2
    bytesAt body 0 (ceilDiv body.length 8 * 8))

/-- A command's reply accepted, or the command sent once more (R161). -/
def State.cfgReply (s : State) (p : Nat) (b : List Byte) : State :=
  let k := s.link p
  let c := (b.getD 0 0).toNat - 0x80
  let status := (b.getD 1 0).toNat
  match k.cmd with
  | none => s
  | some (cmd, tries) =>
    if (b.getD 0 0).toNat < 0x80 || c ≠ cmd then s
    else if status ≠ 0 && (cmd = 0 || cmd = 1) then
      if k.refusals = 0 then (s.setLink p { k with refusals := 1, cmd := none }).sendHeadCfg p cmd tries
      else (s.setLink p { k with refusals := 0, cmd := none }).refuseHead p 2 2
    else if status = 4 && cmd = 4 then
      ((s.setLink p { k with cmd := none }).setSta (Reg.FLINK.LINK_STA p) Fld.FLINK.LINK_STA.IMAGE_FAIL).raise
        Ev.FLINK.IMAGE_FAIL (p * 256 + 4)
    else
      let s : State := s.setLink p { k with cmd := none, refusals := 0 }
      match cmd with
      | 0 => (s.setLink p { s.link p with setDone := true }).tryStart p
      | 1 =>
        let key := beAt b 3 2 * 16 + (b.getD 5 0).toNat
        match k.starts.find? (fun e => e.1 = key && decide (e.2.1 = (b.getD 2 0).toNat)) with
        | none => s.sendHeadCfg p 2 0
        | some e =>
          let lat := (s.reg (Reg.FLINK.HEAD_LAT p)).toNat
          let s : State := s.setLink p { s.link p with base := some (e.2.2 + lat), started := true, starts := [],
                                                       buffer := [] }
          let per := modePeriod (s.portMode p) * (if (s.port p).half then 2 else 1)
          let s : State := (s.portStreams p).foldl (fun s o =>
            match o with
            | none => s
            | some id => s.setStream id { s.stream id with index := 0, fcount := none, period := per }) s
          let stby := s.flag (Reg.FLINK.LINK_CFG p) Fld.FLINK.LINK_CFG.standby_en
          (s.setFld (Reg.FLINK.HEAD_STATE p) Fld.FLINK.HEAD_STATE.state (if stby then 5 else 3)).resumeCheck
      | 2 => (s.setLink p { s.link p with started := false, base := none }).tryStart p
      | _ => s

/-! ## Round-trip delay (R150, R151) -/

/-- A measurement with both stamps and its turnaround: D_raw accepted or rejected. 1 ns is 3,932.16 units. -/
def State.tryRtt (s : State) (p : Nat) : State :=
  let k := s.link p
  match k.t1, k.t4, k.turn with
  | some t1, some t4, some turn =>
    let rtt : Int := (t4 : Int) - t1 - turn
    let a := signedOf 24 (s.fld (Reg.FLINK.LINK_ASYM p) Fld.FLINK.LINK_ASYM.asym)
    let d := freeDiv 1 rtt 2 + a
    let s : State := s.setReg (Reg.FLINK.RTT_LAST p) (BitVec.ofInt 32 rtt)
    let k := { k with t1 := none, t4 := none, turn := none }
    let far := decide (k.history ≠ []) && decide (393216 < 100 * (d - s.delay p).natAbs)
    if far then
      let s : State := s.count (Reg.FLINK.RTT_OUTLIER_CNT p) 1
      if 16 ≤ k.rejects + 1 then
        ((s.setLink p { k with rejects := 0, history := [] }).setSta (Reg.FLINK.LINK_STA p)
          Fld.FLINK.LINK_STA.DELAY_STEP).raise Ev.FLINK.DELAY_STEP (p * 256)
      else s.setLink p { k with rejects := k.rejects + 1 }
    else
      let h := (k.history ++ [d])
      let h := h.drop (h.length - 16)
      let s : State := s.setReg (Reg.FLINK.DELAY p) (BitVec.ofInt 32 (freeDiv 2 h.sum h.length))
      (s.setLink p { k with rejects := 0, history := h, accepted := k.accepted + 1 }).tryStart p
  | _, _, _ => s

/-! ## Messages received -/

/-- Whether a body length is allowed for a message from the head (R144). -/
def headBodyOk (type len : Nat) : Bool :=
  match type with
  | 1 => len = 64
  | 2 => len = 32
  | 3 => len = 24
  | 4 => decide (8 ≤ len) && decide (len ≤ 240)
  | 5 => len = 12
  | 6 => len = 8
  | 7 => len = 16
  | 8 => len = 8
  | _ => false

/-- HEAD_ID (R152, R153, R156, R163). -/
def State.onHeadId (s : State) (p : Nat) (b : List Byte) : State :=
  let uid := beAt b 0 8
  let model := beAt b 8 2
  let k := s.link p
  let r (s : State) (f : Nat → Nat) (i n : Nat) : State := s.setReg (f p) (BitVec.ofNat 32 (beAt b i n))
  let s : State := r (r (r s Reg.FLINK.HEAD_UID_HI 0 4) Reg.FLINK.HEAD_UID_LO 4 4) Reg.FLINK.HEAD_FW 12 4
  let s : State := r s Reg.FLINK.HEAD_LAT 16 4
  let s : State := s.setReg (Reg.FLINK.HEAD_MODEL p) (BitVec.ofNat 32 (model + beAt b 10 2 * 65536))
  let modes := (b.getD 20 0).toNat
  if model < 0x1500 || 0x150F < model then s.refuseHead p 1 1
  else if !modes.testBit (s.portMode p) then s.refuseHead p 2 2
  else
    let isNew := decide (k.uid ≠ some uid)
    let s : State := if isNew then
        (s.setSta (Reg.FLINK.LINK_STA p) Fld.FLINK.LINK_STA.HEAD_NEW).raise Ev.FLINK.HEAD_NEW (p * 256)
      else s
    let lims := [beAt b 24 4, beAt b 28 4, beAt b 32 4, beAt b 36 4]
    let e : LedgerEntry := match s.ledgerGet uid with
      | some e => { e with limits := (e.limits.zip lims).map (fun x => lowerLimit x.1 x.2) }
      | none => { uid := uid, counters := [0, 0, 0, 0], limits := lims, warned := [false, false, false, false],
                  eol := [false, false, false, false], tables := [] }
    let known := k.known && !isNew
    let s : State := s.setLink p { s.link p with
      uid := some uid, known := true, modes := modes, tables := (b.getD 21 0).toNat,
      eolFrom := if isNew then (if e.eol.any id then some 0 else none) else k.eolFrom,
      tableData := if known then k.tableData else [], cursor := if known then k.cursor else (0, 0) }
    let s : State := s.checkLimits p e
    if known then s
    else (s.setFld (Reg.FLINK.HEAD_STATE p) Fld.FLINK.HEAD_STATE.state 2).requestTable p

/-- HEAD_LIFE (R155 to R158): every ledger counter takes the larger value. -/
def State.onHeadLife (s : State) (p : Nat) (b : List Byte) : State :=
  let uid := beAt b 0 8
  if (s.link p).uid ≠ some uid then s
  else
    let s : State := s.setLink p { s.link p with silent := false }
    match s.ledgerGet uid with
    | none => s
    | some e =>
      let now := [beAt b 8 4, beAt b 12 4, beAt b 16 4, beAt b 20 4]
      s.checkLimits p { e with counters := (e.counters.zip now).map (fun x => max x.1 x.2) }

/-- HEAD_CAL reply (R154): the data joins its table; the next request follows, or the tables are stored and copied. -/
def State.onHeadCal (s : State) (p : Nat) (b : List Byte) : State :=
  let k := s.link p
  let t := (b.getD 0 0).toNat
  let o := (b.getD 1 0).toNat
  let total := beAt b 6 2
  if (t, o) ≠ k.cursor || k.tables ≤ t then s
  else
    let old := ((k.tableData.find? (fun e => e.1 = t && e.2.1 = o)).map (·.2.2)).getD []
    if beAt b 2 2 ≠ old.length then s
    else
      let data := old ++ b.drop 8
      let rest := k.tableData.filter (fun e => !(e.1 = t && e.2.1 = o))
      let done := decide (total ≤ data.length) || decide (b.length ≤ 8)
      let cursor := if !done then k.cursor
        else if o + 1 < modeOutputs (s.portMode p) then (t, o + 1) else (t + 1, 0)
      let k := { k with tableData := rest ++ [(t, o, data)], cursor := cursor }
      let s : State := s.setLink p k
      if cursor.1 < k.tables then s.requestTable p
      else
        let area := tableArea k.tableData
        if 0x100000 < area.length then s.refuseHead p 1 1
        else
          let s : State := s.inkStore 13 (headTableBase p) area
          let s : State := s.setReg (Reg.FLINK.CAL_ADDR p) (BitVec.ofNat 32 (headTableBase p / 4096))
          let s : State := match k.uid.bind s.ledgerGet with
            | some e => s.ledgerPut { e with tables := area }
            | none => s
          s.tablesDone p

/-- LANE_MAP from the head (R121, R127, R159): a TX_FAIL report names transmit lanes lost; a REPLY ends an exchange. -/
def State.onLaneMap (s : State) (p : Nat) (b : List Byte) : State :=
  let flags := (b.getD 1 0).toNat
  let lost := (b.getD 6 0).toNat
  let s : State := if flags.testBit 3 then
      let bad := (List.range 5).filter (fun l => lost.testBit l && (s.port p).txOk.getD l true)
      let s : State := bad.foldl (fun s l =>
        if (s.txSlots p).contains l then
          (s.setSta (Reg.FLANE.PORT_STA p) Fld.FLANE.PORT_STA.LANE_FAIL).raise Ev.FLANE.LANE_FAIL (laneArg p l)
        else s) s
      let ok := (List.range 5).map (fun l => !lost.testBit l)
      let s : State := s.setPort p { s.port p with txOk := ok }
      let s : State := if s.txSpare p = 7 then
          match (List.range 5).find? (fun l => ok.getD l false && !(s.txSlots p).contains l) with
          | some l => s.setTxMap p (s.txSlots p) l
          | none => s
        else s
      s.handleFailures p
    else s
  if flags.testBit 0 && (s.port p).pend.isSome then
    let s : State := s.applyMap p
    if s.portState p = 1 || s.portState p = 4 then (s.portRun p).handleFailures p else s
  else s

/-- RTT_REPLY (R150): the turnaround of the mark in flight. -/
def State.onRttReply (s : State) (p : Nat) (b : List Byte) : State :=
  let k := s.link p
  if k.t1.isSome && decide (beAt b 0 2 = k.mark) then
    (s.setLink p { k with turn := some (beAt b 4 4) }).tryRtt p
  else s

/-- HEAD_IMAGE status (R167). -/
def State.onImageStatus (s : State) (p : Nat) (b : List Byte) : State :=
  let st := (b.getD 4 0).toNat
  let s : State := s.setLink p { s.link p with image := none }
  if st = 0 then
    (s.setSta (Reg.FLINK.LINK_STA p) Fld.FLINK.LINK_STA.IMAGE_DONE).raise Ev.FLINK.IMAGE_DONE (p * 256)
  else (s.setSta (Reg.FLINK.LINK_STA p) Fld.FLINK.LINK_STA.IMAGE_FAIL).raise Ev.FLINK.IMAGE_FAIL (p * 256 + st)

/-- ALARM (R162). -/
def State.onAlarm (s : State) (p : Nat) (b : List Byte) : State :=
  let code := beAt b 0 2
  let s : State := s.setReg (Reg.FLINK.ALARM_LAST p)
    (putField Fld.FLINK.ALARM_LAST.severity (b.getD 2 0).toNat (BitVec.ofNat 32 code))
  (s.setSta (Reg.FLINK.LINK_STA p) Fld.FLINK.LINK_STA.HEAD_ALARM).raise Ev.FLINK.HEAD_ALARM (p * 256 + code % 256)

/-- What an accepted message does, by its type. -/
def State.onMessage (s : State) (p type : Nat) (b : List Byte) : State :=
  match type with
  | 1 => s.onHeadId p b
  | 2 => s.onHeadLife p b
  | 3 => s.cfgReply p b
  | 4 => s.onHeadCal p b
  | 5 => s.onLaneMap p b
  | 6 => s.onRttReply p b
  | 7 => s.onImageStatus p b
  | 8 => s.onAlarm p b
  | _ => s

/-- An ack value received (R145): every message up to it is acknowledged, and messages that now fit the window are
sent. 32,767 acknowledges nothing. -/
def State.onAck (s : State) (p a : Nat) : State :=
  let k := s.link p
  match k.unacked.findIdx? (fun m => m.seq = a) with
  | none => s
  | some i =>
    let sent := min k.unacked.length messageWindow
    if sent ≤ i then s
    else
      let rest := k.unacked.drop (i + 1)
      let s : State := s.setLink p { k with unacked := rest }
      ((rest.take messageWindow).drop (sent - (i + 1))).foldl (fun s m => s.transmit p m) s

/-- A MESSAGE payload received (R14, R143 to R145): a type outside the closed set is dropped, a bad crc or length too;
the ack value is taken; a sequenced message is taken only in order. -/
def State.rxMessage (s : State) (p : Nat) (m : List Byte) : State :=
  let type := beAt m 0 1
  let flags := beAt m 1 1
  let len := beAt m 2 2
  let isAck := flags.testBit 0
  if type = 0 || 8 < type then s.count (Reg.FLINK.MSG_DROP_CNT p) 1
  else if 244 < len || (if isAck then decide (len ≠ 0) else !headBodyOk type len) ||
      decide ((crc32c (m.take (8 + len))).toNat ≠ beAt m (8 + len) 4) then s.count (Reg.FLINK.MSG_BAD_CNT p) 1
  else
    let s : State := s.onAck p (beAt m 6 2)
    let b := (m.drop 8).take len
    if isAck then s
    else if type = 2 || type = 6 then s.onMessage p type b
    else
      let k := s.link p
      if beAt m 4 2 ≠ k.rxNext then s.setLink p { k with ackDue := true }
      else
        (s.setLink p { k with rxNext := (k.rxNext + 1) % 32768, rxAny := true, ackDue := true }).onMessage p type b

/-! ## Frames received -/

/-- A frame released in order (R124): MAPSW completes a re-striping, a change of HALF changes the rate, and the payload
goes where its type says. -/
def State.deliver (s : State) (p : Nat) (f : RxFrame) : State :=
  let s : State := if f.mapsw then s.applyMap p else s
  let s : State := if f.half ≠ (s.port p).half && (s.portUp p) then s.rateChange p f.half else s
  match f.type with
  | 1 => s.deliverSamples p f
  | 2 => s.rxMessage p f.payload
  | 3 =>
    let k := s.link p
    if beAt f.payload 2 1 = 1 && decide (beAt f.payload 0 2 = k.mark) && k.t1.isSome then
      (s.setLink p { k with t4 := some f.arrival }).tryRtt p
    else s
  | _ => s

/-- Frames held are released while the next sequence number is there; a hole is passed over once a frame held lies more
than 32 steps beyond it (R124). -/
def State.release (s : State) (p : Nat) : Nat → State
  | 0 => s
  | fuel + 1 =>
    let h := s.port p
    match h.next with
    | none => s
    | some n =>
      match h.held.find? (fun f => f.seq = n) with
      | some f =>
        let s : State := s.setPort p { h with next := some ((n + 1) % 256),
                                              held := h.held.filter (fun g => g.seq ≠ n) }
        (s.deliver p f).release p fuel
      | none =>
        if h.held.any (fun f => decide (32 < (f.seq + 256 - n) % 256)) then
          ((s.setPort p { h with next := some ((n + 1) % 256) }).markLaneGap p).release p fuel
        else s

/-- A frame received on a field lane (R112, R115, R117, R124): discarded for a sync miss, a stuffing violation, bad
parity or an undefined type; late; or placed in order. A lane out of lock finds no frame. -/
def State.rxFrame (s : State) (f : FieldFrame) : State :=
  let p := f.port.val
  let lane := Lane.field f.port f.lane
  let st := lane.reg Reg.FLANE.LANE_STATE
  let sta := lane.reg Reg.FLANE.LANE_STA
  if s.fld st Fld.FLANE.LANE_STATE.lock = 0 || s.laneState lane = 7 then s
  else
    let inv := s.flag st Fld.FLANE.LANE_STATE.inverted
    let drop (s : State) : State := s.count (Reg.FLANE.FRAME_DROP_CNT p) 1
    if (if inv then ~~~ f.sync else f.sync) ≠ syncWord then
      drop (s.count (lane.reg Reg.FLANE.SYNC_MISS_CNT) 1)
    else
      let (h, payload, ok) := decodeFrame inv f.seq (s.farIndex p f.lane.val) f.line
      if !ok then drop (s.setSta sta Fld.FLANE.LANE_STA.STUFF_ERR)
      else if !headerParity h then drop (s.setSta sta Fld.FLANE.LANE_STA.HDR_ERR)
      else if 4 ≤ headerType h then s.count (Reg.FLANE.TYPE_DROP_CNT p) 1
      else
        let r : RxFrame := { type := headerType h, seq := headerSeq h, half := headerHalf h, mapsw := headerMapsw h,
                             payload := payload, arrival := f.arrival.toNat }
        let ph := s.port p
        let n := ph.next.getD r.seq
        if 128 ≤ (r.seq + 256 - n) % 256 then s.count (Reg.FLANE.LATE_DROP_CNT p) 1
        else (s.setPort p { ph with next := some n, held := ph.held ++ [r] }).release p 512

/-- The type and message type of a frame as its lane decodes it, none where it is discarded. -/
def State.frameKind (s : State) (f : FieldFrame) : Option (Nat × Nat) :=
  let inv := s.flag ((Lane.field f.port f.lane).reg Reg.FLANE.LANE_STATE) Fld.FLANE.LANE_STATE.inverted
  let (h, payload, ok) := decodeFrame inv f.seq (s.farIndex f.port.val f.lane.val) f.line
  if ok && headerParity h && decide ((if inv then ~~~ f.sync else f.sync) = syncWord) then
    some (headerType h, beAt payload 0 1 + (if (beAt payload 1 1).testBit 0 then 256 else 0))
  else none

/-- A received frame of the kind a command's row names; a frame of another kind is no occurrence of it. -/
def State.rxKind (s : State) (f : FieldFrame) (p : Option (Nat × Nat) → Bool) : State :=
  if p (s.frameKind f) then s.rxFrame f else s

/-- Whether a kind is a message of a type, not in acknowledgement form. -/
def isMessage (t : Nat) (k : Option (Nat × Nat)) : Bool :=
  match k with
  | some (2, m) => m = t
  | _ => false

/-! ## Meanings -/

/-- SAMPLE_FRAME (R147); damaged frames and frames of undefined type arrive under this row too. -/
def execSampleFrame (f : FieldFrame) (s : State) : Host.Outcome State Fault Refusal :=
  .next (s.rxKind f (fun k => match k with
    | some (t, _) => t = 1 || decide (4 ≤ t)
    | none => true))

/-- IDLE_FRAME (R111). -/
def execIdleFrame (f : FieldFrame) (s : State) : Host.Outcome State Fault Refusal :=
  .next (s.rxKind f (fun k => match k with
    | some (t, _) => t = 0
    | none => false))

/-- RTT_MARK (R150). -/
def execRttMark (f : FieldFrame) (s : State) : Host.Outcome State Fault Refusal :=
  .next (s.rxKind f (fun k => match k with
    | some (t, _) => t = 3
    | none => false))

/-- HEAD_ID (R153). -/
def execHeadId (f : FieldFrame) (s : State) : Host.Outcome State Fault Refusal := .next (s.rxKind f (isMessage 1))

/-- HEAD_ID_TIMEOUT (R153): no HEAD_ID within 2 s of RUN. -/
def execHeadIdTimeout (p : Fin 8) (s : State) : Host.Outcome State Fault Refusal :=
  .next (if s.portUp p.val && !(s.link p.val).known then s.refuseHead p.val 3 3 else s)

/-- HEAD_LIFE (R156). -/
def execHeadLife (f : FieldFrame) (s : State) : Host.Outcome State Fault Refusal := .next (s.rxKind f (isMessage 2))

/-- HEAD_SILENT (R155): 5 s without HEAD_LIFE on a port in RUN. -/
def execHeadSilent (p : Fin 8) (s : State) : Host.Outcome State Fault Refusal :=
  .next (if s.portUp p.val then
    ((s.setLink p.val { s.link p.val with silent := true }).setSta (Reg.FLINK.LINK_STA p.val)
      Fld.FLINK.LINK_STA.HEAD_SILENT).raise Ev.FLINK.HEAD_SILENT (p.val * 256)
    else s)

/-- HEAD_CFG reply (R161). -/
def execHeadCfg (f : FieldFrame) (s : State) : Host.Outcome State Fault Refusal := .next (s.rxKind f (isMessage 3))

/-- HEAD_CFG_TIMEOUT (R161): a command without a reply 10 ms after its acknowledgement is sent once more; a second
silence raises MSG_FAIL. -/
def execHeadCfgTimeout (p : Fin 8) (s : State) : Host.Outcome State Fault Refusal :=
  .next (match (s.link p.val).cmd with
    | none => s
    | some (cmd, tries) =>
      if (s.link p.val).unacked.any (fun m => m.type = 3) then s
      else if tries = 0 then s.sendHeadCfg p.val cmd 1 else s.msgFail p.val 3)

/-- HEAD_CAL reply (R154). -/
def execHeadCal (f : FieldFrame) (s : State) : Host.Outcome State Fault Refusal := .next (s.rxKind f (isMessage 4))

/-- LANE_MAP message or reply (R159). -/
def execLaneMap (f : FieldFrame) (s : State) : Host.Outcome State Fault Refusal := .next (s.rxKind f (isMessage 5))

/-- RTT_REPLY (R151). -/
def execRttReply (f : FieldFrame) (s : State) : Host.Outcome State Fault Refusal := .next (s.rxKind f (isMessage 6))

/-- RTT_MEASURE (R150): an outbound RTT_MARK, stamped at t1 by the port's TDC channel. -/
def execRttMeasure (p : Fin 8) (t1 : DWord) (s : State) : Host.Outcome State Fault Refusal :=
  .next (if s.portUp p.val then
    let k := s.link p.val
    let n := (k.mark + 1) % 65536
    (s.setLink p.val { k with mark := n, t1 := some t1.toNat, t4 := none, turn := none }).sendFrame p.val 3
      (beBytes 2 n ++ [0])
    else s)

/-- RTT_ABANDON (R151): no echo or no reply within 1 ms; nothing is counted. -/
def execRttAbandon (p : Fin 8) (s : State) : Host.Outcome State Fault Refusal :=
  .next (s.setLink p.val { s.link p.val with t1 := none, t4 := none, turn := none })

/-- HEAD_IMAGE status reply (R167). -/
def execHeadImageStatus (f : FieldFrame) (s : State) : Host.Outcome State Fault Refusal :=
  .next (s.rxKind f (isMessage 7))

/-- ALARM (R162). -/
def execAlarm (f : FieldFrame) (s : State) : Host.Outcome State Fault Refusal := .next (s.rxKind f (isMessage 8))

/-- ACK (R145): an acknowledgement-form message of any listed type; messages of an unknown type arrive here too. -/
def execAck (f : FieldFrame) (s : State) : Host.Outcome State Fault Refusal :=
  .next (s.rxKind f (fun k => match k with
    | some (2, m) => decide (256 ≤ m) || decide (m = 0) || decide (8 < m)
    | _ => false))

/-- ACK_SEND (R145): nothing to send for 10 µs after a sequenced message was received. -/
def execAckSend (p : Fin 8) (s : State) : Host.Outcome State Fault Refusal :=
  let k := s.link p.val
  .next (if k.ackDue then
    (s.setLink p.val { k with ackDue := false }).sendFrame p.val 2 (messageBytes 3 1 0 k.ackValue [])
    else s)

/-- MSG_RESEND (R145): the oldest unacknowledged message has waited 200 µs; it and every later one in the window are
resent and counted. After 8 resends of one message the port goes down. -/
def execMsgResend (p : Fin 8) (s : State) : Host.Outcome State Fault Refusal :=
  let k := s.link p.val
  match k.unacked with
  | [] => .next s
  | m :: _ =>
    if 8 ≤ m.resends then .next (s.msgFail p.val m.type)
    else
      let sent := (k.unacked.take messageWindow).map (fun m => { m with resends := m.resends + 1 })
      let s : State := s.setLink p.val { k with unacked := sent ++ k.unacked.drop messageWindow }
      .next (sent.foldl (fun s m => s.transmit p.val m) (s.count (Reg.FLINK.RETX_CNT p.val) sent.length))

/-- ID_REQ_GO (R152, R169). -/
def execIdReqGo (p : Fin 8) (s : State) : Host.Outcome State Fault Refusal :=
  let s : State := s.accept (Reg.FLINK.LINK_CMD p.val) Fld.FLINK.LINK_CMD.id_req_go
  .next (if s.portUp p.val then s.sendHeadCfg p.val 3 0 else s)

/-- IMAGE_ACTIVATE_GO (R168). -/
def execImageActivateGo (p : Fin 8) (s : State) : Host.Outcome State Fault Refusal :=
  let s : State := s.accept (Reg.FLINK.LINK_CMD p.val) Fld.FLINK.LINK_CMD.image_activate_go
  .next (if s.portUp p.val then s.sendHeadCfg p.val 4 0 else s)

/-- TAKEOVER_GO (R165), written on the standby port q. -/
def execTakeoverGo (q : Fin 8) (s : State) : Host.Outcome State Fault Refusal :=
  let s : State := s.accept (Reg.FLINK.LINK_CMD q.val) Fld.FLINK.LINK_CMD.takeover_go
  .next (if s.flag (Reg.FLINK.LINK_CFG q.val) Fld.FLINK.LINK_CFG.standby_en then
    s.takeover q.val (s.fld (Reg.FLINK.LINK_CFG q.val) Fld.FLINK.LINK_CFG.standby_for) else s)

/-- REVERT_GO (R165): accepted only while p is acquiring; the streams return to p. -/
def execRevertGo (q : Fin 8) (s : State) : Host.Outcome State Fault Refusal :=
  let s : State := s.accept (Reg.FLINK.LINK_CMD q.val) Fld.FLINK.LINK_CMD.revert_go
  let p := s.fld (Reg.FLINK.LINK_CFG q.val) Fld.FLINK.LINK_CFG.standby_for
  if (s.link p).takenBy = some q.val && (s.link p).started && s.portUp p then
    let s : State := (s.portStreams q.val).zipIdx.foldl (fun (s : State) e =>
      match e.1 with
      | none => s
      | some id => s.setStream id { s.stream id with source := some (.head p e.2), index := 0, fcount := none }) s
    let s : State := s.setLink p { s.link p with takenBy := none }
    let s : State := s.setFld (Reg.FLINK.HEAD_STATE p) Fld.FLINK.HEAD_STATE.state 3
    let s : State := s.setFld (Reg.FLINK.HEAD_STATE q.val) Fld.FLINK.HEAD_STATE.state 5
    .next ((s.setSta (Reg.FLINK.LINK_STA q.val) Fld.FLINK.LINK_STA.TAKEOVER).raise Ev.FLINK.STANDBY_TAKEOVER
      (q.val * 256 + 0x80 + p))
  else .next s

/-- RTT_RESET_GO (R151): the delay history is cleared. -/
def execRttResetGo (p : Fin 8) (s : State) : Host.Outcome State Fault Refusal :=
  let s : State := s.accept (Reg.FLINK.LINK_CMD p.val) Fld.FLINK.LINK_CMD.rtt_reset_go
  .next (s.setLink p.val { s.link p.val with history := [], rejects := 0 })

/-- The HEAD_IMAGE chunks of an image (R167): id, offset, total length, chunk length, flags. -/
def imageChunks (id total off : Nat) (fuel : Nat) (img : List Byte) : List (List Byte) :=
  match fuel with
  | 0 => []
  | n + 1 =>
    let c := img.take 228
    let rest := img.drop 228
    let msg := beBytes 4 id ++ beBytes 4 off ++ beBytes 4 total ++ beBytes 2 c.length ++
      beBytes 1 (bit (decide (rest = []))) ++ [0] ++ c
    if rest = [] then [msg] else msg :: imageChunks id total (off + c.length) n rest

/-- HEAD_IMAGE (R166, R167): the envelope's signature is checked against the vendor key (`signatureOk` is the result of that
check) and its model code against the attached head's. A refused envelope sends nothing and raises IMAGE_FAIL;
otherwise the chunks are sent, then a DIGEST chunk with the image's SHA-384 digest. Whether it is accepted, and the state
after. -/
def State.headImage (s : State) (p : Nat) (envelope : List Byte) (signatureOk : Bool) : Bool × State :=
  let magic := envelope.take 4 = [0x56, 0x48, 0x49, 0x4D]
  let model := leAt envelope 4 2
  let id := leAt envelope 6 4
  let len := leAt envelope 10 4
  let img := (envelope.drop 14).take len
  let attached := (s.link p).known && s.portUp p
  let ok := magic && signatureOk && attached && decide (envelope.length = 14 + len + 96) &&
    decide (model = (s.reg (Reg.FLINK.HEAD_MODEL p)).toNat % 65536)
  if !ok then
    (false, (s.setSta (Reg.FLINK.LINK_STA p) Fld.FLINK.LINK_STA.IMAGE_FAIL).raise Ev.FLINK.IMAGE_FAIL (p * 256 + 0xFF))
  else
    let s : State := s.setLink p { s.link p with image := some id }
    let s : State := (imageChunks id len 0 (img.length + 1) img).foldl (fun s c => s.sendMsg p 7 c) s
    (true, s.sendMsg p 7 (beBytes 4 id ++ beBytes 4 len ++ beBytes 4 len ++ beBytes 2 48 ++ beBytes 1 2 ++ [0] ++
      (List.range 48).map (fun i => Config.sha384 img i)))

end Sys2Proof.Machine
end

