-- ==== Sys2Proof/Machine/FieldLane.lean ====
section
/-! DEFINITION. Commands of the lane level (ch. 04): lock, light and equalisation, bring-up, port restore and retrain,
pattern tests, cascade links and program messages over them. -/

namespace Sys2Proof.Machine

/-! ## Cascade links -/

/-- CASC.LINK_STATE.state: 0 OFF, 1 TRAINING, 2 RUN, 3 SINGLE, 4 DOWN, 5 LOOPBACK (R141). -/
def State.linkState (s : State) (k : Nat) : Nat := s.fld (Reg.CASC.LINK_STATE k) Fld.CASC.LINK_STATE.state

def State.setLinkState (s : State) (k v : Nat) : State := s.setFld (Reg.CASC.LINK_STATE k) Fld.CASC.LINK_STATE.state v

/-- Whether a cascade link carries frames. -/
def State.linkUp (s : State) (k : Nat) : Bool := s.linkState k = 2 || s.linkState k = 3

/-- Both lanes of a link begin bring-up; cascade lanes have no light to wait for (R118). -/
def State.restartCasc (s : State) (k : Nat) : State :=
  [0, 1].foldl (fun s l =>
    if s.laneState (cascLane k l) = 7 then s
    else (s.setLaneState (cascLane k l) .cdr).setFld (Reg.CASC.LANE_STATE k l) Fld.CASC.LANE_STATE.lock 0) s

/-- What a link's leaving RUN and SINGLE does beyond the link: planes that merge from it report loss (R397). -/
def State.cascLeave (s : State) (k : Nat) : State :=
  (List.range 16).foldl (fun s i =>
    if s.live ⟨.plane, i⟩ && s.flag (Reg.BLOT.PL_CFG i) Fld.BLOT.PL_CFG.merge_en &&
        decide (s.fld (Reg.BLOT.PL_CFG i) Fld.BLOT.PL_CFG.send_link = k) then
      let p := sparseGet (fun _ => PlaneRun.fresh) s.planes i
      let s : State := { s with planes := sparsePut (fun _ => PlaneRun.fresh) i { p with mergeLoss := true } s.planes }
      (s.setSta (Reg.BLOT.PL_STA i) Fld.BLOT.PL_STA.MERGE_LOSS).blkEvent 12 11 Ev.BLOT.MERGE_LOSS i
    else s) s

/-- The argument of a CASC event: the link in [8], the lane in [0] (R142). -/
def cascArg (k l : Nat) : Nat := k * 256 + l

/-- The link enters DOWN and repeats bring-up (R135). -/
def State.cascDown (s : State) (k : Nat) : State :=
  let s : State := ((s.setLinkState k 4).setSta (Reg.CASC.LINK_STA k) Fld.CASC.LINK_STA.DOWN).raise
    Ev.CASC.CASC_DOWN (cascArg k 0)
  (s.restartCasc k).cascLeave k

/-- A lane of a cascade link fails (R135): the link goes on with the other lane when single_ok is 1. -/
def State.cascLaneFails (s : State) (k l lost : Nat) : State :=
  let s : State := (s.setSta (Reg.CASC.LINK_STA k) Fld.CASC.LINK_STA.LANE_FAIL).raise Ev.CASC.CASC_LANE_FAIL
    (cascArg k l)
  let s : State := s.count (Reg.CASC.FRAME_DROP_CNT k) lost
  if s.laneState (cascLane k (1 - l)) = 6 && s.flag (Reg.CASC.LINK_CFG k) Fld.CASC.LINK_CFG.single_ok then
    ((s.setLinkState k 3).setSta (Reg.CASC.LINK_STA k) Fld.CASC.LINK_STA.SINGLE).raise Ev.CASC.CASC_SINGLE
      (cascArg k l)
  else s.cascDown k

/-- A cascade lane is ready: with both ready the link runs, W = 2 (R123, R135). In a loopback the link reads LOOPBACK. -/
def State.cascReady (s : State) (k : Nat) : State :=
  let up (l : Nat) : Bool := s.laneState (cascLane k l) = 5 || s.laneState (cascLane k l) = 6
  if up 0 && up 1 && (s.linkState k = 1 || s.linkState k = 3 || s.linkState k = 4) then
    let s : State := (s.setLaneState (cascLane k 0) .slot).setLaneState (cascLane k 1) .slot
    let loop := decide (s.fld (Reg.CASC.LINK_CFG k) Fld.CASC.LINK_CFG.loopback ≠ 0)
    (s.setLinkState k (if loop then 5 else 2)).raise Ev.CASC.CASC_UP (cascArg k 0)
  else s

/-- A link's scope enabled. -/
def State.cascEnable (s : State) (k : Nat) : State :=
  if s.linkState k = 0 && s.blockOn 18 then (s.restartCasc k).setLinkState k 1 else s

/-- A link's scope disabled. -/
def State.cascDisable (s : State) (k : Nat) : State :=
  if s.linkState k = 0 then s
  else
    let was := s.linkUp k
    let s : State := (s.setLaneState (cascLane k 0) .dark).setLaneState (cascLane k 1) .dark
    let s : State := s.setLinkState k 0
    if was then s.cascLeave k else s

/-- A frame received on a cascade lane (R109 to R117): its header and payload, or what its discarding counts. -/
def State.rxCasc (s : State) (f : CascFrame) (type : Nat) (act : State → List Byte → State) : State :=
  let k := f.link.val
  let lane := Lane.casc f.link f.lane
  let st := lane.reg Reg.FLANE.LANE_STATE
  if s.fld st Fld.FLANE.LANE_STATE.lock = 0 || !s.linkUp k then s
  else
    let inv := s.flag st Fld.FLANE.LANE_STATE.inverted
    let drop (s : State) : State := s.count (Reg.CASC.FRAME_DROP_CNT k) 1
    if (if inv then ~~~ f.sync else f.sync) ≠ syncWord then
      drop (s.count (lane.reg Reg.FLANE.SYNC_MISS_CNT) 1)
    else
      let (h, payload, ok) := decodeFrame inv f.seq (s.fld st Fld.FLANE.LANE_STATE.far_index) f.line
      if !ok then drop (s.setSta (lane.reg Reg.FLANE.LANE_STA) Fld.FLANE.LANE_STA.STUFF_ERR)
      else if !headerParity h then drop (s.setSta (lane.reg Reg.FLANE.LANE_STA) Fld.FLANE.LANE_STA.HDR_ERR)
      else if 4 ≤ headerType h then s.count (Reg.CASC.TYPE_DROP_CNT k) 1
      else if headerType h = type then act s payload
      else s

/-- The entries of a delivered program message (R138). -/
def nibMsgEntries (m : List Byte) : List (List Byte) :=
  let len := beAt m 0 2
  let body := (m.drop 8).take len
  let first := leBytes 2 0x4D4E ++ leBytes 2 len ++ (m.drop 6).take 2 ++ leBytes 2 0 ++ bytesAt body 0 24
  let n := ceilDiv (len + 8) 32
  first :: (List.range (n - 1)).map (fun i => bytesAt body (24 + 32 * i) 32)

/-- A program message delivered to its POSTED ring, all its entries or none (R138). -/
def State.nibMessage (s : State) (k : Nat) (m : List Byte) : State :=
  let drop (s : State) : State := s.count (Reg.CASC.NIBMSG_DROP_CNT k) 1
  let slot := beAt m 3 1
  let n := s.nib slot
  let entries := nibMsgEntries m
  if beAt m 2 1 % 16 ≠ s.fld Reg.SYNC.SYNC_CFG Fld.SYNC.SYNC_CFG.module || 12 ≤ slot || n.state = .empty then drop s
  else
    let bound : Option Binding := (n.bindings.find? (fun b => b.1 = beAt m 4 2)).map (·.2)
    match bound with
    | some (.resultRing r false) =>
      if s.rringType r ≠ 3 || !s.rringRuns r || s.rringSize r < s.rringUsed r + entries.length then drop s
      else entries.foldl (fun s e => (s.rringPush r (.posted e)).coalesce r) s
    | _ => drop s

/-! ## Lock, light and equalisation -/

/-- FRAME_LOCK (R117): a searching lane declares lock; on inverted hits it inverts its data and counts POL_FLIP. -/
def execFrameLock (lane : Lane) (inverted : Bool) (s : State) : Host.Outcome State Fault Refusal :=
  if s.laneState lane ≠ 3 then .next s
  else
    let a := lane.reg Reg.FLANE.LANE_STATE
    let s : State := (s.setLaneState lane .seq).setFld a Fld.FLANE.LANE_STATE.lock 1
    let s : State := s.setFld a Fld.FLANE.LANE_STATE.inverted (bit inverted)
    .next (if inverted then s.setSta (lane.reg Reg.FLANE.LANE_STA) Fld.FLANE.LANE_STA.POL_FLIP else s)

/-- A lane out of lock: it searches again, and a lane that held a slot fails (R117, R125, R135). -/
def State.loseLock (s : State) (lane : Lane) (target : LaneSt) (lost : Nat) : State :=
  let held := s.laneState lane = 6
  let spare := s.laneState lane = 5
  let a := lane.reg Reg.FLANE.LANE_STATE
  let s : State := ((s.setLaneState lane target).setFld a Fld.FLANE.LANE_STATE.lock 0).setFld a
    Fld.FLANE.LANE_STATE.far_index 7
  match lane with
  | .field p l => if held || spare then s.laneFails p.val l.val else s
  | .casc k l => if held then s.cascLaneFails k.val l.val lost else s

/-- LOSS_OF_LOCK (R117): eight consecutive misses. -/
def execLossOfLock (lane : Lane) (framesLost : Nat) (s : State) : Host.Outcome State Fault Refusal :=
  if s.fld (lane.reg Reg.FLANE.LANE_STATE) Fld.FLANE.LANE_STATE.lock = 0 || s.laneState lane = 7 then .next s
  else .next ((s.setSta (lane.reg Reg.FLANE.LANE_STA) Fld.FLANE.LANE_STA.LOL).loseLock lane .sync framesLost)

/-- LOS_ASSERT (R118, R125). -/
def execLosAssert (p : Fin 8) (l : Fin 5) (s : State) : Host.Outcome State Fault Refusal :=
  let lane := Lane.field p l
  let s : State := s.setFld (Reg.FLANE.LANE_STATE p.val l.val) Fld.FLANE.LANE_STATE.los 1
  let s : State := s.setSta (Reg.FLANE.LANE_STA p.val l.val) Fld.FLANE.LANE_STA.LOS
  .next (if s.laneState lane = 7 then s else s.loseLock lane .dark 0)

/-- LOS_DEASSERT (R118, R120): a DARK lane of an enabled port goes to CDR. -/
def execLosDeassert (p : Fin 8) (l : Fin 5) (s : State) : Host.Outcome State Fault Refusal :=
  let s : State := s.setFld (Reg.FLANE.LANE_STATE p.val l.val) Fld.FLANE.LANE_STATE.los 0
  .next (if s.laneState (.field p l) = 0 && decide (s.portState p.val ≠ 0) then s.setLaneState (.field p l) .cdr
    else s)

/-- OPT_LOW (R118): below −12.0 dBm for 1 s while LOS is deasserted. -/
def execOptLow (p : Fin 8) (l : Fin 5) (s : State) : Host.Outcome State Fault Refusal :=
  .next (if s.flag (Reg.FLANE.LANE_STATE p.val l.val) Fld.FLANE.LANE_STATE.los then s
    else s.raise Ev.FLANE.OPT_LOW (laneArg p.val l.val))

/-- One tap of 7 bits moved by one LSB, held at its range ends (R119). -/
def tapStep (w : Nat) (up : Bool) : Nat :=
  (BitVec.ofInt 7 (clampInt (-64) 63 (signedOf 7 w + (if up then 1 else -1)))).toNat

/-- Taps of 7 bits in a word, each moved by one LSB in the direction of its bit. -/
def tapsStep (w n first : Nat) (up : BitVec 6) : Nat :=
  (List.range n).foldl (fun a i => a + tapStep (w / 128 ^ i % 128) (up.getLsbD (first + i)) * 128 ^ i) 0

/-- DFE_TAP_STEP (R119): every tap moves by one LSB, unless the taps are held. -/
def execDfeTapStep (lane : Lane) (up : BitVec 6) (s : State) : Host.Outcome State Fault Refusal :=
  if s.flag (lane.reg Reg.FLANE.LANE_ADAPT) Fld.FLANE.LANE_ADAPT.hold then .next s
  else
    let a := lane.reg Reg.FLANE.DFE_TAPS_A
    let b := lane.reg Reg.FLANE.DFE_TAPS_B
    let s : State := s.setFld a Fld.FLANE.DFE_TAPS_A.taps1_4
      (tapsStep (s.fld a Fld.FLANE.DFE_TAPS_A.taps1_4) 4 0 up)
    .next (s.setFld b Fld.FLANE.DFE_TAPS_B.taps5_6 (tapsStep (s.fld b Fld.FLANE.DFE_TAPS_B.taps5_6) 2 4 up))

/-- DFE_RAIL (R119): a tap rested at an end of its range for 1 ms. -/
def execDfeRail (lane : Lane) (s : State) : Host.Outcome State Fault Refusal :=
  let a := s.fld (lane.reg Reg.FLANE.DFE_TAPS_A) Fld.FLANE.DFE_TAPS_A.taps1_4
  let b := s.fld (lane.reg Reg.FLANE.DFE_TAPS_B) Fld.FLANE.DFE_TAPS_B.taps5_6
  let taps := (List.range 4).map (fun i => a / 128 ^ i % 128) ++ (List.range 2).map (fun i => b / 128 ^ i % 128)
  .next (if taps.any (fun t => t = 63 || t = 64) then
    s.setSta (lane.reg Reg.FLANE.LANE_STA) Fld.FLANE.LANE_STA.DFE_RAIL else s)

/-! ## Bring-up -/

/-- CDR_LOCK (R120). -/
def execCdrLock (lane : Lane) (s : State) : Host.Outcome State Fault Refusal :=
  .next (if s.laneState lane = 1 then s.setLaneState lane .adapt else s)

/-- TAPS_SETTLED (R120). -/
def execTapsSettled (lane : Lane) (s : State) : Host.Outcome State Fault Refusal :=
  .next (if s.laneState lane = 2 then s.setLaneState lane .sync else s)

/-- SEQ_FOUND (R120, ch. 04 Bring-up): the sequence number and the far lane index. -/
def execSeqFound (lane : Lane) (seq : BitVec 8) (farIndex : BitVec 3) (s : State) :
    Host.Outcome State Fault Refusal :=
  if s.laneState lane ≠ 4 then .next s
  else
    let s : State := s.setFld (lane.reg Reg.FLANE.LANE_STATE) Fld.FLANE.LANE_STATE.far_index farIndex.toNat
    match lane with
    | .field p _ => .next (if (s.port p.val).next.isNone then
        s.setPort p.val { s.port p.val with next := some seq.toNat } else s)
    | .casc _ _ => .next s

/-- LANE_READY (R120 to R124, R129): a deskewed lane becomes READY; a skew above 340 ns, 170 steps of 2 ns, fails the
step. On a port in bring-up the map may now be sent; on a running port the lane becomes the spare. -/
def execLaneReady (lane : Lane) (skewSteps : Nat) (s : State) : Host.Outcome State Fault Refusal :=
  if s.laneState lane ≠ 4 || s.fld (lane.reg Reg.FLANE.LANE_STATE) Fld.FLANE.LANE_STATE.far_index = 7 then .next s
  else match lane with
    | .field p l =>
      let s : State := s.setFld (Reg.FLANE.PORT_STATE p.val) Fld.FLANE.PORT_STATE.skew
        (max skewSteps (s.fld (Reg.FLANE.PORT_STATE p.val) Fld.FLANE.PORT_STATE.skew))
      if 170 < skewSteps then .next (s.setSta (Reg.FLANE.PORT_STA p.val) Fld.FLANE.PORT_STA.SKEW)
      else
        let s : State := s.setLaneState lane .ready
        if s.portUp p.val then
          if s.rxSpare p.val = 7 then
            let s : State := s.setFld (Reg.FLANE.RX_MAP p.val) Fld.FLANE.RX_MAP.spare l.val
            .next (s.setFld (Reg.FLANE.PORT_STATE p.val) Fld.FLANE.PORT_STATE.spare_ready
              (bit (decide (s.txSpare p.val ≠ 7))))
          else .next s
        else
          let t : State := s.bringMap p.val
          .next (if (t.port p.val).pend.isSome && (s.port p.val).pend.isNone then
            (List.range 5).foldl (fun t i => if t.laneState (portLane p.val i) = 0 then
              t.setSta (Reg.FLANE.LANE_STA p.val i) Fld.FLANE.LANE_STA.LOS else t) t
            else t)
    | .casc k _ => .next ((s.setLaneState lane .ready).cascReady k.val)

/-- PORT_RESTORE (R129): with four READY lanes in each direction a port in fallback returns to four lanes. -/
def execPortRestore (p : Fin 8) (s : State) : Host.Outcome State Fault Refusal :=
  let s : State := s.accept (Reg.FLANE.PORT_CMD p.val) Fld.FLANE.PORT_CMD.restore_go
  let h := s.port p.val
  let rx := (List.range 5).filter (fun l =>
    let st := s.fld (Reg.FLANE.LANE_STATE p.val l) Fld.FLANE.LANE_STATE.state
    st = 5 || st = 6)
  let tx := (List.range 5).filter (fun l => h.txOk.getD l true)
  if s.portState p.val ≠ 3 || rx.length < 4 || tx.length < 4 then .next s
  else
    let cur := usedSlots (s.rxSlots p.val)
    let rest := rx.filter (fun l => !cur.contains l)
    let slots := cur ++ rest.take (4 - cur.length)
    let spare := (rest.drop (4 - cur.length)).getD 0 7
    let tcur := usedSlots (s.txSlots p.val)
    let trest := tx.filter (fun l => !tcur.contains l)
    let s : State := s.setTxMap p.val (tcur ++ trest.take (4 - tcur.length)) ((trest.drop (4 - tcur.length)).getD 0 7)
    let s : State := s.setPort p.val { s.port p.val with mapsw := true, pend := some ⟨slots, spare, false⟩ }
    .next ((s.setPortState p.val 2).sendLaneMap p.val 4 slots spare)

/-- PORT_RETRAIN (R139): bring-up of all lanes again; streams hold GAP until RUN. -/
def execPortRetrain (p : Fin 8) (s : State) : Host.Outcome State Fault Refusal :=
  let s : State := s.accept (Reg.FLANE.PORT_CMD p.val) Fld.FLANE.PORT_CMD.retrain_go
  if s.portState p.val = 0 then .next s
  else
    let s : State := (s.restartLanes p.val).setPortState p.val 1
    let s : State := s.setFld (Reg.FLINK.HEAD_STATE p.val) Fld.FLINK.HEAD_STATE.state 0
    .next (((s.setPort p.val PortHidden.fresh).setLink p.val (s.link p.val).restart).portTdc p.val false)

/-! ## Pattern test -/

/-- Whether a lane's test scope is enabled. -/
def State.testOn (s : State) (lane : Lane) : Bool := s.hiddenScope lane.testScope ≠ .off

/-- Generator bits inverted (R132). -/
def State.inject (s : State) (lane : Lane) (n : Nat) : State :=
  if s.testOn lane && s.flag (lane.reg Reg.FLANE.TEST_CFG) Fld.FLANE.TEST_CFG.gen_en then
    s.emit (.testInvert lane.number n)
  else s

/-- SINGLE_GO (R132). -/
def execSingleGo (lane : Lane) (s : State) : Host.Outcome State Fault Refusal :=
  .next ((s.accept (lane.reg Reg.FLANE.TEST_CMD) Fld.FLANE.TEST_CMD.single_go).inject lane 1)

/-- BURST_GO (R132). -/
def execBurstGo (lane : Lane) (s : State) : Host.Outcome State Fault Refusal :=
  .next ((s.accept (lane.reg Reg.FLANE.TEST_CMD) Fld.FLANE.TEST_CMD.burst_go).inject lane
    (s.fld (lane.reg Reg.FLANE.TEST_INJ) Fld.FLANE.TEST_INJ.burst))

/-- RATE_INJECT (R132): one bit in every 2^k while rate mode runs. -/
def execRateInject (lane : Lane) (s : State) : Host.Outcome State Fault Refusal :=
  .next (if s.flag (lane.reg Reg.FLANE.TEST_INJ) Fld.FLANE.TEST_INJ.rate_en then s.inject lane 1 else s)

/-- Whether a lane may be put under test: the spare of its port, or any lane whose port or link is disabled (R133). -/
def State.testable (s : State) (lane : Lane) : Bool :=
  match lane with
  | .field p l => s.portState p.val = 0 || s.rxSpare p.val = l.val
  | .casc k _ => s.linkState k.val = 0

/-- TEST_ENABLE (R133); while the block-wide scope is off the enable is accepted and has no effect (R41). -/
def execTestEnable (lane : Lane) (s : State) : Host.Outcome State Fault Refusal :=
  let s : State := s.accept (lane.reg Reg.FLANE.TEST_CMD) Fld.FLANE.TEST_CMD.test_enable_go
  if !s.blockOn lane.testScope.kind.block || s.testOn lane then .next s
  else if s.testable lane then .next ((s.setScope lane.testScope .run).setLaneState lane .test)
  else .next (s.setSta (lane.reg Reg.FLANE.LANE_STA) Fld.FLANE.LANE_STA.TEST_REFUSED)

/-- A test ended: the lane returns to framing, converged when its port runs. -/
def State.endTest (s : State) (lane : Lane) : State :=
  let back := match lane with
    | .field p _ => if s.portState p.val = 0 then LaneSt.dark else LaneSt.ready
    | .casc k _ => if s.linkState k.val = 0 then LaneSt.dark else LaneSt.cdr
  let s : State := (s.setScope lane.testScope .off).setLaneState lane back
  s.setFld (lane.reg Reg.FLANE.TEST_STATE) Fld.FLANE.TEST_STATE.chk_lock 0

/-- TEST_DISABLE (R140). -/
def execTestDisable (lane : Lane) (s : State) : Host.Outcome State Fault Refusal :=
  let s : State := s.accept (lane.reg Reg.FLANE.TEST_CMD) Fld.FLANE.TEST_CMD.test_disable_go
  .next (if s.testOn lane then s.endTest lane else s)

/-- CHECKER_LOCK (R131). -/
def execCheckerLock (lane : Lane) (s : State) : Host.Outcome State Fault Refusal :=
  .next (if s.testOn lane && s.flag (lane.reg Reg.FLANE.TEST_CFG) Fld.FLANE.TEST_CFG.chk_en then
    s.setFld (lane.reg Reg.FLANE.TEST_STATE) Fld.FLANE.TEST_STATE.chk_lock 1 else s)

/-- CHECKER_LOSS (R131): the bits and errors counted while locked are the operands; the checker seeds itself again. -/
def execCheckerLoss (lane : Lane) (bits errors : Nat) (s : State) : Host.Outcome State Fault Refusal :=
  let st := lane.reg Reg.FLANE.TEST_STATE
  if s.fld st Fld.FLANE.TEST_STATE.chk_lock = 0 then .next s
  else
    let s : State := s.setFld st Fld.FLANE.TEST_STATE.chk_lock 0
    let s : State := s.count64 (lane.reg Reg.FLANE.TEST_BITS_LO) (lane.reg Reg.FLANE.TEST_BITS_HI) bits
    .next (s.count64 (lane.reg Reg.FLANE.TEST_ERR_LO) (lane.reg Reg.FLANE.TEST_ERR_HI) errors)

/-! ## Cascade commands -/

/-- CASC_SLIP (R134). -/
def execCascSlip (k l : Fin 2) (s : State) : Host.Outcome State Fault Refusal :=
  if !s.linkUp k.val then .next s
  else
    let s : State := (s.count (Reg.CASC.FRAME_DROP_CNT k.val) 1).count (Reg.CASC.SLIP_CNT k.val) 1
    .next ((s.setSta (Reg.CASC.LINK_STA k.val) Fld.CASC.LINK_STA.SLIP).raise Ev.CASC.CASC_SLIP (cascArg k.val l.val))

/-- LINK_RETRAIN (R141). -/
def execLinkRetrain (k : Fin 2) (s : State) : Host.Outcome State Fault Refusal :=
  let s : State := s.accept (Reg.CASC.LINK_CMD k.val) Fld.CASC.LINK_CMD.retrain_go
  if s.linkState k.val = 0 then .next s
  else
    let was := s.linkUp k.val
    let s : State := (s.restartCasc k.val).setLinkState k.val 1
    .next (if was then s.cascLeave k.val else s)

/-- NIBMSG_FRAME (R138). -/
def execNibmsgFrame (f : CascFrame) (s : State) : Host.Outcome State Fault Refusal :=
  .next (s.rxCasc f 3 (fun s m => s.nibMessage f.link.val m))

end Sys2Proof.Machine
end

