-- ==== Sys2Proof/Machine/Clocks.lean ====
section
/-! DEFINITION. Clock synthesis (ch. 06): acquisition, lock and its loss, outputs, references and domains. -/

namespace Sys2Proof.Machine

/-! ## Outputs and domains -/

/-- PLL_STATE.state of a synthesiser: 0 OFF, 1 ACQUIRE, 2 SETTLE, 3 RUN, 4 HOLDOVER, 5 STOPPED (R195). -/
def State.pll (s : State) (y : Nat) : Nat := s.fld (Reg.CLK.PLL_STATE y) Fld.CLK.PLL_STATE.state

def State.setPll (s : State) (y v : Nat) : State := s.setFld (Reg.CLK.PLL_STATE y) Fld.CLK.PLL_STATE.state v

/-- Whether a synthesiser drives its outputs. -/
def State.drives (s : State) (y : Nat) : Bool := s.pll y = 3 || s.pll y = 4

/-- The unit scope of an output. -/
def outScope (y o : Nat) : ScopeId := ⟨.clkOut, 8 * y + o⟩

/-- Whether an output exists for use; the others stay disabled (R173, R174). -/
def outUsed (y o : Nat) : Bool :=
  match y with
  | 0 => decide (o < 7)
  | 1 => decide (o < 1)
  | _ => decide (o < 2)

/-- The domains an output feeds (R16, R173, R174). The storage PHYs make STOR from PLL-R output 5. -/
def outDomains (y o : Nat) : List Domain :=
  match y, o with
  | 0, 0 => [.ftx] | 0, 1 => [.dram] | 0, 2 => [.tdc] | 0, 3 => [.samp] | 0, 4 => [.ref] | 0, 5 => [.stor]
  | 1, 0 => [.mach] | 2, 0 => [.disp] | 2, 1 => [.disp] | 3, 0 => [.net] | _, _ => []

/-- Whether an output toggles now. -/
def State.outRuns (s : State) (y o : Nat) : Bool := s.fld (Reg.CLK.OUT_STATE y o) Fld.CLK.OUT_STATE.running = 1

/-- Whether a domain has a running output behind it; either pixel clock keeps DISP present. -/
def State.fed (s : State) (d : Domain) : Bool :=
  (List.range 4).any (fun y => (List.range 8).any (fun o => s.outRuns y o && (outDomains y o).contains d))

/-- The outputs of a synthesiser brought to what its state and their scopes say (R184, R188), and the domains they feed
with them (R197). -/
def State.settleOutputs (s : State) (y : Nat) : State :=
  let s : State := (List.range 8).foldl (fun s o =>
    s.setFld (Reg.CLK.OUT_STATE y o) Fld.CLK.OUT_STATE.running (bit (s.drives y && s.live (outScope y o)))) s
  ((List.range 8).flatMap (outDomains y)).foldl (fun s d => s.setDomain d (s.fed d)) s

/-! ## References and bands -/

/-- The frequency of the reference a synthesiser uses, in Hz (R171, R173): the TCXO is 50 MHz, MCLK comes from outside,
every other reference is 100 MHz. -/
def State.refHz (s : State) (y sel : Nat) : Nat :=
  match y with
  | 0 => if sel = 1 then 50000000 else if sel = 3 then 0 else 100000000
  | 1 => s.clk.mclk
  | _ => 100000000

/-- Whether the reference a synthesiser uses is present: PLL-D and PLL-N run from PLL-R output 5. -/
def State.refPresent (s : State) (y : Nat) : Bool :=
  match y with
  | 0 => match s.fld (Reg.CLK.PLL_STATE 0) Fld.CLK.PLL_STATE.ref_in_use with
    | 0 => !s.clk.refclkLost
    | 2 => !s.clk.syncLost
    | _ => true
  | 1 => !s.clk.mclkLost
  | _ => s.outRuns 0 5

/-- R of a synthesiser (R172). -/
def State.pllR (s : State) (y : Nat) : Nat := s.fld (Reg.CLK.PLL_CFG y) Fld.CLK.PLL_CFG.rdiv + 1

/-- N in units of 2^-32 (R172); PLL-R always runs in integer mode (R173). -/
def State.pllN (s : State) (y : Nat) : Nat :=
  s.fld (Reg.CLK.PLL_NINT y) Fld.CLK.PLL_NINT.nint * 2 ^ 32 +
    (if y = 0 then 0 else (s.reg (Reg.CLK.PLL_NFRAC y)).toNat)

/-- Whether the phase-detector frequency lies within 1 to 250 MHz (R172). -/
def State.pfdOk (s : State) (y sel : Nat) : Bool :=
  decide (s.pllR y * 1000000 ≤ s.refHz y sel) && decide (s.refHz y sel ≤ 250000000 * s.pllR y)

/-- Whether a band's range holds the target f_VCO (R180). -/
def State.bandHolds (s : State) (y sel k : Nat) : Bool :=
  let lo := s.fld (Reg.CLK.BAND y k) Fld.CLK.BAND.fmin
  let hi := s.fld (Reg.CLK.BAND y k) Fld.CLK.BAND.fmax
  let f := s.refHz y sel * s.pllN y
  let mhz := 1000000 * 2 ^ 32 * s.pllR y
  decide (lo ≤ hi) && decide (lo * mhz ≤ f) && decide (f ≤ hi * mhz)

/-- The lowest-numbered band that holds the target (R180). -/
def State.findBand (s : State) (y sel : Nat) : Option Nat := (List.range 64).find? (s.bandHolds y sel)

/-- BAND_NONE: an enable refused (R172, R180). -/
def State.bandNone (s : State) (y : Nat) : State :=
  (s.setSta (Reg.CLK.PLL_STA y) Fld.CLK.PLL_STA.BAND_NONE).raise Ev.CLK.BAND_NONE (256 * y)

/-- ACQUIRE: the LFSR loads the seed, and the loop closes in a band (R179, R188). -/
def State.acquire (s : State) (y : Nat) : State :=
  let seed := s.reg (Reg.CLK.PLL_SEED y)
  let s : State := { s with clk := { s.clk with
    lfsr := sparsePut (fun _ => 0) y (if seed = 0 then 0xFFFFFFFF else seed) s.clk.lfsr } }
  s.setPll y 1

/-! ## Loss of lock -/

/-- A loss of lock counted and raised (R187). -/
def State.lol (s : State) (y : Nat) : State :=
  ((s.count (Reg.CLK.LOL_CNT y) 1).setSta (Reg.CLK.PLL_STA y) Fld.CLK.PLL_STA.LOL).raise Ev.CLK.PLL_LOL (256 * y)

/-- A synthesiser holds its outputs low and enters STOPPED (R190 to R192); it restarts at once while its reference is
present, but PLL-R waits for one of its cores to lock. -/
def State.stopPll (s : State) (y : Nat) : State :=
  let s : State := (s.setPll y 5).settleOutputs y
  let s : State := (s.setSta (Reg.CLK.PLL_STA y) Fld.CLK.PLL_STA.STOPPED).raise Ev.CLK.PLL_STOP (256 * y)
  if y ≠ 0 && s.refPresent y then s.acquire y else s

/-- PLL-D or PLL-N loses lock (R192); a loss during SETTLE returns to ACQUIRE (R188). -/
def State.loseDN (s : State) (y : Nat) : State :=
  if s.pll y = 2 then (s.lol y).setPll y 1 else if s.pll y = 3 then (s.lol y).stopPll y else s

/-- PLL-D and PLL-N lose their reference with PLL-R output 5 (R190). -/
def State.phyLost (s : State) : State := if s.outRuns 0 5 then s else (s.loseDN 2).loseDN 3

/-- PLL-D and PLL-N restart once their reference is present again (R192). -/
def State.phyBack (s : State) : State :=
  [2, 3].foldl (fun s y => if s.pll y = 5 && s.refPresent y then s.acquire y else s) s

/-- The switch of every output to the twin core (R189). -/
def State.twinSwap (s : State) : State :=
  let a := Reg.CLK.PLL_STATE 0
  let s : State := s.setFld a Fld.CLK.PLL_STATE.core (1 - s.fld a Fld.CLK.PLL_STATE.core)
  ((s.count (Reg.CLK.SWAP_CNT 0) 1).setSta (Reg.CLK.PLL_STA 0) Fld.CLK.PLL_STA.TWIN_SWAP).raise Ev.CLK.TWIN_SWAP 0

/-- No core of PLL-R is locked (R190). -/
def State.pllrStop (s : State) : State :=
  let s : State := s.setFld (Reg.CLK.PLL_STATE 0) Fld.CLK.PLL_STATE.twin_locked 0
  (s.stopPll 0).phyLost

/-- The active core of a synthesiser loses lock, and the synthesiser acts according to its kind (R187 to R192). -/
def State.loseActive (s : State) (y : Nat) : State :=
  match y, s.pll y with
  | 0, 2 => (s.lol 0).setPll 0 1
  | 0, 3 =>
    if s.flag (Reg.CLK.PLL_STATE 0) Fld.CLK.PLL_STATE.twin_locked then
      ((s.lol 0).twinSwap).setFld (Reg.CLK.PLL_STATE 0) Fld.CLK.PLL_STATE.twin_locked 0
    else (s.lol 0).pllrStop
  | 1, 2 => (s.lol 1).setPll 1 1
  | 1, 3 =>
    let s : State := ((s.lol 1).setPll 1 4).setSta (Reg.CLK.PLL_STA 1) Fld.CLK.PLL_STA.HOLDOVER
    let s : State := (s.setFld Reg.TIME.TIME_STATE Fld.TIME.TIME_STATE.tbm_holdover 1).setFld Reg.TIME.TIME_STATE
      Fld.TIME.TIME_STATE.track_hold 1
    s.raise Ev.CLK.HOLDOVER_START 256
  | 2, _ => s.loseDN 2
  | 3, _ => s.loseDN 3
  | _, _ => s

/-! ## Commands -/

/-- PLL_ENABLE (R172, R177, R180, R181, R188). -/
def execPllEnable (y : Fin 4) (mclk : Nat) (s : State) : Host.Outcome State Fault Refusal :=
  let y := y.val
  let s : State := s.accept (Reg.CLK.PLL_CMD y) Fld.CLK.PLL_CMD.enable_go
  let s : State := if y = 1 then { s with clk := { s.clk with mclk := mclk } } else s
  let sel := if y = 0 then s.fld (Reg.CLK.PLL_CFG 0) Fld.CLK.PLL_CFG.ref_sel else 0
  if s.pll y ≠ 0 || !s.blockOn 6 then .next s
  else if y = 0 && sel = 2 && s.live (outScope 0 6) then
    .next (s.setSta (Reg.CLK.PLL_STA 0) Fld.CLK.PLL_STA.REF_LOOP)
  else if !s.pfdOk y sel then .next (s.bandNone y)
  else
    let first := y = 0 && !s.clk.firstDone
    let (n, s) := if first then s.draw else (0, s)
    let band := if first then some (Config.freeNat 11 n % 64) else s.findBand y sel
    match band with
    | none => .next (s.bandNone y)
    | some b =>
      let s : State := if y = 0 then { s with clk := { s.clk with firstDone := true } } else s
      let s : State := s.setFld (Reg.CLK.PLL_STATE y) Fld.CLK.PLL_STATE.band b
      .next ((s.setFld (Reg.CLK.PLL_STATE y) Fld.CLK.PLL_STATE.ref_in_use sel).acquire y)

/-- PLL_DISABLE (R195): the outputs are gated and the synthesiser enters OFF. -/
def execPllDisable (y : Fin 4) (s : State) : Host.Outcome State Fault Refusal :=
  let y := y.val
  let s : State := s.accept (Reg.CLK.PLL_CMD y) Fld.CLK.PLL_CMD.disable_go
  if s.pll y = 0 then .next s
  else
    let s : State := if s.pll y = 4 then s.setFld Reg.TIME.TIME_STATE Fld.TIME.TIME_STATE.tbm_holdover 0 else s
    let s : State := (s.setPll y 0).settleOutputs y
    .next (if y = 0 then (s.setFld (Reg.CLK.PLL_STATE 0) Fld.CLK.PLL_STATE.twin_locked 0).phyLost else s)

/-- TWIN_SWAP_GO (R189): without a locked twin it sets BUSY_DROP. -/
def execTwinSwapGo (s : State) : Host.Outcome State Fault Refusal :=
  let s : State := s.accept (Reg.CLK.PLL_CMD 0) Fld.CLK.PLL_CMD.twin_swap_go
  if s.pll 0 = 3 && s.flag (Reg.CLK.PLL_STATE 0) Fld.CLK.PLL_STATE.twin_locked then .next s.twinSwap
  else .next (s.busyDrop 6 (s.issuer (Reg.CLK.PLL_CMD 0)))

/-- REF_REVERT_GO (R177): accepted while the selected reference is valid. -/
def execRefRevertGo (s : State) : Host.Outcome State Fault Refusal :=
  let s : State := s.accept (Reg.CLK.PLL_CMD 0) Fld.CLK.PLL_CMD.ref_revert_go
  let sel := s.fld (Reg.CLK.PLL_CFG 0) Fld.CLK.PLL_CFG.ref_sel
  let valid := (sel = 0 && !s.clk.refclkLost) || (sel = 2 && !s.clk.syncLost)
  if s.pll 0 ≠ 0 && decide (s.fld (Reg.CLK.PLL_STATE 0) Fld.CLK.PLL_STATE.ref_in_use ≠ sel) && valid then
    let s : State := s.setFld (Reg.CLK.PLL_STATE 0) Fld.CLK.PLL_STATE.ref_in_use sel
    .next ((s.setSta (Reg.CLK.PLL_STA 0) Fld.CLK.PLL_STA.REF_SWITCH).raise Ev.CLK.REF_SWITCH 0)
  else .next s

/-- OUT_ENABLE (R177, R184, R186): an enabled output opens when its synthesiser runs; a paired output follows. -/
def execOutEnable (y : Fin 4) (o : Fin 8) (s : State) : Host.Outcome State Fault Refusal :=
  let y := y.val
  let o := o.val
  if s.pairOut y o ≠ o then .next s
  else
    let s : State := s.accept (Reg.CLK.OUT_CMD y o) Fld.CLK.OUT_CMD.enable_go
    if !outUsed y o || !s.blockOn 6 || s.live (outScope y o) then .next s
    else if y = 0 && o = 6 && s.pll 0 ≠ 0 && decide (s.fld (Reg.CLK.PLL_CFG 0) Fld.CLK.PLL_CFG.ref_sel = 2) then
      .next (s.setSta (Reg.CLK.PLL_STA 0) Fld.CLK.PLL_STA.REF_LOOP)
    else
      let s : State := s.setScope (outScope y o) .run
      let s : State := if y = 2 && o = 0 && s.pairOut 2 1 = 0 then s.setScope (outScope 2 1) .run else s
      .next (s.settleOutputs y).phyBack

/-- OUT_DISABLE (R184, R186). -/
def execOutDisable (y : Fin 4) (o : Fin 8) (s : State) : Host.Outcome State Fault Refusal :=
  let y := y.val
  let o := o.val
  if s.pairOut y o ≠ o then .next s
  else
    let s : State := s.accept (Reg.CLK.OUT_CMD y o) Fld.CLK.OUT_CMD.disable_go
    let s : State := s.setScope (outScope y o) .off
    let s : State := if y = 2 && o = 0 && s.pairOut 2 1 = 0 then s.setScope (outScope 2 1) .off else s
    .next (s.settleOutputs y).phyLost

/-- DELAY_COMMIT (R183): refused when it lowers the delay of a running output whose divider is below 7. -/
def execDelayCommit (y : Fin 4) (o : Fin 8) (s : State) : Host.Outcome State Fault Refusal :=
  let y := y.val
  let o := s.pairOut y o.val
  let a := Reg.CLK.OUT_DELAY y o
  if s.outRuns y o && decide (s.fld (Reg.CLK.OUT_CFG y o) Fld.CLK.OUT_CFG.div + 1 < 7) &&
      decide (s.stagedFld a Fld.CLK.OUT_DELAY.delay < s.fld a Fld.CLK.OUT_DELAY.delay) then
    .next (s.setSta (Reg.CLK.PLL_STA y) Fld.CLK.PLL_STA.DELAY_REFUSED)
  else .next (s.commitScope (outScope y o))

/-- REF_LOSS raised for a synthesiser. -/
def State.refLossEvent (s : State) (y : Nat) : State :=
  (s.setSta (Reg.CLK.PLL_STA y) Fld.CLK.PLL_STA.REF_LOSS).raise Ev.CLK.REF_LOSS (256 * y)

/-- The bus phase is lost (R320). -/
def State.busPhaseLost (s : State) : State :=
  if s.flag Reg.SYNC.SYNC_STATE Fld.SYNC.SYNC_STATE.phase_valid then
    (s.setFld Reg.SYNC.SYNC_STATE Fld.SYNC.SYNC_STATE.phase_valid 0).blkEvent 19 9 Ev.SYNC.BUS_PHASE_LOST 0
  else s

/-- PLL-R's selected reference is lost (R177): with ref_auto it moves onto the TCXO with its outputs running, otherwise
both cores lose lock. -/
def State.pllrRefLost (s : State) : State :=
  let s : State := s.refLossEvent 0
  if s.fld (Reg.CLK.PLL_STATE 0) Fld.CLK.PLL_STATE.ref_in_use = 1 then s
  else if s.flag (Reg.CLK.PLL_CFG 0) Fld.CLK.PLL_CFG.ref_auto then
    let s : State := s.setFld (Reg.CLK.PLL_STATE 0) Fld.CLK.PLL_STATE.ref_in_use 1
    let s : State := (s.setSta (Reg.CLK.PLL_STA 0) Fld.CLK.PLL_STA.REF_SWITCH).raise Ev.CLK.REF_SWITCH 0
    if s.fld (Reg.CLK.PLL_CFG 0) Fld.CLK.PLL_CFG.ref_sel = 2 then s.busPhaseLost else s
  else (s.setFld (Reg.CLK.PLL_STATE 0) Fld.CLK.PLL_STATE.twin_locked 0).loseActive 0

/-- REF_LOSS (R176): the lock of every synthesiser that uses the reference ends. -/
def execRefLoss (r : RefPin) (s : State) : Host.Outcome State Fault Refusal :=
  let sel := s.fld (Reg.CLK.PLL_CFG 0) Fld.CLK.PLL_CFG.ref_sel
  match r with
  | .refclk =>
    if s.clk.refclkLost then .next s
    else
      let s : State := { s with clk := { s.clk with refclkLost := true } }
      .next (if s.pll 0 ≠ 0 && sel = 0 then s.pllrRefLost else s)
  | .syncClk =>
    if s.clk.syncLost then .next s
    else
      let s : State := { s with clk := { s.clk with syncLost := true } }
      .next (if s.pll 0 ≠ 0 && sel = 2 then s.pllrRefLost else s)
  | .mclk =>
    if s.clk.mclkLost then .next s
    else
      let s : State := { s with clk := { s.clk with mclkLost := true } }
      .next (if s.pll 1 ≠ 0 then (s.refLossEvent 1).loseActive 1 else s)

/-- A synthesiser's measurements, which the spec leaves to the part. -/
def State.measurePll (s : State) (y : Nat) : State :=
  let (n, s) := s.draw
  let (k, s) := s.draw
  (s.setFld (Reg.CLK.PLL_MEAS y) Fld.CLK.PLL_MEAS.fvco (Config.freeNat 12 n)).setFld (Reg.CLK.PLL_PHERR y)
    Fld.CLK.PLL_PHERR.pherr (Config.freeNat 13 k)

/-- PLL_LOCK (R188 to R191): an acquiring synthesiser enters SETTLE; the twin core of PLL-R reports locked; a stopped
PLL-R restarts from SETTLE on the core that locked; a lock in holdover ends it. -/
def execPllLock (y : Fin 4) (twin : Bool) (s : State) : Host.Outcome State Fault Refusal :=
  let y := y.val
  if !s.refPresent y then .next s
  else
    let s : State := s.measurePll y
    match y, twin, s.pll y with
    | 0, true, 5 =>
      let a := Reg.CLK.PLL_STATE 0
      .next (((s.setFld a Fld.CLK.PLL_STATE.core (1 - s.fld a Fld.CLK.PLL_STATE.core)).acquire 0).setPll 0 2)
    | 0, true, 0 => .next s
    | 0, true, _ => .next (s.setFld (Reg.CLK.PLL_STATE 0) Fld.CLK.PLL_STATE.twin_locked 1)
    | 0, false, 5 => .next ((s.acquire 0).setPll 0 2)
    | _, _, 1 => .next (s.setPll y 2)
    | _, _, 4 =>
      let s : State := (s.setPll 1 3).setFld Reg.TIME.TIME_STATE Fld.TIME.TIME_STATE.tbm_holdover 0
      .next (s.raise Ev.CLK.HOLDOVER_END 256)
    | _, _, _ => .next s

/-- SETTLE_END (R188): RUN, the enabled outputs start, and PLL_LOCKED is raised. -/
def execSettleEnd (y : Fin 4) (s : State) : Host.Outcome State Fault Refusal :=
  let y := y.val
  if s.pll y ≠ 2 then .next s
  else
    let s : State := (s.setPll y 3).settleOutputs y
    let s : State := (s.setSta (Reg.CLK.PLL_STA y) Fld.CLK.PLL_STA.LOCKED).raise Ev.CLK.PLL_LOCKED (256 * y)
    .next s.phyBack

/-- PLL_LOL (R187): loss of lock of the active core, or of PLL-R's twin core. -/
def execPllLol (y : Fin 4) (twin : Bool) (s : State) : Host.Outcome State Fault Refusal :=
  if y = 0 && twin then .next (s.setFld (Reg.CLK.PLL_STATE 0) Fld.CLK.PLL_STATE.twin_locked 0)
  else .next (s.loseActive y.val)

/-- HOLDOVER_EXPIRY (R191): PLL-M gates MACH and enters STOPPED, and restarts once MCLK is present. -/
def execHoldoverExpiry (s : State) : Host.Outcome State Fault Refusal :=
  if s.pll 1 ≠ 4 then .next s
  else .next ((s.setFld Reg.TIME.TIME_STATE Fld.TIME.TIME_STATE.tbm_holdover 0).stopPll 1)

/-- REF_RETURN (R191, R192): the reference is valid again; a stopped PLL-M restarts. -/
def execRefReturn (r : RefPin) (s : State) : Host.Outcome State Fault Refusal :=
  match r with
  | .refclk => .next { s with clk := { s.clk with refclkLost := false } }
  | .syncClk => .next { s with clk := { s.clk with syncLost := false } }
  | .mclk =>
    let s : State := { s with clk := { s.clk with mclkLost := false } }
    .next (if s.pll 1 = 5 then s.acquire 1 else s)

end Sys2Proof.Machine
end

