-- ==== Sys2Proof/Machine/TimeBase.lean ====
section
/-! DEFINITION. Time bases, TDC channels, interval and regression units, and PPS (ch. 07). Network time lies with the
host rings in NetPort. -/

namespace Sys2Proof.Machine

/-! ## The passage of time -/

/-- A State one tick later, and nothing else changed. -/
def State.ticked (s : State) : State := { s with time := { s.time with tick := s.time.tick + 1 } }

/-- One tick of 50 ns, the period at which REF and SAMP edges coincide (R208): 12 SAMP edges, 5 REF edges, and the MACH
cycles of that time, for each domain that runs (R199, R201, R205). -/
def State.advanceTime (s : State) : State :=
  let s : State := if s.running .samp then
      { s with time := { s.time with tbs := s.time.tbs + BitVec.ofNat 64 (12 * 16384) } } else s
  let s : State := if s.running .ref then s.addTbw (5 * s.increment : Nat) else s
  let s : State := if s.running .mach then
      let mpb := s.fld Reg.TIME.TBM_CFG Fld.TIME.TBM_CFG.mpb + 1
      let t := s.time.cycle.toNat + Config.machCycles s.time.tick
      { s with time := { s.time with cycle := BitVec.ofNat 4 (t % mpb) } }.advanceBuckets (t / mpb)
    else s
  s.ticked

/-- SNAP_GO (R208): the three time bases latched at one instant. While REF or SAMP is stopped the instant does not
come, and the command stays pending. -/
def execSnapGo (s : State) : Host.Outcome State Fault Refusal :=
  if !(s.running .ref && s.running .samp) then .next s
  else
    let s : State := s.accept Reg.TIME.TIME_CMD Fld.TIME.TIME_CMD.snap_go
    let m := if s.running .mach then s.tbm.toNat else 2 ^ 64 - 1
    let s : State := s.setReg64 Reg.TIME.SNAP_TBS_LO Reg.TIME.SNAP_TBS_HI s.time.tbs.toNat
    let s : State := s.setReg64 Reg.TIME.SNAP_TBM_LO Reg.TIME.SNAP_TBM_HI m
    let s : State := s.setReg64 Reg.TIME.SNAP_TBW_LO Reg.TIME.SNAP_TBW_HI s.time.tbwNs.toNat
    let flags := putField Fld.TIME.SNAP_FLAGS.frac (s.time.tbwFrac.toNat / 2 ^ 16)
      (putField Fld.TIME.SNAP_FLAGS.holdover (s.fld Reg.TIME.TIME_STATE Fld.TIME.TIME_STATE.tbm_holdover)
        (putField Fld.TIME.SNAP_FLAGS.estimated (s.fld Reg.TIME.TIME_STATE Fld.TIME.TIME_STATE.tbm_estimated) 0))
    let s : State := s.setReg Reg.TIME.SNAP_FLAGS flags
    .next (s.setReg Reg.TIME.SNAP_SEQ (s.reg Reg.TIME.SNAP_SEQ + 1))

/-- 9.99 ns and 10.01 ns in 2^-32 ns, as bounds: an increment i is accepted when 999 · 2^32 ≤ 100 · i ≤ 1001 · 2^32. -/
def incrOk (i : Nat) : Bool := decide (999 * 2 ^ 32 ≤ 100 * i) && decide (100 * i ≤ 1001 * 2 ^ 32)

/-- INCR_COMMIT_GO (R205). -/
def execIncrCommitGo (s : State) : Host.Outcome State Fault Refusal :=
  if !s.running .ref then .next s
  else
    let s : State := s.accept Reg.TIME.TIME_CMD Fld.TIME.TIME_CMD.incr_commit_go
    let i := (s.stagedReg Reg.TIME.TB_W_INCR_LO).toNat + 2 ^ 32 * (s.stagedReg Reg.TIME.TB_W_INCR_HI).toNat
    if incrOk i then .next (s.commitRegs 7 [Reg.TIME.TB_W_INCR_LO, Reg.TIME.TB_W_INCR_HI])
    else .next (s.blkEvent 7 9 Ev.TIME.INCR_RANGE 0)

/-- ONCE_GO (R206): the step is added on one REF edge; the sign goes into the event. -/
def execOnceGo (s : State) : Host.Outcome State Fault Refusal :=
  if !s.running .ref then .next s
  else
    let s : State := s.accept Reg.TIME.TIME_CMD Fld.TIME.TIME_CMD.once_go
    let s : State := s.commitRegs 7 [Reg.TIME.TB_W_ONCE_LO, Reg.TIME.TB_W_ONCE_HI, Reg.TIME.TB_W_ONCE_FRAC]
    let ns := signedOf 64 (s.reg64 Reg.TIME.TB_W_ONCE_LO Reg.TIME.TB_W_ONCE_HI)
    let d := ns * 2 ^ 32 + (s.reg Reg.TIME.TB_W_ONCE_FRAC).toNat
    let s : State := (s.addTbw d).setFld Reg.TIME.TIME_STATE Fld.TIME.TIME_STATE.tbw_set 1
    .next (s.blkEvent 7 8 Ev.TIME.TBW_STEP (bit (decide (ns < 0))))

/-- TBM_COMMIT_GO (R203): the staged turn waits for the next turn boundary. -/
def execTbmCommitGo (s : State) : Host.Outcome State Fault Refusal :=
  let s : State := s.accept Reg.TIME.TIME_CMD Fld.TIME.TIME_CMD.tbm_commit_go
  let s : State := s.commitRegs 7 [Reg.TIME.TBM_TURN_LOAD_LO, Reg.TIME.TBM_TURN_LOAD_HI]
  let t := s.reg64 Reg.TIME.TBM_TURN_LOAD_LO Reg.TIME.TBM_TURN_LOAD_HI
  .next { s with tim := { s.tim with turnLoad := some (BitVec.ofNat 48 t) } }

/-- TURN_LOAD_APPLY (R203, R204): a turn boundary comes while a load waits: the turn takes the loaded value. -/
def execTurnLoadApply (s : State) : Host.Outcome State Fault Refusal :=
  match s.tim.turnLoad with
  | none => .next s
  | some l =>
    if !s.running .mach then .next s
    else
      let s : State := { s with time := { s.time with bucket := 0, cycle := 0, turn := l },
                                tim := { s.tim with turnLoad := none } }
      .next (s.setFld Reg.TIME.TIME_STATE Fld.TIME.TIME_STATE.tbm_estimated 0)

/-- FIDUCIAL (R202, R204): an edge on the input that fid_sel names. -/
def execFiducial (input : BitVec 5) (s : State) : Host.Outcome State Fault Refusal :=
  if input = 0 || decide (s.fld Reg.TIME.TBM_CFG Fld.TIME.TBM_CFG.fid_sel ≠ input.toNat) || !s.running .mach ||
      !s.blockOn 7 then .next s
  else
    let fb := s.fld Reg.TIME.TBM_HARM Fld.TIME.TBM_HARM.fid_bucket
    let settle (s : State) : State := s.setFld Reg.TIME.TIME_STATE Fld.TIME.TIME_STATE.tbm_estimated 0
    if s.time.bucket.toNat = fb && s.time.cycle = 0 then .next (settle s)
    else
      let s : State := (s.count Reg.TIME.TBM_SLIP_CNT 1).blkEvent 7 10 Ev.TIME.TBM_SLIP 0
      if s.flag Reg.TIME.TBM_CFG Fld.TIME.TBM_CFG.fid_realign then
        .next (settle { s with time := { s.time with bucket := BitVec.ofNat 16 fb, cycle := 0 } })
      else .next s

/-! ## TDC channels -/

def State.tdc (s : State) (c : Nat) : TdcChan := sparseGet (fun _ => TdcChan.fresh) s.tim.tdc c

def State.setTdc (s : State) (c : Nat) (v : TdcChan) : State :=
  { s with tim := { s.tim with tdc := sparsePut (fun _ => TdcChan.fresh) c v s.tim.tdc } }

/-- The bytes of a stamp record (R212) as one number, byte 0 lowest. -/
def TdcRecord.value (r : TdcRecord) : Nat :=
  r.tbs.toNat + 2 ^ 64 * r.coarse.toNat + 2 ^ 104 * r.fine.toNat + 2 ^ 120 * r.flags.toNat

/-- The head record and the level in the channel's registers (R226). -/
def State.tdcHead (s : State) (c : Nat) : State :=
  let q := (s.tdc c).fifo
  let v := (q.head?.map TdcRecord.value).getD 0
  let s : State := s.setFld (Reg.TIME.TDC_LEVEL c) Fld.TIME.TDC_LEVEL.level q.length
  (((s.setReg (Reg.TIME.TDC_HEAD0 c) (BitVec.ofNat 32 v)).setReg (Reg.TIME.TDC_HEAD1 c) (BitVec.ofNat 32 (v / 2 ^ 32))).setReg
    (Reg.TIME.TDC_HEAD2 c) (BitVec.ofNat 32 (v / 2 ^ 64))).setReg (Reg.TIME.TDC_HEAD3 c) (BitVec.ofNat 32 (v / 2 ^ 96))

/-- Whether a channel stamps an edge of a polarity (R211). -/
def State.tdcEdge (s : State) (c : Nat) (falling : Bool) : Bool :=
  match s.fld (Reg.TIME.TDC_CFG c) Fld.TIME.TDC_CFG.edge with
  | 0 => !falling
  | 1 => falling
  | _ => true

/-- The FIFO of R213: a stamp that finds it full is dropped, and the next stored record carries LOST. -/
def State.tdcStore (s : State) (c : Nat) (r : TdcRecord) : State :=
  if !s.flag (Reg.TIME.TDC_CFG c) Fld.TIME.TDC_CFG.fifo_en then s
  else
    let ch := s.tdc c
    if 64 ≤ ch.fifo.length then
      (((s.setTdc c { ch with lost := true }).count (Reg.TIME.LOST_CNT c) 1).blkEvent 7 12 Ev.TIME.TDC_LOST c)
    else
      let r := if ch.lost then { r with flags := r.flags ||| 2 } else r
      (s.setTdc c { ch with fifo := ch.fifo ++ [r], lost := false }).tdcHead c

/-! ### Interval units -/

def State.ival (s : State) (i : Nat) : IvalUnit := sparseGet (fun _ => IvalUnit.fresh) s.tim.ival i

def State.setIval (s : State) (i : Nat) (v : IvalUnit) : State :=
  { s with tim := { s.tim with ival := sparsePut (fun _ => IvalUnit.fresh) i v s.tim.ival } }

/-- 2^39 coarse periods in TB-S units, the saturation of an interval (R214); it is no whole number of units. -/
def ivalLimit : Int := freeDiv 20 (2 ^ 39 * 32768) 10

/-- Δ and the flags of an interval (R214). -/
def ivalResult (a b : DWord × BitVec 40) : Int × Nat :=
  let d := (b.1 - a.1).toInt
  let wrap := if 0 ≤ d then decide (b.2.toNat < a.2.toNat) else decide (a.2.toNat < b.2.toNat)
  if d.natAbs < 20 then (0, 1 + 2 + (if wrap then 8 else 0))
  else (clampInt (-ivalLimit) ivalLimit d, 1 + (if d < 0 then 4 else 0) + (if wrap then 8 else 0))

/-- An interval unit reports and is no longer armed. -/
def State.ivalReport (s : State) (i : Nat) (d : Int) (flags : Nat) : State :=
  let s : State := s.setReg64 (Reg.TIME.IVAL_LO i) (Reg.TIME.IVAL_HI i) (BitVec.ofInt 64 d).toNat
  ((s.setFld (Reg.TIME.IVAL_FLAGS i) Fld.TIME.IVAL_FLAGS.flags flags).setIval i IvalUnit.fresh).setScope ⟨.ival, i⟩ .off

/-- A stamp of a channel seen by an interval unit (R214). -/
def State.ivalTake (s : State) (i c : Nat) (x : DWord × BitVec 40) : State :=
  if s.hiddenScope ⟨.ival, i⟩ ≠ .run then s
  else
    let u := s.ival i
    let isStart := s.fld (Reg.TIME.IVAL_CFG i) Fld.TIME.IVAL_CFG.start = c
    let isStop := s.fld (Reg.TIME.IVAL_CFG i) Fld.TIME.IVAL_CFG.stop = c
    let u := if isStart && u.start.isNone then { u with start := some x }
      else if isStop && u.stop.isNone then { u with stop := some x } else u
    match u.start, u.stop with
    | some a, some b => s.ivalReport i (ivalResult a b).1 (ivalResult a b).2
    | _, _ => s.setIval i u

/-! ### Regression units -/

def State.freq (s : State) (r : Nat) : FreqUnit := sparseGet (fun _ => FreqUnit.fresh) s.tim.freq r

def State.setFreq (s : State) (r : Nat) (v : FreqUnit) : State :=
  { s with tim := { s.tim with freq := sparsePut (fun _ => FreqUnit.fresh) r v s.tim.freq } }

/-- Whether regression unit 0 tracks the machine (R217). -/
def State.tracking (s : State) : Bool := s.flag Reg.TIME.TRACK_CFG Fld.TIME.TRACK_CFG.track_en

/-- The channel of a regression unit; unit 0 takes channel 8 while it tracks (R217). -/
def State.freqChannel (s : State) (r : Nat) : Nat :=
  if r = 0 && s.tracking then 8 else s.fld (Reg.TIME.FREQ_CFG r) Fld.TIME.FREQ_CFG.channel

/-- A stamp seen by a regression unit. -/
def State.freqTake (s : State) (r c : Nat) (t : DWord) : State :=
  if s.hiddenScope ⟨.regr, r⟩ = .run && s.freqChannel r = c then
    s.setFreq r { s.freq r with stamps := (s.freq r).stamps ++ [t] }
  else s

/-- Edges of a TDC channel delivered to its internal consumers, none of which can lose one (R213). -/
def State.tdcDeliver (s : State) (c : Nat) (x : DWord × BitVec 40) : State :=
  let s : State := (List.range 4).foldl (fun s i => s.ivalTake i c x) s
  (List.range 4).foldl (fun s r => s.freqTake r c x.1) s

/-- An edge on a channel (R211 to R213): whether it was stamped, and the state after. 2.5 ns is 49,152/5 units. -/
def State.tdcStamped (s : State) (c : Nat) (falling : Bool) (tbs : DWord) (coarse : BitVec 40) (fine : BitVec 10) :
    Bool × State :=
  if s.scopeState ⟨.tdc, c⟩ ≠ .run || !s.running .tdc || !s.tdcEdge c falling then (false, s)
  else
    let ch := s.tdc c
    let pre := if c = 8 then 2 ^ s.fld (Reg.TIME.TDC_CFG 8) Fld.TIME.TDC_CFG.prescale else 1
    if ch.edges + 1 < pre then (false, s.setTdc c { ch with edges := ch.edges + 1 })
    else
      let dead := match ch.last with
        | some l => decide (5 * (tbs - l).toNat < 49152)
        | none => false
      if dead then
        let s : State := s.setTdc c { ch with edges := 0, missed := true }
        (false, (s.count (Reg.TIME.MISSED_CNT c) 1).blkEvent 7 11 Ev.TIME.TDC_MISSED c)
      else
        let r : TdcRecord := { tbs := tbs, coarse := coarse, fine := fine,
                               flags := BitVec.ofNat 8 (bit ch.missed + 4 * bit ch.cal) }
        let s : State := s.setTdc c { ch with edges := 0, missed := false, cal := false, last := some tbs }
        (true, (s.tdcStore c r).tdcDeliver c (tbs, coarse))

/-- TDC_POP (R213). -/
def execTdcPop (c : Fin 20) (s : State) : Host.Outcome State Fault Refusal :=
  let c := c.val
  let s : State := s.accept (Reg.TIME.TDC_CMD c) Fld.TIME.TDC_CMD.pop_go
  .next ((s.setTdc c { s.tdc c with fifo := (s.tdc c).fifo.tail }).tdcHead c)

/-- TDC_ENABLE (R41, R557). -/
def execTdcEnable (c : Fin 20) (s : State) : Host.Outcome State Fault Refusal :=
  let s : State := s.accept (Reg.TIME.TDC_CMD c.val) Fld.TIME.TDC_CMD.enable_go
  .next (if s.blockOn 7 then s.setScope ⟨.tdc, c.val⟩ .run else s)

/-- TDC_DISABLE (R557): between two stamps. -/
def execTdcDisable (c : Fin 20) (s : State) : Host.Outcome State Fault Refusal :=
  .next ((s.accept (Reg.TIME.TDC_CMD c.val) Fld.TIME.TDC_CMD.disable_go).setScope ⟨.tdc, c.val⟩ .off)

/-- IVAL_ARM (R214). -/
def execIvalArm (i : Fin 4) (s : State) : Host.Outcome State Fault Refusal :=
  let i := i.val
  let s : State := s.accept (Reg.TIME.IVAL_CMD i) Fld.TIME.IVAL_CMD.arm_go
  if !s.blockOn 7 then .next s
  else .next (((s.setIval i IvalUnit.fresh).setScope ⟨.ival, i⟩ .run).setFld (Reg.TIME.IVAL_FLAGS i)
    Fld.TIME.IVAL_FLAGS.flags 0)

/-- IVAL_TIMEOUT (R214): done and NOSTOP, Δ 0; a timeout of 0 never expires. -/
def execIvalTimeout (i : Fin 4) (s : State) : Host.Outcome State Fault Refusal :=
  if s.hiddenScope ⟨.ival, i.val⟩ ≠ .run || s.fld (Reg.TIME.IVAL_CFG i.val) Fld.TIME.IVAL_CFG.timeout = 0 then .next s
  else .next (s.ivalReport i.val 0 17)

/-! ## Regression -/

/-- A unit begins a gate with no stamps. -/
def State.freqBegin (s : State) (r : Nat) : State :=
  (s.setFreq r FreqUnit.fresh).setScope ⟨.regr, r⟩ .run

/-- FREQ_START (R215). -/
def execFreqStart (r : Fin 4) (s : State) : Host.Outcome State Fault Refusal :=
  let s : State := s.accept (Reg.TIME.FREQ_CMD r.val) Fld.TIME.FREQ_CMD.start_go
  if !s.blockOn 7 || s.hiddenScope ⟨.regr, r.val⟩ = .run then .next s else .next (s.freqBegin r.val)

/-- FREQ_STOP (R227): after the current gate. Unit 0 runs on while it tracks. -/
def execFreqStop (r : Fin 4) (s : State) : Host.Outcome State Fault Refusal :=
  let s : State := s.accept (Reg.TIME.FREQ_CMD r.val) Fld.TIME.FREQ_CMD.stop_go
  if s.hiddenScope ⟨.regr, r.val⟩ ≠ .run then .next s
  else .next (s.setFreq r.val { s.freq r.val with stopAfter := true })

/-- The integer square root, by bits from the highest. -/
def isqrtBits : Nat → Nat → Nat → Nat
  | 0, r, _ => r
  | k + 1, r, n => let t := r + 2 ^ k; isqrtBits k (if t * t ≤ n then t else r) n

def isqrt (n : Nat) : Nat := isqrtBits (n.log2 / 2 + 1) 0 n

/-- Every m-th entry of a list, from the first. -/
def everyNth (m : Nat) (l : List DWord) : List DWord := (l.zipIdx.filter (fun e => e.2 % m = 0)).map (·.1)

/-- log2 of the smallest power of two m, up to 2^16, with an expected count of at most 65,536 after thinning (R215). -/
def thinning (expected : Nat) : Nat :=
  ((List.range 17).find? (fun k => decide (expected ≤ 65536 * 2 ^ k))).getD 16

/-- The expected count of edges in a gate of g µs (R215): from the previous b, or from the edges of the first 1 µs. -/
def expectedEdges (g : Nat) (prev : Option Nat) (l : List DWord) : Nat :=
  match prev, l with
  | some b, _ => if b = 0 then 0 else g * 3932160 * 2 ^ 32 / b
  | none, [] => 0
  | none, t :: _ => g * l.countP (fun x => decide ((x - t).toNat < 3932160))

/-- The points (n, t − t_first) of a gate (R215): n from the previous b, or the edges in order on a first gate. -/
def gatePoints (m : Nat) (prev : Option Nat) (l : List DWord) : List (Int × Int) :=
  match everyNth m l with
  | [] => []
  | t :: r => (t :: r).zipIdx.map (fun e =>
      let d := ((e.1 - t).toNat : Int)
      match prev with
      | some b => (if b = 0 then (e.2 : Int) * m else roundDivAway (d * 2 ^ 32) b, d)
      | none => ((e.2 : Int) * m, d))

/-- The least-squares fit t = a + b n over points, as numerators over one denominator: (A, B, D, S) with a = A/D,
b = B/D and the sum of squared residuals S/D. D is 0 where no line is determined. -/
def fitLine (p : List (Int × Int)) : Int × Int × Int × Int :=
  let n : Int := p.length
  let sn := (p.map (·.1)).sum
  let st := (p.map (·.2)).sum
  let snn := (p.map (fun x => x.1 * x.1)).sum
  let snt := (p.map (fun x => x.1 * x.2)).sum
  let stt := (p.map (fun x => x.2 * x.2)).sum
  let d := n * snn - sn * sn
  let a := st * snn - sn * snt
  let b := n * snt - sn * st
  (a, b, d, d * stt - a * st - b * snt)

/-- A square root of a quotient whose rounding the spec does not state. -/
def freeSqrt (site : Nat) (num den : Nat) : Nat :=
  let r := isqrt (num / den)
  if r * r * den = num then r else r + (if Config.roundsUp site num den then 1 else 0)

/-- A gate's B delivered to tracking (R217): B is accepted when the residual rms is at most TRACK_LIMIT; `none` is a
gate that ended with NOFIT. -/
def State.track (s : State) (result : Option (Nat × Nat)) : State :=
  let reject (nofit : Nat) (s : State) : State :=
    (s.setFld Reg.TIME.TIME_STATE Fld.TIME.TIME_STATE.track_hold 1).blkEvent 7 13 Ev.TIME.TRACK_REJECT nofit
  match result with
  | none => reject 1 s
  | some (period, rms) =>
    if s.fld Reg.TIME.TRACK_LIMIT Fld.TIME.TRACK_LIMIT.rms < rms then reject 0 s
    else
      let num := s.fld Reg.TIME.TRACK_RATIO Fld.TIME.TRACK_RATIO.num
      let den := s.fld Reg.TIME.TRACK_RATIO Fld.TIME.TRACK_RATIO.den
      let (n, s) := if den = 0 then s.draw else (0, s)
      let b := if den = 0 then Config.freeNat 21 n else (freeDiv 22 (period * num : Nat) den).toNat
      let a := s.reg64 (Reg.TIME.RES_PHASE_LO 0) (Reg.TIME.RES_PHASE_HI 0)
      let s : State := { s with tim := { s.tim with trackA := some (s.tim.trackA.getD a) } }
      (s.setReg64 Reg.TIME.TRACK_B_FRAC Reg.TIME.TRACK_B_INT b).setFld Reg.TIME.TIME_STATE
        Fld.TIME.TIME_STATE.track_hold 0

/-- GATE_END (R215 to R217) up to the delivery of B to the zoom channels. -/
def State.gateEnd (s : State) (r : Nat) : State :=
  let u := s.freq r
  let g := s.fld (Reg.TIME.FREQ_GATE r) Fld.TIME.FREQ_GATE.gate
  let lm := thinning (expectedEdges g u.prev u.stamps)
  let p := gatePoints (2 ^ lm) u.prev u.stamps
  let (a, b, d, ssr) := fitLine p
  let tracks := r = 0 && s.tracking
  let pre := if s.freqChannel r = 8 then 2 ^ s.fld (Reg.TIME.TDC_CFG 8) Fld.TIME.TDC_CFG.prescale else 1
  let s : State :=
    if p.length < 3 || d ≤ 0 || b ≤ 0 then
      let s : State := (s.setFld (Reg.TIME.RES_COUNT r) Fld.TIME.RES_COUNT.nofit 1).setFreq r { u with stamps := [] }
      if tracks then s.track none else s
    else
      let period := (freeDiv 23 (b * 2 ^ 32) (d.toNat * pre)).toNat
      let rms := min (2 ^ 24 - 1)
        (freeSqrt 24 (ssr.toNat * 2500000 * 2500000) (d.toNat * p.length * 98304 * 98304))
      let a := (freeDiv 25 a d.toNat) + (u.stamps.head?.map (fun t => (t.toNat : Int))).getD 0
      let s : State := s.setReg64 (Reg.TIME.RES_PER_FRAC r) (Reg.TIME.RES_PER_INT r) period
      let s : State := s.setReg64 (Reg.TIME.RES_PHASE_LO r) (Reg.TIME.RES_PHASE_HI r) (BitVec.ofInt 64 a).toNat
      let s : State := s.setFld (Reg.TIME.RES_RMS r) Fld.TIME.RES_RMS.rms rms
      let s : State := s.setReg (Reg.TIME.RES_COUNT r) (putField Fld.TIME.RES_COUNT.n p.length
        (putField Fld.TIME.RES_COUNT.log2m lm 0))
      let s : State := s.setReg (Reg.TIME.RES_SEQ r) (s.reg (Reg.TIME.RES_SEQ r) + 1)
      let s : State := s.setFreq r { u with stamps := [], prev := some (period * pre) }
      if tracks then s.track (some (period, rms)) else s
  if (s.flag (Reg.TIME.FREQ_CFG r) Fld.TIME.FREQ_CFG.continuous && !u.stopAfter) || tracks then s
  else (s.setFreq r { s.freq r with stopAfter := false }).setScope ⟨.regr, r⟩ .off

/-! ## Pulse per second -/

/-- PPS_IN (R218): captured at the first REF edge after the edge; an edge less than 500 ms after the last accepted one
is ignored and counted. 500 ms is 10,000,000 ticks. -/
def execPpsIn (s : State) : Host.Outcome State Fault Refusal :=
  if !s.flag Reg.TIME.PPS_CFG Fld.TIME.PPS_CFG.in_en || !s.running .ref || !s.blockOn 7 then .next s
  else
    let early := match s.tim.ppsLast with
      | some t => decide (s.time.tick < t + 10000000)
      | none => false
    if early then .next (s.count Reg.TIME.PPS_IN_EARLY_CNT 1)
    else
      let s : State := s.setReg64 Reg.TIME.PPS_IN_TBW_LO Reg.TIME.PPS_IN_TBW_HI s.time.tbwNs.toNat
      let s : State := s.setReg64 Reg.TIME.PPS_IN_TBS_LO Reg.TIME.PPS_IN_TBS_HI s.time.tbs.toNat
      let s : State := { s with tim := { s.tim with ppsLast := some s.time.tick } }
      .next (s.blkEvent 7 14 Ev.TIME.PPS_IN 0)

/-- PPS_OUT_PULSE (R219): TB-W has crossed a whole second; a crossing during a pulse is ignored. -/
def execPpsOutPulse (s : State) : Host.Outcome State Fault Refusal :=
  let go := s.tim.ppsCross && !s.tim.ppsOut && s.flag Reg.TIME.PPS_CFG Fld.TIME.PPS_CFG.out_en &&
    s.flag Reg.TIME.TIME_STATE Fld.TIME.TIME_STATE.tbw_set && s.blockOn 7
  let s : State := { s with tim := { s.tim with ppsCross := false, ppsOut := s.tim.ppsOut || go } }
  .next (if go then s.emit (.pin "PPS_OUT" true) else s)

/-- PPS_OUT_END (R219): after width_us. -/
def execPpsOutEnd (s : State) : Host.Outcome State Fault Refusal :=
  if s.tim.ppsOut then .next ({ s with tim := { s.tim with ppsOut := false } }.emit (.pin "PPS_OUT" false)) else .next s

end Sys2Proof.Machine
end

