-- ==== Sys2Proof/Machine/Sources.lean ====
section
/-! DEFINITION. What a program holds (R73, R554), trigger source activations (R293, R294), and mark bits. -/

namespace Sys2Proof.Machine

/-- The program slot that holds an item. -/
def State.holder (s : State) (p : Binding → Bool) : Option Nat :=
  (List.range 12).find? (fun k => (s.nib k).bindings.any (fun e => p e.2))

/-- The declaration entry behind an item a program holds. -/
def State.declFor (s : State) (p : Binding → Bool) : Option Decl :=
  (s.holder p).bind (fun k =>
    ((s.nib k).bindings.find? (fun e => p e.2)).bind (fun e => (s.nib k).decls.find? (fun d => d.handle = e.1)))

/-- Whether an item belongs to a program, or, for the host as holder (none), to nobody (R554). -/
def State.heldBy (s : State) (k : Option Nat) (p : Binding → Bool) : Bool :=
  match k with
  | some k => (s.nib k).bindings.any (fun e => p e.2)
  | none => (s.holder p).isNone

/-! ## Trigger sources -/

def State.source (s : State) (n : Nat) : Source := sparseGet (fun _ => Source.quiet) s.sources n

def State.setSource (s : State) (n : Nat) (v : Source) : State :=
  { s with sources := sparsePut (fun _ => Source.quiet) n v s.sources }

/-- A source delivers an item (R294). -/
def State.activate (s : State) (n t : Nat) (on : Bool) (marks : Nat) : State :=
  s.setSource n { s.source n with items := (s.source n).items ++ [⟨t, on, marks⟩] }

/-- Whether a source's last item leaves it on. -/
def State.sourceOn (s : State) (n : Nat) : Bool := ((s.source n).items.getLast?.map (·.on)).getD false

/-! ## Marks -/

/-- Marks in the bits of R340. -/
def Marks.bits (m : Marks) : Nat :=
  bit m.gap + 2 * bit m.laneGap + 4 * bit m.clockGap + 8 * bit m.ovr + 16 * bit m.unsettled + 32 * bit m.headEol +
    64 * bit m.poison

/-- Marks in the flag bits of an output frame (R277). -/
def Marks.frameBits (m : Marks) : Nat :=
  bit m.gap + 2 * bit m.unsettled + 4 * bit m.laneGap + 8 * bit m.clockGap + 16 * bit m.ovr + 32 * bit m.headEol +
    128 * bit m.poison

def Marks.or (a b : Marks) : Marks :=
  ⟨a.gap || b.gap, a.ovr || b.ovr, a.unsettled || b.unsettled, a.laneGap || b.laneGap, a.clockGap || b.clockGap,
    a.headEol || b.headEol, a.sat || b.sat, a.poison || b.poison⟩

end Sys2Proof.Machine
end

