-- ==== Sys2Proof/Machine/Sync.lean ====
section
/-! DEFINITION. The sync bus and the cascade's trigger frames (R317 to R322, R328). -/

namespace Sys2Proof.Machine

/-! ## Bus time -/

/-- BUS_REF_CYC and BUS_REF_TBS. -/
def State.refCyc (s : State) : Nat := s.reg64 Reg.SYNC.BUS_REF_CYC_LO Reg.SYNC.BUS_REF_CYC_HI % 2 ^ 48
def State.refTbs (s : State) : Nat := s.reg64 Reg.SYNC.BUS_REF_TBS_LO Reg.SYNC.BUS_REF_TBS_HI

def State.setRefCyc (s : State) (c : Nat) : State :=
  (s.setReg Reg.SYNC.BUS_REF_CYC_LO (BitVec.ofNat 32 c)).setFld Reg.SYNC.BUS_REF_CYC_HI ⟨15, 0⟩ (c / 2 ^ 32)

/-- The signed distance of two numbers modulo 2^n. -/
def distMod (n : Nat) (a b : Nat) : Int := signedOf n ((a + 2 ^ n - b % 2 ^ n) % 2 ^ n)

/-- Bus time b as TB-S (R317): BUS_REF_TBS + (b − BUS_REF_CYC · 65,536) · 0.6, to the nearest unit; no tie can occur. -/
def State.busToTbs (s : State) (b : Nat) : Nat :=
  let d := distMod 64 b (s.refCyc * 65536)
  (((s.refTbs : Int) + roundDivEven (3 * d) 5) % (2 ^ 64 : Nat)).toNat

/-- TB-S in fifths of three bus-time fractions: the bus time of an instant, times 3. -/
def State.busTime3 (s : State) (t : Nat) : Int := 3 * ((s.refCyc * 65536 : Nat) : Int) + 5 * distMod 64 t s.refTbs

/-- TB-S as bus time, the inverse of R317, whose rounding the spec does not state. -/
def State.tbsToBus (s : State) (t : Nat) : Nat := (freeDiv 52 (s.busTime3 t) 3 % (2 ^ 64 : Nat)).toNat

/-- The greatest bus time at or before an instant. -/
def State.tbsToBusFloor (s : State) (t : Nat) : Nat := ((s.busTime3 t).fdiv 3 % (2 ^ 64 : Nat)).toNat

def State.phaseValid (s : State) : Bool := s.flag Reg.SYNC.SYNC_STATE Fld.SYNC.SYNC_STATE.phase_valid
def State.epochValid (s : State) : Bool := s.flag Reg.SYNC.SYNC_STATE Fld.SYNC.SYNC_STATE.epoch_valid
def State.epochLine (s : State) : Nat := s.fld Reg.SYNC.SYNC_CFG Fld.SYNC.SYNC_CFG.epoch_line

/-- Whether the module drives and reports the sync bus (R320). -/
def State.busReady (s : State) : Bool := s.blockOn 19 && s.phaseValid && s.epochValid

/-- A sync line's pulse of this module: 0 none, 1 pending, 2 driven. -/
def State.line (s : State) (k : Nat) : Nat := sparseGet (fun _ => 0) s.trg.lines k

def State.setLine (s : State) (k v : Nat) : State :=
  { s with trg := { s.trg with lines := sparsePut (fun _ => 0) k v s.trg.lines } }

/-- OUT_MERGE_CNT of a merge on a sync line (R319): the manual gives the count to TRIG_OUT outputs alone, so which of
the four counts it is free. -/
def State.mergeCount (s : State) : State :=
  let (n, s) := s.draw
  s.count (Reg.TRIG.OUT_MERGE_CNT (Config.freeNat 54 n % 4)) 1

/-- An OUT action on sync line k (R319, R320). -/
def State.outSync (s : State) (k : Nat) : State :=
  if !s.busReady then s
  else if s.line k = 0 then s.setLine k 1 else s.mergeCount

/-- SYNC_TRG_DRIVE (R319): after an idle cycle the pending pulse is driven for one bus cycle. The epoch line waits while
the epoch pulse is driven. -/
def execSyncTrgDrive (line : Fin 8) (s : State) : Host.Outcome State Fault Refusal :=
  let k := line.val
  if s.line k ≠ 1 || !s.busReady || (s.trg.epoch && decide (k = s.epochLine)) then .next s
  else .next ((s.setLine k 2).emit (.syncLine k 1))

/-- An epoch pulse (R320): its first cycle takes the staged SYNC_EPOCH as its number. A trigger of this module that falls
in that cycle joins the epoch. -/
def State.busEpoch (s : State) (line cycle : Nat) : State :=
  let s : State := if s.line line = 2 then (s.setLine line 0).mergeCount else s
  let s : State := { s with trg := { s.trg with epoch := false } }
  let s : State := s.commitRegs 19 [Reg.SYNC.SYNC_EPOCH_LO, Reg.SYNC.SYNC_EPOCH_HI]
  let e : Nat := s.reg64 Reg.SYNC.SYNC_EPOCH_LO Reg.SYNC.SYNC_EPOCH_HI % 2 ^ 48
  let s : State := s.setRefCyc ((((s.refCyc : Int) + e - (cycle : Nat)) % (2 ^ 48 : Nat)).toNat)
  let s : State := s.setFld Reg.SYNC.SYNC_STATE Fld.SYNC.SYNC_STATE.epoch_valid 1
  s.blkEvent 19 8 Ev.SYNC.BUS_EPOCH 0

/-- SYNC_PULSE (R319): a completed pulse classified as a trigger, an epoch or a glitch. -/
def execSyncPulse (line : Fin 8) (cycle : BitVec 48) (len : Nat) (s : State) : Host.Outcome State Fault Refusal :=
  let k := line.val
  if !s.blockOn 19 || len = 0 then .next s
  else if len = 4 && k = s.epochLine then .next (s.busEpoch k cycle.toNat)
  else
    let ready := s.busReady
    let s : State := if s.line k = 2 then s.setLine k 0 else s
    if len = 1 then
      .next (if ready then s.activate (72 + k) (s.busToTbs (cycle.toNat * 65536)) true 0 else s)
    else .next ((s.count Reg.SYNC.SYNC_GLITCH_CNT 1).blkEvent 19 10 Ev.SYNC.SYNC_GLITCH 0)

/-- EPOCH_GO (R320): the master drives the epoch line for four cycles. -/
def execEpochGo (s : State) : Host.Outcome State Fault Refusal :=
  let s : State := s.accept Reg.SYNC.SYNC_CMD Fld.SYNC.SYNC_CMD.epoch_go
  if !s.flag Reg.SYNC.SYNC_CFG Fld.SYNC.SYNC_CFG.master || !s.blockOn 19 || s.trg.epoch then .next s
  else .next ({ s with trg := { s.trg with epoch := true } }.emit (.syncLine s.epochLine 4))

/-! ## Bus phase -/

/-- SYNC_PHASE_MEASURE (R318). 100 ps is 393.216 units, so a value d = t_r − t_f departs by more when
|d · n − Σ| · 1,000 exceeds 786,432 · n; a bus cycle is 39,321.6 units. -/
def execSyncPhaseMeasure (tf tr : DWord) (s : State) : Host.Outcome State Fault Refusal :=
  if !s.blockOn 19 then .next s
  else
    let d := (tr - tf).toInt
    let l := s.trg.halves
    let n := l.length
    if n ≠ 0 && decide (786432 * n < (d * n - l.sum).natAbs * 1000) then
      if s.trg.rejects + 1 = 16 then
        .next ({ s with trg := { s.trg with halves := [], rejects := 0 } }.blkEvent 19 11 Ev.SYNC.BUS_PHASE_STEP 0)
      else .next { s with trg := { s.trg with rejects := s.trg.rejects + 1 } }
    else
      let l := (l ++ [d]).drop (n + 1 - 16)
      let mid2 : Int := 2 * (tf.toNat : Int) + d
      let cycles := roundDivEven (5 * (mid2 - 2 * s.refTbs)) (2 * 196608)
      let s : State := { s with trg := { s.trg with halves := l, rejects := 0 } }
      let s : State := s.setRefCyc ((((s.refCyc : Int) + cycles) % (2 ^ 48 : Nat)).toNat)
      let s : State := s.setReg64 Reg.SYNC.BUS_REF_TBS_LO Reg.SYNC.BUS_REF_TBS_HI
        (BitVec.ofInt 64 (freeDiv 53 mid2 2)).toNat
      let s : State := s.setReg Reg.SYNC.SYNC_HALF (BitVec.ofInt 32 (freeDiv 55 l.sum (2 * l.length)))
      .next (s.setFld Reg.SYNC.SYNC_STATE Fld.SYNC.SYNC_STATE.phase_valid 1)

/-- BUS_PHASE_LOST (R320): SYNC_CLK or SYNC_RET has given no edge for 1 ms. -/
def execBusPhaseLost (s : State) : Host.Outcome State Fault Refusal := .next s.busPhaseLost

/-! ## Cascade frames -/

/-- A frame sent on a cascade link, on its lanes in rotation (R123). -/
def State.sendCasc (s : State) (k type : Nat) (payload : List Byte) : State :=
  let h := s.cascade k
  let lanes := [0, 1].filter (fun l => s.laneState (cascLane k l) = 6)
  let lane := lanes.getD (h.outSeq % max 1 lanes.length) 0
  let s : State := s.setCascade k { h with outSeq := (h.outSeq + 1) % 256 }
  s.emit (.cascLine k lane (encodeFrame lane type h.outSeq false false payload))

/-- A trigger message for channel c of link k (R321). -/
def State.outCasc (s : State) (k c t marks : Nat) : State :=
  if !s.linkUp k then s
  else
    let h := s.cascade k
    let flags := bit (marks.testBit 8) + 2 * bit (marks.testBit 0)
    let m := beBytes 8 (s.tbsToBus t) ++ beBytes 1 c ++
      beBytes 1 (s.fld Reg.SYNC.SYNC_CFG Fld.SYNC.SYNC_CFG.module) ++ beBytes 1 flags ++ beBytes 1 0 ++ beBytes 4 h.mseqTx
    s.setCascade k { h with trig := h.trig ++ [m], mseqTx := (h.mseqTx + 1) % 2 ^ 32 }

/-- One message of a TRIG frame received on link k (R321, R322). -/
def State.takeTrig (s : State) (k : Nat) (m : List Byte) : State :=
  let n := beAt m 12 4
  let ok := match (s.cascade k).mseqRx with
    | some p => decide (n = (p + 1) % 2 ^ 32)
    | none => true
  let s : State := s.setCascade k { s.cascade k with mseqRx := some n }
  if !ok then s.count Reg.SYNC.CASC_TRIG_DROP_CNT 1
  else
    let flags := beAt m 10 1
    s.activate (64 + 4 * k + beAt m 8 1 % 4) (s.busToTbs (beAt m 0 8)) true
      (256 * bit (flags.testBit 0) + bit (flags.testBit 1))

/-- TRIG_FRAME (R321, R322). -/
def execTrigFrame (f : CascFrame) (s : State) : Host.Outcome State Fault Refusal :=
  .next (s.rxCasc f 1 (fun s p =>
    let k := f.link.val
    let n := beAt p 0 1 % 16
    let s : State := (List.range n).foldl (fun s i => s.takeTrig k ((p.drop (16 + 16 * i)).take 16)) s
    let w := s.busToTbs (beAt p 8 8)
    [0, 1, 2, 3].foldl (fun s c => s.setSource (64 + 4 * k + c) { s.source (64 + 4 * k + c) with through := w }) s))

end Sys2Proof.Machine
end

