-- ==== Sys2Proof/Machine/Spectrum.lean ====
section
/-! DEFINITION. What a transform tile computes (R258 to R280): frames, detectors, averaging, column reduction and the
bytes of an output frame, as pure functions of a pair's settings, which live pairs and look-back jobs share. -/

namespace Sys2Proof.Machine

/-- The settings of a pair in force. `real` says that the port stream is real (R269), `sh` is the output shift of the
producing zoom channel, `win` the N window values. -/
structure PairCfg where
  stream : Nat
  res : Nat
  log2n : Nat
  ov : Nat
  cplx : Bool
  real : Bool
  sh : Nat
  det : Nat
  win : List Int
  mode : Nat
  k : Nat
  m : Nat
  cont : Bool
  lo : Nat
  hi : Nat
  red : Bool
  op : Nat
  c : Nat

namespace PairCfg

def size (c : PairCfg) : Nat := 2 ^ c.log2n
def hop (c : PairCfg) : Nat := 2 ^ (c.log2n - c.ov)
/-- The bins delivered (R268). -/
def bins (c : PairCfg) : Nat := if c.cplx then c.size else c.size / 2
/-- The last bin selected (R275). -/
def top (c : PairCfg) : Nat := min c.hi (c.bins - 1)
/-- S (R275). -/
def sel (c : PairCfg) : Nat := c.top + 1 - c.lo
/-- The columns of an output frame. -/
def columns (c : PairCfg) : Nat := if c.red then c.c else c.sel
/-- The bytes per bin of the detector (R270). -/
def binBytes (c : PairCfg) : Nat := match c.det with | 0 => 6 | 1 => 4 | _ => 2
/-- The 56-byte cells of a frame (R279). -/
def cells (c : PairCfg) : Nat := ceilDiv (32 + c.columns * c.binBytes) 56

/-- The denominator of P over |m|² · 4^e · 4^(7−sh), where m is the integer mantissa (R269): it holds
(Σw)² and the reference amplitude. -/
def powDen (c : PairCfg) : Nat := (c.win.sum * c.win.sum).toNat * 2 ^ 12 * 4 ^ 7

/-- The numerator of P for a mantissa and exponent. -/
def powNum (c : PairCfg) (x : Cplx) (e : Nat) : Nat :=
  (x.1 * x.1 + x.2 * x.2).toNat * 4 ^ e * (if c.real then 4 else 1) * 4 ^ (7 - c.sh)

end PairCfg

/-- The mantissas of a frame in delivery order and the frame exponent (R264 to R268). -/
def spectrum (c : PairCfg) (l : List Sample) (scale : Int) : List Cplx × Nat :=
  let x := l.map (fun y => (y.i * scale, if c.cplx then y.q * scale else 0))
  let r := fft c.log2n (applyWindow x c.win)
  (orderBins c.cplx r.1, r.2)

/-- What the averager takes of a bin, in the detector's own domain (R269, R270, R272): for CPLX24E the value at exponent 0,
for POW32F the binary32 power in units of 2^-149, for LOGP16 the code, or in mode 3 the power's numerator. -/
def binValue (c : PairCfg) (x : Cplx) (e : Nat) : Int × Int :=
  match c.det with
  | 0 => (x.1 * 2 ^ e, x.2 * 2 ^ e)
  | 1 => (f32Val (powF32 (c.powNum x e) c.powDen), 0)
  | _ => if c.mode = 3 then ((c.powNum x e : Nat), 0) else ((logp16 (c.powNum x e) c.powDen : Nat), 0)

/-- One step of exponential averaging (R273): binary32 for power, 16 fractional bits for decibels. -/
def expStep (c : PairCfg) (y x : Int) : Int :=
  if c.det = 1 then
    let d := f32Val (f32Of (x - y) 1)
    f32Val (f32Of (y * 2 ^ c.k + d) (2 ^ c.k))
  else y + roundDivEven (x * 2 ^ 16 - y) (2 ^ c.k)

/-- The accumulator after one more frame (R272 to R274); an empty one takes the frame. -/
def accumulate (c : PairCfg) (acc v : List (Int × Int)) : List (Int × Int) :=
  if acc.isEmpty then (if c.mode = 1 && c.det = 2 then v.map (fun x => (x.1 * 2 ^ 16, 0)) else v)
  else (acc.zip v).map (fun e => match c.mode with
    | 1 => (expStep c e.1.1 e.2.1, 0)
    | 4 => (max e.1.1 e.2.1, 0)
    | 5 => (min e.1.1 e.2.1, 0)
    | _ => (e.1.1 + e.2.1, e.1.2 + e.2.2))

/-- The least exponent at which every mean fits s24. -/
def fitExp (l : List (Int × Int)) (n : Nat) : Nat :=
  let m := l.foldl (fun m x => max m (max x.1.natAbs x.2.natAbs)) 0
  ((List.range 64).find? (fun e => decide (roundDivEven (m : Int) (n * 2 ^ e) ≤ 0x7FFFFF))).getD 64

/-- The output columns before reduction and the frame exponent, from the accumulator of n frames. `slack` is how far the
common exponent of a vector mean lies above the least one: R274 does not fix it. -/
def averaged (c : PairCfg) (acc : List (Int × Int)) (n slack : Nat) : List (Int × Int) × Nat :=
  match c.det, c.mode with
  | 0, _ =>
    let least := fitExp acc n
    let e := least + slack % (max least (2 * c.log2n) + 1 - least)
    (acc.map (fun x => (roundDivEven x.1 (n * 2 ^ e), roundDivEven x.2 (n * 2 ^ e))), e)
  | 1, 2 => (acc.map (fun x => ((f32Of x.1 n : Nat), 0)), 0)
  | 1, 3 => (acc.map (fun x => ((f32Of x.1 n : Nat), 0)), 0)
  | 1, _ => (acc.map (fun x => ((f32Of x.1 1 : Nat), 0)), 0)
  | _, 1 => (acc.map (fun x => (clampInt 0 0xFFFF (roundDivEven x.1 (2 ^ 16)), 0)), 0)
  | _, 2 => (acc.map (fun x => (roundDivEven x.1 n, 0)), 0)
  | _, 3 => (acc.map (fun x => ((logp16 x.1.toNat (n * c.powDen) : Nat), 0)), 0)
  | _, _ => (acc, 0)

/-- One column from its group of bins (R275). -/
def reduceGroup (c : PairCfg) (g : List (Int × Int)) : Int × Int :=
  let l := g.map (·.1)
  match c.op with
  | 0 => (l.foldl max (l.headD 0), 0)
  | 1 => (l.foldl min (l.headD 0), 0)
  | 2 =>
    if c.det = 1 then ((f32Of ((l.map (fun w => f32Val w.toNat)).sum) l.length : Nat), 0)
    else (roundDivEven l.sum l.length, 0)
  | _ => g.headD (0, 0)

/-- Column reduction of the selected bins (R275). -/
def reduceCols (c : PairCfg) (l : List (Int × Int)) : List (Int × Int) :=
  let s := l.length
  if !c.red then l
  else (List.range c.c).map (fun j => reduceGroup c ((l.take ((j + 1) * s / c.c)).drop (j * s / c.c)))

/-- The selected bins of a frame in the averager's domain; without averaging a CPLX24E bin keeps its mantissa. -/
def frameValues (c : PairCfg) (l : List Sample) (scale : Int) : List (Int × Int) × Nat :=
  let (b, e) := spectrum c l scale
  let b := (b.take (c.top + 1)).drop c.lo
  if c.det = 0 && c.mode = 0 then (b, e) else (b.map (fun x => binValue c x e), 0)

/-- LOGP16 of a finite non-negative binary32 power. -/
def logOfF32 (w : Nat) : Nat := logp16 (f32Val w).toNat (2 ^ 149)

/-- The columns as masks and planes take them (R271). -/
def logColumns (c : PairCfg) (l : List (Int × Int)) : List Nat :=
  match c.det with
  | 0 => []
  | 1 => l.map (fun x => logOfF32 x.1.toNat)
  | _ => l.map (fun x => x.1.toNat)

/-- The bytes of a column (R270). -/
def columnBytes (c : PairCfg) (x : Int × Int) : List Byte :=
  match c.det with
  | 0 => leBytes 3 (x.1 % 2 ^ 24).toNat ++ leBytes 3 (x.2 % 2 ^ 24).toNat
  | 1 => leBytes 4 x.1.toNat
  | _ => leBytes 2 x.1.toNat

/-- An output frame with its header (R277, R278). `extra` holds the OVF and POISON bits, `throttle` log2 of the factor. -/
def makeFrame (c : PairCfg) (cols : List (Int × Int)) (e seq tbs navg : Nat) (m : Marks) (extra throttle : Nat) :
    SpecFrame :=
  let head := leBytes 2 0x5346 ++ leBytes 1 c.stream ++ leBytes 1 c.res ++
    leBytes 1 (c.log2n + 32 * c.ov + 128 * bit c.cplx) ++
    leBytes 1 (c.det + 4 * c.mode + 32 * (if c.red then c.op + 1 else 0)) ++ leBytes 1 e ++ leBytes 1 throttle ++
    leBytes 8 tbs ++ leBytes 8 seq ++ leBytes 2 cols.length ++ leBytes 2 (m.frameBits + extra) ++
    leBytes 2 (min navg 65535) ++ leBytes 2 c.lo
  { cols := cols, logs := logColumns c cols, exp := e, seq := seq, tbs := tbs, marks := m, navg := navg,
    bytes := head ++ cols.flatMap (columnBytes c) }

/-- The averager's part of a pair's run emptied (R273, R274). -/
def PairRun.restart (r : PairRun) : PairRun :=
  { r with acc := [], accN := 0, accMarks := Marks.none, restarts := 0 }

/-- The frame that the accumulator gives now. -/
def PairRun.output (c : PairCfg) (r : PairRun) (slack : Nat) : SpecFrame :=
  let (cols, e) := averaged c r.acc r.accN slack
  makeFrame c (reduceCols c cols) e r.accSeq r.accTbs r.accN r.accMarks 0 0

/-- One frame through averaging (R272 to R278): the run after it and the output frame, if one is due. -/
def PairRun.feed (c : PairCfg) (r : PairRun) (seq tbs : Nat) (m : Marks) (v : List (Int × Int)) (e slack : Nat) :
    PairRun × Option SpecFrame :=
  let r : PairRun := { r with m := seq + 1 }
  if c.mode = 0 then ({ r with restarts := r.restarts + 1 }, some (makeFrame c (reduceCols c v) e seq tbs 1 m 0 0))
  else
    let each := c.mode = 1 || ((c.mode = 4 || c.mode = 5) && c.cont)
    let first := r.acc.isEmpty
    let m : Marks := if c.mode = 1 && decide (r.restarts < 2 ^ c.k) then { m with unsettled := true } else m
    let r : PairRun := { r with
      acc := accumulate c r.acc v, accN := if each then 1 else r.accN + 1,
      accSeq := if each || first then seq else r.accSeq, accTbs := if each || first then tbs else r.accTbs,
      accMarks := if each then m else r.accMarks.or m, restarts := r.restarts + 1 }
    if each then (r, some (PairRun.output c r slack))
    else if r.accN < c.m then (r, none)
    else ({ r.restart with restarts := r.restarts }, some (PairRun.output c r slack))

end Sys2Proof.Machine
end

