-- ==== Sys2Proof/Machine/Spike.lean ====
section
/-! DEFINITION. The spike filter (R230 to R233), and the samples a consumer of a stream sees (R231, R260). -/

namespace Sys2Proof.Machine

def State.spike (s : State) (p : Nat) : Spike := sparseGet (fun _ => Spike.fresh) s.spikes p

def State.setSpike (s : State) (p : Nat) (v : Spike) : State :=
  { s with spikes := sparsePut (fun _ => Spike.fresh) p v s.spikes }

/-- W of a port's filter (R230). -/
def State.spikeWin (s : State) (p : Nat) : Nat := 2 * s.fld (Reg.COND.SPK_CFG p) Fld.COND.SPK_CFG.window + 3

/-- The rank k of a port's filter (R230). -/
def State.spikeRank (s : State) (p : Nat) : Nat :=
  if s.flag (Reg.COND.SPK_CFG p) Fld.COND.SPK_CFG.rank_mode then s.fld (Reg.COND.SPK_CFG p) Fld.COND.SPK_CFG.rank
  else (s.spikeWin p + 1) / 2

/-- Insertion into an ascending list. -/
def insertInt (x : Int) : List Int → List Int
  | [] => [x]
  | y :: t => if x ≤ y then x :: y :: t else y :: insertInt x t

/-- The value at rank k of a window, rank 1 the smallest (R230). -/
def rankValue (k : Nat) (l : List Int) : Int := (l.foldr insertInt []).getD (k - 1) 0

/-- One part of the filter: the output and whether it was replaced (R230). -/
def spikePart (k thr : Nat) (c : Int) (win : List Int) : Int × Bool :=
  let r := rankValue k win
  if thr < (c - r).natAbs then (r, true) else (c, false)

/-- The index of the first sample the model still keeps of a stream. -/
def Stream.first (st : Stream) : Nat := st.delivered - st.hist.length

/-- The threshold in force at a sample index (R232). -/
def SpikeRun.thr (r : SpikeRun) (i : Nat) : Nat := ((r.thrs.find? (fun e => decide (e.1 ≤ i))).map (·.2)).getD 0xFFF

/-- One output of the filter (R230, R232): the window around sample i, W samples before it for the settling rule. -/
def spikeOut (w k : Nat) (r : SpikeRun) (i : Nat) (before win : List Sample) (c : Sample) : Sample × Bool :=
  let uns := decide (i < r.first + w) || before.any (fun x => x.marks.gap) || win.any (fun x => x.marks.gap)
  if uns then ({ c with marks := { c.marks with unsettled := c.marks.unsettled || !c.marks.gap } }, false)
  else
    let a := spikePart k (r.thr i) c.i (win.map (·.i))
    let b := spikePart k (r.thr i) c.q (win.map (·.q))
    ({ c with i := a.1, q := b.1 }, a.2 || b.2)

/-- The filter's run on a stream of a port, or that of a filter enabled before the stream began. -/
def State.spikeRun (s : State) (p o : Nat) : SpikeRun :=
  ((s.spike p).runs.find? (fun e => e.1 = o)).map (·.2) |>.getD
    { start := 0, first := 0, last := none,
      thrs := [(0, s.fld (Reg.COND.SPK_THR p) Fld.COND.SPK_THR.thr)] }

/-- Whether a port's filter replaces sample i of its stream. -/
def State.filters (s : State) (p o i : Nat) : Bool :=
  let r := s.spikeRun p o
  let known := (s.spike p).runs.any (fun e => e.1 = o)
  (known || s.flag (Reg.COND.SPK_STATE p) Fld.COND.SPK_STATE.enabled) && decide (r.first ≤ i) &&
    (match r.last with
      | some l => decide (i < l)
      | none => true)

/-- The outputs of the filter for samples from an index on, with whether each was replaced; an output needs the
(W − 1)/2 samples after its centre. -/
def State.filtered (s : State) (p o : Nat) (st : Stream) (i : Nat) : List (Sample × Bool) :=
  let w := s.spikeWin p
  let h := (w - 1) / 2
  let k := s.spikeRank p
  let r := s.spikeRun p o
  let b := st.first
  let n := st.delivered - i - (if st.delivered ≤ i then 0 else h)
  (List.range n).map (fun d =>
    let j := i + d
    match st.hist[j - b]? with
    | none => (⟨0, 0, 0, { Marks.none with gap := true }⟩, false)
    | some c =>
      if s.filters p o j then
        spikeOut w k r j ((st.hist.drop (j - b - w)).take (min w (j - b))) ((st.hist.drop (j - b - h)).take (h + 1 + min h (j - b))) c
      else (c, false))

/-- The samples of a stream from an index on as a consumer takes them: the spike filter's output while the port's filter
is enabled and the consumer takes the filtered tap (R231, R260), the deframed samples otherwise. A zoom stream has no
filter. An index before the samples kept begins at the first of them. -/
def State.inputs (s : State) (id : Nat) (tap : Bool) (i : Nat) : List Sample :=
  let st := s.stream id
  let i := max i st.first
  match st.source with
  | some (.head p o) =>
    if tap && (s.flag (Reg.COND.SPK_STATE p) Fld.COND.SPK_STATE.enabled || (s.spike p).runs.any (fun e => e.1 = o)) then
      (s.filtered p o st i).map (·.1)
    else st.hist.drop (i - st.first)
  | _ => st.hist.drop (i - st.first)

/-- SPK_ENABLE (R232, R254). -/
def State.spkEnable (s : State) (p : Nat) : State :=
  if !s.blockOn 8 || s.flag (Reg.COND.SPK_STATE p) Fld.COND.SPK_STATE.enabled then s
  else
    let thr := s.fld (Reg.COND.SPK_THR p) Fld.COND.SPK_THR.thr
    let runs := (s.portStreams p).zipIdx.filterMap (fun e => e.1.map (fun id =>
      let d := (s.stream id).delivered
      (e.2, ({ start := d, first := d, last := none, thrs := [(d, thr)] } : SpikeRun))))
    let s : State := s.setSpike p { commit := false, runs := runs }
    (s.setFld (Reg.COND.SPK_STATE p) Fld.COND.SPK_STATE.enabled 1).setScope ⟨.spk, p⟩ .run

/-- SPK_DISABLE (R254): DRAINING until the next spike block end. -/
def State.spkDisable (s : State) (p : Nat) : State :=
  if s.flag (Reg.COND.SPK_STATE p) Fld.COND.SPK_STATE.enabled then
    if (s.portStreams p).all (·.isNone) then
      ((s.setSpike p Spike.fresh).setFld (Reg.COND.SPK_STATE p) Fld.COND.SPK_STATE.enabled 0).setScope ⟨.spk, p⟩ .off
    else s.setScope ⟨.spk, p⟩ .draining
  else s

/-- SPK_LAST of a stream output (R254). -/
def State.setSpkLast (s : State) (p o n : Nat) : State :=
  match o with
  | 0 => s.setFld (Reg.COND.SPK_LAST_A p) ⟨13, 0⟩ n
  | 1 => s.setFld (Reg.COND.SPK_LAST_A p) ⟨29, 16⟩ n
  | 2 => s.setFld (Reg.COND.SPK_LAST_B p) ⟨13, 0⟩ n
  | _ => s.setFld (Reg.COND.SPK_LAST_B p) ⟨29, 16⟩ n

/-- SPK_ENABLE. -/
def execSpkEnable (p : Fin 8) (s : State) : Host.Outcome State Fault Refusal :=
  .next ((s.accept (Reg.COND.SPK_CMD p.val) Fld.COND.SPK_CMD.enable_go).spkEnable p.val)

/-- SPK_DISABLE. -/
def execSpkDisable (p : Fin 8) (s : State) : Host.Outcome State Fault Refusal :=
  .next ((s.accept (Reg.COND.SPK_CMD p.val) Fld.COND.SPK_CMD.disable_go).spkDisable p.val)

/-- SPK_COMMIT (R232): the threshold takes effect at the first sample of the next spike block. -/
def State.spkCommit (s : State) (p : Nat) : State :=
  if s.flag (Reg.COND.SPK_STATE p) Fld.COND.SPK_STATE.enabled then s.setSpike p { s.spike p with commit := true }
  else s.commitScope ⟨.spk, p⟩

def execSpkCommit (p : Fin 8) (s : State) : Host.Outcome State Fault Refusal :=
  .next ((s.accept (Reg.COND.SPK_CMD p.val) Fld.COND.SPK_CMD.commit_go).spkCommit p.val)

/-- SPIKE_BLOCK_END (R232): the block's count is written and added, SPIKE_BURST may be raised, a commit takes effect, and
a draining filter ends. -/
def execSpikeBlockEnd (p : Fin 8) (o : Fin 4) (s : State) : Host.Outcome State Fault Refusal :=
  let p := p.val
  let o := o.val
  match (s.portStreams p).getD o none with
  | none => .next s
  | some id =>
    let r := s.spikeRun p o
    let out := (s.filtered p o (s.stream id) r.start).take 8192
    if out.length < 8192 || !s.flag (Reg.COND.SPK_STATE p) Fld.COND.SPK_STATE.enabled || r.last.isSome then .next s
    else
      let n := out.countP (·.2)
      let s : State := (s.setSpkLast p o n).count (Reg.COND.SPK_REPL_CNT p) n
      let lim := s.fld (Reg.COND.SPK_BURST p) Fld.COND.SPK_BURST.limit
      let s : State := if lim ≠ 0 && decide (lim < n) then s.blkEvent 8 8 Ev.COND.SPIKE_BURST (p * 256 + o) else s
      let s : State := if (s.spike p).commit then
          (s.commitScope ⟨.spk, p⟩).setSpike p { s.spike p with commit := false } else s
      let drain := s.hiddenScope ⟨.spk, p⟩ = .draining
      let next := r.start + 8192
      let r' : SpikeRun := { r with
        start := next, last := if drain then some next else none,
        thrs := (next, s.fld (Reg.COND.SPK_THR p) Fld.COND.SPK_THR.thr) :: r.thrs }
      let runs := (o, r') :: (s.spike p).runs.filter (fun e => e.1 ≠ o)
      let s : State := s.setSpike p { s.spike p with runs := runs }
      if drain && runs.all (fun e => e.2.last.isSome) then
        .next ((s.setFld (Reg.COND.SPK_STATE p) Fld.COND.SPK_STATE.enabled 0).setScope ⟨.spk, p⟩ .off)
      else .next s

end Sys2Proof.Machine
end

