-- ==== Sys2Proof/Machine/ZoomPath.lean ====
section
/-! DEFINITION. The data path of a zoom channel, from input samples to output items (R234 to R244): a pure function of
its settings, which live channels and look-back jobs share. -/

namespace Sys2Proof.Machine

/-- The settings of a zoom channel as its data path uses them. `step` and `q` place resampler outputs at
base + floor(k · step/q), in 2^-32 TB-S units; `slewMax` is in the same units. `period` is the input's P, `dint` D_int,
`g2pre` twice the group delay before the resampler in input samples, `g2` twice the whole group delay in 2^-28 input
samples, `grid` the base of a machine-synchronous output grid. -/
structure ZoomCfg where
  cplx : Bool
  ftw : Nat
  phase : Nat
  cicR : Nat
  hb1 : Bool
  hb2 : Bool
  firDec : Nat
  firOn : Bool
  taps : List Int
  oldTaps : List Int
  fade : Option (Nat × Nat)
  rsOn : Bool
  q : Nat
  slewMax : Nat
  shift : Nat
  period : Nat
  dint : Nat
  g2pre : Nat
  g2 : Nat
  grid : Option Nat

/-- Both parts of a value brought to 24 bits, and whether either saturated (R239). -/
def satPair (a : Cplx) : Cplx × Bool :=
  let i := sat24 a.1
  let q := sat24 a.2
  ((i.1, q.1), i.2 || q.2)

/-- Both parts of a value divided and rounded half to even, then saturated (R239). -/
def requant (a : Cplx) (d : Nat) : Cplx × Bool := satPair (roundDivEven a.1 d, roundDivEven a.2 d)

/-- The NCO's cosine at a 20-bit address, in Q1.17, off the nearest number by at most 1 (R235). -/
def ncoCos (a : Nat) : Int :=
  clampInt (-131071) 131071 (roundDivEven (cosTurn a (2 ^ 20) * 2 ^ 17) fixOne + (Config.ncoError a % 3 : Nat) - 1)

/-- NCO and mixer (R235). -/
def mix (c : ZoomCfg) (acc : Nat) (x : Cplx) : Cplx × Bool :=
  let a := (acc + c.phase * 2 ^ 32) % 2 ^ 48 / 2 ^ 28
  let co := ncoCos a
  let si := ncoCos ((a + 3 * 2 ^ 18) % 2 ^ 20)
  requant (x.1 * co + x.2 * si, x.2 * co - x.1 * si) (2 ^ 17)

/-- A value wrapped to 69 bits (R237). -/
def wrap69 (v : Int) : Int := signedOf 69 (v % (2 ^ 69 : Nat)).toNat

def addWrap (a b : Cplx) : Cplx := (wrap69 (a.1 + b.1), wrap69 (a.2 + b.2))
def subWrap (a b : Cplx) : Cplx := (wrap69 (a.1 - b.1), wrap69 (a.2 - b.2))

/-- The chain of integrators: each adds the output of the one before. -/
def integrate (x : Cplx) : List Cplx → List Cplx × Cplx
  | [] => ([], x)
  | i :: t => let y := addWrap i x; let r := integrate y t; (y :: r.1, r.2)

/-- The chain of combs: each subtracts its previous input. -/
def combine (x : Cplx) : List Cplx → List Cplx × Cplx
  | [] => ([], x)
  | d :: t => let r := combine (subWrap x d) t; (x :: r.1, r.2)

/-- The least s with 2^s ≥ v. -/
def ceilLog2 (v : Nat) : Nat := if v ≤ 1 then 0 else (v - 1).log2 + 1

/-- The CIC output: the shift by s = ceil(5 log2 R) and the factor c, rounded to 17 fractional bits (R237). -/
def cicOut (r : Nat) (v : Cplx) : Cplx × Bool :=
  let s := ceilLog2 (r ^ 5)
  let c := (roundDivEven (2 ^ (s + 17) : Nat) (r ^ 5)).toNat
  requant (v.1 * c, v.2 * c) (2 ^ (s + 17))

/-- What a stage does with one input: nothing yet, or an output with whether it saturated. -/
abbrev StageOut := Option (Cplx × Bool)

def cicStage (c : ZoomCfg) (x : Cplx) (p : ZoomPath) : ZoomPath × StageOut :=
  if c.cicR ≤ 1 then (p, some (x, false))
  else
    let (ints, y) := integrate x p.ints
    if p.cicN + 1 < c.cicR then ({ p with ints := ints, cicN := p.cicN + 1 }, none)
    else
      let (combs, v) := combine y p.combs
      ({ p with ints := ints, combs := combs, cicN := 0 }, some (cicOut c.cicR v))

/-- A half-band's output from its window. -/
def hbOut (which : Nat) (l : List Cplx) : Cplx × Bool :=
  satPair (Config.halfBand which (l.map (·.1)), Config.halfBand which (l.map (·.2)))

def hb1Stage (c : ZoomCfg) (x : Cplx) (p : ZoomPath) : ZoomPath × StageOut :=
  if !c.hb1 then (p, some (x, false))
  else
    let l := (x :: p.hb1).take 23
    if p.hb1N = 0 then ({ p with hb1 := l, hb1N := 1 }, none) else ({ p with hb1 := l, hb1N := 0 }, some (hbOut 1 l))

def hb2Stage (c : ZoomCfg) (x : Cplx) (p : ZoomPath) : ZoomPath × StageOut :=
  if !c.hb2 then (p, some (x, false))
  else
    let l := (x :: p.hb2).take 47
    if p.hb2N = 0 then ({ p with hb2 := l, hb2N := 1 }, none) else ({ p with hb2 := l, hb2N := 0 }, some (hbOut 2 l))

/-- A FIR sum in Q1.17 coefficients (R238). -/
def firSum (h : List Int) (l : List Cplx) : Cplx × Bool :=
  let z := h.zip l
  requant ((z.map (fun e => e.1 * e.2.1)).sum, (z.map (fun e => e.1 * e.2.2)).sum) (2 ^ 17)

/-- The FIR with its cross-fade: y = y_old + (k/F)(y_new − y_old) (R246). -/
def firStage (c : ZoomCfg) (x : Cplx) (p : ZoomPath) : ZoomPath × StageOut :=
  if !c.firOn then (p, some (x, false))
  else
    let l := (x :: p.fir).take 255
    if p.firN + 1 < c.firDec then ({ p with fir := l, firN := p.firN + 1 }, none)
    else
      let p : ZoomPath := { p with fir := l, firN := 0 }
      let y := firSum c.taps l
      match c.fade with
      | none => (p, some y)
      | some (k, f) =>
        let o := firSum c.oldTaps l
        let v := requant (o.1.1 * f + k * (y.1.1 - o.1.1), o.1.2 * f + k * (y.1.2 - o.1.2)) f
        (p, some (v.1, y.2 || o.2 || v.2))

/-- A stage applied to the output of the one before. -/
def thenStage (st : Cplx → ZoomPath → ZoomPath × StageOut) (r : ZoomPath × StageOut) : ZoomPath × StageOut :=
  match r.2 with
  | none => r
  | some y =>
    let r' := st y.1 { r.1 with sat := r.1.sat || y.2 }
    r'

/-- One input sample through the stages up to the resampler. -/
def zoomPush (c : ZoomCfg) (x : Sample) (p : ZoomPath) : ZoomPath × StageOut :=
  let m := mix c p.acc (x.i * 4096, if c.cplx then x.q * 4096 else 0)
  let p : ZoomPath := { p with taken := p.taken + 1, acc := (p.acc + c.ftw) % 2 ^ 48 }
  thenStage (firStage c) (thenStage (hb2Stage c) (thenStage (hb1Stage c) (thenStage (cicStage c) (p, some m))))

/-- The instant of resampler output k in 2^-32 TB-S units (R240, R242). -/
def ZoomPath.instant (c : ZoomCfg) (p : ZoomPath) : Nat := p.base.getD 0 + p.k * p.num / c.q

/-- The value of an output: the output shift and its rounding (R239). -/
def zoomShift (c : ZoomCfg) (y : Cplx) : Cplx × Bool := satPair (y.1 * 2 ^ c.shift, y.2 * 2 ^ c.shift)

/-- The next output of a channel from the samples waiting: the path after it and the item with its stamp; none when the
samples do not suffice. -/
def zoomNext (c : ZoomCfg) : List Sample → ZoomPath → Option (ZoomPath × Sample)
  | [], _ => none
  | x :: t, p =>
    let (p, o) := zoomPush c x p
    match o with
    | none => zoomNext c t p
    | some (y, sat) =>
      let p : ZoomPath := { p with sat := p.sat || sat }
      if !c.rsOn then
        let v := zoomShift c y
        some ({ p with sat := false },
          ⟨v.1.1, v.1.2, x.tbs - c.g2pre * c.period / 2, { Marks.none with sat := p.sat || v.2 }⟩)
      else
        let p : ZoomPath := { p with rs := (y :: p.rs).take 40 }
        let here := (x.tbs - c.g2pre * c.period / 2) * 2 ^ 32
        let p : ZoomPath := match p.base, c.grid with
          | none, none => { p with base := some here, k := 0 }
          | none, some g => { p with base := some g, k := if p.num = 0 then 0 else ceilDiv ((here - g) * c.q) p.num }
          | some _, _ => p
        let inst := p.instant c
        if x.tbs * 2 ^ 32 < inst + c.g2 * c.period * 8 then zoomNext c t p
        else
          let pos := (here - inst) / (c.period * c.dint * 16)
          let v := satPair (Config.farrow (p.rs.map (·.1)) pos, Config.farrow (p.rs.map (·.2)) pos)
          let w := zoomShift c v.1
          let d := clampInt (-(c.slewMax : Int)) c.slewMax p.slew
          some ({ p with sat := false, k := p.k + 1, slew := p.slew - d,
                         base := p.base.map (fun b => ((b : Int) + d).toNat) },
            ⟨w.1.1, w.1.2, inst / 2 ^ 32, { Marks.none with sat := p.sat || v.2 || w.2 }⟩)

end Sys2Proof.Machine
end

