-- ==== Sys2Proof/Machine/Zoom.lean ====
section
/-! DEFINITION. Zoom channels (R234 to R257): enable, commit, block boundaries, fades, outputs with their marks, and the
threshold comparators. -/

namespace Sys2Proof.Machine

def State.zoom (s : State) (z : Nat) : Zoom := sparseGet (fun _ => Zoom.fresh) s.zooms z

def State.setZoom (s : State) (z : Nat) (v : Zoom) : State :=
  { s with zooms := sparsePut (fun _ => Zoom.fresh) z v s.zooms }

/-- ZC_STATE.state. -/
def State.zoomState (s : State) (z : Nat) : Nat := s.fld (Reg.COND.ZC_STATE z) Fld.COND.ZC_STATE.state

/-! ## Settings -/

def State.zoomCfgFld (s : State) (z : Nat) (f : Bits) : Nat := s.fld (Reg.COND.ZC_CFG z) f

/-- F_d; 1 when the FIR is off. -/
def State.zoomFd (s : State) (z : Nat) : Nat :=
  match s.zoomCfgFld z Fld.COND.ZC_CFG.fir_dec with | 1 => 2 | 2 => 4 | _ => 1

def State.zoomFirOn (s : State) (z : Nat) : Bool := s.zoomCfgFld z Fld.COND.ZC_CFG.fir_dec ≠ 3

/-- D_int (R234). -/
def State.zoomDint (s : State) (z : Nat) : Nat :=
  s.zoomCfgFld z Fld.COND.ZC_CFG.cic_r * 2 ^ s.zoomCfgFld z Fld.COND.ZC_CFG.hb1 *
    2 ^ s.zoomCfgFld z Fld.COND.ZC_CFG.hb2 * s.zoomFd z

def State.zoomRs (s : State) (z : Nat) : Bool := s.zoomCfgFld z Fld.COND.ZC_CFG.rs_en = 1
def State.zoomMachine (s : State) (z : Nat) : Bool := s.zoomRs z && decide (s.zoomCfgFld z Fld.COND.ZC_CFG.rs_mode = 1)

/-- ρ_min (R234). -/
def State.zoomRhoMin (s : State) (z : Nat) : Nat := if s.zoomRs z then s.zoomCfgFld z Fld.COND.ZC_CFG.rs_min else 1

def State.zoomIn (s : State) (z : Nat) : Nat := s.fld (Reg.COND.ZC_IO z) Fld.COND.ZC_IO.in_id
def State.zoomOut (s : State) (z : Nat) : Nat := s.fld (Reg.COND.ZC_IO z) Fld.COND.ZC_IO.out_id

/-- q (R240). -/
def State.zoomQ (s : State) (z : Nat) : Nat :=
  if s.zoomMachine z then s.zoomCfgFld z Fld.COND.ZC_CFG.per_bucket + 1 else 1

/-- The accepted bucket period in 2^-32 TB-S units (R217). -/
def State.bucketPeriod (s : State) : Nat := s.reg64 Reg.TIME.TRACK_B_FRAC Reg.TIME.TRACK_B_INT

/-- Whether ρ = num/den lies in [ρ_min, 8] (R240). -/
def rhoOk (rmin num den : Nat) : Bool := decide (rmin * den ≤ num) && decide (num ≤ 8 * den)

/-- q · P · D_int in 2^-32 TB-S units: the divisor that takes B to ρ (R240). -/
def State.rhoDen (s : State) (z : Nat) : Nat := s.zoomQ z * (s.stream (s.zoomIn z)).period * s.zoomDint z * 2 ^ 32

/-- Whether a bucket period gives a ratio in range (R240). -/
def State.bucketOk (s : State) (z b : Nat) : Bool := rhoOk (s.zoomRhoMin z) b (s.rhoDen z)

/-- The committed coefficients h[0] to h[T−1] (R238, R255). -/
def State.zoomTaps (s : State) (z : Nat) : List Int :=
  (List.range (s.fld (Reg.COND.ZC_FIR z) Fld.COND.ZC_FIR.taps)).map (fun k => signedOf 18 (s.reg (Reg.COND.COEF z k)).toNat)

/-- F (R246). -/
def State.zoomF (s : State) (z : Nat) : Nat := s.fld (Reg.COND.ZC_FIR z) Fld.COND.ZC_FIR.fade + 1

/-- 2G without the resampler, in input samples (R243). -/
def State.zoomG2pre (s : State) (z : Nat) : Nat :=
  let r := s.zoomCfgFld z Fld.COND.ZC_CFG.cic_r
  let h1 := s.zoomCfgFld z Fld.COND.ZC_CFG.hb1
  let h2 := s.zoomCfgFld z Fld.COND.ZC_CFG.hb2
  let t := if s.zoomFirOn z then s.fld (Reg.COND.ZC_FIR z) Fld.COND.ZC_FIR.taps else 1
  let spk := s.zoomCfgFld z Fld.COND.ZC_CFG.tap = 1 && s.flag (Reg.COND.SPK_STATE (z / 4)) Fld.COND.SPK_STATE.enabled
  (if spk then s.spikeWin (z / 4) - 1 else 0) + 5 * (r - 1) + 22 * r * h1 + 46 * r * 2 ^ h1 * h2 +
    r * 2 ^ (h1 + h2) * (t - 1)

/-- The step of q resampler outputs in 2^-32 TB-S units: B, or ρ · D_int · P. -/
def State.zoomStep (s : State) (z : Nat) : Nat :=
  if s.zoomMachine z then (s.zoom z).path.num
  else (s.reg (Reg.COND.ZC_RS_RATIO z)).toNat * 16 * s.zoomDint z * (s.stream (s.zoomIn z)).period

/-- D in 2^-28 input samples (R234). -/
def State.zoomD28 (s : State) (z : Nat) : Nat :=
  if s.zoomRs z then s.zoomStep z / (s.zoomQ z * (s.stream (s.zoomIn z)).period * 16) else s.zoomDint z * 2 ^ 28

/-- 2G in 2^-28 input samples (R243). -/
def State.zoomG2 (s : State) (z : Nat) : Nat :=
  s.zoomG2pre z * 2 ^ 28 + (if s.zoomRs z then 4 * s.zoomD28 z else 0)

/-- ceil(2G ÷ D) + 1 (R248). -/
def State.zoomSettle (s : State) (z : Nat) : Nat := ceilDiv (s.zoomG2 z) (s.zoomD28 z) + 1

/-- Rounded to the nearest integer; at a tie either neighbour. -/
def nearFree (site : Nat) (a b : Nat) : Nat :=
  if 2 * (a % b) < b then a / b
  else if b < 2 * (a % b) then a / b + 1
  else a / b + (if Config.roundsUp site a b then 1 else 0)

/-- ZC_GDELAY, ZC_SETTLE and ZC_RS_NOW from the settings in force. -/
def State.zoomReport (s : State) (z : Nat) : State :=
  let s : State := s.setFld (Reg.COND.ZC_GDELAY z) Fld.COND.ZC_GDELAY.g2 (nearFree 40 (s.zoomG2 z) (2 ^ 28))
  let s : State := s.setFld (Reg.COND.ZC_SETTLE z) Fld.COND.ZC_SETTLE.count (s.zoomSettle z)
  if s.zoomRs z then
    s.setReg (Reg.COND.ZC_RS_NOW z) (if s.zoomMachine z then
      BitVec.ofInt 32 (freeDiv 41 ((s.zoomStep z) * 2 ^ 28 : Nat) (s.rhoDen z)) else s.reg (Reg.COND.ZC_RS_RATIO z))
  else s.setReg (Reg.COND.ZC_RS_NOW z) (2 ^ 28 : Nat)

/-- The settings the data path uses for the next output. -/
def State.zoomPathCfg (s : State) (z : Nat) : ZoomCfg :=
  let st := s.stream (s.zoomIn z)
  { cplx := st.cplx,
    ftw := (s.reg (Reg.COND.ZC_FTW_LO z)).toNat + 2 ^ 32 * s.fld (Reg.COND.ZC_FTW_HI z) Fld.COND.ZC_FTW_HI.ftw,
    phase := s.fld (Reg.COND.ZC_FTW_HI z) Fld.COND.ZC_FTW_HI.phase,
    cicR := s.zoomCfgFld z Fld.COND.ZC_CFG.cic_r,
    hb1 := s.zoomCfgFld z Fld.COND.ZC_CFG.hb1 = 1, hb2 := s.zoomCfgFld z Fld.COND.ZC_CFG.hb2 = 1,
    firDec := s.zoomFd z, firOn := s.zoomFirOn z, taps := s.zoomTaps z, oldTaps := (s.zoom z).oldTaps,
    fade := (s.zoom z).fade.map (fun k => (min (k + 1) (s.zoomF z), s.zoomF z)),
    rsOn := s.zoomRs z, q := s.zoomQ z,
    slewMax := s.fld (Reg.COND.ZC_RS_SLEW z) Fld.COND.ZC_RS_SLEW.slew * 2 ^ 32,
    shift := s.fld (Reg.COND.ZC_OUT z) Fld.COND.ZC_OUT.shift, period := st.period, dint := s.zoomDint z,
    g2pre := s.zoomG2pre z, g2 := s.zoomG2 z,
    grid := if s.zoomMachine z then
        some ((((s.tim.trackA.getD 0 : Nat) : Int) +
          signedOf 24 (s.fld (Reg.COND.ZC_RS_OFFSET z) Fld.COND.ZC_RS_OFFSET.offset)).toNat * 2 ^ 32)
      else none }

/-! ## Enable and disable -/

/-- Whether R234 and R240 refuse a unit enable. -/
def State.zoomRefused (s : State) (z : Nat) : Bool :=
  let r := s.zoomCfgFld z Fld.COND.ZC_CFG.cic_r
  let d := s.zoomDint z * s.zoomRhoMin z
  let head := match (s.stream (s.zoomIn z)).source with
    | some (.head p _) => p = z / 4
    | _ => false
  let declared := match s.declFor (· = .zoom z) with
    | some e => decide (e.param / 8 % 2 ^ 17 = d)
    | none => false
  [0, 2, 3].contains r || decide (512 < r) || decide (8192 < s.zoomDint z) || !declared || decide (d < 2) || !head ||
    !(decide ((s.stream (s.zoomOut z)).source = none) || decide ((s.stream (s.zoomOut z)).source = some (.zoom z))) || (s.zoomMachine z && s.tim.trackA.isNone)

/-- RS_RANGE set and raised (R240). -/
def State.rsRange (s : State) (z : Nat) : State :=
  (s.setSta (Reg.COND.ZC_STA z) Fld.COND.ZC_STA.RS_RANGE).blkEvent 8 11 Ev.COND.RS_RANGE z

/-- ZC_ENABLE (R234, R236, R248). A machine-synchronous channel whose ratio lies out of range at its enable keeps the
ratio that ZC_RS_NOW holds, or one that is free while it holds none. -/
def State.zcEnable (s : State) (z : Nat) : State :=
  if !s.blockOn 8 || decide (s.zoomState z ≠ 0) then s
  else if s.zoomRefused z then
    (s.setSta (Reg.COND.ZC_STA z) Fld.COND.ZC_STA.CFG_REFUSED).blkEvent 8 14 Ev.COND.ZC_REFUSED z
  else
    let inp := s.stream (s.zoomIn z)
    let b := s.bucketPeriod
    let ok := !s.zoomMachine z || s.bucketOk z b
    let s : State := if ok then s else s.rsRange z
    let now := (s.reg (Reg.COND.ZC_RS_NOW z)).toNat
    let (f, s) := if ok || decide (now ≠ 0) then (0, s) else s.draw
    let num : Nat := if ok then b else if now ≠ 0 then now * s.rhoDen z / 2 ^ 28 else Config.freeNat 42 f
    let s : State := s.setZoom z { Zoom.fresh with
      path := { ZoomPath.fresh with taken := inp.delivered, num := num }, period := inp.period }
    let s : State := s.setZoom z { s.zoom z with path := { (s.zoom z).path with num := s.zoomStep z } }
    let s : State := s.zoomReport z
    let s : State := s.setZoom z { s.zoom z with unsettled := s.zoomSettle z }
    let s : State := s.setStream (s.zoomOut z) { Stream.vacant with
      source := some (.zoom z), cplx := true, period := s.zoomD28 z * inp.period / 2 ^ 28 }
    let s : State := s.setReg (Reg.COND.TH_STATE z) 0
    s.setReg (Reg.COND.ZC_STATE z) (putField Fld.COND.ZC_STATE.unsettled 1 (putField Fld.COND.ZC_STATE.state 1
      (s.reg (Reg.COND.ZC_STATE z))))

/-- ZC_ENABLE. -/
def execZcEnable (z : Fin 32) (s : State) : Host.Outcome State Fault Refusal :=
  .next ((s.accept (Reg.COND.ZC_CMD z.val) Fld.COND.ZC_CMD.enable_go).zcEnable z.val)

/-- ZC_DISABLE (R255). -/
def State.zcDisable (s : State) (z : Nat) : State :=
  if s.zoomState z = 0 then s else s.setFld (Reg.COND.ZC_STATE z) Fld.COND.ZC_STATE.state 3

def execZcDisable (z : Fin 32) (s : State) : Host.Outcome State Fault Refusal :=
  .next ((s.accept (Reg.COND.ZC_CMD z.val) Fld.COND.ZC_CMD.disable_go).zcDisable z.val)

/-! ## Commits -/

/-- A coefficient as staged. -/
def State.stagedCoef (s : State) (z k : Nat) : Int := signedOf 18 (s.stagedReg (Reg.COND.COEF z k)).toNat

/-- Whether the staged coefficients are symmetric (R238). -/
def State.coefOk (s : State) (z : Nat) : Bool :=
  let t := s.stagedFld (Reg.COND.ZC_FIR z) Fld.COND.ZC_FIR.taps
  !s.zoomFirOn z || (List.range t).all (fun k => decide (s.stagedCoef z k = s.stagedCoef z (t - 1 - k)))

/-- Whether the staged fixed ratio is in range (R240). -/
def State.ratioOk (s : State) (z : Nat) : Bool :=
  !s.zoomRs z || s.zoomMachine z || rhoOk (s.zoomRhoMin z) (s.stagedReg (Reg.COND.ZC_RS_RATIO z)).toNat (2 ^ 28)

/-- ZC_COMMIT (R245): whether it is refused, and the state after. -/
def State.zcCommit (s : State) (z : Nat) : Bool × State :=
  if !s.coefOk z then
    (true, (s.setSta (Reg.COND.ZC_STA z) Fld.COND.ZC_STA.COEF_REFUSED).blkEvent 8 10 Ev.COND.COEF_REFUSED z)
  else if !s.ratioOk z then (true, s.rsRange z)
  else if s.zoomState z = 0 then (false, s.commitScope ⟨.zoom, z⟩)
  else (false, s.setZoom z { s.zoom z with commit := true })

def execZcCommit (z : Fin 32) (s : State) : Host.Outcome State Fault Refusal :=
  .next ((s.accept (Reg.COND.ZC_CMD z.val) Fld.COND.ZC_CMD.commit_go).zcCommit z.val).2

/-- The resampler's grid continues from the current output instant with a new step (R242). -/
def ZoomPath.rebase (p : ZoomPath) (q num : Nat) : ZoomPath :=
  match p.base with
  | none => { p with num := num }
  | some b => { p with base := some (b + (p.k - 1) * p.num / q), k := min p.k 1, num := num }

/-- The comparators return to ARMED (R253). -/
def State.armComparators (s : State) (z : Nat) : State :=
  let s : State := s.setFld (Reg.COND.TH_STATE z) Fld.COND.TH_STATE.up 0
  let s : State := s.setFld (Reg.COND.TH_STATE z) Fld.COND.TH_STATE.down 0
  let s : State := s.setZoom z { s.zoom z with upN := 0, downN := 0 }
  if s.sourceOn (16 + z) then s.activate (16 + z) (((s.zoom z).lastPow.map (·.2.2)).getD s.stampTbs) false 0 else s

/-- A zoom commit takes effect (R245, R246, R248, R253). -/
def State.zoomApply (s : State) (z : Nat) : State :=
  let taps := s.zoomTaps z
  let allCoef := (List.range 255).map (fun k => s.reg (Reg.COND.COEF z k))
  let newCoef := (List.range 255).map (fun k => s.stagedReg (Reg.COND.COEF z k))
  let t := s.stagedFld (Reg.COND.ZC_FIR z) Fld.COND.ZC_FIR.taps
  let firNew := decide (allCoef ≠ newCoef) || decide (t ≠ taps.length)
  let th := [Reg.COND.TH_UPPER z, Reg.COND.TH_LOWER z, Reg.COND.TH_DWELL z].any (fun a => s.stagedReg a ≠ s.reg a)
  let old := signedOf 24 (s.fld (Reg.COND.ZC_RS_OFFSET z) Fld.COND.ZC_RS_OFFSET.offset)
  let s : State := s.commitScope ⟨.zoom, z⟩
  let off := signedOf 24 (s.fld (Reg.COND.ZC_RS_OFFSET z) Fld.COND.ZC_RS_OFFSET.offset)
  let p := (s.zoom z).path
  let p := if s.zoomMachine z then
      { p with base := p.base.map (fun b => ((b : Int) + (off - old) * 2 ^ 32).toNat) }
    else if p.num = s.zoomStep z then p else p.rebase (s.zoomQ z) (s.zoomStep z)
  let s : State := s.setZoom z { s.zoom z with path := p, commit := false }
  let s : State := s.zoomReport z
  let n := s.zoomSettle z
  let s : State := if firNew && s.zoomFirOn z then
      let s : State := s.setZoom z { s.zoom z with fade := some 0, oldTaps := taps, unsettled := max n (s.zoomF z) }
      let s : State := s.setFld (Reg.COND.ZC_STATE z) Fld.COND.ZC_STATE.state 2
      s.setFld (Reg.COND.ZC_STATE z) Fld.COND.ZC_STATE.bank (1 - s.fld (Reg.COND.ZC_STATE z) Fld.COND.ZC_STATE.bank)
    else s.setZoom z { s.zoom z with unsettled := max n (s.zoom z).unsettled }
  let s : State := if th then s.armComparators z else s
  s.setSta (Reg.COND.ZC_STA z) Fld.COND.ZC_STA.COMMITTED

/-- A zoom channel goes OFF: its output stream ID is free again. -/
def State.zoomOff (s : State) (z : Nat) : State :=
  let s : State := s.armComparators z
  let out := s.zoomOut z
  let s : State := s.setStream out (if (s.holder (· = .stream out)).isSome then
    { Stream.vacant with source := some (.zoom z), cplx := true } else Stream.vacant)
  let s : State := (s.setZoom z Zoom.fresh).setFld (Reg.COND.ZC_STATE z) Fld.COND.ZC_STATE.unsettled 0
  s.setFld (Reg.COND.ZC_STATE z) Fld.COND.ZC_STATE.state 0

/-- A zoom block boundary (R236, R242, R245, R247): a draining channel ends; a commit takes effect unless a fade runs; a
new bucket period takes effect. -/
def State.zoomBoundary (s : State) (z : Nat) : State :=
  if s.zoomState z = 3 then s.zoomOff z
  else
    let s : State := s.setZoom z { s.zoom z with outs := 0, satSeen := false }
    let s : State := if (s.zoom z).commit && decide (s.zoomState z ≠ 2) then s.zoomApply z else s
    match (s.zoom z).path.bNext with
    | none => s
    | some b =>
      let p := (s.zoom z).path
      (s.setZoom z { s.zoom z with path := { p.rebase (s.zoomQ z) b with bNext := none } }).zoomReport z

/-- ZOOM_BLOCK_BOUNDARY: 256 outputs after the last one. -/
def execZoomBlockBoundary (z : Fin 32) (s : State) : Host.Outcome State Fault Refusal :=
  .next (if s.zoomState z.val ≠ 0 && (s.zoom z.val).outs = 256 then s.zoomBoundary z.val else s)

/-- The end of a fade (R246). -/
def State.fadeEnd (s : State) (z : Nat) : State :=
  let s : State := s.setZoom z { s.zoom z with fade := none, oldTaps := [] }
  if s.zoomState z = 2 then s.setFld (Reg.COND.ZC_STATE z) Fld.COND.ZC_STATE.state 1 else s

/-- Whether a fade has given its F outputs. -/
def State.fadeDone (s : State) (z : Nat) : Bool :=
  match (s.zoom z).fade with
  | some k => decide (s.zoomF z ≤ k)
  | none => false

/-- FADE_END (R246). -/
def execFadeEnd (z : Fin 32) (s : State) : Host.Outcome State Fault Refusal :=
  .next (if s.fadeDone z.val then s.fadeEnd z.val else s)

/-! ## Comparators -/

/-- The smallest x in [a, a + 2^k) from which a test holds, when it holds from some point on. -/
def firstTrue (f : Nat → Bool) : Nat → Nat → Nat
  | 0, a => if f a then a else a + 1
  | k + 1, a => if f (a + 2 ^ k - 1) then firstTrue f k a else firstTrue f k (a + 2 ^ k)

/-- The instant at which the power crosses a level between two outputs, by linear interpolation in linear power (R253);
how a crossing between two TB-S units is rounded is free. `up` is a rising crossing. -/
def crossing (up : Bool) (level : Nat) (a b : Nat × Nat × Nat) : Nat :=
  let (n0, d0, t0) := a
  let (n1, d1, t1) := b
  if t1 ≤ t0 then t1
  else
    let w := t1 - t0
    let f (x : Nat) : Bool :=
      let d := min x w
      let above := atLeastDb (n0 * d1 * (w - d) + n1 * d0 * d) (d0 * d1 * w) level
      if up then above else !above
    let x := min w (firstTrue f (w.log2 + 1) 0)
    if x = 0 then t0 else t0 + x - (if Config.roundsUp 43 n0 n1 then 0 else 1)

/-- One comparator's step (R252): its state, count and crossing, and whether it fired. `beyond` and `back` are the two
comparisons of its row; a dwell of 1 fires at the first output. -/
def comparator (skip beyond back : Bool) (dwell cross : Nat) (st n at_ : Nat) : Nat × Nat × Nat × Bool :=
  if skip then (if st = 1 then 0 else st, if st = 1 then 0 else n, at_, false)
  else match st with
    | 0 => if beyond then (if dwell ≤ 1 then (2, 1, cross, true) else (1, 1, cross, false)) else (0, 0, at_, false)
    | 1 => if !beyond then (0, 0, at_, false)
           else if dwell ≤ n + 1 then (2, n + 1, at_, true) else (1, n + 1, at_, false)
    | _ => if back then (0, 0, at_, false) else (2, n, at_, false)

/-- An output judged by both comparators (R251 to R253), and the channel's trigger source. -/
def State.judge (s : State) (z : Nat) (y : Sample) : State :=
  let zc := s.zoom z
  let th := Reg.COND.TH_CFG z
  let p := ((y.i * y.i + y.q * y.q).toNat) * (if (s.stream (s.zoomIn z)).cplx then 1 else 4)
  let mean := s.flag th Fld.COND.TH_CFG.mean
  let powers := if mean then (p :: zc.powers).take (s.fld th Fld.COND.TH_CFG.lm + 1) else []
  let pw : Nat × Nat × Nat := if mean then (powers.sum, powers.length * 2 ^ 46, y.tbs) else (p, 2 ^ 46, y.tbs)
  let v := logp16 pw.1 pw.2.1
  let lu := s.fld (Reg.COND.TH_UPPER z) Fld.COND.TH_UPPER.level
  let hu := s.fld (Reg.COND.TH_UPPER z) Fld.COND.TH_UPPER.hyst
  let ll := s.fld (Reg.COND.TH_LOWER z) Fld.COND.TH_LOWER.level
  let hl := s.fld (Reg.COND.TH_LOWER z) Fld.COND.TH_LOWER.hyst
  let skip := y.marks.unsettled || y.marks.gap
  let before := zc.lastPow.getD pw
  let ts := Reg.COND.TH_STATE z
  let u := comparator (skip || !s.flag th Fld.COND.TH_CFG.up_en) (decide (lu < v)) (decide (v + hu ≤ lu))
    (s.fld (Reg.COND.TH_DWELL z) Fld.COND.TH_DWELL.up) (if lu < v then crossing true lu before pw else 0)
    (s.fld ts Fld.COND.TH_STATE.up) zc.upN zc.upAt
  let d := comparator (skip || !s.flag th Fld.COND.TH_CFG.down_en) (decide (v < ll)) (decide (ll + hl ≤ v))
    (s.fld (Reg.COND.TH_DWELL z) Fld.COND.TH_DWELL.down) (if v < ll then crossing false ll before pw else 0)
    (s.fld ts Fld.COND.TH_STATE.down) zc.downN zc.downAt
  let s : State := s.setReg ts (putField Fld.COND.TH_STATE.power v (putField Fld.COND.TH_STATE.down d.1
    (putField Fld.COND.TH_STATE.up u.1 (s.reg ts))))
  let s : State := s.setZoom z { zc with
    powers := powers, upN := u.2.1, downN := d.2.1, upAt := u.2.2.1, downAt := d.2.2.1, lastPow := some pw }
  let s : State := if u.2.2.2 then ((s.count (Reg.COND.TH_UP_CNT z) 1).setSta (Reg.COND.ZC_STA z)
      Fld.COND.ZC_STA.TH_UP).blkEvent 8 12 Ev.COND.TH_UP z else s
  let s : State := if d.2.2.2 then ((s.count (Reg.COND.TH_DOWN_CNT z) 1).setSta (Reg.COND.ZC_STA z)
      Fld.COND.ZC_STA.TH_DOWN).blkEvent 8 13 Ev.COND.TH_DOWN z else s
  let sel := s.fld th Fld.COND.TH_CFG.src_sel
  let upOn := sel.testBit 0 && u.1 = 2
  let downOn := sel.testBit 1 && d.1 = 2
  let was := s.sourceOn (16 + z)
  if (upOn || downOn) && !was then
    s.activate (16 + z) (if sel.testBit 0 && u.2.2.2 then u.2.2.1 else d.2.2.1) true y.marks.bits
  else if was && !(upOn || downOn) then s.activate (16 + z) y.tbs false y.marks.bits
  else s

/-! ## Outputs -/

/-- The marks of an output from the input samples of its span (R248, R249), and the outputs still UNSETTLED after it. -/
def State.zoomMarks (s : State) (z : Nat) (y : Sample) : Marks × Nat :=
  let zc := s.zoom z
  let st := s.stream (s.zoomIn z)
  let g := s.zoomG2 z * st.period / 2 ^ 29
  let lo := st.first + (st.hist.takeWhile (fun x => decide (x.tbs + g < y.tbs))).length
  let span := (s.inputs (s.zoomIn z) (s.zoomCfgFld z Fld.COND.ZC_CFG.tap = 1) lo).takeWhile
    (fun x => decide (x.tbs ≤ y.tbs + g))
  let own := span.any (fun x => x.marks.gap && decide (x.tbs ≤ y.tbs) && decide (y.tbs < x.tbs + st.period))
  let missing := span.any (·.marks.gap)
  let prev := (zc.lastPow.map (·.2.2)).getD 0
  let passed := span.any (fun x => x.marks.gap && decide (prev < x.tbs) && decide (x.tbs ≤ y.tbs))
  let left := if passed || decide (zc.period ≠ st.period) then max zc.unsettled (s.zoomSettle z) else zc.unsettled
  let all := span.foldl (fun m x => m.or x.marks) Marks.none
  let uns := !own && (decide (0 < left) || missing || all.unsettled)
  ({ all with gap := own, unsettled := uns, sat := y.marks.sat, poison := false },
    if own then max left (s.zoomSettle z) else left - 1)

/-- The 12-bit code of a zoom value in the raw ring: its upper 12 bits (R260, R330); how they round is not stated. -/
def rawCode (v : Int) : Int := clampInt (-2048) 2047 (freeDiv 56 v 4096)

/-- ZOOM_OUTPUT (R239, R248 to R253): the next output of a channel, from the samples waiting. -/
def State.zoomOutput (s : State) (z : Nat) : State :=
  let zc := s.zoom z
  let inId := s.zoomIn z
  match zoomNext (s.zoomPathCfg z) (s.inputs inId (s.zoomCfgFld z Fld.COND.ZC_CFG.tap = 1) zc.path.taken) zc.path with
  | none => s
  | some (p, y) =>
    let (m, left) := s.zoomMarks z y
    let m : Marks := if zc.gap then { m with gap := true, unsettled := false } else m
    let y : Sample := { y with marks := m }
    let per := (s.stream inId).period
    let s : State := s.setZoom z { zc with
      path := p, outs := zc.outs + 1, unsettled := left, fade := zc.fade.map (· + 1), period := per,
      satSeen := zc.satSeen || m.sat, gap := false }
    let s : State := if zc.period ≠ per && !s.zoomMachine z then
        (s.setZoom z { s.zoom z with path := p.rebase (s.zoomQ z) (s.zoomStep z) }).zoomReport z else s
    let s : State := s.setFld (Reg.COND.ZC_STATE z) Fld.COND.ZC_STATE.unsettled (bit m.unsettled)
    let s : State := if m.sat then
        let s : State := (s.count (Reg.COND.ZC_SAT_CNT z) 1).setSta (Reg.COND.ZC_STA z) Fld.COND.ZC_STA.SAT
        if zc.satSeen then s else s.blkEvent 8 9 Ev.COND.ZC_SAT z
      else s
    let out := s.zoomOut z
    let st := s.stream out
    let s : State := s.setStream out { st with
      hist := st.hist ++ [y], delivered := st.delivered + 1,
      values := st.values ++ [(rawCode y.i, m), (rawCode y.q, m)] }
    s.judge z y

/-- The block boundary and the end of a fade that come before the next output. -/
def State.zoomDue (s : State) (z : Nat) : State :=
  let s : State := if s.fadeDone z then s.fadeEnd z else s
  if (s.zoom z).outs = 256 then s.zoomBoundary z else s

/-- ZOOM_OUTPUT. -/
def execZoomOutput (z : Fin 32) (s : State) : Host.Outcome State Fault Refusal :=
  let z := z.val
  if s.zoomState z = 0 || !s.running .dram then .next s
  else
    let s : State := s.zoomDue z
    .next (if s.zoomState z = 0 then s else s.zoomOutput z)

/-- A bucket period accepted at a gate reaches the machine-synchronous channels (R240, R242): a ratio out of range leaves
the previous one; else it waits for the block boundary. The difference between the running instant and the instant the
fit gives is what is left to slew. -/
def State.bucketAccepted (s : State) (z : Nat) : State :=
  if s.zoomState z = 0 || !s.zoomMachine z then s
  else
    let b := s.bucketPeriod
    if !s.bucketOk z b then s.rsRange z
    else
      let p := (s.zoom z).path
      let q := s.zoomQ z
      let a := s.reg64 (Reg.TIME.RES_PHASE_LO 0) (Reg.TIME.RES_PHASE_HI 0)
      let off := signedOf 24 (s.fld (Reg.COND.ZC_RS_OFFSET z) Fld.COND.ZC_RS_OFFSET.offset)
      let grid : Int := ((a : Int) + off) * 2 ^ 32
      let slew : Int := match p.base with
        | none => 0
        | some base =>
          let inst : Int := (base + p.k * p.num / q : Nat)
          let j := roundDivEven ((inst - grid) * q) b
          grid + (j * b).fdiv q - inst
      s.setZoom z { s.zoom z with path := { p with bNext := some b, slew := slew } }

/-- GATE_END (R215 to R217, R242). -/
def execGateEnd (r : Fin 4) (s : State) : Host.Outcome State Fault Refusal :=
  if s.hiddenScope ⟨.regr, r.val⟩ ≠ .run then .next s
  else
    let s : State := s.gateEnd r.val
    if r.val = 0 && s.tracking && !s.flag Reg.TIME.TIME_STATE Fld.TIME.TIME_STATE.track_hold then
      .next ((List.range 32).foldl (fun s z => s.bucketAccepted z) s)
    else .next s

end Sys2Proof.Machine
end

