-- ==== Sys2Proof/Machine/Xform.lean ====
section
/-! DEFINITION. Transform pairs and window slots (R258 to R292): enables and refusals, commits, averaging resets, frames
through to the output frame and its spectrogram area. The delivery of output frames to masks and planes lies with
TRANSFORM_FRAME in Frames. -/

namespace Sys2Proof.Machine

def State.pair (s : State) (i : Nat) : PairRun := sparseGet (fun _ => PairRun.fresh) s.pairs i

def State.setPair (s : State) (i : Nat) (v : PairRun) : State :=
  { s with pairs := sparsePut (fun _ => PairRun.fresh) i v s.pairs }

/-- XF_STATE.state: 0 OFF, 1 WAIT_ALIGN, 2 RUN, 3 DRAINING. -/
def State.pairState (s : State) (i : Nat) : Nat := s.fld (Reg.XFORM.XF_STATE i) Fld.XFORM.XF_STATE.state

def State.setPairState (s : State) (i v : Nat) : State := s.setFld (Reg.XFORM.XF_STATE i) Fld.XFORM.XF_STATE.state v

/-! ## Window slots -/

/-- Entry n of a window slot (R265). -/
def State.windowEntry (s : State) (w n : Nat) : Nat := sparseGet (fun _ => 0) s.windows (w * 65536 + n)

def State.slotSize (s : State) (w : Nat) : Nat := 2 ^ s.fld (Reg.XFORM.WIN_CFG w) Fld.XFORM.WIN_CFG.log2n

def State.slotOn (s : State) (w : Nat) : Bool := s.flag (Reg.XFORM.WIN_STATE w) Fld.XFORM.WIN_STATE.enabled

/-- WIN_ENABLE (R265). -/
def State.winEnable (s : State) (w : Nat) : State :=
  if !s.blockOn 9 || s.slotOn w then s
  else
    let n := s.slotSize w
    let e := (List.range (n / 2 + 1)).map (s.windowEntry w)
    if e.all (· = 0) then s.blkEvent 9 9 Ev.XFORM.WIN_REFUSED w
    else
      let g := windowGain (windowTable 6 0 (s.windowEntry w) n)
      let s : State := s.setFld (Reg.XFORM.WIN_CG w) Fld.XFORM.WIN_CG.cg g.1
      let s : State := s.setFld (Reg.XFORM.WIN_ENBW w) Fld.XFORM.WIN_ENBW.enbw g.2
      let s : State := s.setReg (Reg.XFORM.WIN_CRC w) (crc32c (e.flatMap (leBytes 4)))
      s.setFld (Reg.XFORM.WIN_STATE w) Fld.XFORM.WIN_STATE.enabled 1

/-- WIN_ENABLE. -/
def execWinEnable (w : Fin 8) (s : State) : Host.Outcome State Fault Refusal :=
  .next ((s.accept (Reg.XFORM.WIN_CMD w.val) Fld.XFORM.WIN_CMD.enable_go).winEnable w.val)

/-- The enabled pairs that select a window slot. -/
def State.slotUsers (s : State) (w : Nat) : Nat :=
  (List.range 128).countP (fun i => decide (s.pairState i ≠ 0) &&
    decide (s.fld (Reg.XFORM.XF_WIN i) Fld.XFORM.XF_WIN.win = 6) &&
    decide (s.fld (Reg.XFORM.XF_WIN i) Fld.XFORM.XF_WIN.slot = w))

/-- WIN_DISABLE (R265): ignored while an enabled pair selects the slot. -/
def State.winDisable (s : State) (w req : Nat) : State :=
  if s.slotUsers w ≠ 0 then s.busyDrop 9 req else s.setFld (Reg.XFORM.WIN_STATE w) Fld.XFORM.WIN_STATE.enabled 0

def execWinDisable (w : Fin 8) (s : State) : Host.Outcome State Fault Refusal :=
  let a := Reg.XFORM.WIN_CMD w.val
  .next ((s.accept a Fld.XFORM.WIN_CMD.disable_go).winDisable w.val (s.issuer a))

/-! ## Settings -/

/-- The zoom channel and the port stream behind a stream. -/
def State.zoomOf (s : State) (id : Nat) : Option Nat :=
  match (s.stream id).source with
  | some (.zoom z) => some z
  | _ => none

/-- Whether the port stream behind a stream is real (R269). -/
def State.realPort (s : State) (id : Nat) : Bool :=
  match s.zoomOf id with
  | some z => !(s.stream (s.zoomIn z)).cplx
  | none => !(s.stream id).cplx

/-- The settings of a pair, its STAGE fields read through `val`: the active values, or the staged copies. -/
def State.pairCfgBy (s : State) (val : Nat → Word) (i : Nat) : PairCfg :=
  let cfg := s.reg (Reg.XFORM.XF_CFG i)
  let w := val (Reg.XFORM.XF_WIN i)
  let a := val (Reg.XFORM.XF_AVG i)
  let b := val (Reg.XFORM.XF_BINS i)
  let r := val (Reg.XFORM.XF_RED i)
  let id := getField Fld.XFORM.XF_CFG.stream cfg
  let n := getField Fld.XFORM.XF_CFG.log2n cfg
  { stream := id, res := getField Fld.XFORM.XF_CFG.res cfg, log2n := n, ov := getField Fld.XFORM.XF_CFG.ov cfg,
    cplx := (s.stream id).cplx, real := s.realPort id,
    sh := match s.zoomOf id with
      | some z => s.fld (Reg.COND.ZC_OUT z) Fld.COND.ZC_OUT.shift
      | none => 0,
    det := getField Fld.XFORM.XF_CFG.det cfg,
    win := windowTable (getField Fld.XFORM.XF_WIN.win w) (getField Fld.XFORM.XF_WIN.param w)
      (s.windowEntry (getField Fld.XFORM.XF_WIN.slot w)) (2 ^ n),
    mode := getField Fld.XFORM.XF_AVG.mode a, k := getField Fld.XFORM.XF_AVG.k a + 1,
    m := getField Fld.XFORM.XF_AVG.m a + 1, cont := getField Fld.XFORM.XF_AVG.cont a = 1,
    lo := getField Fld.XFORM.XF_BINS.lo b, hi := getField Fld.XFORM.XF_BINS.hi b,
    red := getField Fld.XFORM.XF_RED.red_en r = 1, op := getField Fld.XFORM.XF_RED.op r,
    c := getField Fld.XFORM.XF_RED.c r + 1 }

def State.pairCfg (s : State) (i : Nat) : PairCfg := s.pairCfgBy s.reg i

/-- Whether an averaging mode is refused for a detector (R272). -/
def avgRefused (det mode : Nat) : Bool := decide (5 < mode) || (det = 0 && decide (mode ≠ 0) && decide (mode ≠ 2))

/-- Whether a window selection is refused (R282). -/
def State.windowRefused (s : State) (w : Word) (log2n : Nat) : Bool :=
  let p := getField Fld.XFORM.XF_WIN.param w
  let slot := getField Fld.XFORM.XF_WIN.slot w
  match getField Fld.XFORM.XF_WIN.win w with
  | 4 => decide (3 < p)
  | 5 => decide (2 < p)
  | 6 => !s.slotOn slot || decide (s.slotSize slot ≠ 2 ^ log2n)
  | 7 => true
  | _ => false

/-- Whether an Inkwell area lies in the allocation of the program that holds an item (R279, R554). -/
def State.inAllocation (s : State) (p : Binding → Bool) (a n : Nat) : Bool :=
  match s.holder p with
  | some k => decide ((s.nib k).inkBase ≤ a) && decide (a + n ≤ (s.nib k).inkBase + (s.nib k).inkMiB * 2 ^ 20)
  | none => false

/-- The reason of R282 for which an enable or a commit is refused; 0 for none. -/
def State.pairRefusal (s : State) (i : Nat) : Nat :=
  let c := s.pairCfgBy s.stagedReg i
  let cfg := s.reg (Reg.XFORM.XF_CFG i)
  let declared := match s.declFor (· = .pair i) with
    | some d => decide (d.param % 2 ^ 15 = cfg.toNat % 2 ^ 15)
    | none => false
  let len := s.fld (Reg.XFORM.XF_SG_LEN i) Fld.XFORM.XF_SG_LEN.len * 4096
  let base := s.fld (Reg.XFORM.XF_SG_BASE i) Fld.XFORM.XF_SG_BASE.base * 4096
  if !declared then 1
  else if c.det = 3 || avgRefused c.det c.mode || (c.red && c.det = 0 && decide (c.op ≠ 3)) then 2
  else if c.top < c.lo || (c.red && decide (c.sel < c.c)) then 3
  else if s.windowRefused (s.stagedReg (Reg.XFORM.XF_WIN i)) c.log2n then 4
  else if decide (len ≠ 0) && (!s.inAllocation (· = .pair i) base len || decide (len < c.cells * 56)) then 5
  else if (List.range 128).any (fun j => decide (j ≠ i) && decide (s.pairState j ≠ 0) &&
      decide (s.fld (Reg.XFORM.XF_CFG j) Fld.XFORM.XF_CFG.stream = c.stream) &&
      decide (s.fld (Reg.XFORM.XF_CFG j) Fld.XFORM.XF_CFG.res = c.res)) then 6
  else 0

/-- A refusal reported (R282). -/
def State.pairRefused (s : State) (i reason : Nat) : State :=
  ((s.setFld (Reg.XFORM.XF_REFUSE i) Fld.XFORM.XF_REFUSE.reason reason).setSta (Reg.XFORM.XF_STA i)
    Fld.XFORM.XF_STA.REFUSED).blkEvent 9 8 Ev.XFORM.XF_REFUSED (i + reason * 256)

/-- XF_CG, XF_ENBW and XF_POI for the active settings (R262, R264). -/
def State.pairReport (s : State) (i : Nat) : State :=
  let c := s.pairCfg i
  let g := windowGain c.win
  let s : State := s.setFld (Reg.XFORM.XF_CG i) Fld.XFORM.XF_CG.cg g.1
  let s : State := s.setFld (Reg.XFORM.XF_ENBW i) Fld.XFORM.XF_ENBW.enbw g.2
  s.setFld (Reg.XFORM.XF_POI i) Fld.XFORM.XF_POI.poi (c.size + c.hop - 1)

/-! ## Enable, align, disable, commit -/

/-- The index of the next sample of a stream to reach a tile: the spike filter holds back (W − 1)/2 samples (R231). -/
def State.nextAtTile (s : State) (id : Nat) : Nat :=
  let st := s.stream id
  match st.source with
  | some (.head p _) =>
    if s.flag (Reg.COND.SPK_STATE p) Fld.COND.SPK_STATE.enabled then st.delivered - (s.spikeWin p - 1) / 2
    else st.delivered
  | _ => st.delivered

/-- XF_ENABLE (R261, R282): whether it is refused, and the state after. -/
def State.xfEnable (s : State) (i : Nat) : Bool × State :=
  if !s.blockOn 9 then (true, s)
  else if s.pairState i ≠ 0 then (false, s)
  else
    let r := s.pairRefusal i
    if r ≠ 0 then (true, s.pairRefused i r)
    else
      let c := s.pairCfg i
      let align := s.reg64 (Reg.XFORM.XF_ALIGN_LO i) (Reg.XFORM.XF_ALIGN_HI i)
      let en := s.flag (Reg.XFORM.XF_CFG i) Fld.XFORM.XF_CFG.align_en
      let late := en && decide (align ≤ s.time.tbs.toNat)
      let s : State := s.setPair i { PairRun.fresh with
        n0 := some (s.nextAtTile c.stream), period := (s.stream c.stream).period }
      let s : State := s.pairReport i
      let s : State := s.setFld (Reg.XFORM.XF_STATE i) Fld.XFORM.XF_STATE.avg_unsettled (bit (c.mode = 1))
      let s : State := (s.setPairState i (if en && !late then 1 else 2)).setReg (Reg.XFORM.XF_SG_WPTR i) 0
      (false, if late then (s.setSta (Reg.XFORM.XF_STA i) Fld.XFORM.XF_STA.ALIGN_LATE).blkEvent 9 11 Ev.XFORM.ALIGN_LATE i
        else s)

def execXfEnable (i : Fin 128) (s : State) : Host.Outcome State Fault Refusal :=
  .next ((s.accept (Reg.XFORM.XF_CMD i.val) Fld.XFORM.XF_CMD.enable_go).xfEnable i.val).2

/-- ALIGN_START (R261): n0 is the first sample since the enable stamped at or after the align instant. -/
def execAlignStart (i : Fin 128) (s : State) : Host.Outcome State Fault Refusal :=
  let i := i.val
  if s.pairState i ≠ 1 then .next s
  else
    let st := s.stream (s.pairCfg i).stream
    let from_ := (s.pair i).n0.getD 0
    let align := s.reg64 (Reg.XFORM.XF_ALIGN_LO i) (Reg.XFORM.XF_ALIGN_HI i)
    let l := st.hist.drop (from_ - st.first)
    match l.findIdx? (fun x => decide (align ≤ x.tbs)) with
    | none => .next s
    | some d => .next ((s.setPair i { s.pair i with n0 := some (max from_ st.first + d) }).setPairState i 2)

/-- The frames of a pair whose first sample has come (R283, R284). -/
def State.framesStarted (s : State) (i : Nat) : Nat :=
  let c := s.pairCfg i
  match (s.pair i).n0 with
  | some n0 => if s.pairState i = 1 then 0 else ceilDiv (s.nextAtTile c.stream - n0) c.hop
  | none => 0

/-- A pair goes OFF. -/
def State.pairOff (s : State) (i : Nat) : State :=
  let s : State := s.setPair i { PairRun.fresh with frames := (s.pair i).frames }
  (s.setPairState i 0).setFld (Reg.XFORM.XF_STATE i) Fld.XFORM.XF_STATE.avg_unsettled 0

/-- XF_COMMIT (R282, R283): whether it is refused, and the state after. -/
def State.xfCommit (s : State) (i : Nat) : Bool × State :=
  let r := s.pairRefusal i
  if r ≠ 0 then (true, s.pairRefused i r)
  else if s.pairState i = 0 then (false, s.commitScope ⟨.pair, i⟩)
  else (false, s.setPair i { s.pair i with commitAt := some (s.framesStarted i) })

def execXfCommit (i : Fin 128) (s : State) : Host.Outcome State Fault Refusal :=
  .next ((s.accept (Reg.XFORM.XF_CMD i.val) Fld.XFORM.XF_CMD.commit_go).xfCommit i.val).2

/-- XF_HOLD_RESET (R273, R274): at the next frame boundary. -/
def State.xfHoldReset (s : State) (i : Nat) : State :=
  if s.pairState i = 0 then s else s.setPair i { s.pair i with resetAt := some (s.framesStarted i) }

def execXfHoldReset (i : Fin 128) (s : State) : Host.Outcome State Fault Refusal :=
  .next ((s.accept (Reg.XFORM.XF_CMD i.val) Fld.XFORM.XF_CMD.hold_reset_go).xfHoldReset i.val)

/-! ## Output frames -/

/-- A frame written to the spectrogram area, padded to whole cells (R279, R280). -/
def State.writeArea (s : State) (i : Nat) (f : SpecFrame) : State :=
  let len := s.fld (Reg.XFORM.XF_SG_LEN i) Fld.XFORM.XF_SG_LEN.len * 4096
  if len = 0 then s
  else
    let base := s.fld (Reg.XFORM.XF_SG_BASE i) Fld.XFORM.XF_SG_BASE.base * 4096
    let n := ceilDiv f.bytes.length 56
    let w := (s.reg (Reg.XFORM.XF_SG_WPTR i)).toNat
    let wrap := decide (len < (w + n) * 56)
    let w := if wrap then 0 else w
    let s : State := if wrap then
        (s.count (Reg.XFORM.XF_SG_WRAPS i) 1).setSta (Reg.XFORM.XF_STA i) Fld.XFORM.XF_STA.SG_WRAP else s
    let l := f.bytes ++ List.replicate (n * 56 - f.bytes.length) 0
    let s : State := s.inkStore 1 (base + w * 56 + 56) (l.drop 56)
    let s : State := s.inkStore 1 (base + w * 56) (l.take 56)
    s.setReg (Reg.XFORM.XF_SG_WPTR i) (BitVec.ofNat 32 (w + n))

/-- An output frame counted, written and kept, and COMMITTED at the first one under new settings (R283). -/
def State.emitFrame (s : State) (i : Nat) (f : SpecFrame) : State :=
  let s : State := s.count64 (Reg.XFORM.XF_FRAMES_LO i) (Reg.XFORM.XF_FRAMES_HI i) 1
  let s : State := if f.marks.gap then s.count (Reg.XFORM.XF_GAP_CNT i) 1 else s
  let s : State := s.writeArea i f
  s.setPair i { s.pair i with frames := (s.pair i).frames ++ [f] }

def State.announce (s : State) (i : Nat) : State :=
  if (s.pair i).announce then
    ((s.setPair i { s.pair i with announce := false }).setSta (Reg.XFORM.XF_STA i)
      Fld.XFORM.XF_STA.COMMITTED).blkEvent 9 10 Ev.XFORM.XF_COMMITTED i
  else s

/-- A partial block as an output frame (R274). -/
def State.flushBlock (s : State) (i : Nat) : List SpecFrame × State :=
  let c := s.pairCfg i
  let r := s.pair i
  let each := c.mode ≤ 1 || ((c.mode = 4 || c.mode = 5) && c.cont)
  if each || decide (r.accN = 0) then ([], s)
  else
    let (n, s) := s.draw
    let f := PairRun.output c r (Config.freeNat 44 n)
    ([f], (s.setPair i r.restart).emitFrame i f)

/-- What takes effect before frame m (R273, R274, R283, R285): a commit, a hold reset, a rate change. -/
def State.beforeFrame (s : State) (i : Nat) (l : List Sample) : List SpecFrame × State :=
  let r := s.pair i
  let due (o : Option Nat) : Bool := match o with
    | some k => decide (k ≤ r.m)
    | none => false
  let (fs, s) := if due r.commitAt then
      let (fs, s) := s.flushBlock i
      let s : State := (s.commitScope ⟨.pair, i⟩).pairReport i
      (fs, s.setPair i { (s.pair i).restart with commitAt := none, announce := true })
    else (([] : List SpecFrame), s)
  let s : State := if due r.resetAt then s.setPair i { (s.pair i).restart with resetAt := none } else s
  let per := (s.stream (s.pairCfg i).stream).period
  let span := (l.getLast?.map (·.tbs)).getD 0 - (l.head?.map (·.tbs)).getD 0
  let whole := decide (4 * span ≤ 5 * (l.length - 1) * per) && decide (3 * (l.length - 1) * per ≤ 4 * span)
  let s : State := if (s.pair i).period ≠ per && whole then
      s.setPair i { (s.pair i).restart with period := per } else s
  (fs, s)

/-- The end of a drain (R284): a partial block comes out, then the pair goes OFF. -/
def State.drainPair (s : State) (i : Nat) : List SpecFrame × State :=
  match (s.pair i).stop with
  | none => ([], s)
  | some n =>
    if (s.pair i).m < n then ([], s)
    else
      let (fs, s) := s.flushBlock i
      (fs, s.pairOff i)

/-- XF_DISABLE (R284): no new frame starts; the output frames that come at once, and the state after. -/
def State.xfDisable (s : State) (i : Nat) : List SpecFrame × State :=
  if s.pairState i = 0 || s.pairState i = 3 then ([], s)
  else
    let n := s.framesStarted i
    ((s.setPair i { s.pair i with stop := some n }).setPairState i 3).drainPair i

/-- The next frame of a pair, once its last sample has come (R259 to R283): the output frames and the state after. -/
def State.nextFrame (s : State) (i : Nat) : List SpecFrame × State :=
  let st := s.pairState i
  if st ≠ 2 && st ≠ 3 then ([], s)
  else
    let c := s.pairCfg i
    let r := s.pair i
    let a := r.n0.getD 0 + r.m * c.hop
    let l := (s.inputs c.stream true a).take c.size
    if l.length < c.size then ([], s)
    else
      let (fs, s) := s.beforeFrame i l
      let c := s.pairCfg i
      let m := l.foldl (fun m x => m.or x.marks) Marks.none
      let m : Marks := if (s.pair i).gap then { m with gap := true } else m
      let (v, e) := frameValues c l (if (s.zoomOf c.stream).isSome then 1 else 4096)
      let (n, s) := s.draw
      let (r, o) := (s.pair i).feed c (s.pair i).m ((l.head?.map (·.tbs)).getD 0) m v e (Config.freeNat 44 n)
      let s : State := s.setPair i { r with gap := false }
      let s : State := s.setFld (Reg.XFORM.XF_STATE i) Fld.XFORM.XF_STATE.avg_unsettled
        (bit (c.mode = 1 && decide (r.restarts < 2 ^ c.k)))
      let s : State := match o with
        | some f => (s.emitFrame i f).announce i
        | none => s
      let (gs, s) := s.drainPair i
      (fs ++ o.toList ++ gs, s)

end Sys2Proof.Machine
end

