-- ==== Sys2Proof/Machine/Trig.lean ====
section
/-! DEFINITION. Trigger sources (R293 to R302): spectral masks, external inputs, machine-event comparators, timers and
software sources, with their watermarks; and the TRIG_OUT outputs (R316). -/

namespace Sys2Proof.Machine

/-! ## Spectral masks -/

def State.mask (s : State) (m : Nat) : MaskRun := sparseGet (fun _ => MaskRun.fresh) s.masks m

def State.setMask (s : State) (m : Nat) (v : MaskRun) : State :=
  { s with masks := sparsePut (fun _ => MaskRun.fresh) m v s.masks }

def State.maskOn (s : State) (m : Nat) : Bool := s.flag (Reg.TRIG.MASK_STATE m) Fld.TRIG.MASK_STATE.enabled
def State.maskPair (s : State) (m : Nat) : Nat := s.fld (Reg.TRIG.MASK_CFG m) Fld.TRIG.MASK_CFG.pair

/-- K, whether the mode is M of L, M and L, of a MASK_CTL word (R324). -/
def maskCtl (w : Word) : Nat × Bool × Nat × Nat :=
  (getField Fld.TRIG.MASK_CTL.k w + 1, getField Fld.TRIG.MASK_CTL.mofl w = 1, getField Fld.TRIG.MASK_CTL.m w + 1,
    getField Fld.TRIG.MASK_CTL.depth w + 1)

/-- The port behind a stream: its head's, or that of the zoom channel's input. -/
def State.streamPort (s : State) (id : Nat) : Option Nat :=
  match (s.stream id).source with
  | some (.head p _) => some p
  | some (.zoom z) => some (z / 4)
  | none => none

/-- The reason of R324 for which a mask with a control word is refused (R295, R554); 0 for none. -/
def State.maskRefusal (s : State) (m : Nat) (w : Word) : Nat :=
  let i := s.maskPair m
  let c := s.pairCfg i
  let (k, mofl, mm, l) := maskCtl w
  if s.streamPort c.stream ≠ some (m / 2) || c.det = 0 || !s.heldBy (s.holder (· = .trigSrc m)) (· = .pair i) then 1
  else if c.columns < k || (mofl && decide (l < mm)) then 2
  else 0

/-- MASK_REFUSED (R295). -/
def State.maskRefused (s : State) (m reason : Nat) : State :=
  ((s.setFld (Reg.TRIG.MASK_STATE m) Fld.TRIG.MASK_STATE.reason reason).setSta (Reg.TRIG.MASK_STA m)
    Fld.TRIG.MASK_STA.REFUSED).blkEvent 10 11 Ev.TRIG.MASK_REFUSED (m + reason * 256)

/-- MASK_ENABLE (R295): whether it is refused, and the state after. -/
def State.maskEnable (s : State) (m : Nat) : Bool × State :=
  if !s.blockOn 10 then (true, s)
  else if s.maskOn m then (false, s)
  else
    let r := s.maskRefusal m (s.reg (Reg.TRIG.MASK_CTL m))
    if r ≠ 0 then (true, s.maskRefused m r)
    else (false, (s.setMask m { s.mask m with win := [], commit := false }).setFld (Reg.TRIG.MASK_STATE m)
      Fld.TRIG.MASK_STATE.enabled 1)

def execMaskEnable (m : Fin 16) (s : State) : Host.Outcome State Fault Refusal :=
  .next ((s.accept (Reg.TRIG.MASK_CMD m.val) Fld.TRIG.MASK_CMD.enable_go).maskEnable m.val).2

/-- MASK_DISABLE (R324): the source deactivates at the next frame. -/
def State.maskDisable (s : State) (m : Nat) : State :=
  if !s.maskOn m then s
  else
    let act := s.flag (Reg.TRIG.MASK_STATE m) Fld.TRIG.MASK_STATE.active
    (s.setMask m { win := [], commit := false, closing := act }).setFld (Reg.TRIG.MASK_STATE m)
      Fld.TRIG.MASK_STATE.enabled 0

def execMaskDisable (m : Fin 16) (s : State) : Host.Outcome State Fault Refusal :=
  .next ((s.accept (Reg.TRIG.MASK_CMD m.val) Fld.TRIG.MASK_CMD.disable_go).maskDisable m.val)

/-- A change for Panel Replay of every output (R410). -/
def State.displayChange (s : State) : State :=
  [0, 1].foldl (fun s o =>
    let p := sparseGet (fun _ => PanelRun.fresh) s.panels o
    { s with panels := sparsePut (fun _ => PanelRun.fresh) o { p with changed := true } s.panels }) s

/-- A mask's commit taking effect: a change where an enabled trace shows the mask (R410). -/
def State.maskChange (s : State) (m : Nat) : State :=
  if (List.range 4).any (fun t => s.flag (Reg.DISP.TR_CFG t) Fld.DISP.TR_CFG.en &&
      decide (s.fld (Reg.DISP.TR_CFG t) Fld.DISP.TR_CFG.mask = m)) then s.displayChange else s

/-- MASK_COMMIT (R295, R299): whether it is refused, and the state after. -/
def State.maskCommit (s : State) (m : Nat) : Bool × State :=
  let r := s.maskRefusal m (s.stagedReg (Reg.TRIG.MASK_CTL m))
  if r ≠ 0 then (true, s.maskRefused m r)
  else if s.maskOn m then (false, s.setMask m { s.mask m with commit := true })
  else (false, (s.commitScope ⟨.mask, m⟩).maskChange m)

def execMaskCommit (m : Fin 16) (s : State) : Host.Outcome State Fault Refusal :=
  .next ((s.accept (Reg.TRIG.MASK_CMD m.val) Fld.TRIG.MASK_CMD.commit_go).maskCommit m.val).2

/-- The placed instant of a frame (R297): T_f + (N − hop ÷ 2) · P. -/
def PairCfg.placed (c : PairCfg) (tbs period : Nat) : Nat := tbs + (2 * c.size - c.hop) * period / 2

/-- The columns of a frame that violate a mask's table (R296). -/
def State.violations (s : State) (m : Nat) (logs : List Nat) : Nat :=
  logs.zipIdx.countP (fun e =>
    let w := s.reg (Reg.TRIG.MASK_ENTRY m e.2)
    decide (getField Fld.TRIG.MASK_ENTRY.upper w < e.1) || decide (e.1 < getField Fld.TRIG.MASK_ENTRY.lower w))

/-- The source of a mask turns off at an instant. -/
def State.maskOff (s : State) (m t : Nat) : State :=
  if s.flag (Reg.TRIG.MASK_STATE m) Fld.TRIG.MASK_STATE.active then
    (s.activate m t false 0).setFld (Reg.TRIG.MASK_STATE m) Fld.TRIG.MASK_STATE.active 0
  else s

/-- The frames of an unfinished run or window that violate, oldest first (R297). -/
def judgedRun (mofl : Bool) (win : List Judged) : List Judged :=
  if mofl then win.filter (·.viol) else (win.reverse.takeWhile (·.viol)).reverse

/-- One output frame judged by an enabled mask (R296 to R299): MASK_QUALIFY. A deactivation empties the window, so that no
later activation lies before the watermark already reported (R294). -/
def State.maskJudge (s : State) (m t : Nat) (f : SpecFrame) : State :=
  let commit := (s.mask m).commit
  let s : State := if commit then
      ((s.commitScope ⟨.mask, m⟩).maskChange m).setMask m { s.mask m with win := [], commit := false } else s
  let (k, mofl, mm, l) := maskCtl (s.reg (Reg.TRIG.MASK_CTL m))
  let n := s.violations m f.logs
  let v := decide (k ≤ n) && !f.marks.gap && !f.marks.unsettled
  let win := ((s.mask m).win ++ [⟨v, t, f.marks.bits⟩])
  let win := win.drop (win.length - (if mofl then l else 64))
  let s : State := s.setMask m { s.mask m with win := win }
  let s : State := s.setFld (Reg.TRIG.MASK_STATE m) Fld.TRIG.MASK_STATE.viol n
  let wasOn := s.flag (Reg.TRIG.MASK_STATE m) Fld.TRIG.MASK_STATE.active
  let s : State := if v then s.count (Reg.TRIG.MASK_VIOL_CNT m) 1 else s.maskOff m t
  let win := if wasOn && !v then [] else win
  let s : State := s.setMask m { s.mask m with win := win }
  let run := judgedRun mofl win
  let s : State := if v && !s.flag (Reg.TRIG.MASK_STATE m) Fld.TRIG.MASK_STATE.active && decide (mm ≤ run.length) then
      let s : State := s.activate m ((run.head?.map (·.placed)).getD t) true (run.foldl (fun a j => a ||| j.marks) 0)
      let s : State := s.setFld (Reg.TRIG.MASK_STATE m) Fld.TRIG.MASK_STATE.active 1
      (s.count (Reg.TRIG.MASK_QUAL_CNT m) 1).setSta (Reg.TRIG.MASK_STA m) Fld.TRIG.MASK_STA.QUALIFIED
    else s
  if commit then
    (s.setSta (Reg.TRIG.MASK_STA m) Fld.TRIG.MASK_STA.COMMITTED).blkEvent 10 12 Ev.TRIG.MASK_COMMITTED m
  else s

/-- An output frame of a pair delivered to the masks that watch it. -/
def State.masksTake (s : State) (i : Nat) (c : PairCfg) (f : SpecFrame) : State :=
  (List.range 16).foldl (fun s m =>
    if s.maskPair m ≠ i then s
    else
      let t := c.placed f.tbs (s.stream c.stream).period
      let s : State := if (s.mask m).closing then (s.maskOff m t).setMask m { s.mask m with closing := false } else s
      if s.maskOn m then s.maskJudge m t f else s) s

/-- The stamp of sample k of a stream, as it is or as the sample period will give it. -/
def State.stampOf (s : State) (id k : Nat) : Nat :=
  let st := s.stream id
  match st.hist[k - st.first]? with
  | some x => x.tbs
  | none =>
    match st.hist.getLast? with
    | some x => x.tbs + (k + 1 - st.delivered) * st.period
    | none => s.stampTbs

/-- The stamp of the next output frame of a pair: that of the first frame of its block, or of the next frame. -/
def State.nextFrameStamp (s : State) (i : Nat) : Nat :=
  let c := s.pairCfg i
  let r := s.pair i
  let each := c.mode ≤ 1 || ((c.mode = 4 || c.mode = 5) && c.cont)
  if !each && decide (r.accN ≠ 0) then r.accTbs else s.stampOf c.stream (r.n0.getD 0 + r.m * c.hop)

/-- A mask's watermark (R297): the oldest violating frame of an unfinished run or window, or the next frame. A mask that
judges nothing follows TB-S. -/
def State.maskMark (s : State) (m : Nat) : Nat :=
  let i := s.maskPair m
  if !(s.maskOn m || (s.mask m).closing) || s.pairState i = 0 then s.stampTbs
  else
    let c := s.pairCfg i
    let next := c.placed (s.nextFrameStamp i) (s.stream c.stream).period
    let (_, mofl, _, l) := maskCtl (s.reg (Reg.TRIG.MASK_CTL m))
    let win := (s.mask m).win
    let run := judgedRun mofl (if mofl then win.drop (win.length - (l - 1)) else win)
    if s.flag (Reg.TRIG.MASK_STATE m) Fld.TRIG.MASK_STATE.active then next
    else (run.head?.map (·.placed)).getD next

/-! ## External inputs -/

/-- TDC_STAMP (R210 to R213, R294): an edge at a TDC channel; channels 0 to 7 are trigger sources 48 to 55. -/
def execTdcStamp (c : Fin 20) (falling : Bool) (tbs : DWord) (coarse : BitVec 40) (fine : BitVec 10) (s : State) :
    Host.Outcome State Fault Refusal :=
  let (ok, s) := s.tdcStamped c.val falling tbs coarse fine
  if ok && decide (c.val < 8) then
    let level := s.fld (Reg.TIME.TDC_CFG c.val) Fld.TIME.TDC_CFG.edge = 2
    .next (s.activate (48 + c.val) tbs.toNat (!(level && falling)) 0)
  else .next s

/-! ## Machine-event comparators -/

def State.mec (s : State) (c : Nat) : MecRun := sparseGet (fun _ => MecRun.fresh) s.mecs c

def State.setMec (s : State) (c : Nat) (v : MecRun) : State :=
  { s with mecs := sparsePut (fun _ => MecRun.fresh) c v s.mecs }

/-- MEC_ENABLE (R300). -/
def State.mecEnable (s : State) (c : Nat) : State :=
  if s.blockOn 10 && decide (s.hiddenScope ⟨.mec, c⟩ = .off) then
    (s.setMec c MecRun.fresh).setScope ⟨.mec, c⟩ .run else s

def execMecEnable (c : Fin 8) (s : State) : Host.Outcome State Fault Refusal :=
  .next ((s.accept (Reg.TRIG.MEC_CMD c.val) ⟨0, 0⟩).mecEnable c.val)

/-- MEC_DISABLE (R325). -/
def State.mecDisable (s : State) (c : Nat) : State := (s.setMec c MecRun.fresh).setScope ⟨.mec, c⟩ .off

def execMecDisable (c : Fin 8) (s : State) : Host.Outcome State Fault Refusal :=
  .next ((s.accept (Reg.TRIG.MEC_CMD c.val) ⟨1, 1⟩).mecDisable c.val)

/-- MEC_COMMIT (R300): from the next turn boundary. -/
def State.mecCommit (s : State) (c : Nat) : State :=
  if s.hiddenScope ⟨.mec, c⟩ = .off then s.commitScope ⟨.mec, c⟩
  else s.setMec c { s.mec c with commit := some s.time.turn.toNat }

def execMecCommit (c : Fin 8) (s : State) : Host.Outcome State Fault Refusal :=
  .next ((s.accept (Reg.TRIG.MEC_CMD c.val) ⟨2, 2⟩).mecCommit c.val)

/-- A comparator's commit applied once TB-M has left the turn in which it was accepted. -/
def State.mecApply (s : State) (c turn : Nat) : State :=
  match (s.mec c).commit with
  | some t => if t = turn then s else (s.commitScope ⟨.mec, c⟩).setMec c { s.mec c with commit := none }
  | none => s

/-- The instant of a comparator match (R300): the grid point a + k · B nearest to the SAMP cycle where a bucket period is
accepted, else that cycle's start. -/
def State.matchInstant (s : State) (tbs : Nat) : Nat :=
  match s.tim.trackA with
  | none => tbs
  | some a =>
    let b := s.bucketPeriod
    if b = 0 then tbs
    else
      let k := roundDivEven (((tbs : Int) - a) * 2 ^ 32) b
      (a + freeDiv 51 (k * b) (2 ^ 32)).toNat

/-- MEC_MATCH (R300): each turn at most once, and in no turn that TB-M has not reached. -/
def execMecMatch (c : Fin 8) (turn : BitVec 48) (tbs : DWord) (s : State) : Host.Outcome State Fault Refusal :=
  let c := c.val
  let t := turn.toNat
  let s : State := s.mecApply c t
  let bucket := s.fld (Reg.TRIG.MEC_BUCKET c) Fld.TRIG.MEC_BUCKET.bucket
  let per := (s.reg (Reg.TRIG.MEC_PERIOD c)).toNat
  let come := decide (t * 2 ^ 16 + bucket ≤ s.time.turn.toNat * 2 ^ 16 + s.time.bucket.toNat)
  if s.hiddenScope ⟨.mec, c⟩ ≠ .run || !s.running .mach || !come || decide ((s.mec c).last = some t) ||
      !(per = 0 || t % per = (s.reg (Reg.TRIG.MEC_PHASE c)).toNat) then .next s
  else
    let s : State := (s.setMec c { s.mec c with last := some t }).count (Reg.TRIG.MEC_CNT c) 1
    .next (s.activate (56 + c) (s.matchInstant tbs.toNat) true
      (256 * s.fld Reg.TIME.TIME_STATE Fld.TIME.TIME_STATE.tbm_holdover))

/-! ## Timers and software sources -/

def State.timer (s : State) (t : Nat) : TimerRun := sparseGet (fun _ => TimerRun.fresh) s.timers t

def State.setTimer (s : State) (t : Nat) (v : TimerRun) : State :=
  { s with timers := sparsePut (fun _ => TimerRun.fresh) t v s.timers }

def State.timerStart (s : State) (t : Nat) : Nat := s.reg64 (Reg.TRIG.TMR_START_LO t) (Reg.TRIG.TMR_START_HI t)
def State.timerPer (s : State) (t : Nat) : Nat := s.reg64 (Reg.TRIG.TMR_PER_LO t) (Reg.TRIG.TMR_PER_HI t)

/-- The instant of a timer's next firing; none when it fires no more (R301). -/
def State.timerNext (s : State) (t : Nat) : Option Nat :=
  let r := s.timer t
  let n := (s.reg (Reg.TRIG.TMR_COUNT t)).toNat
  if s.hiddenScope ⟨.timer, t⟩ ≠ .run || (decide (n ≠ 0) && decide (n ≤ r.fired)) ||
      (s.timerPer t = 0 && decide (r.next ≠ 0)) then none
  else some (s.timerStart t + r.next * s.timerPer t)

/-- TMR_ENABLE (R301): a period of 1 to 16,383 units is refused; instants that have passed are skipped. -/
def State.tmrEnable (s : State) (t : Nat) : Bool × State :=
  let per := s.timerPer t
  if !s.blockOn 10 then (true, s)
  else if s.hiddenScope ⟨.timer, t⟩ ≠ .off then (false, s)
  else if per ≠ 0 && decide (per < 16384) then (true, s)
  else
    let late := s.stampTbs - s.timerStart t
    let k := if late = 0 then 0 else if per = 0 then 1 else ceilDiv late per
    (false, (s.setTimer t ⟨k, 0⟩).setScope ⟨.timer, t⟩ .run)

def execTmrEnable (t : Fin 8) (s : State) : Host.Outcome State Fault Refusal :=
  .next ((s.accept (Reg.TRIG.TMR_CMD t.val) ⟨0, 0⟩).tmrEnable t.val).2

/-- TMR_DISABLE (R325). -/
def State.tmrDisable (s : State) (t : Nat) : State := s.setScope ⟨.timer, t⟩ .off

def execTmrDisable (t : Fin 8) (s : State) : Host.Outcome State Fault Refusal :=
  .next ((s.accept (Reg.TRIG.TMR_CMD t.val) ⟨1, 1⟩).tmrDisable t.val)

/-- TIMER_FIRE (R301), once TB-S has reached the instant. -/
def execTimerFire (t : Fin 8) (s : State) : Host.Outcome State Fault Refusal :=
  let t := t.val
  match s.timerNext t with
  | none => .next s
  | some x =>
    if s.stampTbs < x then .next s
    else
      let s : State := (s.setTimer t ⟨(s.timer t).next + 1, (s.timer t).fired + 1⟩).count (Reg.TRIG.TMR_FIRED t) 1
      .next (s.activate (80 + t) x true 0)

/-- Software source n fires (R302): two fires on one SAMP edge make one activation. -/
def State.swFire (s : State) (n : Nat) : State :=
  if (s.source (88 + n)).items.getLast?.map (·.time) = some s.stampTbs then s
  else s.activate (88 + n) s.stampTbs true 0

/-- SW_FIRE (R302): every bit written as 1. -/
def execSwFire (s : State) : Host.Outcome State Fault Refusal :=
  let w := s.fld Reg.TRIG.SW_FIRE Fld.TRIG.SW_FIRE.fire
  let s : State := s.accept Reg.TRIG.SW_FIRE Fld.TRIG.SW_FIRE.fire
  .next ((List.range 8).foldl (fun s n => if w.testBit n then s.swFire n else s) s)

/-! ## Watermarks -/

/-- The watermark of a zoom threshold: its pending crossings and the last output judged (R253, R294). -/
def State.zoomMark (s : State) (z : Nat) : Nat :=
  if s.zoomState z = 0 then s.stampTbs
  else
    let r := s.zoom z
    let last := (r.lastPow.map (·.2.2)).getD (s.stampOf (s.zoomIn z) r.path.taken)
    let m : Nat := if r.upN ≠ 0 then min last r.upAt else last
    if r.downN ≠ 0 then min m r.downAt else m

/-- The watermark of a source (R294, R297, R301, R322). -/
def State.watermark (s : State) (n : Nat) : Nat :=
  if n < 16 then s.maskMark n
  else if n < 48 then s.zoomMark (n - 16)
  else if 64 ≤ n && decide (n < 72) then
    if s.linkUp ((n - 64) / 4) then (s.source n).through else s.stampTbs
  else if 80 ≤ n && decide (n < 88) then
    match s.timerNext (n - 80) with
    | some x => min x s.stampTbs
    | none => s.stampTbs
  else s.stampTbs

/-! ## TRIG_OUT -/

def State.outHigh (s : State) (o : Nat) : Bool := sparseGet (fun _ => false) s.trg.high o

def State.setOutHigh (s : State) (o : Nat) (v : Bool) : State :=
  { s with trg := { s.trg with high := sparsePut (fun _ => false) o v s.trg.high } }

/-- The level at the pins of an output, inverted where OUT_CFG says so (R325). -/
def State.driveOut (s : State) (o : Nat) (v : Bool) : State :=
  (s.setOutHigh o v).emit (.trigOut o (Bool.xor v (s.flag (Reg.TRIG.OUT_CFG o) Fld.TRIG.OUT_CFG.invert)))

/-- An OUT action on TRIG_OUT o (R316): a pulse starts, or the one that runs starts its width again. -/
def State.outTrig (s : State) (o : Nat) : State :=
  if s.hiddenScope ⟨.trigOut, o⟩ ≠ .run || (s.holder (fun b => match b with
      | .unit 10 i _ => i = 16 + o
      | _ => false)).isNone then s
  else if s.outHigh o then s.count (Reg.TRIG.OUT_MERGE_CNT o) 1
  else (s.driveOut o true).count (Reg.TRIG.OUT_CNT o) 1

/-- TRIG_OUT_ENABLE (R325). -/
def execTrigOutEnable (o : Fin 4) (s : State) : Host.Outcome State Fault Refusal :=
  let s : State := s.accept (Reg.TRIG.OUT_CMD o.val) ⟨0, 0⟩
  .next (if s.blockOn 10 then s.setScope ⟨.trigOut, o.val⟩ .run else s)

/-- An output disabled: its line goes low. -/
def State.trigOutDisable (s : State) (o : Nat) : State :=
  let s : State := if s.outHigh o then s.driveOut o false else s
  s.setScope ⟨.trigOut, o⟩ .off

/-- TRIG_OUT_DISABLE (R325). -/
def execTrigOutDisable (o : Fin 4) (s : State) : Host.Outcome State Fault Refusal :=
  .next ((s.accept (Reg.TRIG.OUT_CMD o.val) ⟨1, 1⟩).trigOutDisable o.val)

/-- TRIG_OUT_PULSE_END (R316). -/
def execTrigOutPulseEnd (o : Fin 4) (s : State) : Host.Outcome State Fault Refusal :=
  .next (if s.outHigh o.val then s.driveOut o.val false else s)

end Sys2Proof.Machine
end

