-- ==== Sys2Proof/Machine/Tadpole.lean ====
section
/-! DEFINITION. Templates as spans and sections (R336), raw rings as they are read (R331 to R335), and tadpoles: their
counters, held events and rollback (R309 to R315, R380). -/

namespace Sys2Proof.Machine

/-! ## Templates -/

def State.tplState (s : State) (t : Nat) : Nat := s.fld (Reg.REC.TPL_STATE t) Fld.REC.TPL_STATE.state

/-- Whether a binding is a unit of a block. -/
def Binding.isUnit (block inst : Nat) : Binding → Bool
  | .unit b i _ => b = block && i = inst
  | _ => false

/-- The program that holds a template. -/
def State.tplHolder (s : State) (t : Nat) : Option Nat := s.holder (Binding.isUnit 11 t)

/-- SAMP cycles in TB-S units (R338). -/
def sampUnits : Nat := 16384

/-- The streams of a template, with the spans before and after the candidate in TB-S units. -/
def State.tplStreams (s : State) (t : Nat) : List (Nat × Nat × Nat) :=
  (List.range (s.fld (Reg.REC.TPL_CFG t) Fld.REC.TPL_CFG.nstr + 1)).map (fun i =>
    (s.fld (Reg.REC.TPL_S_ID t i) Fld.REC.TPL_S_ID.stream, (s.reg (Reg.REC.TPL_S_PRE t i)).toNat * sampUnits,
      (s.reg (Reg.REC.TPL_S_POST t i)).toNat * sampUnits))

/-- A section of a template. -/
structure TplSec where
  idx : Nat
  type : Nat
  sidx : Nat
  pair : Nat
  kernel : Nat
  param : Nat

/-- The sections of a template, omitting those of type 0 (R337). -/
def State.tplSecs (s : State) (t : Nat) : List TplSec :=
  ((List.range 8).map (fun j =>
    let a := s.reg (Reg.REC.TPL_SEC_A t j)
    (⟨j, getField Fld.REC.TPL_SEC_A.type a, getField Fld.REC.TPL_SEC_A.sidx a, getField Fld.REC.TPL_SEC_A.pair a,
      getField Fld.REC.TPL_SEC_A.kernel a, (s.reg (Reg.REC.TPL_SEC_B t j)).toNat⟩ : TplSec))).filter
    (fun c => decide (c.type ≠ 0))

/-- The stream and spans of a section. -/
def State.secStream (s : State) (t : Nat) (c : TplSec) : Nat × Nat × Nat := (s.tplStreams t).getD c.sidx (0, 0, 0)

/-! ## Raw rings -/

/-- Values per sample of a stream (R330). -/
def Stream.width (st : Stream) : Nat := if st.cplx then 2 else 1

def State.rawLen (s : State) (id : Nat) : Nat := (s.reg (Reg.REC.RAW_LEN id)).toNat
def State.rawWcell (s : State) (id : Nat) : Nat := s.reg64 (Reg.REC.RAW_WCELL_LO id) (Reg.REC.RAW_WCELL_HI id)

/-- The Inkwell address of a cell (R331). -/
def State.rawAddr (s : State) (id c : Nat) : Nat :=
  s.fld (Reg.REC.RAW_BASE id) Fld.REC.RAW_BASE.base * 4096 + c % max 1 (s.rawLen id) * 56

/-- The Inkwell address of a stamp index entry. -/
def State.rawIdxAddr (s : State) (id n : Nat) : Nat :=
  s.fld (Reg.REC.RAW_IDX_BASE id) Fld.REC.RAW_IDX_BASE.base * 4096 +
    n % max 1 (s.fld (Reg.REC.RAW_IDX_LEN id) Fld.REC.RAW_IDX_LEN.entries) * 32

/-- The first cell of the history that the stamp index still covers (R335). -/
def State.rawIndexed (s : State) (id : Nat) : Nat :=
  let w := (s.reg (Reg.REC.RAW_IDX_WPTR id)).toNat
  let len := s.fld (Reg.REC.RAW_IDX_LEN id) Fld.REC.RAW_IDX_LEN.entries
  if w ≤ len then 0 else leNat (sparseGetN (fun _ => 0) s.ink.mem (s.rawIdxAddr id (w - len)) 8) / 37

/-- Whether a cell is written and valid (R332, R333, R335). -/
def State.rawValid (s : State) (id c : Nat) : Bool :=
  let w := s.rawWcell id
  decide (c < w) && decide (w ≤ c + s.rawLen id) && decide ((s.stream id).validFrom ≤ c) && decide (s.rawIndexed id ≤ c)

/-- The samples of a RAW span (R338) by index: from the first sample stamped at or after `a` to just before the first later one
stamped at or after `b`; none while a sample of the span may still come. -/
def State.rawSpan (s : State) (id a b : Nat) : Option (Nat × Nat) :=
  let st := s.stream id
  match st.hist.findIdx? (fun x => decide (a ≤ x.tbs)) with
  | none => match st.hist.getLast? with
    | some x => if b ≤ x.tbs + st.period then some (st.delivered, st.delivered) else none
    | none => none
  | some i =>
    match (st.hist.drop i).findIdx? (fun x => decide (b ≤ x.tbs)) with
    | some d => some (st.first + i, st.first + i + d)
    | none => match st.hist.getLast? with
      | some x => if b ≤ x.tbs + st.period then some (st.first + i, st.delivered) else none
      | none => none

/-- The RAW span of a tadpole's stream; a stream of no source has an empty one. -/
def State.tadSpan (s : State) (cand : Nat) (e : Nat × Nat × Nat) : Option (Nat × Nat) :=
  if (s.stream e.1).source.isNone then some (0, 0) else s.rawSpan e.1 (cand - e.2.1) (cand + e.2.2)

/-! ## Sequencers and tadpoles -/

def State.seqr (s : State) (q : Nat) : Sequencer := sparseGet (fun _ => Sequencer.idle) s.seqs q

/-- The tadpoles counted in SEQ_STATE. -/
def State.setSeqr (s : State) (q : Nat) (v : Sequencer) : State :=
  let s : State := { s with seqs := sparsePut (fun _ => Sequencer.idle) q v s.seqs }
  let s : State := s.setFld (Reg.TRIG.SEQ_STATE q) Fld.TRIG.SEQ_STATE.undecided (v.tadpoles.countP (·.passed.isNone))
  s.setFld (Reg.TRIG.SEQ_STATE q) Fld.TRIG.SEQ_STATE.outstanding v.tadpoles.length

/-- A tadpole of a sequencer changed. -/
def State.tadUpdate (s : State) (q uid : Nat) (f : Tadpole → Tadpole) : State :=
  s.setSeqr q { s.seqr q with tadpoles := (s.seqr q).tadpoles.map (fun t => if t.uid = uid then f t else t) }

def State.tadpole (s : State) (q uid : Nat) : Option Tadpole := (s.seqr q).tadpoles.find? (fun t => t.uid = uid)

/-- A counter raised by an invocation, and noted with its tadpole (R313). -/
def State.tadCount (s : State) (j : BrushJob) (a n : Nat) : State :=
  let v := (s.reg a).toNat
  let s : State := s.count a n
  s.tadUpdate j.seq j.uid (fun t => { t with counts := t.counts ++ [(a, false, (s.reg a).toNat - v)] })

/-- A 64-bit counter raised by an invocation. -/
def State.tadCount64 (s : State) (j : BrushJob) (a n : Nat) : State :=
  (s.count64 a (a + 4) n).tadUpdate j.seq j.uid (fun t => { t with counts := t.counts ++ [(a, true, n)] })

/-- A counter restored (R313). -/
def State.uncount (s : State) (e : Nat × Bool × Nat) : State :=
  if e.2.1 then s.setReg64 e.1 (e.1 + 4) (s.reg64 e.1 (e.1 + 4) + 2 ^ 64 - e.2.2)
  else s.setReg e.1 (BitVec.ofNat 32 ((s.reg e.1).toNat - e.2.2))

/-- An event about a tadpole held with it (R70). -/
def State.tadHold (s : State) (j : BrushJob) (e : EventDef) (block bitNo arg : Nat) : State :=
  s.tadUpdate j.seq j.uid (fun t => { t with held := t.held ++ [⟨e.id, e.severity, block, bitNo, arg⟩] })

/-- KRN_STATE.queued of every kernel that a list of invocations names. -/
def State.queuedCounts (s : State) (ks : List Nat) : State :=
  ks.foldl (fun s k => s.setFld (Reg.BRUSH.KRN_STATE k) Fld.BRUSH.KRN_STATE.queued
    (s.brushQueue.countP (fun j => j.kernel = k))) s

def State.core (s : State) (c : Nat) : BrushCore := sparseGet (fun _ => BrushCore.idle) s.brush c

def State.setCore (s : State) (c : Nat) (v : BrushCore) : State :=
  { s with brush := sparsePut (fun _ => BrushCore.idle) c v s.brush }

/-- Invocations queued in section order (R372). -/
def State.queueInvocations (s : State) (l : List BrushJob) : State :=
  ({ s with brushQueue := s.brushQueue ++ l }).queuedCounts (l.map BrushJob.kernel)

/-- A tadpole's invocations withdrawn: queued ones leave, running ones are cancelled (R380). -/
def State.withdraw (s : State) (uid : Nat) : State :=
  let ks := (s.brushQueue.filter (fun j => j.uid = uid)).map BrushJob.kernel
  let s : State := ({ s with brushQueue := s.brushQueue.filter (fun j => j.uid ≠ uid) }).queuedCounts ks
  (List.range 40).foldl (fun s c =>
    if ((s.core c).job.map (·.uid)) = some uid && decide (s.fld (Reg.BRUSH.CORE_STATE c) Fld.BRUSH.CORE_STATE.state = 2)
    then s.setFld (Reg.BRUSH.CORE_STATE c) Fld.BRUSH.CORE_STATE.state 3 else s) s

/-- A tadpole rolled back (R313). -/
def State.rollback (s : State) (q uid reason : Nat) : State :=
  match s.tadpole q uid with
  | none => s
  | some t =>
    let s : State := t.counts.foldl State.uncount s
    let s : State := s.withdraw uid
    let s : State := s.setSeqr q { s.seqr q with tadpoles := (s.seqr q).tadpoles.filter (fun x => x.uid ≠ uid) }
    let s : State := s.count (Reg.TRIG.TP_ROLLBACK_CNT q) 1
    s.setFld (Reg.TRIG.TP_LAST_ROLLBACK q) Fld.TRIG.TP_LAST_ROLLBACK.reason reason

/-- Every tadpole that passes a test rolled back. -/
def State.rollbackWhere (s : State) (q reason : Nat) (p : Tadpole → Bool) : State :=
  (((s.seqr q).tadpoles.filter p).map (·.uid)).foldl (fun s u => s.rollback q u reason) s

end Sys2Proof.Machine
end

