-- ==== Sys2Proof/Machine/Template.lean ====
section
/-! DEFINITION. Templates: what the largest record holds, the kernel-time rule (R377), enable with its refusals (R336),
disable and restart. -/

namespace Sys2Proof.Machine

/-! ## Sizes -/

/-- The most samples of a span of TB-S units. -/
def Stream.most (st : Stream) (span : Nat) : Nat := ceilDiv span (max 1 st.period)

/-- A length rounded up to 8 bytes. -/
def pad8 (n : Nat) : Nat := ceilDiv n 8 * 8

/-- The most output frames of a pair in a span. -/
def State.mostFrames (s : State) (i span : Nat) : Nat :=
  let c := s.pairCfg i
  let each := c.mode ≤ 1 || ((c.mode = 4 || c.mode = 5) && c.cont)
  ceilDiv span (max 1 (c.hop * (if each then 1 else c.m) * (s.stream c.stream).period))

/-- The bytes of an output frame (R277). -/
def PairCfg.frameBytes (c : PairCfg) : Nat := 32 + c.columns * c.binBytes

/-- OUTMAX of a kernel (R378, R384). -/
def State.kernelOutmax (s : State) (k : Nat) : Nat := s.fld (Reg.BRUSH.KRN_WC_VEC k) Fld.BRUSH.KRN_WC_VEC.outmax

/-- The largest body of a section (R338). -/
def State.secMost (s : State) (t : Nat) (c : TplSec) : Nat :=
  let (id, pre, post) := s.secStream t c
  let st := s.stream id
  match c.type with
  | 1 => let n := st.most (pre + post) * st.width; if n = 0 then 0 else ceilDiv (n + 36) 37 * 56
  | 2 => s.mostFrames c.pair (pre + post) * pad8 (s.pairCfg c.pair).frameBytes
  | 3 => 32 * max 1 (s.kernelOutmax c.kernel)
  | _ => 32

/-- The largest record of a template (R336, R337). -/
def State.tplMost (s : State) (t : Nat) : Nat := 64 + ((s.tplSecs t).map (fun c => 32 + pad8 (s.secMost t c))).sum

/-! ## Kernel time -/

/-- A byte of a parameter block (R344). -/
def State.paramByte (s : State) (c : TplSec) (i : Nat) : Nat :=
  (sparseGet (fun _ => (0 : Byte)) s.ink.mem (c.param * 64 + i)).toNat

/-- The SPECTRA section that feeds a MEAS section (R344, R374). -/
def State.feeding (s : State) (t : Nat) (c : TplSec) : Option TplSec :=
  (s.tplSecs t).find? (fun d => d.idx = s.paramByte c 18 && d.type = 2)

/-- V of a MEAS section (R377): the vectors of its RAW input, of its SPECTRA input for a spectral kernel, of both for a user
kernel. -/
def State.secVectors (s : State) (t : Nat) (c : TplSec) : Nat :=
  let (id, pre, post) := s.secStream t c
  let st := s.stream id
  let raw := ceilDiv (st.most (pre + post) * st.width) 16
  let spec := match s.feeding t c with
    | some d =>
      let (_, a, b) := s.secStream t d
      s.mostFrames d.pair (a + b) * (1 + ceilDiv (s.pairCfg d.pair).columns 16)
    | none => 0
  if c.kernel = 1 || c.kernel = 2 then raw else if c.kernel ≤ 6 then spec else raw + spec

/-- The worst-case slots of an invocation beyond its start (R377). -/
def State.worstSlots (s : State) (t : Nat) (c : TplSec) : Nat :=
  s.fld (Reg.BRUSH.KRN_WC_BASE c.kernel) Fld.BRUSH.KRN_WC_BASE.base +
    s.fld (Reg.BRUSH.KRN_WC_VEC c.kernel) Fld.BRUSH.KRN_WC_VEC.vec * s.secVectors t c

/-- The cores a program holds for a kernel. -/
def State.coresFor (s : State) (k : Option Nat) (kernel : Nat) : List Nat :=
  match k with
  | some k => (s.nib k).bindings.flatMap (fun e => match e.2 with
    | .brush i l => if i = kernel then l else []
    | _ => [])
  | none => []

/-- The sequencers that count as naming templates: those the program holds; for a unit no program holds, the enabled ones
that no program holds. -/
def State.seqsOf (s : State) (k : Option Nat) : List Nat :=
  (List.range 16).filter (fun q => s.heldBy k (· = .seq q) && (k.isSome || s.live ⟨.seq, q⟩))

/-- The template a sequencer names. -/
def State.seqTpl (s : State) (q : Nat) : Nat := s.fld (Reg.TRIG.SEQ_CFG q) Fld.TRIG.SEQ_CFG.template

/-- The MEAS sections of a template that name a kernel. -/
def State.measSecs (s : State) (t kernel : Nat) : List TplSec :=
  (s.tplSecs t).filter (fun c => c.type = 3 && c.kernel = kernel)

/-- The kernel-time rule of R377 for the MEAS sections of a template, with the given sequencers: a slot is 5/3 ns, the start
400 ns and the bound 32 µs, here in thirds of a nanosecond. -/
def State.kernelsFit (s : State) (k : Option Nat) (seqs : List Nat) (t : Nat) : Bool :=
  ((s.tplSecs t).filter (fun c => c.type = 3)).all (fun c =>
    let n := 64 * (seqs.map (fun q => (s.measSecs (s.seqTpl q) c.kernel).length)).sum
    let l := (s.coresFor k c.kernel).length
    decide (l ≠ 0) && decide (ceilDiv n l * (1200 + 5 * s.worstSlots t c) ≤ 96000))

/-! ## Enable -/

/-- 40 µs in TB-S units: the record-committed bound of R25. -/
def commitBound : Nat := 157286400

/-- Whether a stream's ring holds a span with a qualification limit (R314). -/
def State.spanFits (s : State) (qlim : Nat) (e : Nat × Nat × Nat) : Bool :=
  let st := s.stream e.1
  decide ((e.2.1 + e.2.2 + qlim * sampUnits + commitBound) * st.width ≤ s.rawLen e.1 * 37 * st.period)

/-- The reason of R336 for which an enable is refused; 0 for none. -/
def State.tplRefusal (s : State) (t : Nat) : Nat :=
  let k := s.tplHolder t
  let strs := s.tplStreams t
  let secs := s.tplSecs t
  let named := (s.seqsOf k).filter (fun q => s.seqTpl q = t)
  let qlim := (named.map (fun q => (s.reg (Reg.TRIG.SEQ_QLIM q)).toNat)).foldl max 0
  let cfg := Reg.REC.TPL_CFG t
  if k.isNone || strs.any (fun e => !s.heldBy k (· = .stream e.1)) then 1
  else if strs.any (fun e => !s.spanFits qlim e) then 2
  else if 2 ^ 28 < s.tplMost t then 3
  else if secs.any (fun c =>
      (c.type = 2 && (!s.heldBy k (· = .pair c.pair) ||
        decide ((s.pairCfg c.pair).stream ≠ (s.secStream t c).1))) ||
      (c.type = 3 && decide (3 ≤ c.kernel) && decide (c.kernel ≤ 6) && (match s.feeding t c with
        | some d => (s.pairCfg d.pair).red || decide ((s.pairCfg d.pair).det = 0)
        | none => false))) then 4
  else if secs.any (fun c => c.type = 3 && (s.coresFor k c.kernel).isEmpty) || !s.kernelsFit k (s.seqsOf k) t then 5
  else if (s.flag cfg Fld.REC.TPL_CFG.exportEn && !s.heldBy k (fun b => match b with
        | .exportCh c _ => c = s.fld cfg Fld.REC.TPL_CFG.exportCh
        | _ => false)) ||
      (s.flag cfg Fld.REC.TPL_CFG.disk_en && !s.heldBy k (fun b => match b with
        | .disk d _ => d = s.fld cfg Fld.REC.TPL_CFG.disk
        | _ => false)) then 6
  else 0

/-- TPL_ENABLE (R336): whether it is refused, and the state after. -/
def State.tplEnable (s : State) (t : Nat) : Bool × State :=
  if !s.blockOn 11 then (true, s)
  else if s.tplState t ≠ 0 then (false, s)
  else
    let r := s.tplRefusal t
    if r ≠ 0 then
      (true, ((s.setFld (Reg.REC.TPL_STATE t) Fld.REC.TPL_STATE.reason r).setSta (Reg.REC.TPL_STA t)
        Fld.REC.TPL_STA.REFUSED).blkEvent 11 8 Ev.REC.TPL_REFUSED (t + r * 256))
    else
      let s : State := s.setReg (Reg.REC.TPL_MAXLEN t) (BitVec.ofNat 32 (s.tplMost t))
      (false, s.setFld (Reg.REC.TPL_STATE t) Fld.REC.TPL_STATE.state 1)

def execTplEnable (t : Fin 64) (s : State) : Host.Outcome State Fault Refusal :=
  .next ((s.accept (Reg.REC.TPL_CMD t.val) Fld.REC.TPL_CMD.enable_go).tplEnable t.val).2

/-- Whether an outstanding tadpole names a template. -/
def State.tplNamed (s : State) (t : Nat) : Bool := s.seqs.any (fun e => e.2.tadpoles.any (fun x => x.tpl = t))

/-- A template that drains goes OFF once no tadpole names it (R356). -/
def State.tplDrained (s : State) (t : Nat) : State :=
  if s.tplState t = 3 && !s.tplNamed t then s.setFld (Reg.REC.TPL_STATE t) Fld.REC.TPL_STATE.state 0 else s

/-- TPL_DISABLE (R356). -/
def State.tplDisable (s : State) (t : Nat) : State :=
  if s.tplState t = 0 then s
  else (s.setFld (Reg.REC.TPL_STATE t) Fld.REC.TPL_STATE.state 3).tplDrained t

def execTplDisable (t : Fin 64) (s : State) : Host.Outcome State Fault Refusal :=
  .next ((s.accept (Reg.REC.TPL_CMD t.val) Fld.REC.TPL_CMD.disable_go).tplDisable t.val)

end Sys2Proof.Machine
end

