-- ==== Sys2Proof/Machine/BrushCore.lean ====
section
/-! DEFINITION. A Brush core's state (R360 to R364), the end of an invocation (R375, R376), and the frame of one Brush instruction
(R365, R369): the fields it must leave 0, its repetitions, its faults. -/

namespace Sys2Proof.Machine

/-! ## The core's state -/

namespace BrushCore

def vec (k : BrushCore) (r l : Nat) : Word := sparseGet (fun _ => 0) k.v (r * 16 + l)
def setVec (k : BrushCore) (r l : Nat) (w : Word) : BrushCore := { k with v := sparsePut (fun _ => 0) (r * 16 + l) w k.v }
def scalar (k : BrushCore) (r : Nat) : Word := sparseGet (fun _ => 0) k.s r
def setScalar (k : BrushCore) (r : Nat) (w : Word) : BrushCore := { k with s := sparsePut (fun _ => 0) r w k.s }
def acc (k : BrushCore) (r l : Nat) : Int := sparseGet (fun _ => 0) k.a (r * 16 + l)
def setAcc (k : BrushCore) (r l : Nat) (v : Int) : BrushCore := { k with a := sparsePut (fun _ => 0) (r * 16 + l) v k.a }
/-- A lane mask; m0 reads 0xFFFF (R360). -/
def mask (k : BrushCore) (r : Nat) : Nat := if r = 0 then 0xFFFF else sparseGet (fun _ => 0) k.m r
/-- A lane mask written; m0 ignores writes. -/
def setMask (k : BrushCore) (r v : Nat) : BrushCore := if r = 0 then k else { k with m := sparsePut (fun _ => 0) r (v % 65536) k.m }
/-- Bytes of vector memory. -/
def load (k : BrushCore) (a n : Nat) : Nat := leNat (sparseGetN (fun _ => 0) k.vmem a n)
def store (k : BrushCore) (a n v : Nat) : BrushCore := { k with vmem := sparsePutN (fun _ => 0) k.vmem a (leBytes n v) }

end BrushCore

/-- The flags of R367 as a number. -/
def flagSat : Nat := 1
def flagAov : Nat := 2
def flagGap : Nat := 4
def flagPoison : Nat := 8
def flagEnd : Nat := 16
def flagDrop : Nat := 32

def State.coreState (s : State) (c : Nat) : Nat := s.fld (Reg.BRUSH.CORE_STATE c) Fld.BRUSH.CORE_STATE.state
def State.corePc (s : State) (c : Nat) : Nat := s.fld (Reg.BRUSH.CORE_PC c) Fld.BRUSH.CORE_PC.pc
def State.coreFlags (s : State) (c : Nat) : Nat := s.fld (Reg.BRUSH.CORE_FLAGS c) Fld.BRUSH.CORE_FLAGS.flags

def State.setCorePc (s : State) (c v : Nat) : State := s.setFld (Reg.BRUSH.CORE_PC c) Fld.BRUSH.CORE_PC.pc v

/-- Sticky flags raised (R367). -/
def State.raiseFlags (s : State) (c f : Nat) : State :=
  s.setFld (Reg.BRUSH.CORE_FLAGS c) Fld.BRUSH.CORE_FLAGS.flags (s.coreFlags c ||| f)

/-! ## Kernels and invocations -/

/-- The code of a loaded user kernel (R378); a built-in kernel's code is not the spec's. -/
def State.kernelImage (s : State) (k : Nat) : Option (List Byte) := (s.kernels.find? (fun e => e.1 = k)).map (·.2)

def imageCodeLen (l : List Byte) : Nat := leAt l 8 4

/-- The bytes of code that a branch may reach: all of instruction memory for a built-in kernel. -/
def State.codeLen (s : State) (k : Nat) : Nat := ((s.kernelImage k).map imageCodeLen).getD 32768

/-- The instruction of a user kernel at an address. -/
def State.codeAt (s : State) (k a : Nat) : Option Nat :=
  (s.kernelImage k).bind (fun l => if a + 8 ≤ imageCodeLen l then some (leAt l (0x30 + a) 8) else none)

def builtin (k : Nat) : Bool := decide (1 ≤ k) && decide (k ≤ 6)

/-- The stream of an invocation's section. -/
def State.jobSec (s : State) (j : BrushJob) : TplSec :=
  ((s.tplSecs j.tpl).find? (fun c => c.idx = j.section_)).getD ⟨j.section_, 0, 0, 0, j.kernel, 0⟩

def State.jobStream (s : State) (j : BrushJob) : Nat := (s.secStream j.tpl (s.jobSec j)).1

/-- Bytes 0 to 3 of a result entry (R345, R375): a built-in kernel keeps byte 3 at 0. -/
def State.entryHead (s : State) (c : Nat) (j : BrushJob) (status : Nat) : List Byte :=
  leBytes 1 j.kernel ++ leBytes 1 (s.jobStream j) ++ leBytes 1 status ++
    leBytes 1 (if builtin j.kernel then 0 else s.coreFlags c / 4 % 4)

/-- An invocation ended with its entries: the core becomes idle, and its section has finished (R312). -/
def State.finishJob (s : State) (c : Nat) (entries : List (List Byte)) : State :=
  match (s.core c).job with
  | none => s
  | some j =>
    let s : State := s.tadCount j (Reg.BRUSH.KRN_RUN_CNT j.kernel) 1
    let s : State := s.tadUpdate j.seq j.uid (fun t =>
      { t with results := t.results ++ [(j.section_, entries)], open_ := t.open_.filter (fun i => i ≠ j.section_) })
    (s.setCore c { s.core c with job := none, outs := [], input := none, rep := none, waiting := false }).setFld
      (Reg.BRUSH.CORE_STATE c) Fld.BRUSH.CORE_STATE.state 1

/-- A Brush exception (R376): BRUSH_EXCEPTION. -/
def State.brushFault (s : State) (c cause : Nat) : State :=
  match (s.core c).job with
  | none => s
  | some j =>
    let pc := s.corePc c
    let e := s.entryHead c j 7 ++ leBytes 2 cause ++ leBytes 2 pc ++ List.replicate 24 0
    let s : State := s.tadCount j (Reg.BRUSH.KRN_FAULT_CNT j.kernel) 1
    let s : State := (s.setFld (Reg.BRUSH.KRN_LAST_FAULT j.kernel) Fld.BRUSH.KRN_LAST_FAULT.cause cause).setFld
      (Reg.BRUSH.KRN_LAST_FAULT j.kernel) Fld.BRUSH.KRN_LAST_FAULT.addr pc
    let s : State := s.tadHold j Ev.BRUSH.KRN_FAULT 3 8 (j.kernel + cause * 256)
    s.finishJob c [e]

/-- KRN_TIME (R376): the invocation has spent more than its worst-case slots. A cancellation in the same step comes first (R381):
a core in CANCEL is left alone. -/
def execKrnTime (c : Fin 40) (s : State) : Host.Outcome State Fault Refusal :=
  let c := c.val
  match (s.core c).job with
  | none => .next s
  | some j =>
    if s.coreState c ≠ 2 then .next s
    else
      let e := s.entryHead c j 6 ++ List.replicate 28 0
      let s : State := s.tadCount j (Reg.BRUSH.KRN_TIME_CNT j.kernel) 1
      let s : State := s.tadHold j Ev.BRUSH.KRN_TIME 3 9 (j.kernel + 6 * 256)
      .next (s.finishJob c [e])

/-- INVOCATION_CANCEL (R380): the running invocation of a rolled-back tadpole stops; its results, its transfer and its events go. -/
def execInvocationCancel (c : Fin 40) (s : State) : Host.Outcome State Fault Refusal :=
  let c := c.val
  match (s.core c).job with
  | none => .next s
  | some j =>
    if s.coreState c ≠ 3 then .next s
    else
      let s : State := s.count (Reg.BRUSH.KRN_CANCEL_CNT j.kernel) 1
      .next ((s.setCore c { s.core c with job := none, outs := [], input := none, rep := none, waiting := false }).setFld
        (Reg.BRUSH.CORE_STATE c) Fld.BRUSH.CORE_STATE.state 1)

/-! ## The instruction frame -/

/-- The fields an instruction uses, each with the number of its bits that count; imm wholly or not at all (R365). -/
structure Uses where
  d : Nat
  a : Nat
  b : Nat
  mask : Bool
  trunc : Bool
  aux : Bool
  imm : Bool

/-- Whether every field that is not used is 0. -/
def BrushWord.legal (w : BrushWord) (u : Uses) : Bool :=
  decide (w.d.toNat < 2 ^ u.d) && decide (w.a.toNat < 2 ^ u.a) && decide (w.b.toNat < 2 ^ u.b) &&
    (u.mask || w.mask = 0) && (u.trunc || !w.trunc) && (u.aux || w.aux = 0) && (u.imm || w.imm = 0)

/-- What one execution of an instruction gives: the core and the flags raised, or the cause of a fault. -/
abbrev BrushRes := Except Nat (BrushCore × Nat)

/-- The body carried out n times, flags collected. -/
def brushRepeat (body : BrushCore → BrushRes) : Nat → BrushCore → Nat → BrushRes
  | 0, k, f => .ok (k, f)
  | n + 1, k, f =>
    match body k with
    | .ok (k', f') => brushRepeat body n k' (f ||| f')
    | .error e => .error e

/-- Whether a core takes an instruction now. -/
def State.issues (s : State) (c : Nat) : Bool :=
  decide (s.coreState c = 2) && (s.core c).job.isSome && !(s.core c).waiting

/-- A corrected or uncorrectable memory error of an instruction (R360): whether it faults, and the state after. -/
def State.brushEcc (s : State) (c : Nat) (j : BrushJob) (w : BrushWord) : Bool × State :=
  match w.ecc with
  | .clean => (false, s)
  | .corrected => (false, (s.tadCount j (Reg.BRUSH.CORE_ECC_CNT c) 1).raise Ev.BRUSH.ECC_CORR j.kernel)
  | .uncorrectable => (true, s)

/-- One Brush instruction but for those that branch, wait or end: its checks, its body as often as a REP before it says, and the
next address. -/
def State.brush1 (s : State) (c : Fin 40) (w : BrushWord) (u : Uses) (body : BrushCore → BrushRes) : State :=
  let c := c.val
  match (s.core c).job with
  | none => s
  | some j =>
    if !s.issues c then s
    else
      let k := s.core c
      let n := k.rep.getD 1
      let (bad, s) := s.brushEcc c j w
      if !w.legal u then s.brushFault c 1
      else if bad then s.brushFault c 4
      else match brushRepeat body n { k with rep := none } 0 with
        | .error e => s.brushFault c e
        | .ok (k, f) =>
          let s : State := ((s.setCore c k).raiseFlags c f).setCorePc c (s.corePc c + 8)
          s.tadCount64 j (Reg.BRUSH.CORE_ICNT_LO c) n

/-- The frame of an instruction that changes the state beyond its core: checks, then the effect, which sets the next address. -/
def State.brush2 (s : State) (c : Fin 40) (w : BrushWord) (u : Uses) (body : BrushJob → State → Except Nat State) : State :=
  let c := c.val
  match (s.core c).job with
  | none => s
  | some j =>
    if !s.issues c then s
    else
      let (bad, s) := s.brushEcc c j w
      if !w.legal u then s.brushFault c 1
      else if bad then s.brushFault c 4
      else match body j s with
        | .error e => s.brushFault c e
        | .ok s => s

/-- An instruction retired. -/
def State.brushRetire (s : State) (c : Nat) (j : BrushJob) : State := s.tadCount64 j (Reg.BRUSH.CORE_ICNT_LO c) 1

/-! ## Lanes -/

/-- A value for each masked lane of a vector register, with the flags raised. -/
def BrushCore.lanes (k : BrushCore) (d mask : Nat) (f : Nat → Word × Nat) : BrushCore × Nat :=
  (List.range 16).foldl (fun r l =>
    if (k.mask mask).testBit l then (r.1.setVec d l (f l).1, r.2 ||| (f l).2) else r) (k, 0)

/-- A value for each masked lane of an accumulator: 72 bits, saturating with AOV (R362). -/
def BrushCore.accLanes (k : BrushCore) (d mask : Nat) (f : Nat → Int) : BrushCore × Nat :=
  (List.range 16).foldl (fun r l =>
    if (k.mask mask).testBit l then
      let v := f l
      let w := clampInt (-(2 ^ 71)) (2 ^ 71 - 1) v
      (r.1.setAcc d l w, r.2 ||| (if w = v then 0 else flagAov))
    else r) (k, 0)

/-- A code saturated to Q1.31 with SAT (R363). -/
def q31 (v : Int) : Word × Nat :=
  let w := clampInt (-(2 ^ 31)) (2 ^ 31 - 1) v
  (BitVec.ofInt 32 w, if w = v then 0 else flagSat)

/-- num/den rounded to a Q1.31 code: half up, or truncated where T is 1 (R363, R365). -/
def q31Round (t : Bool) (num : Int) (den : Nat) : Word × Nat := q31 (roundBy (if t then .down else .halfUp) num den)

/-- aux as a signed number (R365). -/
def BrushWord.auxInt (w : BrushWord) : Int := w.aux.toInt

/-- A rational scaled by 2^e. -/
def scaled (num : Int) (den : Nat) (e : Int) : Int × Nat :=
  if 0 ≤ e then (num * 2 ^ e.toNat, den) else (num, den * 2 ^ (-e).toNat)

/-- The fault of a vector memory access: 64-byte, word or entry alignment, then the range (R376). -/
def memFault (a align n : Nat) : Option Nat :=
  if a % align ≠ 0 then some 2 else if 131072 < a + n then some 3 else none

/-- An address sa + imm, modulo 2^32. -/
def BrushCore.addr (k : BrushCore) (w : BrushWord) : Nat := (k.scalar w.a.toNat + w.imm).toNat

/-- Lane l of the vector in memory at an address. -/
def BrushCore.memLane (k : BrushCore) (a l : Nat) : Word := BitVec.ofNat 32 (k.load (a + 4 * l) 4)

end Sys2Proof.Machine
end

