-- ==== Sys2Proof/Machine/BrushOps.lean ====
section
/-! DEFINITION. The Brush instructions (R366 to R369) but for those that wait, transfer or end an invocation. -/

namespace Sys2Proof.Machine

/-- No field used. -/
def Uses.none : Uses := ⟨0, 0, 0, false, false, false, false⟩

/-! ## Scalars -/

/-- A scalar result of two scalars. -/
def BrushCore.scalar2 (w : BrushWord) (f : Word → Word → Word) (k : BrushCore) : BrushRes :=
  .ok (k.setScalar w.d.toNat (f (k.scalar w.a.toNat) (k.scalar w.b.toNat)), 0)

/-- The fields of a scalar operation of two sources. -/
def scalarUses : Uses := { Uses.none with d := 4, a := 4, b := 4 }

def execBrNop (c : Fin 40) (w : BrushWord) (s : State) : Host.Outcome State Fault Refusal :=
  .next (s.brush1 c w Uses.none (fun k => .ok (k, 0)))

def execBrSadd (c : Fin 40) (w : BrushWord) (s : State) : Host.Outcome State Fault Refusal :=
  .next (s.brush1 c w scalarUses (BrushCore.scalar2 w (fun x y => x + y)))

def execBrSaddi (c : Fin 40) (w : BrushWord) (s : State) : Host.Outcome State Fault Refusal :=
  .next (s.brush1 c w { Uses.none with d := 4, a := 4, imm := true }
    (fun k => .ok (k.setScalar w.d.toNat (k.scalar w.a.toNat + w.imm), 0)))

def execBrSsub (c : Fin 40) (w : BrushWord) (s : State) : Host.Outcome State Fault Refusal :=
  .next (s.brush1 c w scalarUses (BrushCore.scalar2 w (fun x y => x - y)))

def execBrSmul (c : Fin 40) (w : BrushWord) (s : State) : Host.Outcome State Fault Refusal :=
  .next (s.brush1 c w scalarUses (BrushCore.scalar2 w (fun x y => x * y)))

def execBrSand (c : Fin 40) (w : BrushWord) (s : State) : Host.Outcome State Fault Refusal :=
  .next (s.brush1 c w scalarUses (BrushCore.scalar2 w (fun x y => x &&& y)))

def execBrSor (c : Fin 40) (w : BrushWord) (s : State) : Host.Outcome State Fault Refusal :=
  .next (s.brush1 c w scalarUses (BrushCore.scalar2 w (fun x y => x ||| y)))

def execBrSxor (c : Fin 40) (w : BrushWord) (s : State) : Host.Outcome State Fault Refusal :=
  .next (s.brush1 c w scalarUses (BrushCore.scalar2 w (fun x y => x ^^^ y)))

/-- SSH: an aux above 2 names no shift, and its result is free. -/
def brushShift (aux : Nat) (x : Word) (n : Nat) : Word :=
  match aux with
  | 0 => x <<< n
  | 1 => x >>> n
  | 2 => x.sshiftRight n
  | _ => BitVec.ofNat 32 (Config.brushOpen 0x17 x.toNat (aux * 32 + n))

def execBrSsh (c : Fin 40) (w : BrushWord) (s : State) : Host.Outcome State Fault Refusal :=
  .next (s.brush1 c w { scalarUses with aux := true }
    (BrushCore.scalar2 w (fun x y => brushShift w.aux.toNat x (y.toNat % 32))))

def execBrSld (c : Fin 40) (w : BrushWord) (s : State) : Host.Outcome State Fault Refusal :=
  .next (s.brush1 c w { Uses.none with d := 4, a := 4, imm := true } (fun k =>
    let a := k.addr w
    match memFault a 4 4 with
    | some e => .error e
    | none => .ok (k.setScalar w.d.toNat (k.memLane a 0), 0)))

def execBrSst (c : Fin 40) (w : BrushWord) (s : State) : Host.Outcome State Fault Refusal :=
  .next (s.brush1 c w { Uses.none with d := 4, a := 4, imm := true } (fun k =>
    let a := k.addr w
    match memFault a 4 4 with
    | some e => .error e
    | none => .ok (k.store a 4 (k.scalar w.d.toNat).toNat, 0)))

def execBrVext (c : Fin 40) (w : BrushWord) (s : State) : Host.Outcome State Fault Refusal :=
  .next (s.brush1 c w { Uses.none with d := 4, a := 5, imm := true }
    (fun k => .ok (k.setScalar w.d.toNat (k.vec w.a.toNat (w.imm.toNat % 16)), 0)))

/-- VINS writes its lane where the mask has it (R364). -/
def execBrVins (c : Fin 40) (w : BrushWord) (s : State) : Host.Outcome State Fault Refusal :=
  .next (s.brush1 c w { Uses.none with d := 5, a := 4, mask := true, imm := true } (fun k =>
    let l := w.imm.toNat % 16
    .ok (if (k.mask w.mask.toNat).testBit l then k.setVec w.d.toNat l (k.scalar w.a.toNat) else k, 0)))

/-! ## Vector integers -/

/-- The fields of a vector operation of two sources, and of one. -/
def vec2Uses : Uses := { Uses.none with d := 5, a := 5, b := 5, mask := true }
def vec1Uses : Uses := { Uses.none with d := 5, a := 5, mask := true }

/-- vd from va and vb, lane by lane. -/
def BrushCore.vec2 (w : BrushWord) (f : Word → Word → Word × Nat) (k : BrushCore) : BrushRes :=
  .ok (k.lanes w.d.toNat w.mask.toNat (fun l => f (k.vec w.a.toNat l) (k.vec w.b.toNat l)))

/-- vd from va, lane by lane. -/
def BrushCore.vec1 (w : BrushWord) (f : Word → Word × Nat) (k : BrushCore) : BrushRes :=
  .ok (k.lanes w.d.toNat w.mask.toNat (fun l => f (k.vec w.a.toNat l)))

def execBrVadd (c : Fin 40) (w : BrushWord) (s : State) : Host.Outcome State Fault Refusal :=
  .next (s.brush1 c w vec2Uses (BrushCore.vec2 w (fun x y => (x + y, 0))))

def execBrVadds (c : Fin 40) (w : BrushWord) (s : State) : Host.Outcome State Fault Refusal :=
  .next (s.brush1 c w vec2Uses (BrushCore.vec2 w (fun x y => q31 (x.toInt + y.toInt))))

def execBrVsub (c : Fin 40) (w : BrushWord) (s : State) : Host.Outcome State Fault Refusal :=
  .next (s.brush1 c w vec2Uses (BrushCore.vec2 w (fun x y => (x - y, 0))))

def execBrVsubs (c : Fin 40) (w : BrushWord) (s : State) : Host.Outcome State Fault Refusal :=
  .next (s.brush1 c w vec2Uses (BrushCore.vec2 w (fun x y => q31 (x.toInt - y.toInt))))

def execBrVmul (c : Fin 40) (w : BrushWord) (s : State) : Host.Outcome State Fault Refusal :=
  .next (s.brush1 c w { vec2Uses with trunc := true }
    (BrushCore.vec2 w (fun x y => q31Round w.trunc (x.toInt * y.toInt) (2 ^ 31))))

def execBrVmax (c : Fin 40) (w : BrushWord) (s : State) : Host.Outcome State Fault Refusal :=
  .next (s.brush1 c w vec2Uses (BrushCore.vec2 w (fun x y => (if x.toInt < y.toInt then y else x, 0))))

def execBrVmin (c : Fin 40) (w : BrushWord) (s : State) : Host.Outcome State Fault Refusal :=
  .next (s.brush1 c w vec2Uses (BrushCore.vec2 w (fun x y => (if y.toInt < x.toInt then y else x, 0))))

def execBrVabs (c : Fin 40) (w : BrushWord) (s : State) : Host.Outcome State Fault Refusal :=
  .next (s.brush1 c w vec1Uses (BrushCore.vec1 w (fun x => q31 x.toInt.natAbs)))

def execBrVand (c : Fin 40) (w : BrushWord) (s : State) : Host.Outcome State Fault Refusal :=
  .next (s.brush1 c w vec2Uses (BrushCore.vec2 w (fun x y => (x &&& y, 0))))

def execBrVor (c : Fin 40) (w : BrushWord) (s : State) : Host.Outcome State Fault Refusal :=
  .next (s.brush1 c w vec2Uses (BrushCore.vec2 w (fun x y => (x ||| y, 0))))

def execBrVxor (c : Fin 40) (w : BrushWord) (s : State) : Host.Outcome State Fault Refusal :=
  .next (s.brush1 c w vec2Uses (BrushCore.vec2 w (fun x y => (x ^^^ y, 0))))

/-- A result for a shift amount that the table does not give. -/
def brushFree (op : Nat) (x : Word) (n : Nat) : Word × Nat := (BitVec.ofNat 32 (Config.brushOpen op x.toNat n), 0)

def execBrVshl (c : Fin 40) (w : BrushWord) (s : State) : Host.Outcome State Fault Refusal :=
  .next (s.brush1 c w { vec1Uses with aux := true } (BrushCore.vec1 w (fun x =>
    if w.aux.toNat < 16 then q31 (x.toInt * 2 ^ w.aux.toNat) else brushFree 0x2B x w.aux.toNat)))

def execBrVsra (c : Fin 40) (w : BrushWord) (s : State) : Host.Outcome State Fault Refusal :=
  .next (s.brush1 c w { vec1Uses with aux := true, trunc := true } (BrushCore.vec1 w (fun x =>
    if w.aux.toNat < 16 then q31Round w.trunc x.toInt (2 ^ w.aux.toNat) else brushFree 0x2C x w.aux.toNat)))

def execBrVspl (c : Fin 40) (w : BrushWord) (s : State) : Host.Outcome State Fault Refusal :=
  .next (s.brush1 c w { Uses.none with d := 5, a := 4, mask := true }
    (fun k => .ok (k.lanes w.d.toNat w.mask.toNat (fun _ => (k.scalar w.a.toNat, 0)))))

/-- A comparison's mask: the lanes that take part get their bit, the others keep it (R364). -/
def BrushCore.compare (w : BrushWord) (f : Word → Word → Bool) (k : BrushCore) : BrushRes :=
  .ok (k.setMask w.d.toNat (((List.range 16).map (fun l =>
    if (k.mask w.mask.toNat).testBit l then bit (f (k.vec w.a.toNat l) (k.vec w.b.toNat l)) * 2 ^ l
    else bit ((k.mask w.d.toNat).testBit l) * 2 ^ l)).sum), 0)

def execBrVcmplt (c : Fin 40) (w : BrushWord) (s : State) : Host.Outcome State Fault Refusal :=
  .next (s.brush1 c w { vec2Uses with d := 3 } (BrushCore.compare w (fun x y => decide (x.toInt < y.toInt))))

def execBrVcmpeq (c : Fin 40) (w : BrushWord) (s : State) : Host.Outcome State Fault Refusal :=
  .next (s.brush1 c w { vec2Uses with d := 3 } (BrushCore.compare w (fun x y => decide (x = y))))

/-- VSEL writes every lane. -/
def execBrVsel (c : Fin 40) (w : BrushWord) (s : State) : Host.Outcome State Fault Refusal :=
  .next (s.brush1 c w vec2Uses (fun k => .ok (k.lanes w.d.toNat 0 (fun l =>
    (if (k.mask w.mask.toNat).testBit l then k.vec w.a.toNat l else k.vec w.b.toNat l, 0)))))

/-- Redundant sign bits of a lane; 31 for 0 (R368). -/
def redundant (x : Word) : Nat :=
  let v := if x.msb then (~~~ x).toNat else x.toNat
  if v = 0 then 31 else 30 - v.log2

/-- NORM (R368): vd, then the counts into vb. -/
def execBrNorm (c : Fin 40) (w : BrushWord) (s : State) : Host.Outcome State Fault Refusal :=
  .next (s.brush1 c w vec2Uses (fun k =>
    let x (l : Nat) : Word := k.vec w.a.toNat l
    let (k', _) := k.lanes w.d.toNat w.mask.toNat (fun l => (x l <<< redundant (x l), 0))
    .ok (k'.lanes w.b.toNat w.mask.toNat (fun l => (BitVec.ofNat 32 (redundant (x l)), 0)))))

/-- EXPX (R368); the smallest count of no lane is free. -/
def execBrExpx (c : Fin 40) (w : BrushWord) (s : State) : Host.Outcome State Fault Refusal :=
  .next (s.brush1 c w { Uses.none with d := 4, a := 5, mask := true } (fun k =>
    let ls := (List.range 16).filter (fun l => (k.mask w.mask.toNat).testBit l)
    let v := match (ls.map (fun l => redundant (k.vec w.a.toNat l))).min? with
      | some n => n
      | none => Config.brushOpen 0x32 0 0
    .ok (k.setScalar w.d.toNat (BitVec.ofNat 32 v), 0)))

/-- VSHLV: the shift of a lane is the other register's lane; amounts outside −31 to 31 give a free result. -/
def execBrVshlv (c : Fin 40) (w : BrushWord) (s : State) : Host.Outcome State Fault Refusal :=
  .next (s.brush1 c w { vec2Uses with trunc := true } (BrushCore.vec2 w (fun x y =>
    let n := y.toInt
    if n < -31 || 31 < n then brushFree 0x33 x y.toNat
    else if 0 ≤ n then q31 (x.toInt * 2 ^ n.toNat) else q31Round w.trunc x.toInt (2 ^ (-n).toNat))))

def execBrVrot (c : Fin 40) (w : BrushWord) (s : State) : Host.Outcome State Fault Refusal :=
  .next (s.brush1 c w { vec1Uses with imm := true } (fun k =>
    .ok (k.lanes w.d.toNat w.mask.toNat (fun l => (k.vec w.a.toNat ((l + w.imm.toNat) % 16), 0)))))

def execBrMsetn (c : Fin 40) (w : BrushWord) (s : State) : Host.Outcome State Fault Refusal :=
  .next (s.brush1 c w { Uses.none with d := 3, a := 4 }
    (fun k => .ok (k.setMask w.d.toNat (2 ^ min 16 (k.scalar w.a.toNat).toNat - 1), 0)))

/-! ## Accumulators: numbers of 2^-63 (R362) -/

/-- The product of two lanes in accumulator units. -/
def product (x y : Word) : Int := 2 * (x.toInt * y.toInt)

/-- A value shifted right, its low bits dropped. -/
def dropBits (v : Int) (n : Nat) : Int := v.fdiv (2 ^ n : Nat)

def execBrAclr (c : Fin 40) (w : BrushWord) (s : State) : Host.Outcome State Fault Refusal :=
  .next (s.brush1 c w { Uses.none with d := 2, mask := true }
    (fun k => .ok (k.accLanes w.d.toNat w.mask.toNat (fun _ => 0))))

/-- The fields of a multiply and accumulate. -/
def macUses : Uses := { Uses.none with d := 2, a := 5, b := 5, mask := true, aux := true }

def execBrVmac (c : Fin 40) (w : BrushWord) (s : State) : Host.Outcome State Fault Refusal :=
  .next (s.brush1 c w macUses (fun k => .ok (k.accLanes w.d.toNat w.mask.toNat (fun l =>
    k.acc w.d.toNat l + dropBits (product (k.vec w.a.toNat l) (k.vec w.b.toNat l)) w.aux.toNat))))

def execBrVmsu (c : Fin 40) (w : BrushWord) (s : State) : Host.Outcome State Fault Refusal :=
  .next (s.brush1 c w macUses (fun k => .ok (k.accLanes w.d.toNat w.mask.toNat (fun l =>
    k.acc w.d.toNat l - dropBits (product (k.vec w.a.toNat l) (k.vec w.b.toNat l)) w.aux.toNat))))

/-- VDOT: both pointers advance by 64, and only once where they are one register. -/
def execBrVdot (c : Fin 40) (w : BrushWord) (s : State) : Host.Outcome State Fault Refusal :=
  .next (s.brush1 c w { macUses with a := 4, b := 4 } (fun k =>
    let x := (k.scalar w.a.toNat).toNat
    let y := (k.scalar w.b.toNat).toNat
    match memFault x 64 64, memFault y 64 64 with
    | some e, _ | none, some e => .error e
    | none, none =>
      let (k, f) := k.accLanes w.d.toNat w.mask.toNat (fun l =>
        k.acc w.d.toNat l + dropBits (product (k.memLane x l) (k.memLane y l)) w.aux.toNat)
      let k : BrushCore := k.setScalar w.a.toNat (BitVec.ofNat 32 (x + 64))
      .ok (if w.a = w.b then k else k.setScalar w.b.toNat (BitVec.ofNat 32 (y + 64)), f)))

def execBrAcadd (c : Fin 40) (w : BrushWord) (s : State) : Host.Outcome State Fault Refusal :=
  .next (s.brush1 c w { macUses with b := 0 } (fun k => .ok (k.accLanes w.d.toNat w.mask.toNat (fun l =>
    k.acc w.d.toNat l + dropBits ((k.vec w.a.toNat l).toInt * 2 ^ 32) w.aux.toNat))))

/-- The fields of an accumulator extraction. -/
def extractUses : Uses := { Uses.none with d := 5, a := 2, mask := true, trunc := true, aux := true }

def execBrAcx (c : Fin 40) (w : BrushWord) (s : State) : Host.Outcome State Fault Refusal :=
  .next (s.brush1 c w extractUses (fun k => .ok (k.lanes w.d.toNat w.mask.toNat (fun l =>
    let (n, d) := scaled (k.acc w.a.toNat l) 1 (w.auxInt - 32)
    q31Round w.trunc n d))))

/-- ACRED: lane 0 gets the sum of the masked lanes over 16, the other lanes 0. -/
def execBrAcred (c : Fin 40) (w : BrushWord) (s : State) : Host.Outcome State Fault Refusal :=
  .next (s.brush1 c w { Uses.none with d := 2, mask := true } (fun k =>
    let sum := ((List.range 16).map (fun l =>
      if (k.mask w.mask.toNat).testBit l then k.acc w.d.toNat l else 0)).sum
    .ok (k.accLanes w.d.toNat 0 (fun l => if l = 0 then dropBits sum 4 else 0))))

/-- How an extraction rounds (R363). -/
def BrushWord.rounding (w : BrushWord) : RoundMode := if w.trunc then .down else .halfUp

def execBrAcxf (c : Fin 40) (w : BrushWord) (s : State) : Host.Outcome State Fault Refusal :=
  .next (s.brush1 c w extractUses (fun k => .ok (k.lanes w.d.toNat w.mask.toNat (fun l =>
    (BitVec.ofNat 32 (floatScaled binary32 w.rounding (k.acc w.a.toNat l) (w.auxInt - 63)), 0)))))

/-- ACXD: an odd d is illegal. -/
def execBrAcxd (c : Fin 40) (w : BrushWord) (s : State) : Host.Outcome State Fault Refusal :=
  .next (s.brush1 c w { Uses.none with d := 4, a := 2, trunc := true, aux := true, imm := true } (fun k =>
    if w.d.toNat % 2 = 1 then .error 1
    else
      let v := floatScaled binary64 w.rounding (k.acc w.a.toNat (w.imm.toNat % 16)) (w.auxInt - 63)
      .ok ((k.setScalar w.d.toNat (BitVec.ofNat 32 v)).setScalar (w.d.toNat + 1) (BitVec.ofNat 32 (v / 2 ^ 32)), 0)))

/-! ## binary32 -/

def execBrVcvtf (c : Fin 40) (w : BrushWord) (s : State) : Host.Outcome State Fault Refusal :=
  .next (s.brush1 c w { vec1Uses with aux := true } (BrushCore.vec1 w (fun x =>
    (BitVec.ofNat 32 (floatScaled binary32 .halfUp x.toInt (w.auxInt - 31)), 0))))

def execBrVfadd (c : Fin 40) (w : BrushWord) (s : State) : Host.Outcome State Fault Refusal :=
  .next (s.brush1 c w vec2Uses (BrushCore.vec2 w (fun x y => (BitVec.ofNat 32 (f32Add x.toNat y.toNat), 0))))

def execBrVfmul (c : Fin 40) (w : BrushWord) (s : State) : Host.Outcome State Fault Refusal :=
  .next (s.brush1 c w vec2Uses (BrushCore.vec2 w (fun x y => (BitVec.ofNat 32 (f32Mul x.toNat y.toNat), 0))))

def execBrVfmax (c : Fin 40) (w : BrushWord) (s : State) : Host.Outcome State Fault Refusal :=
  .next (s.brush1 c w vec2Uses (BrushCore.vec2 w (fun x y => (BitVec.ofNat 32 (f32Pick true x.toNat y.toNat), 0))))

def execBrVfmin (c : Fin 40) (w : BrushWord) (s : State) : Host.Outcome State Fault Refusal :=
  .next (s.brush1 c w vec2Uses (BrushCore.vec2 w (fun x y => (BitVec.ofNat 32 (f32Pick false x.toNat y.toNat), 0))))

/-- A binary32 value times 2^e in units of 2^-k as a quotient; infinity lies beyond every range; a NaN is free. -/
def f32Units (w : Nat) (e : Int) (k : Nat) : Int × Nat :=
  if f32Nan w then (Config.nanFixed w, 1)
  else if f32Inf w then (if f32Neg w then -(2 ^ 200) else 2 ^ 200, 1)
  else scaled (f32Val w) 1 (e + k - 149)

def execBrVcvtq (c : Fin 40) (w : BrushWord) (s : State) : Host.Outcome State Fault Refusal :=
  .next (s.brush1 c w { vec1Uses with aux := true, trunc := true } (BrushCore.vec1 w (fun x =>
    let (n, d) := f32Units x.toNat w.auxInt 31
    q31Round w.trunc n d)))

def execBrAcfadd (c : Fin 40) (w : BrushWord) (s : State) : Host.Outcome State Fault Refusal :=
  .next (s.brush1 c w { macUses with b := 0 } (fun k => .ok (k.accLanes w.d.toNat w.mask.toNat (fun l =>
    let (n, d) := f32Units (k.vec w.a.toNat l).toNat w.aux.toNat 63
    k.acc w.d.toNat l + n.fdiv d))))

/-! ## Vector memory -/

/-- vd from the 64-byte vector at an address. -/
def BrushCore.vload (k : BrushCore) (w : BrushWord) (a : Nat) : BrushRes :=
  match memFault a 64 64 with
  | some e => .error e
  | none => .ok (k.lanes w.d.toNat w.mask.toNat (fun l => (k.memLane a l, 0)))

/-- The masked lanes of vd to an address. -/
def BrushCore.vstore (k : BrushCore) (w : BrushWord) (a : Nat) : BrushRes :=
  match memFault a 64 64 with
  | some e => .error e
  | none => .ok ((List.range 16).foldl (fun k l =>
      if (k.mask w.mask.toNat).testBit l then k.store (a + 4 * l) 4 (k.vec w.d.toNat l).toNat else k) k, 0)

def memUses : Uses := { Uses.none with d := 5, a := 4, mask := true, imm := true }

def execBrVld (c : Fin 40) (w : BrushWord) (s : State) : Host.Outcome State Fault Refusal :=
  .next (s.brush1 c w memUses (fun k => k.vload w (k.addr w)))

def execBrVst (c : Fin 40) (w : BrushWord) (s : State) : Host.Outcome State Fault Refusal :=
  .next (s.brush1 c w memUses (fun k => k.vstore w (k.addr w)))

/-- The pointer advance of VLDI and VSTI, by a multiple of 64. -/
def BrushCore.advance (w : BrushWord) (r : BrushRes) : BrushRes :=
  if w.imm.toNat % 64 ≠ 0 then .error 2
  else r.map (fun e => (e.1.setScalar w.a.toNat (e.1.scalar w.a.toNat + w.imm), e.2))

def execBrVldi (c : Fin 40) (w : BrushWord) (s : State) : Host.Outcome State Fault Refusal :=
  .next (s.brush1 c w memUses (fun k => BrushCore.advance w (k.vload w (k.scalar w.a.toNat).toNat)))

def execBrVsti (c : Fin 40) (w : BrushWord) (s : State) : Host.Outcome State Fault Refusal :=
  .next (s.brush1 c w memUses (fun k => BrushCore.advance w (k.vstore w (k.scalar w.a.toNat).toNat)))

/-! ## Control -/

/-- A branch by imm instructions from this one; outside the code it faults (R376). -/
def State.brushBranch (s : State) (c : Fin 40) (w : BrushWord) (u : Uses) (p : BrushCore → Bool) : State :=
  s.brush2 c w u (fun j s =>
    let pc := s.corePc c.val
    if !p (s.core c.val) then .ok ((s.brushRetire c.val j).setCorePc c.val (pc + 8))
    else
      let t : Int := (pc : Int) + 8 * w.imm.toInt
      if t < 0 || (s.codeLen j.kernel : Int) ≤ t then .error 3
      else .ok ((s.brushRetire c.val j).setCorePc c.val t.toNat))

def execBrBrz (c : Fin 40) (w : BrushWord) (s : State) : Host.Outcome State Fault Refusal :=
  .next (s.brushBranch c w { Uses.none with a := 4, imm := true } (fun k => decide (k.scalar w.a.toNat = 0)))

def execBrBrnz (c : Fin 40) (w : BrushWord) (s : State) : Host.Outcome State Fault Refusal :=
  .next (s.brushBranch c w { Uses.none with a := 4, imm := true } (fun k => decide (k.scalar w.a.toNat ≠ 0)))

def execBrBrlt (c : Fin 40) (w : BrushWord) (s : State) : Host.Outcome State Fault Refusal :=
  .next (s.brushBranch c w { Uses.none with a := 4, b := 4, imm := true }
    (fun k => decide ((k.scalar w.a.toNat).toInt < (k.scalar w.b.toNat).toInt)))

/-- Whether an opcode can follow REP (R369). -/
def repeatable (op : Nat) : Bool :=
  (decide (0x10 ≤ op) && decide (op ≤ 0x17)) || op = 0x1A || op = 0x1B || (decide (0x20 ≤ op) && decide (op ≤ 0x35)) ||
    (decide (0x40 ≤ op) && decide (op ≤ 0x63))

/-- Whether an instruction names its own vector or scalar destination as a source (R369). -/
def selfFeeding (op d a b : Nat) : Bool :=
  if op = 0x11 || op = 0x27 || op = 0x2B || op = 0x2C || op = 0x34 || op = 0x50 || op = 0x55 then decide (d = a)
  else if op = 0x31 then decide (d = a) || decide (b = a)
  else if (decide (0x10 ≤ op) && decide (op ≤ 0x17)) || (decide (0x20 ≤ op) && decide (op ≤ 0x2A)) || op = 0x30 ||
      op = 0x33 || (decide (0x51 ≤ op) && decide (op ≤ 0x54)) then decide (d = a) || decide (d = b)
  else false

/-- Whether the next instruction of a kernel may be repeated; a built-in kernel's always may. -/
def State.repAllowed (s : State) (c k : Nat) : Bool :=
  builtin k || (match s.codeAt k (s.corePc c + 8) with
    | some v => repeatable (v / 2 ^ 56) &&
        !selfFeeding (v / 2 ^ 56) (v / 2 ^ 51 % 32) (v / 2 ^ 46 % 32) (v / 2 ^ 41 % 32)
    | none => false)

/-- REP (R369). -/
def execBrRep (c : Fin 40) (w : BrushWord) (s : State) : Host.Outcome State Fault Refusal :=
  .next (s.brush2 c w { Uses.none with a := 4, imm := true } (fun j s =>
    let k := s.core c.val
    let n := if w.imm = 0 then (k.scalar w.a.toNat).toNat else w.imm.toNat
    let pc := s.corePc c.val
    if decide (w.imm ≠ 0) && decide (w.a ≠ 0) then .error 1
    else if 4096 < n || !s.repAllowed c.val j.kernel then .error 5
    else if n = 0 then .ok ((s.brushRetire c.val j).setCorePc c.val (pc + 16))
    else .ok (((s.setCore c.val { k with rep := some n }).brushRetire c.val j).setCorePc c.val (pc + 8))))

end Sys2Proof.Machine
end

