-- ==== Sys2Proof/Machine/RawRing.lean ====
section
/-! DEFINITION. Raw rings (R330 to R335): cells and stamp index entries written, and cells as the record writer, the Brush cores
and look-back jobs read them. -/

namespace Sys2Proof.Machine

/-! ## Cells -/

/-- The 56 bytes of a cell: 37 values and the flag nibble (R330). -/
def cellOf (vals : List Int) (m : Marks) : List Byte :=
  let v := vals.zipIdx.foldl (fun a e => a + (e.1 % 4096).toNat * 2 ^ (12 * e.2)) 0
  leBytes 56 (v + (bit m.gap + 2 * bit m.ovr + 4 * bit m.unsettled) * 2 ^ 444)

/-- The marks that a stamp index entry carries (R334): LANE_GAP, CLOCK_GAP, HEAD_EOL. -/
def Marks.index (m : Marks) : Marks :=
  { Marks.none with laneGap := m.laneGap, clockGap := m.clockGap, headEol := m.headEol }

/-- Whether a stream's port runs in fallback on fewer lanes (R334). -/
def State.inFallback (s : State) (id : Nat) : Bool :=
  match s.streamPort id with
  | some p => s.portState p = 3
  | none => false

/-- The stamp index entry of sample k, where R335 asks for one: STAMP_INDEX_ENTRY. -/
def State.indexEntry (s : State) (id k : Nat) (x : Sample) : State :=
  let st := s.stream id
  let w := st.width
  let m := { x.marks.index with laneGap := x.marks.laneGap || s.inFallback id }
  let d := match s.streamPort id with
    | some p => (s.reg (Reg.FLINK.DELAY p)).toNat
    | none => 0
  let rate := match st.lastEntry with
    | some (_, _, p, _, _) => decide (p ≠ st.period)
    | none => false
  let due := match st.lastEntry with
    | none => true
    | some (k', t, p, d', m') => decide (k * w / 37888 ≠ (k - 1) * w / 37888) || rate || decide (d ≠ d') ||
        decide (m ≠ m') || decide (x.tbs ≠ t + (k - k') * p)
  if !due || decide (s.fld (Reg.REC.RAW_IDX_LEN id) Fld.REC.RAW_IDX_LEN.entries = 0) then s
  else
    let n := (s.reg (Reg.REC.RAW_IDX_WPTR id)).toNat
    let flags := bit rate + 2 * bit m.laneGap + 4 * bit m.clockGap + 8 * bit m.headEol + 16 * bit st.resize
    let e := leBytes 8 (k * w) ++ leBytes 8 x.tbs ++ leBytes 4 st.period ++ leBytes 4 d ++ leBytes 2 flags ++
      List.replicate 6 0
    let s : State := (s.inkStore 0 (s.rawIdxAddr id n) e).setReg (Reg.REC.RAW_IDX_WPTR id) (BitVec.ofNat 32 (n + 1))
    s.setStream id { s.stream id with lastEntry := some (k, x.tbs, st.period, d, m), resize := false }

/-- RAW_CELL_WRITE (R330, R331, R335): the next cell of a stream, once its 37 values and what the spike filter makes of them are
there (R233). -/
def execRawCellWrite (stream : BitVec 8) (s : State) : Host.Outcome State Fault Refusal :=
  let id := stream.toNat
  let st := s.stream id
  let w := st.width
  let c := s.rawWcell id
  let a := 37 * c / w
  let n := (37 * c + 36) / w + 1 - a
  let outs := (s.inputs id true a).take n
  if st.values.length < 37 || s.rawLen id = 0 || !s.running .dram || decide (outs.length < n) then .next s
  else
    let vs := st.values.take 37
    let m := vs.foldl (fun m e => m.or e.2) Marks.none
    let m := { m with unsettled := m.unsettled || outs.any (fun x => x.marks.unsettled) }
    let s : State := s.inkStore 0 (s.rawAddr id c) (cellOf (vs.map (·.1)) m)
    let s : State := s.setStream id { st with values := st.values.drop 37 }
    let s : State := s.setReg64 (Reg.REC.RAW_WCELL_LO id) (Reg.REC.RAW_WCELL_HI id) (c + 1)
    let ks := (List.range n).filter (fun i => decide (37 * c ≤ (a + i) * w))
    .next (ks.foldl (fun s i =>
      match st.hist[a + i - st.first]? with
      | some x => s.indexEntry id (a + i) x
      | none => s) s)

/-! ## Reading cells -/

/-- A cell as read: its bytes, those that an error made 0, and whether it was there (R341). -/
structure RawCell where
  bytes : List Byte
  bad : List Bool
  valid : Bool

/-- A cell of zeros with GAP: what a reader finds in place of an overwritten one (R341). -/
def gapCell : List Byte := leBytes 56 (2 ^ 444)

/-- Whether an error hit a cell. -/
def RawCell.poisoned (c : RawCell) : Bool := c.bad.any id

/-- The value at a position of a cell (R330). -/
def RawCell.value (c : RawCell) (i : Nat) : Int := signedOf 12 (leNat c.bytes / 2 ^ (12 * i))

/-- Whether a byte of a value was poisoned. -/
def RawCell.valueBad (c : RawCell) (i : Nat) : Bool :=
  (List.range 56).any (fun b => c.bad.getD b false && decide (12 * i < 8 * (b + 1)) && decide (8 * b < 12 * i + 12))

/-- The flag bits of a cell in the numbering of R340: GAP, OVR, UNSETTLED. -/
def RawCell.marks (c : RawCell) : Nat :=
  let f := leNat c.bytes / 2 ^ 444
  bit (f.testBit 0) + 8 * bit (f.testBit 1) + 16 * bit (f.testBit 2)

/-- n cells of a stream from cell c on, read by a source; an affected byte reads as 0, and a poisoned cell gets GAP (R341). -/
def State.readRaw (s : State) (src id : Nat) (errs : List InkErr) (c : Nat) : Nat → List RawCell × State
  | 0 => ([], s)
  | n + 1 =>
    if s.rawValid id c then
      let (l, s) := s.inkRead src (s.rawAddr id c) 56 errs
      let bad := l.map (·.2)
      let v := leNat (l.map (·.1))
      let bytes := if bad.any id && !v.testBit 444 then leBytes 56 (v + 2 ^ 444) else l.map (·.1)
      let (t, s) := s.readRaw src id errs (c + 1) n
      (⟨bytes, bad, true⟩ :: t, s)
    else
      let (t, s) := s.readRaw src id errs (c + 1) n
      (⟨gapCell, List.replicate 56 false, false⟩ :: t, s)

/-- The cells that hold the samples [a, b) of a stream: the first one and how many. -/
def Stream.cellsOf (st : Stream) (a b : Nat) : Nat × Nat :=
  if b ≤ a then (a * st.width / 37, 0)
  else (a * st.width / 37, (b * st.width - 1) / 37 + 1 - a * st.width / 37)

/-- Whether the cells that hold samples up to b are written. -/
def State.cellsWritten (s : State) (id a b : Nat) : Bool :=
  let (c, n) := (s.stream id).cellsOf a b
  decide (c + n ≤ s.rawWcell id)

/-- The marks of the samples [a, b) that the stamp index carries, in the numbering of R340. -/
def Stream.indexMarks (st : Stream) (a b : Nat) : Nat :=
  let m := ((st.hist.drop (a - st.first)).take (b - a)).foldl (fun m x => m.or x.marks) Marks.none
  m.index.bits

/-- The sample of a stream by index. -/
def Stream.at (st : Stream) (k : Nat) : Option Sample := if k < st.first then none else st.hist[k - st.first]?

end Sys2Proof.Machine
end

