-- ==== Sys2Proof/Machine/Builtin.lean ====
section
/-! DEFINITION. The data of an invocation's section (R374) and the results of the built-in kernels (R344 to R346). -/

namespace Sys2Proof.Machine

/-! ## The section's data -/

/-- The index of the first sample stamped at or after an instant, as it is or as the sample period predicts it. -/
def State.predictIndex (s : State) (id t : Nat) : Nat :=
  let st := s.stream id
  match st.hist.findIdx? (fun x => decide (t ≤ x.tbs)) with
  | some i => st.first + i
  | none => match st.hist.getLast? with
    | some x => st.delivered + ceilDiv (t - (x.tbs + st.period)) (max 1 st.period)
    | none => st.delivered

/-- The RAW span of a stream around a candidate (R338), predicted where it is not complete. -/
def State.spanOf (s : State) (cand : Nat) (e : Nat × Nat × Nat) : Nat × Nat :=
  match s.tadSpan cand e with
  | some r => r
  | none =>
    let a := s.predictIndex e.1 (cand - e.2.1)
    (a, max a (s.predictIndex e.1 (cand + e.2.2)))

/-- The candidate instant of an invocation. -/
def State.jobCand (s : State) (j : BrushJob) : Nat := ((s.tadpole j.seq j.uid).map (·.cand)).getD 0

/-- The RAW span of an invocation. -/
def State.jobSpan (s : State) (j : BrushJob) : Nat × Nat := s.spanOf (s.jobCand j) (s.secStream j.tpl (s.jobSec j))

/-- The P of the newest stamp index entry that applies at a value (R334), among n entries back from the newest. -/
def State.indexPeriod (s : State) (id v w : Nat) : Nat → Nat
  | 0 => (s.stream id).period
  | n + 1 =>
    let a := s.rawIdxAddr id (w - 1)
    let e := sparseGetN (fun _ => (0 : Byte)) s.ink.mem a 20
    if leAt e 0 8 ≤ v then leAt e 16 4 else s.indexPeriod id v (w - 1) n

/-- P at a sample of a stream. -/
def State.periodAt (s : State) (id k : Nat) : Nat :=
  let w := (s.reg (Reg.REC.RAW_IDX_WPTR id)).toNat
  s.indexPeriod id (k * (s.stream id).width) w (min w (s.fld (Reg.REC.RAW_IDX_LEN id) Fld.REC.RAW_IDX_LEN.entries))

/-- Whether a value's cell carries GAP or is not there. -/
def State.cellGap (s : State) (id v : Nat) : Bool :=
  let c := v / 37
  !s.rawValid id c || (leNat (sparseGetN (fun _ => (0 : Byte)) s.ink.mem (s.rawAddr id c) 56)).testBit 444

/-- The frames of a SPECTRA section (R338): those stamped from the span's first sample up to t + post. -/
def State.secFrames (s : State) (tpl cand : Nat) (c : TplSec) : List SpecFrame :=
  let e := s.secStream tpl c
  let a := s.stampOf e.1 (s.spanOf cand e).1
  (s.pair c.pair).frames.filter (fun f => decide (a ≤ f.tbs) && decide (f.tbs < cand + e.2.2))

/-- Whether a pair has delivered every frame stamped before an instant. -/
def State.framesThrough (s : State) (i t : Nat) : Bool :=
  decide (s.pairState i = 0) || (s.pair i).n0.isNone || decide (t ≤ s.nextFrameStamp i)

/-- The frames that a SPECTRA section will have, those to come predicted. -/
def State.framesAvailable (s : State) (tpl cand : Nat) (c : TplSec) : Nat :=
  let t := cand + (s.secStream tpl c).2.2
  let p := s.pairCfg c.pair
  let each := p.mode ≤ 1 || ((p.mode = 4 || p.mode = 5) && p.cont)
  let step := max 1 (p.hop * (if each then 1 else p.m) * (s.stream p.stream).period)
  (s.secFrames tpl cand c).length +
    (if s.framesThrough c.pair t then 0 else ceilDiv (t - s.nextFrameStamp c.pair) step)

/-- f_s of a stream in Hz (R268, R346). -/
def State.sampleRate (s : State) (id : Nat) : Rat :=
  match s.zoomOf id with
  | some z =>
    if s.zoomMachine z then (s.zoomQ z * 3932160000000 * 2 ^ 32 : Nat) / ((s.zoom z).path.num : Rat)
    else 3932160000000 / ((s.stream id).period : Rat)
  | none => 3932160000000 / ((s.stream id).period : Rat)

/-! ## Results -/

/-- A parameter field of little-endian bytes. -/
def State.param (s : State) (c : TplSec) (i n : Nat) : Nat := leNat ((List.range n).map (fun d => BitVec.ofNat 8 (s.paramByte c (i + d))))

/-- A result (R345): its status, count and A, B, C as binary64. -/
structure Measured where
  status : Nat
  n : Nat
  a : Nat
  b : Nat
  c : Nat

/-- A status other than OK. -/
def Measured.none (status n : Nat) : Measured := ⟨status, n, 0, 0, 0⟩

def f64 (r : Rat) : Nat := floatBits binary64 .halfUp r.num r.den
def f64Root (r : Rat) : Nat := Config.root r.num.toNat r.den
def f64Db (r : Rat) : Nat := Config.decibel r.num.toNat r.den

/-! ## Time-domain kernels -/

/-- A sample of the window: its index in the window, its parts in codes, or none where it is excluded. -/
abbrev WinSample := Nat × Option (Int × Int)

/-- The window of an invocation (R344): RANGE when it leaves the RAW span. -/
def State.window (s : State) (j : BrushJob) : Option (List WinSample) :=
  let c := s.jobSec j
  let id := s.jobStream j
  let st := s.stream id
  let (a, b) := s.jobSpan j
  let len := s.param c 4 4
  let start : Int := if len = 0 then a else s.predictIndex id (s.jobCand j) + signedOf 32 (s.param c 0 4)
  let n := if len = 0 then b - a else len
  if start < a || (b : Int) < start + n then none
  else some ((List.range n).map (fun i =>
    let k := start.toNat + i
    let v := k * st.width
    let gap := s.cellGap id v || s.cellGap id (v + st.width - 1)
    (i, if gap then none else (st.at k).map (fun x => (x.i, x.q)))))

/-- The rising crossings of a real window (R346): τ in samples. The state is the last sample, whether x has been below −hyst, and
the crossings so far. -/
def crossings (below : Int → Bool) (l : List WinSample) : List Rat :=
  (l.foldl (fun (r : Option Int × Bool × List Rat) (e : WinSample) =>
    match e.2 with
    | none => (none, r.2.1, r.2.2)
    | some (x, _) =>
      match r.1 with
      | some y =>
        if r.2.1 && decide (y < 0) && decide (0 ≤ x) then
          (some x, false, r.2.2 ++ [(e.1 : Rat) - 1 + (y : Rat) / ((y - x : Int) : Rat)])
        else (some x, r.2.1 || below x, r.2.2)
      | none => (some x, r.2.1 || below x, r.2.2)) (none, false, [])).2.2

/-- The least squares line through τ_i: a, b and the mean squared residual. -/
def fitCrossings (l : List Rat) : Rat × Rat × Rat :=
  let n : Rat := (l.length : Rat)
  let p := l.zipIdx.map (fun e => ((e.2 : Rat), e.1))
  let sx := (p.map (·.1)).sum
  let sy := (p.map (·.2)).sum
  let sxx := (p.map (fun e => e.1 * e.1)).sum
  let sxy := (p.map (fun e => e.1 * e.2)).sum
  let b := (n * sxy - sx * sy) / (n * sxx - sx * sx)
  let a := (sy - b * sx) / n
  (a, b, (p.map (fun e => (e.2 - a - b * e.1) * (e.2 - a - b * e.1))).sum / n)

/-- The period kernel. -/
def State.kernelPeriod (s : State) (j : BrushJob) (l : List WinSample) : Measured :=
  let c := s.jobSec j
  let st := s.stream (s.jobStream j)
  let p : Rat := 3932160000000 / s.sampleRate (s.jobStream j)
  if st.cplx then
    let x := l.filterMap (fun e => e.2.map (fun v => (e.1, v.1, v.2)))
    if x.length < 2 then Measured.none 1 x.length
    else ⟨0, x.length, Config.phaseFit 0 x st.period, Config.phaseFit 1 x st.period, Config.phaseFit 2 x st.period⟩
  else
    let (hn, hd) := f32Units (s.param c 8 4) 0 0
    let t := crossings (fun x => decide (x * (hd : Int) < -(2048 * hn))) l
    if t.length < 3 then Measured.none 1 t.length
    else
      let (_, b, r) := fitCrossings t
      let ns := b * p * 100 / 393216
      let q := p * 100000 / 393216
      ⟨0, t.length, f64 ns, f64 (1000000000 / ns), f64Root (r * q * q)⟩

/-- The amplitude kernel. -/
def kernelAmplitude (cplx : Bool) (l : List WinSample) : Measured :=
  let x := l.filterMap (·.2)
  let pow (v : Int × Int) : Nat := (v.1 * v.1 + (if cplx then v.2 * v.2 else 0)).toNat
  let top : Rat := ((x.map pow).foldl max 0 : Nat) / (2 ^ 22 : Rat)
  let sum : Rat := ((x.map pow).sum : Nat) / (2 ^ 22 : Rat)
  if sum = 0 then Measured.none 4 x.length
  else
    let mean := sum / (x.length : Rat)
    ⟨0, x.length, f64Root top, f64Root mean, f64Root (top / mean)⟩

/-! ## Spectral kernels -/

/-- ln 10 in units of 2^-120. -/
def ln10 : Nat := 3060660568284699479708353448060341289

/-- The power of a LOGP16 code (R270), to a relative error below 2^-100. -/
def logPower (code : Nat) : Rat :=
  (expSeries (code % 2560 * ln10 / 2560) 80 0 fixOne * 10 ^ (code / 2560) : Nat) / ((fixOne * 10 ^ 20 : Nat) : Rat)

/-- P of a column. -/
def columnPower (det : Nat) (x : Int × Int) : Rat :=
  if det = 1 then (f32Val x.1.toNat : Rat) / ((2 ^ 149 : Nat) : Rat) else logPower x.1.toNat

/-- The mean spectrum of frames (R346), over the columns of the band. -/
def meanSpectrum (det lo hi : Nat) (l : List SpecFrame) : List Rat :=
  (List.range (hi + 1 - lo)).map (fun k =>
    (l.map (fun f => columnPower det (f.cols.getD (lo + k) (0, 0)))).sum / (l.length : Rat))

/-- The column of largest power; the first of equal ones. -/
def peakColumn (l : List Rat) : Nat :=
  (l.zipIdx.foldl (fun (r : Nat × Rat) e => if r.2 < e.1 then (e.2, e.1) else r) (0, l.headD 0)).1

/-- ENBW of a pair's window (R264). -/
def PairCfg.enbw (c : PairCfg) : Rat :=
  ((c.size : Int) * (c.win.map (fun w => w * w)).sum : Int) / ((c.win.sum * c.win.sum : Int) : Rat)

/-- The width of a column in Hz, and the frequency of column k (R268), relative to the stream's centre for a complex input. -/
def State.binWidth (s : State) (c : PairCfg) : Rat := s.sampleRate c.stream / (c.size : Rat)
def State.binFreq (s : State) (c : PairCfg) (k : Rat) : Rat :=
  s.binWidth c * ((c.lo : Rat) + k - (if c.cplx then (c.size / 2 : Nat) else 0 : Rat))

/-- The position, in columns from the band's start, at which the cumulative power reaches a value. -/
def cumulative (target : Rat) : List Rat → Nat → Rat → Rat
  | [], k, _ => (k : Rat)
  | p :: t, k, sum => if target ≤ sum + p then (k : Rat) + (if p = 0 then 0 else (target - sum) / p)
      else cumulative target t (k + 1) (sum + p)

/-- A spectral kernel on the mean spectrum `l` of the band from column lo, of n frames. `free` is where the interpolation places a
column, which R346 leaves open: from its bin position or around it. -/
def State.spectral (s : State) (kernel : Nat) (c : PairCfg) (lo half n free : Nat) (l : List Rat) : Measured :=
  let total := l.sum
  let p := peakColumn l
  let at_ (k : Nat) : Rat := l.getD k 0
  if total = 0 then Measured.none 4 n
  else match kernel with
  | 3 => ⟨0, n, f64 (total / c.enbw), f64Db (total / c.enbw), f64 (n : Rat)⟩
  | 4 =>
    if p = 0 || p + 1 = l.length then ⟨0, n, f64 (s.binFreq c ((lo + p : Nat) : Rat)), f64Db (at_ p), 0⟩
    else
      let xs := [at_ (p - 1), at_ p, at_ (p + 1)].map (fun r => (r.num, r.den))
      let f := s.binFreq c ((lo + p : Nat) : Rat)
      let w := s.binWidth c
      ⟨0, n, Config.peakFit 0 (xs ++ [(f.num, f.den), (w.num, w.den)]), Config.peakFit 1 xs, Config.peakFit 2 xs⟩
  | 5 =>
    let off : Rat := if free % 2 = 0 then 0 else -1 / 2
    let a := s.binFreq c ((lo : Rat) + cumulative (total * 5 / 1000) l 0 0 + off)
    let b := s.binFreq c ((lo : Rat) + cumulative (total * 995 / 1000) l 0 0 + off)
    ⟨0, n, f64 (b - a), f64 ((b + a) / 2), f64Db (total / c.enbw)⟩
  | _ =>
    let near := l.zipIdx.filter (fun e => decide (e.2 ≤ p + half) && decide (p ≤ e.2 + half))
    let far := l.zipIdx.filter (fun e => !(decide (e.2 ≤ p + half) && decide (p ≤ e.2 + half)))
    let noise : Rat := if far.isEmpty then 0 else (far.map (·.1)).sum / (far.length : Rat)
    let sig := (near.map (·.1)).sum - ((2 * half + 1 : Nat) : Rat) * noise
    ⟨0, n, f64Db (sig / (noise * (l.length : Rat))), f64Db (sig / c.enbw), f64Db (noise / (c.enbw * s.binWidth c))⟩

/-! ## The entry -/

/-- The result of a built-in kernel (R344 to R346). Where several statuses hold, RANGE comes first, then POISON, then GAP. -/
def State.measure (s : State) (j : BrushJob) (poison : Bool) (free : Nat) : Measured :=
  let c := s.jobSec j
  if j.kernel ≤ 2 then
    match s.window j with
    | none => Measured.none 5 0
    | some l =>
      let x := l.countP (fun e => e.2.isSome)
      if poison then Measured.none 3 x
      else if 2 * x < l.length then Measured.none 2 x
      else if j.kernel = 1 then s.kernelPeriod j l else kernelAmplitude (s.stream (s.jobStream j)).cplx l
  else
    match s.feeding j.tpl c with
    | none => Measured.none 1 0
    | some d =>
      let p := s.pairCfg d.pair
      let lo := s.param c 12 2
      let hi := s.param c 14 2
      let fs := s.secFrames j.tpl (s.jobCand j) d
      let good := fs.filter (fun f => !f.marks.gap)
      if hi < lo || decide (p.columns ≤ hi) then Measured.none 5 0
      else if poison || good.any (fun f => f.marks.poison) then Measured.none 3 good.length
      else if fs.isEmpty then Measured.none 1 0
      else if good.isEmpty then Measured.none 2 0
      else s.spectral j.kernel p lo (s.param c 16 2) good.length free (meanSpectrum p.det lo hi good)

/-- The 28 bytes after a built-in kernel's entry head, with its status. -/
def Measured.body (m : Measured) : List Byte := leBytes 4 m.n ++ leBytes 8 m.a ++ leBytes 8 m.b ++ leBytes 8 m.c

end Sys2Proof.Machine
end

