-- ==== Sys2Proof/Machine/BrushRun.lean ====
section
/-! DEFINITION. Invocations (R372 to R376): the start, the input transfers, the waits, the results and the end. -/

namespace Sys2Proof.Machine

/-! ## Special registers -/

/-- A special register (R367); the content of a number that names none is free. -/
def State.brushSpecial (s : State) (c : Nat) (j : BrushJob) (n : Nat) : Nat :=
  let sec := s.jobSec j
  match n with
  | 0 => s.coreFlags c
  | 1 =>
    let (a, b) := s.jobSpan j
    ceilDiv ((b - a) * (s.stream (s.jobStream j)).width) 16
  | 2 => match s.feeding j.tpl sec with
    | some d => s.framesAvailable j.tpl (s.jobCand j) d
    | none => 0
  | 3 => match s.feeding j.tpl sec with
    | some d => (s.pairCfg d.pair).columns
    | none => 0
  | 4 => (s.core c).outs.length
  | 5 => s.kernelOutmax j.kernel
  | _ => Config.brushOpen 6 n 0

def execBrMfs (c : Fin 40) (w : BrushWord) (s : State) : Host.Outcome State Fault Refusal :=
  .next (s.brush2 c w { Uses.none with d := 4, a := 5 } (fun j s =>
    let v := s.brushSpecial c.val j w.a.toNat
    .ok (((s.setCore c.val ((s.core c.val).setScalar w.d.toNat (BitVec.ofNat 32 v))).brushRetire c.val j).setCorePc c.val
      (s.corePc c.val + 8))))

/-! ## Input -/

/-- WAITIN: the core waits while a transfer is pending. -/
def execBrWaitin (c : Fin 40) (w : BrushWord) (s : State) : Host.Outcome State Fault Refusal :=
  .next (s.brush2 c w Uses.none (fun j s =>
    let k := s.core c.val
    .ok (((s.setCore c.val { k with waiting := k.input.isSome }).brushRetire c.val j).setCorePc c.val
      (s.corePc c.val + 8))))

/-- INBLK (R374): the transfer starts; while another is pending, the instruction waits and issues again after it. -/
def execBrInblk (c : Fin 40) (w : BrushWord) (s : State) : Host.Outcome State Fault Refusal :=
  .next (s.brush2 c w { Uses.none with a := 4, b := 4, aux := true } (fun j s =>
    let k := s.core c.val
    let a := (k.scalar w.a.toNat).toNat
    let n := (k.scalar w.b.toNat).toNat
    if k.input.isSome then .ok (s.setCore c.val { k with waiting := true })
    else match memFault a 64 (64 * n) with
      | some e => .error e
      | none => .ok (((s.setCore c.val { k with input := some ⟨w.aux.toNat, a, n⟩ }).brushRetire c.val j).setCorePc c.val
          (s.corePc c.val + 8))))

/-- One RAW value of an invocation: its code, whether it is missing and whether it is poisoned. The cells are those read, from the
first one's number on. -/
def State.rawValue (s : State) (id : Nat) (cells : List RawCell) (first v : Nat) : Int × Bool × Bool :=
  let st := s.stream id
  let x := cells.getD (v / 37 - first) ⟨gapCell, [], false⟩
  let gap := ((st.at (v / st.width)).map (fun x => x.marks.gap)).getD true
  if !x.valid || gap then (0, true, false) else (x.value (v % 37), false, x.valueBad (v % 37))

/-- A vector of 16 lanes as bytes. -/
def vectorBytes (l : List Int) : List Byte := ((List.range 16).map (fun i => leBytes 4 ((l.getD i 0) % 2 ^ 32).toNat)).flatten

/-- What an input supplies: its vectors from one number on, with the flags raised (R374). -/
def State.rawVectors (s : State) (j : BrushJob) (errs : List InkErr) (pos n : Nat) : List (List Byte) × Nat × State :=
  let id := s.jobStream j
  let w := (s.stream id).width
  let (a, b) := s.jobSpan j
  let total := (b - a) * w
  let lo := a * w + min total (16 * pos)
  let hi := a * w + min total (16 * (pos + n))
  let first := lo / 37
  let (cells, s) := s.readRaw 4 id errs first (if hi ≤ lo then 0 else (hi - 1) / 37 + 1 - first)
  let r := (List.range n).map (fun i =>
    let vs := (List.range 16).map (fun l =>
      let v := 16 * (pos + i) + l
      if v < total then s.rawValue id cells first (a * w + v) else (0, false, false))
    (vectorBytes (vs.map (fun x => x.1 * 2 ^ 20)),
      (if vs.any (fun x => x.2.1) then flagGap else 0) ||| (if vs.any (fun x => x.2.2) then flagPoison else 0) |||
        (if ceilDiv total 16 ≤ pos + i then flagEnd else 0)))
  (r.map (·.1), (r.map (·.2)).foldl (· ||| ·) 0, s)

/-- The VALID input: a bit for each RAW value, 512 to a vector. -/
def State.validVectors (s : State) (j : BrushJob) (pos n : Nat) : List (List Byte) × Nat :=
  let id := s.jobStream j
  let st := s.stream id
  let (a, b) := s.jobSpan j
  let total := (b - a) * st.width
  let r := (List.range n).map (fun i =>
    let v := (List.range 512).foldl (fun x l =>
      let k := 512 * (pos + i) + l
      let g := a * st.width + k
      let there := decide (k < total) && s.rawValid id (g / 37) &&
        !(((st.at (g / st.width)).map (fun x => x.marks.gap)).getD true)
      x + bit there * 2 ^ l) 0
    (leBytes 64 v, if ceilDiv total 512 ≤ pos + i then flagEnd else 0))
  (r.map (·.1), (r.map (·.2)).foldl (· ||| ·) 0)

/-- The vectors of one frame: its header, then its columns. A CPLX24E column has no lane form, and its lane is free. -/
def frameVectors (det : Nat) (f : SpecFrame) : List (List Byte) :=
  let cols := f.cols.map (fun x => if det = 0 then
      ((Config.brushOpen 0x70 (x.1 % 2 ^ 24).toNat (x.2 % 2 ^ 24).toNat : Nat) : Int) else x.1)
  (f.bytes.take 32 ++ List.replicate 32 0) ::
    (List.range (ceilDiv cols.length 16)).map (fun i => vectorBytes ((cols.drop (16 * i)).take 16))

/-- The SPECTRA input. -/
def State.spectraVectors (s : State) (j : BrushJob) (pos n : Nat) : List (List Byte) × Nat :=
  let all := match s.feeding j.tpl (s.jobSec j) with
    | some d => (s.secFrames j.tpl (s.jobCand j) d).flatMap (frameVectors (s.pairCfg d.pair).det)
    | none => []
  let l := (all.drop pos).take n
  (l ++ List.replicate (n - l.length) (List.replicate 64 0), if all.length < pos + n then flagEnd else 0)

/-- Whether what a transfer asks for has reached the Inkwell (R372). -/
def State.inputReady (s : State) (j : BrushJob) (i : BrushInput) (pos : Nat) : Bool :=
  let id := s.jobStream j
  let st := s.stream id
  let e := s.secStream j.tpl (s.jobSec j)
  let t := s.jobCand j
  if i.sel ≤ 1 then
    let per := if i.sel = 0 then 16 else 512
    let need := ceilDiv (per * (pos + i.count)) st.width
    match s.tadSpan t e with
    | some (a, b) => s.cellsWritten id a (min b (a + need))
    | none => st.hist.any (fun x => decide (t - e.2.1 ≤ x.tbs)) && s.cellsWritten id (s.jobSpan j).1 ((s.jobSpan j).1 + need)
  else if i.sel = 2 then
    match s.feeding j.tpl (s.jobSec j) with
    | none => true
    | some d =>
      s.framesThrough d.pair (t + (s.secStream j.tpl d).2.2) ||
        decide (pos + i.count ≤ (s.secFrames j.tpl t d).length * (1 + ceilDiv (s.pairCfg d.pair).columns 16))
  else true

/-- INBLK_DONE (R374): the pending transfer finishes; a wait for it ends. An input that aux does not name is empty. -/
def execInblkDone (c : Fin 40) (errs : List InkErr) (s : State) : Host.Outcome State Fault Refusal :=
  let c := c.val
  let k := s.core c
  match k.job, k.input with
  | some j, some i =>
    let pos := sparseGet (fun _ => 0) k.pos i.sel
    if s.coreState c ≠ 2 || !s.inputReady j i pos then .next s
    else
      let (l, f, s) : List (List Byte) × Nat × State := match i.sel with
        | 0 => s.rawVectors j errs pos i.count
        | 1 => let (l, f) := s.validVectors j pos i.count; (l, f, s)
        | 2 => let (l, f) := s.spectraVectors j pos i.count; (l, f, s)
        | _ => (List.replicate i.count (List.replicate 64 0), if i.count = 0 then 0 else flagEnd, s)
      let k : BrushCore := s.core c
      let k : BrushCore := { k with
        vmem := sparsePutN (fun _ => 0) k.vmem i.addr l.flatten, input := none, waiting := false,
        pos := sparsePut (fun _ => 0) i.sel (pos + i.count) k.pos }
      .next ((s.setCore c k).raiseFlags c f)
  | _, _ => .next s

/-! ## Results -/

/-- An entry written, or dropped beyond OUTMAX (R375). -/
def State.brushOut (s : State) (c : Nat) (j : BrushJob) (e : List Byte) : State :=
  if (s.core c).outs.length < s.kernelOutmax j.kernel then
    s.setCore c { s.core c with outs := (s.core c).outs ++ [e] }
  else
    let s : State := (s.raiseFlags c flagDrop).tadCount j (Reg.BRUSH.KRN_OUTDROP_CNT j.kernel) 1
    s.tadHold j Ev.BRUSH.OUTDROP 3 11 j.kernel

/-- The one entry of a built-in kernel (R345). -/
def State.builtinEntry (s : State) (c : Nat) (j : BrushJob) : List Byte × State :=
  let (n, s) := s.draw
  let m := s.measure j ((s.coreFlags c).testBit 3) (Config.freeNat 60 n)
  (s.entryHead c j m.status ++ m.body, s)

/-- OUTE (R375). A built-in kernel's entry is the one that R345 and R346 state. -/
def execBrOute (c : Fin 40) (w : BrushWord) (s : State) : Host.Outcome State Fault Refusal :=
  .next (s.brush2 c w { Uses.none with a := 4 } (fun j s =>
    let k := s.core c.val
    let a := (k.scalar w.a.toNat).toNat
    match memFault a 32 32 with
    | some e => .error e
    | none =>
      let (e, s) : List Byte × State := if builtin j.kernel then s.builtinEntry c.val j
        else (s.entryHead c.val j (k.load (a + 2) 1) ++ leBytes 28 (k.load (a + 4) 28), s)
      .ok (((s.brushOut c.val j e).brushRetire c.val j).setCorePc c.val (s.corePc c.val + 8))))

/-- END (R375): without an entry, one is written with the END status. -/
def execBrEnd (c : Fin 40) (w : BrushWord) (s : State) : Host.Outcome State Fault Refusal :=
  .next (s.brush2 c w { Uses.none with imm := true } (fun j s =>
    let s : State := s.brushRetire c.val j
    let outs := (s.core c.val).outs
    if !outs.isEmpty then .ok (s.finishJob c.val outs)
    else
      let (e, s) : List Byte × State := if builtin j.kernel then s.builtinEntry c.val j
        else (s.entryHead c.val j (w.imm.toNat % 256) ++ List.replicate 28 0, s)
      .ok (s.finishJob c.val [e])))

/-! ## The start -/

/-- The data of a loaded kernel (R378). -/
def State.kernelData (s : State) (k : Nat) : List Byte :=
  match s.kernelImage k with
  | some l => (l.drop (0x30 + imageCodeLen l)).take (leAt l 12 4)
  | none => []

/-- INVOCATION_START (R372, R373): the first queued invocation of the kernel starts on the lowest-numbered idle core that its
program holds. -/
def execInvocationStart (kernel : BitVec 8) (s : State) : Host.Outcome State Fault Refusal :=
  match s.brushQueue.find? (fun j => j.kernel = kernel.toNat) with
  | none => .next s
  | some j =>
    let cores := (s.coresFor (s.tplHolder j.tpl) j.kernel).filter (fun c => decide (s.coreState c = 1) && decide (s.hiddenScope ⟨.core, c⟩ ≠ .draining))
    match cores.min? with
    | none => .next s
    | some c =>
      let s : State := ({ s with brushQueue := s.brushQueue.erase j }).queuedCounts [j.kernel]
      let sec := s.jobSec j
      let id := s.jobStream j
      let st := s.stream id
      let (a, b) := s.jobSpan j
      let t := s.jobCand j
      let (l, s) := s.inkRead 4 (sec.param * 64) 64 []
      let block := l.map (·.1)
      let k : BrushCore := { BrushCore.idle with
        vmem := sparsePutN (fun _ => 0) [] 0 (s.kernelData j.kernel), job := some j }
      let k := (List.range 16).foldl (fun k i => k.setVec 31 i (BitVec.ofNat 32 (leAt block (4 * i) 4))) k
      let k := [id + 256 * bit st.cplx, (b - a) * st.width, s.periodAt id a, t, t / 2 ^ 32, j.tpl, j.kernel,
        j.section_].zipIdx.foldl (fun k e => k.setScalar e.2 (BitVec.ofNat 32 e.1)) k
      let s : State := s.setCore c k
      let s : State := (s.setFld (Reg.BRUSH.CORE_STATE c) Fld.BRUSH.CORE_STATE.state 2).setFld (Reg.BRUSH.CORE_STATE c)
        Fld.BRUSH.CORE_STATE.template j.tpl
      let s : State := s.setFld (Reg.BRUSH.CORE_FLAGS c) Fld.BRUSH.CORE_FLAGS.flags 0
      .next ((s.setCorePc c 0).tadCount j (Reg.BRUSH.CORE_INV_CNT c) 1)

end Sys2Proof.Machine
end

