-- ==== Sys2Proof/Machine/Flows.lean ====
section
/-! DEFINITION. Flows and their sink buffers (R347 to R350, R453, R475): items enter, policies select and stop. -/

namespace Sys2Proof.Machine

/-- The key of a flow in the State's list. -/
def FlowId.key : FlowId → Nat
  | .template t => t.val
  | .spectral ch k => 64 + 4 * ch.val + k.val
  | .snapshot k => 320 + k.val
  | .disk n => 336 + n.val

def State.flow (s : State) (f : FlowId) : Flow := sparseGet (fun _ => Flow.fresh) s.flows f.key

def State.setFlow (s : State) (f : FlowId) (v : Flow) : State :=
  { s with flows := sparsePut (fun _ => Flow.fresh) f.key v s.flows }

/-! ## Bytes of items -/

/-- A byte string with some bytes replaced. -/
def patchBytes (l : List Byte) (i : Nat) (b : List Byte) : List Byte := l.take i ++ b ++ l.drop (i + b.length)

/-- A record or snapshot with its CRC at byte 60, computed with that field at 0 (R337, R396). -/
def sealCrc (l : List Byte) : List Byte :=
  patchBytes l 60 (leBytes 4 (crc32c (patchBytes l 60 (leBytes 4 0))).toNat)

/-- Bits set in a little-endian field of an item. -/
def setItemBits (l : List Byte) (i n v : Nat) : List Byte := patchBytes l i (leBytes n (leAt l i n ||| v))

/-- An item with OVF in its header (R348), by its kind. -/
def markOvf (kind : Nat) (l : List Byte) : List Byte :=
  match kind with
  | 1 => sealCrc (setItemBits l 42 2 128)
  | 2 => setItemBits l 26 2 64
  | _ => sealCrc (setItemBits l 44 2 64)

/-! ## Sinks -/

def State.channel (s : State) (ch : Nat) : Channel := sparseGet (fun _ => Channel.idle) s.channels ch

def State.setChannel (s : State) (ch : Nat) (v : Channel) : State :=
  { s with channels := sparsePut (fun _ => Channel.idle) ch v s.channels }

def State.dmaState (s : State) (ch : Nat) : Nat := s.fld (Reg.DMA.DMA_STATE ch) Fld.DMA.DMA_STATE.state

/-- The undelivered bytes of a channel's sink buffer, and its size: as a shrink left it, or as configured (R436, R453). -/
def Channel.used (c : Channel) : Nat := (c.items.map (fun x => x.bytes.length)).sum - c.covered

def State.channelCap (s : State) (ch : Nat) : Nat :=
  sparseGet (fun _ => s.fld (Reg.DMA.DMA_CFG ch) Fld.DMA.DMA_CFG.buf_mib * 2 ^ 20) s.ink.sinks ch

def State.disk (s : State) (n : Nat) : DiskRun := sparseGet (fun _ => DiskRun.idle) s.disks n

def State.setDisk (s : State) (n : Nat) (v : DiskRun) : State :=
  { s with disks := sparsePut (fun _ => DiskRun.idle) n v s.disks }

def State.dsState (s : State) (n : Nat) : Nat := s.fld (Reg.STOR.DS_STATE n) Fld.STOR.DS_STATE.state

def State.drive (s : State) (d : Nat) : Drive := sparseGet (fun _ => Drive.blank) s.nvme d

def State.setDrive (s : State) (d : Nat) (v : Drive) : State :=
  { s with nvme := sparsePut (fun _ => Drive.blank) d v s.nvme }

/-- DRV_STATE.state: 0 ABSENT, 1 INIT, 2 MEASURE, 3 READY, 4 IN_SET, 5 RETIRED, 6 LOST. -/
def State.drvState (s : State) (d : Nat) : Nat := s.fld (Reg.STOR.DRV_STATE d) Fld.STOR.DRV_STATE.state

/-- The drives in a disk stream's rotation, in ascending slot number. -/
def State.diskDrives (s : State) (n : Nat) : List Nat :=
  (List.range 8).filter (fun d => (s.fld (Reg.STOR.DS_CFG n) Fld.STOR.DS_CFG.drives).testBit d && decide (s.drvState d = 4) &&
    !(s.drive d).retiring)

/-- The bytes of a disk stream's staging buffer that hold items not yet in committed extents. -/
def DiskRun.used (d : DiskRun) : Nat :=
  (d.items.map (fun x => pad8 x.bytes.length)).sum - d.placed + (d.written.map (fun x => x.payload.length)).sum

def State.diskCap (s : State) (n : Nat) : Nat :=
  sparseGet (fun _ => s.fld (Reg.STOR.DS_CFG n) Fld.STOR.DS_CFG.buf_mib * 2 ^ 20) s.ink.sinks (64 + n)

/-- The sink of a flow. -/
inductive Sink where
  | none
  | channel (ch : Nat)
  | disk (n : Nat)
deriving DecidableEq, Repr

def State.flowSink (s : State) : FlowId → Sink
  | .template t =>
    if s.flag (Reg.REC.TPL_CFG t.val) Fld.REC.TPL_CFG.exportEn then
      .channel (s.fld (Reg.REC.TPL_CFG t.val) Fld.REC.TPL_CFG.exportCh)
    else .none
  | .spectral ch _ => .channel ch.val
  | .snapshot k =>
    if s.flag (Reg.BLOT.PL_SNAP_DEST k.val) Fld.BLOT.PL_SNAP_DEST.exportEn then
      .channel (s.fld (Reg.BLOT.PL_SNAP_DEST k.val) Fld.BLOT.PL_SNAP_DEST.exportCh)
    else .none
  | .disk n => .disk n.val

/-- The used bytes of a sink buffer and its size. -/
def State.sinkFill (s : State) : Sink → Nat × Nat
  | .none => (0, 1)
  | .channel ch => ((s.channel ch).used, s.channelCap ch)
  | .disk n => ((s.disk n).used, s.diskCap n)

/-- Whether a sink takes an item of some bytes now. A disk stream without a drive is a sink without room (R480). -/
def State.sinkRoom (s : State) (k : Sink) (n : Nat) : Bool :=
  match k with
  | .none => true
  | .channel ch => s.dmaState ch ≠ 0 && s.dmaState ch ≠ 5 && decide ((s.channel ch).used + n ≤ s.channelCap ch)
  | .disk d => s.dsState d ≠ 0 && s.dsState d ≠ 4 && !(s.diskDrives d).isEmpty && decide ((s.disk d).used + pad8 n ≤ s.diskCap d)

/-- DMA_STATE.fill and DS_STATE.fill. -/
def State.reportFill (s : State) (k : Sink) : State :=
  let (u, c) := s.sinkFill k
  let v := min 100 (u * 100 / max 1 c)
  match k with
  | .none => s
  | .channel ch => s.setFld (Reg.DMA.DMA_STATE ch) Fld.DMA.DMA_STATE.fill v
  | .disk n => s.setFld (Reg.STOR.DS_STATE n) Fld.STOR.DS_STATE.fill v

def State.sinkAdd (s : State) (k : Sink) (x : FlowItem) : State :=
  let s : State := match k with
    | .none => s
    | .channel ch => s.setChannel ch { s.channel ch with items := (s.channel ch).items ++ [x] }
    | .disk n => s.setDisk n { s.disk n with items := (s.disk n).items ++ [x] }
  s.reportFill k

/-- OVF on the last item of a flow in a buffer (R348): in its header when none of it has left, else with its end. A disk stream's
extent carries it in every case (R476). `at_` is where the items start in the buffer, `left` how much has left. -/
def ovfLast (flow left : Nat) (always : Bool) (pad : Bool) (l : List FlowItem) : List FlowItem :=
  let n := l.length - 1 - (l.reverse.findIdx (fun x => x.flow = flow))
  if !l.any (fun x => x.flow = flow) then l
  else
    let start := ((l.take n).map (fun x => if pad then pad8 x.bytes.length else x.bytes.length)).sum
    l.zipIdx.map (fun e =>
      if e.2 ≠ n then e.1
      else if left ≤ start then { e.1 with bytes := markOvf e.1.kind e.1.bytes, ovf := always || e.1.ovf }
      else { e.1 with ovf := true })

def State.sinkOvf (s : State) (k : Sink) (flow : Nat) : State :=
  match k with
  | .none => s
  | .channel ch =>
    let c := s.channel ch
    let left := c.covered + ((c.buf.map (·.used)).getD 0)
    s.setChannel ch { c with items := ovfLast flow left false false c.items }
  | .disk n => s.setDisk n { s.disk n with items := ovfLast flow (s.disk n).placed true true (s.disk n).items }

/-! ## Policies -/

/-- Whether a flow's policy is THROTTLE. -/
def State.flowThrottles (s : State) : FlowId → Bool
  | .template t => s.flag (Reg.REC.TPL_CFG t.val) Fld.REC.TPL_CFG.policy
  | .spectral ch k => s.flag (Reg.DMA.DMA_PAIR ch.val k.val) Fld.DMA.DMA_PAIR.policy
  | .snapshot k => s.flag (Reg.BLOT.PL_SNAP_DEST k.val) Fld.BLOT.PL_SNAP_DEST.policy
  | .disk n => s.flag (Reg.STOR.DS_CFG n.val) Fld.STOR.DS_CFG.policy

/-- An item of a flow not delivered: counted, and again in the next delivered item (R348, R349). -/
def State.flowDrop (s : State) (f : FlowId) (n : Nat) : State :=
  let s : State := match f with
    | .template t => s.count (Reg.REC.REC_DROP_CNT t.val) n
    | .disk d => s.count (Reg.STOR.DS_DROP_CNT d.val) n
    | _ => s
  let s : State := match f with
    | .disk d => s.setDisk d.val { s.disk d.val with lost := (s.disk d.val).lost + n }
    | _ => s
  s.setFlow f { s.flow f with dropped := (s.flow f).dropped + n }

/-- FLOW_STOP: the flow stops (R348). -/
def State.flowStop (s : State) (f : FlowId) : State :=
  let s : State := s.setFlow f { s.flow f with stopped := true }
  match f with
  | .template t =>
    let st := Reg.REC.TPL_STATE t.val
    let s : State := if s.fld st Fld.REC.TPL_STATE.state = 1 then s.setFld st Fld.REC.TPL_STATE.state 2 else s
    (s.setSta (Reg.REC.TPL_STA t.val) Fld.REC.TPL_STA.STOPPED).blkEvent 11 9 Ev.REC.FLOW_STOP t.val
  | .spectral _ _ => s.blkEvent 11 9 Ev.REC.FLOW_STOP 0
  | .snapshot k => (s.setSta (Reg.BLOT.PL_STA k.val) Fld.BLOT.PL_STA.FLOW_STOP).blkEvent 12 12 Ev.BLOT.PL_FLOW_STOP k.val
  | .disk n =>
    let st := Reg.STOR.DS_STATE n.val
    let s : State := if s.fld st Fld.STOR.DS_STATE.state = 1 then s.setFld st Fld.STOR.DS_STATE.state 2 else s
    (s.setSta (Reg.STOR.DS_STA n.val) Fld.STOR.DS_STA.STOPPED).raise Ev.STOR.DS_STOP n.val

/-- Whether a disk stream discards everything: FULL (R474). -/
def State.flowFull (s : State) : FlowId → Bool
  | .disk n => s.dsState n.val = 3
  | _ => false

/-- An item offered to its flow (R348, R349): `mk` gives its bytes from j and the count of its dropped field. Whether it entered, and
the state after. -/
def State.flowPush (s : State) (f : FlowId) (seq : Nat) (item : FlowItem) (mk : Nat → Nat → List Byte) : Bool × State :=
  let fl := s.flow f
  let k := s.flowSink f
  let b := mk fl.j fl.dropped
  let enter : Bool × State :=
    (true, (s.sinkAdd k { item with flow := f.key, bytes := b }).setFlow f { fl with dropped := 0 })
  if s.flowFull f then (false, s.flowDrop f 1)
  else if s.flowThrottles f then
    if seq % 2 ^ fl.j ≠ 0 || !s.sinkRoom k b.length then (false, s.flowDrop f 1) else enter
  else if fl.stopped then (false, s.flowDrop f 1)
  else if s.sinkRoom k b.length then enter
  else (false, ((s.sinkOvf k f.key).flowStop f).flowDrop f 1)

/-- j changed, with its event (R349). -/
def State.setThrottle (s : State) (f : FlowId) (j : Nat) : State :=
  let s : State := s.setFlow f { s.flow f with j := j }
  match f with
  | .template t =>
    ((s.setFld (Reg.REC.TPL_STATE t.val) Fld.REC.TPL_STATE.throttle j).setSta (Reg.REC.TPL_STA t.val)
      Fld.REC.TPL_STA.THROTTLE).blkEvent 11 10 Ev.REC.THROTTLE j
  | .spectral _ _ => s.blkEvent 11 10 Ev.REC.THROTTLE j
  | .snapshot k => s.blkEvent 12 13 Ev.BLOT.PL_THROTTLE (k.val + 256 * j)
  | .disk n =>
    ((s.setFld (Reg.STOR.DS_STATE n.val) Fld.STOR.DS_STATE.throttle j).setSta (Reg.STOR.DS_STA n.val)
      Fld.STOR.DS_STA.THROTTLE).raise Ev.STOR.DS_THROTTLE (n.val + 256 * j)

/-- THROTTLE_DOUBLE (R349): fill has risen to 75 %, or stayed there for 10 ms since the last doubling. -/
def execThrottleDouble (f : FlowId) (s : State) : Host.Outcome State Fault Refusal :=
  let (u, c) := s.sinkFill (s.flowSink f)
  let j := (s.flow f).j
  .next (if s.flowThrottles f && decide (3 * c ≤ 4 * u) && decide (j < 15) then s.setThrottle f (j + 1) else s)

/-- THROTTLE_HALVE (R349): fill has stayed below 25 % for 100 ms. -/
def execThrottleHalve (f : FlowId) (s : State) : Host.Outcome State Fault Refusal :=
  let (u, c) := s.sinkFill (s.flowSink f)
  let j := (s.flow f).j
  .next (if s.flowThrottles f && decide (4 * u < c) && decide (j ≠ 0) then s.setThrottle f (j - 1) else s)

/-- TPL_RESTART (R348): a stopped template's flow runs again. -/
def State.tplRestart (s : State) (t : Fin 64) : State :=
  let f : FlowId := .template t
  let st := Reg.REC.TPL_STATE t.val
  let s : State := if (s.flow f).stopped then s.setFlow f { s.flow f with stopped := false } else s
  if s.fld st Fld.REC.TPL_STATE.state = 2 then s.setFld st Fld.REC.TPL_STATE.state 1 else s

def execTplRestart (t : Fin 64) (s : State) : Host.Outcome State Fault Refusal :=
  .next ((s.accept (Reg.REC.TPL_CMD t.val) Fld.REC.TPL_CMD.restart_go).tplRestart t)

end Sys2Proof.Machine
end

