-- ==== Sys2Proof/Machine/Record.lean ====
section
/-! DEFINITION. Record assembly (R337 to R343). -/

namespace Sys2Proof.Machine

/-- A section as assembled: its header and body, its marks in the numbering of R340, and the poisoned reads made for it. -/
structure Section where
  bytes : List Byte
  marks : Nat
  poison : Nat

/-- A section with its header (R338). -/
def makeSection (type stream unit first tbs count marks p poison : Nat) (body : List Byte) : Section :=
  { bytes := leBytes 1 type ++ leBytes 1 stream ++ leBytes 1 unit ++ leBytes 1 first ++ leBytes 4 body.length ++
      leBytes 8 tbs ++ leBytes 8 count ++ leBytes 2 marks ++ leBytes 2 0 ++ leBytes 4 p ++ body,
    marks := marks, poison := poison }

/-- A byte string padded to a multiple of 8. -/
def padTo8 (l : List Byte) : List Byte := l ++ List.replicate (pad8 l.length - l.length) 0

/-- A RAW section: the whole cells of the span as stored. -/
def State.rawSection (s : State) (errs : List InkErr) (cand : Nat) (e : Nat × Nat × Nat) : Section × State :=
  let id := e.1
  let st := s.stream id
  let (a, b) := s.spanOf cand e
  let (c, n) := st.cellsOf a b
  let (cells, s) := s.readRaw 3 id errs c n
  let bad := cells.countP RawCell.poisoned
  let marks := (cells.foldl (fun m x => m ||| x.marks) (st.indexMarks a b)) ||| (if bad = 0 then 0 else 64)
  let tbs := ((st.at a).map (·.tbs)).getD 0
  (makeSection 1 id 0 (if b ≤ a then 0 else a * st.width % 37) tbs ((b - a) * st.width) marks (s.periodAt id a) bad
    (cells.flatMap (·.bytes)), s)

/-- A SPECTRA section. -/
def State.spectraSection (s : State) (tpl cand : Nat) (c : TplSec) : Section :=
  let fs := s.secFrames tpl cand c
  let marks := fs.foldl (fun m f => m ||| f.marks.bits) 0
  makeSection 2 (s.secStream tpl c).1 (s.pairCfg c.pair).res 0 ((fs.head?.map (·.tbs)).getD 0) fs.length marks 0 0
    (fs.flatMap (fun f => padTo8 f.bytes))

/-- The activations of a tadpole in order of placed instant. -/
def insertDetail (x : DetailEntry) : List DetailEntry → List DetailEntry
  | [] => [x]
  | y :: t => if y.instant ≤ x.instant then y :: insertDetail x t else x :: y :: t

/-- A DETAIL section. -/
def detailSection (stream : Nat) (l : List DetailEntry) : Section :=
  let l := l.foldl (fun m x => insertDetail x m) []
  makeSection 4 stream 0 0 ((l.head?.map (·.instant)).getD 0) l.length 0 0 0
    (l.flatMap (fun d => leBytes 1 d.source ++ leBytes 1 d.role ++ leBytes 2 d.marks ++ leBytes 4 0 ++ leBytes 8 d.instant))

/-- One section of a record. The stamp of a MEAS section, whose body holds none of the things that R338 names, is free. -/
def State.section_ (s : State) (errs : List InkErr) (t : Tadpole) (c : TplSec) : Section × State :=
  let e := s.secStream t.tpl c
  match c.type with
  | 1 => s.rawSection errs t.cand e
  | 2 => (s.spectraSection t.tpl t.cand c, s)
  | 3 =>
    let l := ((t.results.find? (fun r => r.1 = c.idx)).map (·.2)).getD []
    let (n, s) := s.draw
    (makeSection 3 e.1 c.kernel 0 (Config.freeNat 61 n) l.length 0 0 0 l.flatten, s)
  | _ => (detailSection e.1 t.detail, s)

/-- A record (R337) with a throttle exponent and a dropped count. -/
def recordBytes (stream : Nat) (x : PendingRecord) (q : Nat) (secs : List Section) (j dropped : Nat) : List Byte :=
  let body := secs.flatMap (·.bytes)
  let t := x.tad
  let marks := secs.foldl (fun m c => m ||| c.marks) t.flags
  sealCrc (leBytes 2 0x5243 ++ leBytes 1 stream ++ leBytes 1 t.tpl ++ leBytes 4 (64 + body.length) ++ leBytes 8 x.num ++
    leBytes 8 t.cand ++ leBytes 8 t.tbm ++ leBytes 8 t.tbw ++ leBytes 2 t.tbwFrac ++ leBytes 2 marks ++ leBytes 1 j ++
    leBytes 1 secs.length ++ leBytes 1 x.seq ++ leBytes 1 0 ++ leBytes 4 q ++ leBytes 4 dropped ++ leBytes 4 0 ++
    leBytes 4 0 ++ body)

/-- Whether everything a record copies is in the Inkwell. -/
def State.recordReady (s : State) (t : Tadpole) : Bool :=
  (s.tplSecs t.tpl).all (fun c =>
    let e := s.secStream t.tpl c
    match c.type with
    | 1 => let (a, b) := s.spanOf t.cand e; s.cellsWritten e.1 a b || s.rawLen e.1 = 0
    | 2 => s.framesThrough c.pair (t.cand + e.2.2)
    | _ => true)

/-- The held events of a record released (R343); those of a discarded record carry its sequence number. -/
def State.releaseHeld (s : State) (l : List HeldEvent) (discarded : Option Nat) : State :=
  l.foldl (fun s h => (s.setBlkSta h.block h.bitNo).raise ⟨h.id, h.severity⟩ (discarded.getD h.arg)) s

/-- The disk stream a template's records go to. -/
def State.tplDisk (s : State) (t : Nat) : Option (Fin 16) :=
  let n := s.fld (Reg.REC.TPL_CFG t) Fld.REC.TPL_CFG.disk
  if s.flag (Reg.REC.TPL_CFG t) Fld.REC.TPL_CFG.disk_en then (if h : n < 16 then some ⟨n, h⟩ else none) else none

/-- RECORD_ASSEMBLY (R341 to R343): the oldest committed record, once its content is there, is assembled and offered to the flows
of its template. -/
def execRecordAssembly (errs : List InkErr) (s : State) : Host.Outcome State Fault Refusal :=
  match s.records with
  | [] => .next s
  | x :: rest =>
    let t := x.tad
    if !s.recordReady t then .next s
    else
      let s : State := { s with records := rest }
      let stream := ((s.tplStreams t.tpl).headD (0, 0, 0)).1
      let (secs, s) := (s.tplSecs t.tpl).foldl (fun r c =>
        let (b, s) := r.2.section_ errs t c
        (r.1 ++ [b], s)) (([] : List Section), s)
      let q : Nat := (freeDiv 62 ((t.passed.getD t.cand - t.cand : Nat) : Int) sampUnits).toNat
      let bad := (secs.map (·.poison)).sum
      let s : State := if bad = 0 then s else
        ((s.count (Reg.REC.REC_POISON_CNT t.tpl) bad).setSta (Reg.REC.TPL_STA t.tpl) Fld.REC.TPL_STA.POISON).blkEvent
          11 13 Ev.REC.REC_POISON t.tpl
      let item : FlowItem := ⟨0, 1, x.num, stream, t.cand, t.tbw, [], decide (bad ≠ 0), false⟩
      let mk := recordBytes stream x q secs
      let tpl : Fin 64 := ⟨t.tpl % 64, Nat.mod_lt _ (by decide)⟩
      let exp := s.flag (Reg.REC.TPL_CFG t.tpl) Fld.REC.TPL_CFG.exportEn
      let d := s.tplDisk t.tpl
      let (a, s) : Bool × State := if exp || d.isNone then s.flowPush (.template tpl) x.num item mk else (false, s)
      let (b, s) : Bool × State := match d with
        | some n => s.flowPush (.disk n) x.num item mk
        | none => (false, s)
      let s : State := if a || b then s.count (Reg.REC.REC_OUT_CNT t.tpl) 1 else s
      .next (s.releaseHeld t.held (if a || b then none else some x.num))

end Sys2Proof.Machine
end

