-- ==== Sys2Proof/Machine/Budget.lean ====
section
/-! DEFINITION. The session's budgets: transform slots (R32, R286, R287) and Inkwell traffic (R34, R404). -/

namespace Sys2Proof.Machine

/-- The rate of one output of a port in a mode, MS/s (R77, R148). -/
def modeRate (m : Nat) : Nat := match m with | 0 => 15360 | 3 => 3840 | _ => 7680

/-! ## Transform slots -/

/-- Slots of 1/64 unit for a real-equivalent rate in MS/s and an overlap (R32). -/
def slotsFor (rate : Rat) (ov : Nat) : Nat := (rate * (ov : Rat) * 64 / 7680).ceil.toNat

/-- The slots that running look-back jobs hold. -/
def State.jobSlots (s : State) : Nat := ((List.range 8).map (fun j => s.fld (Reg.REC.LB_STATE j) Fld.REC.LB_STATE.slots)).sum

def State.usedSlots (s : State) : Nat := ((List.range 12).map (fun k => (s.nib k).budget)).sum + s.jobSlots

/-- The budget left (R32): 32 units less those of failed tiles without a spare (R499), less what is in use. -/
def State.freeSlots (s : State) : Nat := 2048 - 64 * s.stw.failedUnits.countP (fun e => e.2 / 65536 = 1) - s.usedSlots

/-- XF_BUDGET (R287). -/
def State.reportBudget (s : State) : State :=
  (s.setFld Reg.XFORM.XF_BUDGET Fld.XFORM.XF_BUDGET.slots_used s.usedSlots).setFld Reg.XFORM.XF_BUDGET
    Fld.XFORM.XF_BUDGET.tiles_used (ceilDiv s.usedSlots 64)

/-! ## Inkwell traffic in MB/s -/

/-- The declared decimation of a zoom channel. -/
def State.zoomDecim (s : State) (z : Nat) : Nat :=
  match s.declFor (· = .zoom z) with
  | some d => d.param / 8 % 2 ^ 17
  | none => 1

/-- The declared value rate of a stream, M values/s (R330). -/
def State.valueRate (s : State) (id : Nat) : Rat :=
  match (s.stream id).source with
  | some (.head p _) => ((modeRate (s.portMode p) * (if s.portMode p = 2 then 2 else 1) : Nat) : Rat)
  | some (.zoom z) => ((modeRate (s.portMode (z / 4)) * 2 : Nat) : Rat) / ((max 1 (s.zoomDecim z) : Nat) : Rat)
  | none => 0

/-- The streams that have a source. -/
def State.configured (s : State) : List Nat := (s.streams.filter (fun e => e.2.source.isSome)).map (·.1)

def State.rawTraffic (s : State) : Rat := ((s.configured.map s.valueRate).sum) * 56 / 37

/-- D of a look-back job (R352), in input samples: the job's zoom channel on the source stream, with the bucket period in force
at its acceptance. -/
def State.jobView (s : State) (j bucket : Nat) : State :=
  let z := s.fld (Reg.REC.LB_CFG j) Fld.REC.LB_CFG.zoom
  let s : State := s.setFld (Reg.COND.ZC_IO z) Fld.COND.ZC_IO.in_id (s.fld (Reg.REC.LB_CFG j) Fld.REC.LB_CFG.src)
  let s : State := s.setFld (Reg.COND.ZC_CFG z) Fld.COND.ZC_CFG.tap 0
  let s : State := s.setZoom z { Zoom.fresh with path := { ZoomPath.fresh with num := bucket } }
  s.setZoom z { Zoom.fresh with path := { ZoomPath.fresh with num := s.zoomStep z } }

def State.jobZoom (s : State) (j : Nat) : Nat := s.fld (Reg.REC.LB_CFG j) Fld.REC.LB_CFG.zoom
def State.jobRate (s : State) (j : Nat) : Nat := s.fld (Reg.REC.LB_RATE j) Fld.REC.LB_RATE.rate
def State.jobXf (s : State) (j : Nat) : Bool := s.flag (Reg.REC.LB_CFG j) Fld.REC.LB_CFG.xf_en

/-- The transform settings of a job (R351, R357). -/
def State.jobPair (s : State) (j : Nat) : PairCfg :=
  let a := Reg.REC.LB_XF j
  let z := s.jobZoom j
  let n := s.fld a Fld.REC.LB_XF.log2n
  { stream := s.fld (Reg.REC.LB_CFG j) Fld.REC.LB_CFG.out_id, res := 0, log2n := n, ov := s.fld a Fld.REC.LB_XF.ov,
    cplx := true, real := s.realPort (s.fld (Reg.REC.LB_CFG j) Fld.REC.LB_CFG.src),
    sh := s.fld (Reg.COND.ZC_OUT z) Fld.COND.ZC_OUT.shift, det := s.fld a Fld.REC.LB_XF.det,
    win := windowTable (s.fld a Fld.REC.LB_XF.win) (s.fld a Fld.REC.LB_XF.param) (fun _ => 0) (2 ^ n),
    mode := if s.flag a Fld.REC.LB_XF.mean then 2 else 0, k := 1, m := s.fld a Fld.REC.LB_XF.m + 1, cont := false,
    lo := 0, hi := 65535, red := false, op := 0, c := 1 }

/-- The Inkwell traffic of a job (R351). -/
def State.jobTraffic (s : State) (j bucket : Nat) : Rat :=
  let v := s.jobView j bucket
  let d : Rat := ((max 1 (v.zoomD28 (s.jobZoom j)) : Nat) : Rat) / ((2 ^ 28 : Nat) : Rat)
  let r : Rat := (s.jobRate j : Rat)
  let w := (s.stream (s.fld (Reg.REC.LB_CFG j) Fld.REC.LB_CFG.src)).width
  let c := s.jobPair j
  let out : Rat := if s.jobXf j then r / d * ((c.cells * 56 : Nat) : Rat) /
      ((c.hop * (if c.mode = 2 then c.m else 1) : Nat) : Rat) else r / d * 8
  r * (w : Rat) * 56 / 37 + out

/-- The refresh rate of the panel, Hz. -/
def State.refresh (s : State) : Rat :=
  let h := s.fld (Reg.DISP.DP_H 0) Fld.DISP.DP_H.htot
  let v := s.fld (Reg.DISP.DP_V 0) Fld.DISP.DP_V.vtot
  if h * v = 0 then 0 else ((s.reg (Reg.DISP.DP_PCLK 0)).toNat : Rat) / ((h * v : Nat) : Rat)

/-- The panel's width and height (R408). -/
def State.panelSize (s : State) : Nat × Nat :=
  (s.fld (Reg.DISP.DP_H 0) Fld.DISP.DP_H.hact * (if s.flag Reg.DISP.DISP_CFG Fld.DISP.DISP_CFG.tiled then 2 else 1),
    s.fld (Reg.DISP.DP_V 0) Fld.DISP.DP_V.vact)

/-- The bytes a display frame fetches under some settings (R404). -/
def State.frameFetch (s : State) (val : Nat → Word) : Nat :=
  let layers := ((List.range 5).map (fun n =>
    if getField Fld.DISP.LY_CTL.en (val (Reg.DISP.LY_CTL n)) = 1 then
      getField Fld.DISP.LY_SIZE.w (val (Reg.DISP.LY_SIZE n)) * getField Fld.DISP.LY_SIZE.h (val (Reg.DISP.LY_SIZE n)) * 4
    else 0)).sum
  let (w, h) := s.panelSize
  let t := val Reg.DISP.TXT_CTL
  layers + (if getField Fld.DISP.TXT_CTL.txt_en t = 1 then ceilDiv w 8 * ceilDiv h 16 * 2 + 4096 else 0) +
    (if getField Fld.DISP.TXT_CTL.cur_en t = 1 then 16384 else 0)

def State.displayTraffic (s : State) (val : Nat → Word) : Rat := (s.frameFetch val : Rat) * s.refresh / 1000000

/-- All declared traffic but the display's. -/
def State.declaredTraffic (s : State) : Rat :=
  s.rawTraffic + (((List.range 12).map (fun k => (s.nib k).inkBw)).sum : Nat) +
    ((List.range 8).map (fun j => if s.fld (Reg.REC.LB_STATE j) Fld.REC.LB_STATE.state = 1 then
      s.jobTraffic j (sparseGet (fun _ => JobRun.fresh) s.jobs j).bucket else 0)).sum

/-- The schedulable rate (R34, R434). -/
def State.schedulable (s : State) : Rat := if s.ink.redirect.isSome then 336000 else 358000

/-- What is left of the schedulable rate. -/
def State.freeTraffic (s : State) : Rat := s.schedulable - s.declaredTraffic - s.displayTraffic s.reg

end Sys2Proof.Machine
end

