-- ==== Sys2Proof/Machine/LookBack.lean ====
section
/-! DEFINITION. Look-back jobs (R351 to R354, R357, R358). -/

namespace Sys2Proof.Machine

def State.job (s : State) (j : Nat) : JobRun := sparseGet (fun _ => JobRun.fresh) s.jobs j

def State.setJob (s : State) (j : Nat) (v : JobRun) : State :=
  { s with jobs := sparsePut (fun _ => JobRun.fresh) j v s.jobs }

def State.lbState (s : State) (j : Nat) : Nat := s.fld (Reg.REC.LB_STATE j) Fld.REC.LB_STATE.state
def State.jobSrc (s : State) (j : Nat) : Nat := s.fld (Reg.REC.LB_CFG j) Fld.REC.LB_CFG.src
def State.jobFrom (s : State) (j : Nat) : Nat := s.reg64 (Reg.REC.LB_T0_LO j) (Reg.REC.LB_T0_HI j)
def State.jobTo (s : State) (j : Nat) : Nat := s.reg64 (Reg.REC.LB_T1_LO j) (Reg.REC.LB_T1_HI j)

/-- The oldest valid cell of a stream's ring (R332, R333, R335). -/
def State.oldestCell (s : State) (id : Nat) : Nat :=
  max (max (s.rawWcell id - s.rawLen id) (s.stream id).validFrom) (s.rawIndexed id)

/-- The samples that a job reads, by index: from 2G before the first one in its span, when history allows, to the last one. -/
def State.jobSamples (s : State) (j : Nat) : Nat × Nat :=
  let id := s.jobSrc j
  let st := s.stream id
  let v := s.jobView j (s.job j).bucket
  let g := ceilDiv (v.zoomG2 (s.jobZoom j)) (2 ^ 28)
  let a := s.predictIndex id (s.jobFrom j)
  let b := s.predictIndex id (s.jobTo j + 1)
  (max (a - g) (ceilDiv (37 * s.oldestCell id) st.width), b)

/-- V of R353. -/
def State.jobValues (s : State) (j : Nat) : Nat :=
  let (a, b) := s.jobSamples j
  (b - a) * (s.stream (s.jobSrc j)).width

/-- The time of a job's reads in µs, from its first. -/
def State.jobReadTime (s : State) (j : Nat) : Rat :=
  (s.jobValues j : Rat) / ((s.jobRate j * (s.stream (s.jobSrc j)).width : Nat) : Rat)

/-- LB_BOUND (R353). -/
def State.jobBound (s : State) (j : Nat) : Nat := (100 + s.jobReadTime j + 24).ceil.toNat

/-- D of a job in 2^-28 input samples (R352). -/
def State.jobD28 (s : State) (j : Nat) : Nat := (s.jobView j (s.job j).bucket).zoomD28 (s.jobZoom j)

/-- The slots of a job (R352). -/
def State.slotsOf (s : State) (j : Nat) : Nat :=
  let d : Rat := ((max 1 (s.jobD28 j) : Nat) : Rat) / ((2 ^ 28 : Nat) : Rat)
  max 1 (slotsFor (2 * (s.jobRate j : Rat) / d) (if s.jobXf j then 2 ^ (s.jobPair j).ov else 1))

/-- The most bytes a job writes (R354). -/
def State.jobArea (s : State) (j : Nat) : Nat :=
  let outs := (s.jobTo j - s.jobFrom j) * 2 ^ 28 / max 1 ((s.stream (s.jobSrc j)).period * s.jobD28 j)
  if s.jobXf j then
    let c := s.jobPair j
    if outs < c.size then 0 else ((outs - c.size) / c.hop + 1) / (if c.mode = 2 then c.m else 1) * c.cells * 56
  else outs * 8

/-- The µs until the ring writer reaches the cell of a value. -/
def State.reachTime (s : State) (id v : Nat) : Rat :=
  let cells : Int := ((v / 37 + s.rawLen id : Nat) : Int) - (s.rawWcell id : Int)
  (cells : Rat) * 37 * ((s.stream id).period : Rat) / (((s.stream id).width * 3932160 : Nat) : Rat)

/-- The reason of R351 for which a submission is refused; 0 for none. -/
def State.jobRefusal (s : State) (j : Nat) : Nat :=
  let k := s.holder (Binding.isUnit 11 (64 + j))
  let id := s.jobSrc j
  let st := s.stream id
  let z := s.jobZoom j
  let (a, b) := s.jobSamples j
  let t0 := s.jobFrom j
  let t1 := s.jobTo j
  let newest := (((st.at (s.rawWcell id * 37 / st.width - 1))).map (·.tbs)).getD 0
  let oldest := (((st.at (ceilDiv (37 * s.oldestCell id) st.width))).map (·.tbs)).getD 0
  let c := s.jobPair j
  let base := s.fld (Reg.REC.LB_OUT_BASE j) Fld.REC.LB_OUT_BASE.base * 4096
  let len := s.fld (Reg.REC.LB_OUT_LEN j) Fld.REC.LB_OUT_LEN.len * 4096
  let dead := (s.reg (Reg.REC.LB_DEADLINE j)).toNat
  let w := st.width
  if st.source.isNone || !s.heldBy k (· = .stream id) then 1
  else if !s.heldBy k (· = .zoom z) || decide (s.zoomState z ≠ 0) then 2
  else if decide (t1 ≤ t0) || s.rawWcell id = 0 || decide (newest < t1) || decide (t0 < oldest) then 3
  else if s.freeSlots < s.slotsOf j then 4
  else if s.freeTraffic < s.jobTraffic j (s.job j).bucket then 5
  else if decide (dead ≠ 0) && decide (dead < s.jobBound j) then 6
  else if s.reachTime id (a * w) < 1100 || s.reachTime id (b * w - 1) < 1100 + s.jobReadTime j then 7
  else if !s.inAllocation (Binding.isUnit 11 (64 + j)) base len || decide (len < s.jobArea j) then 8
  else if s.jobXf j && (decide (c.log2n < 6) || decide (16 < c.log2n) || c.det = 3 || avgRefused c.det c.mode ||
      decide (5 < s.fld (Reg.REC.LB_XF j) Fld.REC.LB_XF.win) || s.windowRefused (BitVec.ofNat 32 (s.fld (Reg.REC.LB_XF j) Fld.REC.LB_XF.win +
        8 * s.fld (Reg.REC.LB_XF j) Fld.REC.LB_XF.param)) c.log2n) then 9
  else 0

/-- LB_SUBMIT (R351 to R353): whether it is refused, and the state after. A rate outside 1 to 15,360 MS/s, for which R351 has no row,
is refused with a free reason. -/
def State.lbSubmit (s : State) (j : Nat) : Bool × State :=
  if !s.blockOn 11 then (true, s)
  else if s.lbState j = 1 then (false, s)
  else
    let s : State := s.setJob j ⟨s.bucketPeriod⟩
    let (n, s) := s.draw
    let rateOk := decide (1 ≤ s.jobRate j) && decide (s.jobRate j ≤ 15360)
    let r := if rateOk then s.jobRefusal j else 1 + Config.freeNat 63 n % 9
    let st := Reg.REC.LB_STATE j
    if r ≠ 0 then
      let s : State := (s.setFld st Fld.REC.LB_STATE.reason r).setFld st Fld.REC.LB_STATE.state 3
      (true, (s.setSta (Reg.REC.LB_STA j) Fld.REC.LB_STA.REFUSED).blkEvent 11 11 Ev.REC.LB_REFUSED (j + r * 256))
    else
      let s : State := (s.setFld st Fld.REC.LB_STATE.state 1).setFld st Fld.REC.LB_STATE.slots (s.slotsOf j)
      let s : State := s.setReg (Reg.REC.LB_BOUND j) (BitVec.ofNat 32 (s.jobBound j))
      let s : State := (s.setReg (Reg.REC.LB_WRITTEN j) 0).setReg (Reg.REC.LB_FRAMES j) 0
      (false, s.reportBudget)

def execLbSubmit (j : Fin 8) (s : State) : Host.Outcome State Fault Refusal :=
  .next ((s.accept (Reg.REC.LB_CMD j.val) Fld.REC.LB_CMD.submit_go).lbSubmit j.val).2

/-! ## The run -/

/-- The cells that hold a sample's values. -/
def cellOfValue (cells : List RawCell) (first v : Nat) : RawCell := cells.getD (v / 37 - first) ⟨gapCell, [], false⟩

/-- A sample as the job reads it: its values and its cells' flags, with the stamp and marks of the stamp index (R354). -/
def State.historySample (s : State) (id : Nat) (cells : List RawCell) (first k : Nat) : Sample :=
  let st := s.stream id
  let v := k * st.width
  let c := cellOfValue cells first v
  let d := cellOfValue cells first (v + st.width - 1)
  let x := (st.at k).getD ⟨0, 0, 0, Marks.none⟩
  let bad := c.valueBad (v % 37) || d.valueBad ((v + st.width - 1) % 37)
  let f := c.marks ||| d.marks
  { i := c.value (v % 37), q := if st.cplx then d.value ((v + 1) % 37) else 0, tbs := x.tbs,
    marks := { x.marks.index with gap := f.testBit 0 || bad, ovr := f.testBit 3, unsettled := f.testBit 4, poison := bad } }

/-- The marks of a job's output, as a live channel gives them (R248, R249), and the outputs still UNSETTLED after it. -/
def jobMarks (c : ZoomCfg) (settle : Nat) (l : List Sample) (prev left : Nat) (y : Sample) : Marks × Nat :=
  let g := c.g2 * c.period / 2 ^ 29
  let span := l.filter (fun x => decide (y.tbs ≤ x.tbs + g) && decide (x.tbs ≤ y.tbs + g))
  let own := span.any (fun x => x.marks.gap && decide (x.tbs ≤ y.tbs) && decide (y.tbs < x.tbs + c.period))
  let passed := span.any (fun x => x.marks.gap && decide (prev < x.tbs) && decide (x.tbs ≤ y.tbs))
  let left := if passed then max left settle else left
  let all := span.foldl (fun m x => m.or x.marks) Marks.none
  let poison := span.any (fun x => x.marks.poison)
  let uns := !own && (decide (0 < left) || all.gap || all.unsettled)
  ({ all with gap := own || poison, unsettled := uns, sat := y.marks.sat, poison := poison },
    if own then max left settle else left - 1)

/-- The outputs of a channel over a list of samples. -/
def zoomAll (c : ZoomCfg) (settle : Nat) (l : List Sample) : Nat → ZoomPath → Nat → Nat → List Sample
  | 0, _, _, _ => []
  | n + 1, p, prev, left =>
    match zoomNext c (l.drop p.taken) p with
    | none => []
    | some (p, y) =>
      let (m, left) := jobMarks c settle l prev left y
      { y with marks := m } :: zoomAll c settle l n p y.tbs left

/-- The 8 bytes of a zoom item (R250). -/
def zoomItem (y : Sample) : List Byte :=
  leBytes 8 ((y.i % 2 ^ 24).toNat * 2 ^ 40 + (y.q % 2 ^ 24).toNat * 2 ^ 16 + bit y.marks.sat * 2 ^ 15 +
    64 * bit y.marks.clockGap + 32 * bit y.marks.laneGap + 16 * bit y.marks.headEol + 8 * bit y.marks.ovr +
    4 * bit y.marks.unsettled + 2 * bit y.marks.gap)

/-- The frames of a job over its outputs, frame by frame. -/
def jobFrames (c : PairCfg) (slack : Nat) (l : List Sample) : Nat → Nat → PairRun → List SpecFrame
  | 0, _, _ => []
  | n + 1, m, r =>
    let x := (l.drop (m * c.hop)).take c.size
    if x.length < c.size then []
    else
      let marks := x.foldl (fun m x => m.or x.marks) Marks.none
      let (v, e) := frameValues c x 1
      let (r, o) := r.feed c m ((x.head?.map (·.tbs)).getD 0) marks v e slack
      o.toList ++ jobFrames c slack l n (m + 1) r

/-- A job's outputs as byte strings in order, whether a cell was overwritten, and the state after its reads. -/
def State.jobOutputs (s : State) (j : Nat) (errs : List InkErr) : List (List Byte) × Bool × State :=
  let id := s.jobSrc j
  let (a, b) := s.jobSamples j
  let (c, n) := (s.stream id).cellsOf a b
  let (cells, s) := s.readRaw 7 id errs c n
  let l := (List.range (b - a)).map (fun k => s.historySample id cells c (a + k))
  let z := s.jobZoom j
  let v := s.jobView j (s.job j).bucket
  let cfg := v.zoomPathCfg z
  let settle := v.zoomSettle z
  let (f, s) := s.draw
  let outs := (zoomAll cfg settle l (b - a) (v.zoom z).path 0 settle).filter
    (fun y => decide (s.jobFrom j ≤ y.tbs) && decide (y.tbs ≤ s.jobTo j))
  let lost := cells.any (fun x => !x.valid)
  if s.jobXf j then
    let p := s.jobPair j
    ((jobFrames p (Config.freeNat 44 f) outs (outs.length + 1) 0 PairRun.fresh).map (fun f =>
      f.bytes ++ List.replicate (ceilDiv f.bytes.length 56 * 56 - f.bytes.length) 0), lost, s)
  else (outs.map zoomItem, lost, s)

/-- Outputs written consecutively to the area (R354). -/
def State.jobWrite (s : State) (j : Nat) (l : List (List Byte)) : State :=
  let base := s.fld (Reg.REC.LB_OUT_BASE j) Fld.REC.LB_OUT_BASE.base * 4096
  let len := s.fld (Reg.REC.LB_OUT_LEN j) Fld.REC.LB_OUT_LEN.len * 4096
  l.foldl (fun s b =>
    let w := (s.reg (Reg.REC.LB_WRITTEN j)).toNat
    if len < w + b.length then s
    else
      let s : State := s.inkStore 8 (base + w) b
      (s.setReg (Reg.REC.LB_WRITTEN j) (BitVec.ofNat 32 (w + b.length))).setReg (Reg.REC.LB_FRAMES j)
        (s.reg (Reg.REC.LB_FRAMES j) + 1)) s

/-- A job leaves RUNNING: its slots are free again. -/
def State.jobEnd (s : State) (j state : Nat) (lost : Bool) : State :=
  let st := Reg.REC.LB_STATE j
  let s : State := ((s.setFld st Fld.REC.LB_STATE.state state).setFld st Fld.REC.LB_STATE.slots 0).reportBudget
  if lost then s.setSta (Reg.REC.LB_STA j) Fld.REC.LB_STA.OVERRUN else s

/-- LB_DONE (R354). -/
def execLbDone (j : Fin 8) (errs : List InkErr) (s : State) : Host.Outcome State Fault Refusal :=
  let j := j.val
  if s.lbState j ≠ 1 then .next s
  else
    let (l, lost, s) := s.jobOutputs j errs
    let s : State := (s.jobWrite j l).jobEnd j 2 lost
    .next ((s.setSta (Reg.REC.LB_STA j) Fld.REC.LB_STA.DONE).blkEvent 11 12 Ev.REC.LB_DONE j)

/-- LB_CANCEL (R354): the outputs written by then, whose number is free, stay. -/
def State.lbCancel (s : State) (j : Nat) : State :=
  if s.lbState j ≠ 1 then s
  else
    let (n, s) := s.draw
    let (l, lost, s) := s.jobOutputs j []
    let k := Config.freeNat 64 n % (l.length + 1)
    ((s.jobWrite j (l.take k)).jobEnd j 4 lost).setSta (Reg.REC.LB_STA j) Fld.REC.LB_STA.CANCELLED

def execLbCancel (j : Fin 8) (s : State) : Host.Outcome State Fault Refusal :=
  .next ((s.accept (Reg.REC.LB_CMD j.val) Fld.REC.LB_CMD.cancel_go).lbCancel j.val)

end Sys2Proof.Machine
end

