-- ==== Sys2Proof/Machine/Rings.lean ====
section
/-! DEFINITION. Rings (R444 to R451, R462, R464, R465): doorbells, enables, halts and retries, the coalescing timer, and what
the end of a ring does to its waiting entries and to the export channels that use it. -/

namespace Sys2Proof.Machine

/-! ## A ring's registers -/

def RingId.cfg : RingId → Nat | .command c => Reg.HOSTQ.CRING_CFG c.val | .result r => Reg.HOSTQ.RRING_CFG r.val
def RingId.cmd : RingId → Nat | .command c => Reg.HOSTQ.CRING_CMD c.val | .result r => Reg.HOSTQ.RRING_CMD r.val
def RingId.sta : RingId → Nat | .command c => Reg.HOSTQ.CRING_STA c.val | .result r => Reg.HOSTQ.RRING_STA r.val
def RingId.stateReg : RingId → Nat | .command c => Reg.HOSTQ.CRING_STATE c.val | .result r => Reg.HOSTQ.RRING_STATE r.val
def RingId.head : RingId → Nat | .command c => Reg.HOSTQ.CRING_HEAD c.val | .result r => Reg.HOSTQ.RRING_HEAD r.val
def RingId.tail : RingId → Nat | .command c => Reg.HOSTQ.CRING_TAIL c.val | .result r => Reg.HOSTQ.RRING_TAIL r.val
def RingId.retryCnt : RingId → Nat
  | .command c => Reg.HOSTQ.CRING_RETRY_CNT c.val | .result r => Reg.HOSTQ.RRING_RETRY_CNT r.val

/-- The ring in [11:0] and the direction in [15] of an event's argument (R467). -/
def RingId.arg : RingId → Nat | .command c => c.val | .result r => r.val + 0x8000

/-- RING_STATE.state: 0 OFF, 1 RUN, 2 HALTED, 3 DRAINING. The fields of both kinds lie in the same places. -/
def State.ringState (s : State) (r : RingId) : Nat := s.fld r.stateReg Fld.HOSTQ.CRING_STATE.state
def State.setRingState (s : State) (r : RingId) (v : Nat) : State := s.setFld r.stateReg Fld.HOSTQ.CRING_STATE.state v
def State.ringType (s : State) (r : RingId) : Nat := s.fld r.cfg Fld.HOSTQ.CRING_CFG.type
def State.ringSize (s : State) (r : RingId) : Nat := 2 ^ (s.fld r.cfg Fld.HOSTQ.CRING_CFG.size + 4)
/-- T − H. -/
def State.ringUsed (s : State) (r : RingId) : Nat := (s.reg r.tail - s.reg r.head).toNat

/-- A number as a command ring, or as a result ring. -/
def cring (c : Nat) : RingId := .command ⟨c % 1024, Nat.mod_lt _ (by decide)⟩
def rring (r : Nat) : RingId := .result ⟨r % 3072, Nat.mod_lt _ (by decide)⟩

/-- The entries of a command ring that the VX1600 has not consumed, oldest first. -/
def State.crEntries (s : State) (c : Nat) : List CommandEntry := sparseGet (fun _ => []) s.rings.command c

def State.setCrEntries (s : State) (c : Nat) (l : List CommandEntry) : State :=
  { s with rings := { s.rings with command := sparsePut (fun _ => []) c l s.rings.command } }

def State.ringRetries (s : State) (c : Nat) : Nat := sparseGet (fun _ => 0) s.rings.retries c

def State.setRetries (s : State) (c n : Nat) : State :=
  { s with rings := { s.rings with retries := sparsePut (fun _ => 0) c n s.rings.retries } }

/-- The head entry of a command ring consumed: H advances, and with wb_en it is written back (R446, R448). -/
def State.crConsume (s : State) (c : Nat) : State :=
  let h := Reg.HOSTQ.CRING_HEAD c
  let s : State := ((s.setCrEntries c (s.crEntries c).tail).setReg h (s.reg h + 1)).setRetries c 0
  if s.flag (Reg.HOSTQ.CRING_CFG c) Fld.HOSTQ.CRING_CFG.wb_en then s.emit (.writeback c (s.reg h).toNat) else s

/-! ## Export channels whose rings end (R458, R462) -/

/-- The result ring and the free list of a channel's active set. -/
def State.dmaRing (s : State) (ch : Nat) : Nat := getField Fld.DMA.DMA_SHADOW.ring (s.reg (Reg.DMA.DMA_ACTIVE ch))
def State.dmaList (s : State) (ch : Nat) : Nat := getField Fld.DMA.DMA_SHADOW.freelist (s.reg (Reg.DMA.DMA_ACTIVE ch))

def State.setDmaState (s : State) (ch v : Nat) : State := s.setFld (Reg.DMA.DMA_STATE ch) Fld.DMA.DMA_STATE.state v

/-- CH_HALT: a channel halts, and the buffer in transfer is abandoned (R454, R458). -/
def State.chHalt (s : State) (ch reason : Nat) : State :=
  let s : State := s.setChannel ch { s.channel ch with buf := none, retries := 0 }
  let s : State := (s.setDmaState ch 4).setFld (Reg.DMA.DMA_STATE ch) Fld.DMA.DMA_STATE.reason reason
  (s.setSta (Reg.DMA.DMA_STA ch) Fld.DMA.DMA_STA.HALTED).blkEvent 16 8 Ev.DMA.CH_HALT (ch + 256 * reason)

/-- Whether a channel's active set names a ring. -/
def State.chUses (s : State) (ch : Nat) : RingId → Bool
  | .command c => s.dmaList ch = c.val
  | .result r => s.dmaRing ch = r.val

/-- The channels that use a ring halt with reason RING (R458). -/
def State.haltChannels (s : State) (r : RingId) : State :=
  (List.range 64).foldl (fun s ch =>
    if (s.dmaState ch = 1 || s.dmaState ch = 5) && s.chUses ch r then s.chHalt ch 2 else s) s

/-- Channels in OUTAGE run again once both of their rings do (R462). -/
def State.endOutage (s : State) : State :=
  (List.range 64).foldl (fun s ch =>
    if s.dmaState ch = 3 && s.ringState (cring (s.dmaList ch)) = 1 && s.ringState (rring (s.dmaRing ch)) = 1 then
      s.setDmaState ch 1 else s) s

/-! ## Completions -/

/-- Whether a command ring's completion ring can take a completion. -/
def State.canComplete (s : State) (ring : Nat) : Bool :=
  let q := s.fld (Reg.HOSTQ.CRING_CFG ring) Fld.HOSTQ.CRING_CFG.cq
  s.rringRuns q && !s.rringFull q

/-! ## Halts and ends -/

/-- RING_HALT (R451), with a completion that carries the reason when the completion ring can take it. -/
def State.ringHalt (s : State) (c reason cookie op : Nat) : State :=
  let r := cring c
  let s : State := (s.setRingState r 2).setFld r.stateReg Fld.HOSTQ.CRING_STATE.reason reason
  let s : State := (s.setSta r.sta Fld.HOSTQ.CRING_STA.HALTED).blkEvent 15 8 Ev.HOSTQ.RING_HALT r.arg
  let s : State := if s.ringType r = 0 && s.canComplete c then s.complete c cookie (0x1C + reason) op 0 else s
  s.haltChannels r

/-- The entries that wait for a result ring discarded and counted as it leaves RUN (R446). -/
def State.dropWaiting (s : State) (r : Nat) : State :=
  let n := (sparseGet (fun _ => []) s.rings.waiting r).length
  let s : State := { s with rings := { s.rings with waiting := sparsePut (fun _ => []) r [] s.rings.waiting } }
  if n = 0 then s
  else match s.rringType r with
    | 0 => s.count Reg.HOSTQ.HQ_COMPL_DROP_CNT n
    | 4 => s.count Reg.NET.RX_NOBUF_CNT n
    | 2 => s.count Reg.HOSTQ.HQ_EVT_DROP_CNT n
    | _ => s

/-- A ring goes OFF. -/
def State.ringOff (s : State) (r : RingId) : State :=
  let s : State := match r with
    | .result n => { s.dropWaiting n.val with rings := { (s.dropWaiting n.val).rings with
        unsignalled := sparsePut (fun _ => 0) n.val 0 s.rings.unsignalled } }
    | .command _ => s
  s.setRingState r 0

/-- A ring's contents and counts emptied. -/
def State.ringEmpty (s : State) (r : RingId) : State :=
  let s : State := match r with
    | .command c => (s.setCrEntries c.val []).setRetries c.val 0
    | .result n => { s with rings := { s.rings with
        result := sparsePut (fun _ => []) n.val [] s.rings.result, anchors := sparsePut (fun _ => none) n.val none s.rings.anchors,
        waiting := sparsePut (fun _ => []) n.val [] s.rings.waiting,
        unsignalled := sparsePut (fun _ => 0) n.val 0 s.rings.unsignalled } }
  (s.setReg r.head 0).setReg r.tail 0

/-- Whether a command of a ring is in hand and ends later: a calibration or a firmware update (R451). -/
def State.ringBusy (s : State) : RingId → Bool
  | .command c => (s.stw.cal.any (fun x => x.ring.any (fun e => decide (e.1 = c.val)))) || s.stw.fw.any (fun f => f.ring = c.val)
  | .result _ => false

/-! ## Commands -/

/-- The type that a holding program's binding gives a ring (R445). -/
def State.boundType (s : State) : RingId → Option Nat
  | .command c => if (s.holder (· = .commandRing c.val)).isSome then some 2 else none
  | .result r =>
    if (s.holder (· = .resultRing r.val true)).isSome then some 2
    else if (s.holder (· = .resultRing r.val false)).isSome then some 3 else none

/-- Whether an enable is refused with reason CFG (R445). -/
def State.ringRefused (s : State) (r : RingId) : Bool :=
  let t := s.ringType r
  (match s.boundType r, r with
    | some b, _ => decide (t ≠ b)
    | none, .command _ => decide (t = 2)
    | none, .result _ => decide (t = 3)) ||
  (match r with
    | .command c => decide (t = 0) &&
      (let q := s.fld (Reg.HOSTQ.CRING_CFG c.val) Fld.HOSTQ.CRING_CFG.cq
       decide (3072 ≤ q) || decide (s.rringType q ≠ 0))
    | .result _ => false)

/-- RING_ENABLE (R445, R446, R465): whether it is refused, and the state after. -/
def State.ringEnable (s : State) (r : RingId) : Bool × State :=
  if !s.blockOn 15 then (true, s)
  else if s.ringState r ≠ 0 then (false, s)
  else if s.ringRefused r then
    (true, (s.setFld r.stateReg Fld.HOSTQ.CRING_STATE.reason 3).setSta r.sta Fld.HOSTQ.CRING_STA.REFUSED)
  else
    let s : State := (s.ringEmpty r).setRingState r 1
    (false, s.endOutage)

def execRingEnable (r : RingId) (s : State) : Host.Outcome State Fault Refusal :=
  .next ((s.accept r.cmd Fld.HOSTQ.CRING_CMD.enable_go).ringEnable r).2

/-- RING_DISABLE (R446, R465): the entry in hand is finished first. -/
def State.ringDisable (s : State) (r : RingId) : State :=
  if s.ringState r = 0 || s.ringState r = 3 then s
  else if s.ringBusy r then (s.setRingState r 3).haltChannels r
  else (s.ringOff r).haltChannels r

def execRingDisable (r : RingId) (s : State) : Host.Outcome State Fault Refusal :=
  .next ((s.accept r.cmd Fld.HOSTQ.CRING_CMD.disable_go).ringDisable r)

/-- RING_RESUME (R451): the failing entry is skipped. -/
def State.ringResume (s : State) (r : RingId) : State :=
  if s.ringState r ≠ 2 then s
  else match r with
    | .command c => (s.crConsume c.val).setRingState r 1
    | .result _ => s.setRingState r 1

def execRingResume (r : RingId) (s : State) : Host.Outcome State Fault Refusal :=
  .next ((s.accept r.cmd Fld.HOSTQ.CRING_CMD.resume_go).ringResume r)

/-- RING_RESET (R451): OFF with both counts at 0. -/
def State.ringReset (s : State) (r : RingId) : State := ((s.ringOff r).ringEmpty r).haltChannels r

def execRingReset (r : RingId) (s : State) : Host.Outcome State Fault Refusal :=
  .next ((s.accept r.cmd Fld.HOSTQ.CRING_CMD.reset_go).ringReset r)

/-- HQ_COMMIT (R464). -/
def execHqCommit (s : State) : Host.Outcome State Fault Refusal :=
  .next ((s.accept Reg.HOSTQ.HQ_CMD Fld.HOSTQ.HQ_CMD.commit_go).commitRegs 15 [Reg.HOSTQ.HQ_CFG])

/-- WIN_COMMIT (R443). -/
def execWinCommit (s : State) : Host.Outcome State Fault Refusal :=
  .next ((s.accept Reg.HOSTQ.HQ_CMD Fld.HOSTQ.HQ_CMD.win_commit_go).commitRegs 15 [Reg.HOSTQ.HQ_WIN_BASE])

/-- READ_RETRY (R451): a failed read of an entry or a link is retried, and after the last retry the ring halts. The cookie of an
entry that could not be read is free. Free lists are read by their channels (FREELIST_RETRY). -/
def execReadRetry (r : RingId) (s : State) : Host.Outcome State Fault Refusal :=
  match r with
  | .result _ => .next s
  | .command c =>
    let t := s.ringType r
    match s.crEntries c.val with
    | [] => .next s
    | e :: _ =>
      if s.ringState r ≠ 1 || t = 1 || decide (3 < t) then .next s
      else if s.ringRetries c.val < s.fld Reg.HOSTQ.HQ_CFG Fld.HOSTQ.HQ_CFG.retry_max then
        .next ((s.count (Reg.HOSTQ.CRING_RETRY_CNT c.val) 1).setRetries c.val (s.ringRetries c.val + 1))
      else
        let (n, s) := s.draw
        let chain := (leAt e 12 2).testBit 0
        .next (s.ringHalt c.val 2 (if chain then leAt e 24 8 else Config.freeNat 65 n % 2 ^ 64)
          (if chain then leAt e 16 1 else Config.freeNat 66 n % 256))

/-- COAL_TIMER (R448): coal_us after the first unsignalled entry the vector is signalled. -/
def execCoalTimer (r : Fin 3072) (s : State) : Host.Outcome State Fault Refusal :=
  let r := r.val
  if sparseGet (fun _ => 0) s.rings.unsignalled r = 0 || s.rringType r = 2 || !s.rringRuns r ||
      s.fld (Reg.HOSTQ.RRING_CFG r) Fld.HOSTQ.RRING_CFG.irq_en = 0 then .next s
  else
    .next ({ s with rings := { s.rings with unsignalled := sparsePut (fun _ => 0) r 0 s.rings.unsignalled } }.signal
      (s.fld (Reg.HOSTQ.RRING_CFG r) Fld.HOSTQ.RRING_CFG.vector))

/-! ## Doorbells -/

/-- The ring whose doorbell lies at a BAR4 offset (R447). -/
def doorbellRing (offset : Nat) : Option RingId :=
  if offset % 256 ≠ 0 then none
  else if offset < 0x40000 then some (cring (offset / 256)) else some (rring ((offset - 0x40000) / 256))

/-- A doorbell ignored (R447). -/
def State.dbBad (s : State) (r : RingId) : State :=
  ((s.count Reg.HOSTQ.DB_BAD_CNT 1).setSta r.sta Fld.HOSTQ.CRING_STA.DB_BAD).blkEvent 15 10 Ev.HOSTQ.DB_BAD r.arg

/-- The entries that wait for a result ring written while it has free slots (R446). -/
def State.flushWaiting (s : State) (r : Nat) : Nat → State
  | 0 => s
  | n + 1 =>
    match sparseGet (fun _ => []) s.rings.waiting r with
    | [] => s
    | e :: t =>
      if s.rringFull r then s
      else
        let s : State := { s with rings := { s.rings with waiting := sparsePut (fun _ => []) r t s.rings.waiting } }
        ((s.rringPush r e).coalesce r).flushWaiting r n

/-- An accepted doorbell: for a command ring the new T publishes entries, for a result ring the new H frees slots. -/
def State.ringDoorbell (s : State) (r : RingId) (v : Word) (entries : List (List Byte)) : State :=
  match r with
  | .command c =>
    let n := (v - s.reg r.tail).toNat
    let new := (List.range n).map (fun i => bytesAt (entries.getD i []) 0 32)
    (s.setCrEntries c.val (s.crEntries c.val ++ new)).setReg r.tail v
  | .result q =>
    let n := (v - s.reg r.head).toNat
    let l := sparseGet (fun _ => []) s.rings.result q.val
    let s : State := { s with rings := { s.rings with result := sparsePut (fun _ => []) q.val (l.drop n) s.rings.result } }
    let s : State := s.setReg r.head v
    s.flushWaiting q.val (sparseGet (fun _ => []) s.rings.waiting q.val).length

/-- Whether a doorbell value moves forward and keeps the counts within the ring (R447). -/
def State.doorbellOk (s : State) (r : RingId) (v : Word) : Bool :=
  s.ringState r = 1 &&
    (match r with
      | .command _ => decide (s.ringUsed r ≤ (v - s.reg r.head).toNat) && decide ((v - s.reg r.head).toNat ≤ s.ringSize r)
      | .result _ => decide ((s.reg r.tail - v).toNat ≤ s.ringUsed r))

/-- DOORBELL (R447): an access to BAR4. -/
def execDoorbell (offset : BitVec 20) (len : Nat) (data : Option Word) (entries : List (List Byte)) (s : State) :
    Host.Outcome State Fault Refusal :=
  let bad (s : State) : State := s.accessErr 15 (offset.toNat % 2 ^ 19) Requester.hostBar4.code 0xF 4
  match doorbellRing offset.toNat, data with
  | some r, some v =>
    if len ≠ 4 then .next (bad s)
    else .next (if s.doorbellOk r v then s.ringDoorbell r v entries else s.dbBad r)
  | some r, none =>
    if len ≠ 4 then .next (bad s)
    else .next (s.emit (.readData .hostBar4 (s.reg (match r with
      | .command _ => r.tail
      | .result _ => r.head))))
  | none, _ => .next (bad s)

/-! ## BAR2 -/

/-- Runs of enabled bytes (offset, bytes) of a write (R442). -/
def enabledRuns : List (Byte × Bool) → Nat → List Byte → List (Nat × List Byte)
  | [], i, cur => if cur = [] then [] else [(i - cur.length, cur)]
  | (b, e) :: t, i, cur =>
    if e then enabledRuns t (i + 1) (cur ++ [b])
    else (if cur = [] then [] else [(i - cur.length, cur)]) ++ enabledRuns t (i + 1) []

/-- The head-table areas (R418, R443), which BAR2 may read. -/
def inHeadTables (a n : Nat) : Bool := decide (inkUser ≤ a) && decide (a + n ≤ inkUser + 0x800000)

/-- BAR2_ACCESS (R443): a read or a write of the Inkwell through the window. -/
def execBar2Access (offset : BitVec 36) (len : Nat) (data : Option (List (Byte × Bool))) (errs : List InkErr) (s : State) :
    Host.Outcome State Fault Refusal :=
  let a := s.fld Reg.HOSTQ.HQ_WIN_BASE Fld.HOSTQ.HQ_WIN_BASE.gib * 2 ^ 30 + offset.toNat
  let bad (s : State) : State := s.accessErr 15 (offset.toNat % 2 ^ 19) Requester.hostBar2.code 0xF 4
  match data with
  | none =>
    if a + len ≤ inkUser || inHeadTables a len then
      let (l, s) := s.inkRead 10 a len errs
      .next (s.emit (.readBytes .hostBar2 (l.map (·.1))))
    else .next (bad s)
  | some l =>
    if inkUser < a + l.length then .next (bad s)
    else .next ((enabledRuns l 0 []).foldl (fun s e => s.inkWrite 10 (a + e.1) e.2 errs) s)

/-! ## The host link -/

/-- The admission rate of a link in MB/s (R441). -/
def linkRateOf (gen width : Nat) : Nat := (match gen with | 1 => 30000 | 2 => 60000 | 3 => 121000 | _ => 0) * width / 16

def linkOk (gen width : Nat) : Bool := decide (gen ≠ 0) && [1, 4, 8, 16].contains width

def State.setHostLink (s : State) (up : Bool) (gen width : Nat) : State :=
  s.setReg Reg.HOSTQ.HQ_LINK (putField Fld.HOSTQ.HQ_LINK.up (bit up) (putField Fld.HOSTQ.HQ_LINK.gen gen
    (putField Fld.HOSTQ.HQ_LINK.width width (putField Fld.HOSTQ.HQ_LINK.rate (linkRateOf gen width) 0))))

/-- LINK_RATE (R441): the link retrains; a lower rate is raised. -/
def execLinkRate (gen : BitVec 2) (width : BitVec 5) (s : State) : Host.Outcome State Fault Refusal :=
  if s.fld Reg.HOSTQ.HQ_LINK Fld.HOSTQ.HQ_LINK.up = 0 || !linkOk gen.toNat width.toNat then .next s
  else
    let old := s.fld Reg.HOSTQ.HQ_LINK Fld.HOSTQ.HQ_LINK.rate
    let s : State := s.setHostLink true gen.toNat width.toNat
    .next (if linkRateOf gen.toNat width.toNat < old then s.raise Ev.HOSTQ.LINK_RATE 0 else s)

/-- The rings as a host-port reset leaves them (R446, R462). -/
def State.resetRings (s : State) : State :=
  let rs := (List.range 1024).map cring ++ (List.range 3072).map rring
  rs.foldl (fun s r =>
    if s.ringState r = 0 && s.reg r.head = 0 && s.reg r.tail = 0 then s
    else (s.ringOff r).ringEmpty r) s

/-- Commands in progress at a reset run on, and their completions are dropped (R463). -/
def State.dropInHand (s : State) : State :=
  let s : State := match s.stw.cal with
    | some c => if c.ring.isSome then
        { s.count Reg.HOSTQ.HQ_COMPL_DROP_CNT 1 with stw := { s.stw with cal := some { c with ring := none } } } else s
    | none => s
  match s.stw.fw with
  | some f => if f.ring < 1024 then
      { s.count Reg.HOSTQ.HQ_COMPL_DROP_CNT 1 with stw := { s.stw with fw := some { f with ring := 1024 } } } else s
  | none => s

/-- The channels at a reset (R462, R463): they enter OUTAGE, and an item part-delivered starts again. -/
def State.outageChannels (s : State) : State :=
  (List.range 64).foldl (fun s ch =>
    let c := s.channel ch
    let part := decide (c.covered ≠ 0) || c.buf.any (fun b => decide (b.used ≠ 0))
    let s : State := if s.dmaState ch = 0 then s
      else s.setChannel ch { c with covered := 0, buf := none, retries := 0, replay := c.replay || part }
    if s.dmaState ch = 1 then s.setDmaState ch 3 else s) s

/-- HOST_RESET (R462, R463): a link-down, PERST_N, a hot reset or a Function Level Reset. -/
def execHostReset (kind : HostResetKind) (s : State) : Host.Outcome State Fault Refusal :=
  let s : State := (s.outageChannels.resetRings).dropInHand
  let s : State := (List.range 256).foldl (fun s v =>
    [Reg.HOSTQ.MSIX_ADDR_LO v, Reg.HOSTQ.MSIX_ADDR_HI v, Reg.HOSTQ.MSIX_DATA v, Reg.HOSTQ.MSIX_CTRL v].foldl
      (fun s a => s.setReg a (resetWord a)) s) s
  let s : State := (List.range 8).foldl (fun s i => s.setReg (Reg.HOSTQ.MSIX_PBA i) 0) s
  let s : State := if kind = .flr then s else s.setHostLink false 0 0
  let s : State := if kind = .perst then { s with mod := { s.mod with perst := true } } else s
  .next ((s.count Reg.HOSTQ.HQ_RESET_CNT 1).blkEvent 15 9 Ev.HOSTQ.HOST_RESET 0)

end Sys2Proof.Machine
end

