-- ==== Sys2Proof/Machine/Control.lean ====
section
/-! DEFINITION. Control commands of the CTRL rings (R449, R451, R452): their data, their completion, and the commands NOP,
HEAD_IMAGE and KERNEL_LOAD (R166, R167, R378, R379). -/

namespace Sys2Proof.Machine

/-- What reading a command's data finds: its length, a breach of R449 or R451, or a chain that loops. -/
inductive DataFind where
  | ok (len : Nat) | badBuffer | chainLoop
deriving DecidableEq, Repr

/-- 16 MiB (R451). -/
def maxData : Nat := 0x1000000

/-- A chain followed from the link at `a` (R449, R451): `seen` holds the addresses of the earlier links, `n` the bytes
of their buffers. A link that the operand does not give reads as zeros. -/
def walkChain (links : List (Nat × Nat × Nat)) : Nat → Nat → List Nat → Nat → DataFind
  | 0, _, _, _ => .chainLoop
  | fuel + 1, a, seen, n =>
    if a % 32 ≠ 0 then .badBuffer
    else if seen.contains a then .chainLoop
    else
      let (len, next) := match links.find? (fun l => l.1 = a) with
        | some l => (l.2.1, l.2.2)
        | none => (0, 0)
      if len = 0 || decide (maxData < n + len) then .badBuffer
      else if next = 0 then .ok (n + len)
      else walkChain links fuel next (a :: seen) (n + len)

/-- What reading an entry's data finds. -/
def dataFind (e : CommandEntry) (d : HostData) : DataFind :=
  let addr := leAt e 0 8
  let len := leAt e 8 4
  if (leAt e 12 2).testBit 0 then
    if len ≠ 32 then .badBuffer else walkChain d.links 256 addr [] 0
  else if maxData < len then .badBuffer
  else .ok len

/-- A command in hand: its ring, opcode and cookie, its data and its argument. -/
structure CtrlCall where
  ring : Nat
  op : Nat
  cookie : Nat
  arg : Nat
  data : List Byte
deriving DecidableEq, Repr

/-- The entry in hand finished: a ring that drains goes OFF (R446). -/
def State.ctrlEnd (s : State) (ring : Nat) : State :=
  if s.ringState (cring ring) = 3 then s.ringOff (cring ring) else s

/-- A control command with an opcode that `op` accepts, at the head of a running CTRL ring whose completion ring can take a
completion, with no earlier command of the ring in hand. `f` answers the code and the argument of its completion, or
none where the command completes later. -/
def State.ctrl (s : State) (ring : Nat) (op : Nat → Bool) (d : HostData) (f : CtrlCall → State → Option (Nat × Nat) × State) :
    State :=
  match s.crEntries ring with
  | [] => s
  | e :: _ =>
    let o := leAt e 16 1
    let cookie := leAt e 24 8
    if s.ringState (cring ring) ≠ 1 || s.ringType (cring ring) ≠ 0 || s.ringBusy (cring ring) || !s.canComplete ring || !op o then s
    else match dataFind e d with
      | .chainLoop => s.ringHalt ring 1 cookie o
      | .badBuffer => (s.crConsume ring).complete ring cookie 0x1B o 0
      | .ok n =>
        let c : CtrlCall := { ring := ring, op := o, cookie := cookie, arg := leAt e 20 4, data := bytesAt d.bytes 0 n }
        match f c (s.crConsume ring) with
        | (some (code, arg), s) => s.complete ring cookie code o arg
        | (none, s) => s

/-- A command that completes after it has begun. A ring number of 1024 stands for a completion no longer owed (R463). -/
def State.ctrlLate (s : State) (ring cookie code op arg : Nat) : State :=
  if 1024 ≤ ring then s else (s.complete ring cookie code op arg).ctrlEnd ring

/-- The opcodes of R452 and of ch. 17. -/
def knownOp (o : Nat) : Bool := decide (o ≤ 0x04) || (decide (0x10 ≤ o) && decide (o ≤ 0x16))

/-- CTRL_NOP (R452): a NOP, and any opcode that names no command. -/
def execCtrlNop (ring : Fin 1024) (data : HostData) (s : State) : Host.Outcome State Fault Refusal :=
  .next (s.ctrl ring (fun o => decide (o = 0) || !knownOp o) data (fun c s => (some (if c.op = 0 then 0 else 0x1A, 0), s)))

/-- HEAD_IMAGE (R167). -/
def execHeadImage (ring : Fin 1024) (data : HostData) (signatureOk : Bool) (s : State) : Host.Outcome State Fault Refusal :=
  .next (s.ctrl ring (· = 4) data (fun c s =>
    if 8 ≤ c.arg then (some (0x19, 0), s)
    else
      let (ok, s) := s.headImage c.arg c.data signatureOk
      (some (if ok then 0 else 0x19, 0), s)))

/-! ## Kernel images -/

/-- Why an image is refused for its key (R79 codes 0x06 to 0x08). -/
def State.keyRefusal (s : State) (isSigned : Bool) (slot : Nat) (signatureOk : Bool) : Option (Nat × Nat) :=
  if !isSigned then (if s.flag Reg.RETAIN.KEY_STATE Fld.RETAIN.KEY_STATE.require_signed then some (6, 0) else none)
  else if !(decide (slot < 8) && (s.fld Reg.RETAIN.KEY_STATE Fld.RETAIN.KEY_STATE.keys).testBit slot) then some (7, slot)
  else if !signatureOk then some (8, slot) else none

/-- A length field of an image that must be a multiple of `m` within [lo, hi]. -/
def sizeOk (v m lo hi : Nat) : Bool := decide (v % m = 0) && decide (lo ≤ v) && decide (v ≤ hi)

/-- The offset of the first field of a kernel image that is out of range (R378). -/
def kernelField (l : List Byte) : Option Nat :=
  if !sizeOk (leAt l 8 4) 8 8 32768 then some 0x08
  else if !sizeOk (leAt l 12 4) 64 0 131072 then some 0x0C
  else if !sizeOk (leAt l 16 4) 1 1 (2 ^ 24 - 1) then some 0x10
  else if !sizeOk (leAt l 20 2) 1 1 65535 then some 0x14
  else if !sizeOk (leAt l 22 1) 1 1 128 then some 0x16
  else none

/-- Why a kernel image is refused (R379): code and argument. -/
def State.kernelRefusal (s : State) (l : List Byte) (signatureOk : Bool) : Option (Nat × Nat) :=
  let isSigned := (leAt l 6 2).testBit 0
  let body := 48 + leAt l 8 4 + leAt l 12 4
  let id := leAt l 5 1
  if l.take 4 ≠ [0x42, 0x52, 0x53, 0x48] then some (1, 0)
  else if leAt l 4 1 ≠ 1 then some (2, leAt l 4 1)
  else if l.length < 48 then some (3, 0xFFFF)
  else match kernelField l with
    | some o => some (3, o)
    | none =>
      if l.length ≠ body + 4 + (if isSigned then 96 else 0) then some (3, 0xFFFE)
      else if leAt l body 4 ≠ (crc32c (l.take body)).toNat then some (4, 0)
      else match s.keyRefusal isSigned (leAt l 23 1) signatureOk with
        | some r => some r
        | none =>
          if id < 0x80 then some (0x16, id)
          else if s.flag (Reg.BRUSH.KRN_STATE id) Fld.BRUSH.KRN_STATE.loaded &&
              decide (s.fld (Reg.BRUSH.KRN_STATE id) Fld.BRUSH.KRN_STATE.cores ≠ 0) then some (0x17, id)
          else none

/-- A checked kernel image loaded: its registers and its image. -/
def State.loadKernel (s : State) (l : List Byte) : State :=
  let id := leAt l 5 1
  let body := 48 + leAt l 8 4 + leAt l 12 4
  let st := Reg.BRUSH.KRN_STATE id
  let s : State := { s with kernels := sparsePut (fun _ => []) id l s.kernels }
  let s : State := (s.setFld st Fld.BRUSH.KRN_STATE.loaded 1).setFld st Fld.BRUSH.KRN_STATE.signed (leAt l 6 2 % 2)
  let s : State := s.setFld (Reg.BRUSH.KRN_WC_BASE id) Fld.BRUSH.KRN_WC_BASE.base (leAt l 16 4)
  let s : State := s.setFld (Reg.BRUSH.KRN_WC_VEC id) Fld.BRUSH.KRN_WC_VEC.vec (leAt l 20 2)
  let s : State := s.setFld (Reg.BRUSH.KRN_WC_VEC id) Fld.BRUSH.KRN_WC_VEC.outmax (leAt l 22 1)
  s.setReg (Reg.BRUSH.KRN_CRC id) (BitVec.ofNat 32 (leAt l body 4))

/-- KERNEL_LOAD (R379, R385). -/
def execKernelLoad (ring : Fin 1024) (data : HostData) (signatureOk : Bool) (s : State) : Host.Outcome State Fault Refusal :=
  .next (s.ctrl ring (· = 3) data (fun c s =>
    let id := leAt c.data 5 1
    match s.kernelRefusal c.data signatureOk with
    | some (code, arg) =>
      let s : State := (s.setFld Reg.BRUSH.BR_LOAD_LAST Fld.BRUSH.BR_LOAD_LAST.code code).setFld Reg.BRUSH.BR_LOAD_LAST
        Fld.BRUSH.BR_LOAD_LAST.arg arg
      (some (code, arg), s.blkEvent 3 10 Ev.BRUSH.KRN_REFUSED (id + 256 * code))
    | none => (some (0, id), (s.loadKernel c.data).raise Ev.BRUSH.KRN_LOADED id)))

end Sys2Proof.Machine
end

