-- ==== Sys2Proof/Machine/Planes.lean ====
section
/-! DEFINITION. Density planes (R386 to R397): accumulation, persistence, snapshots and merging across the cascade. -/

namespace Sys2Proof.Machine

def State.plane (s : State) (k : Nat) : PlaneRun := sparseGet (fun _ => PlaneRun.fresh) s.planes k

def State.setPlane (s : State) (k : Nat) (v : PlaneRun) : State :=
  { s with planes := sparsePut (fun _ => PlaneRun.fresh) k v s.planes }

/-- PL_STATE.state: 0 OFF, 1 RUN, 2 DRAINING. -/
def State.planeState (s : State) (k : Nat) : Nat := s.fld (Reg.BLOT.PL_STATE k) Fld.BLOT.PL_STATE.state

def State.setPlaneState (s : State) (k v : Nat) : State := s.setFld (Reg.BLOT.PL_STATE k) Fld.BLOT.PL_STATE.state v

/-- Whether a plane is a member of a ganged pair. -/
def State.ganged (s : State) (k : Nat) : Bool := s.flag (Reg.BLOT.PL_STATE k) Fld.BLOT.PL_STATE.ganged

/-- The instance whose registers govern a plane (R386). -/
def State.planeBoss (s : State) (k : Nat) : Nat := if s.ganged k then k / 2 * 2 else k

/-- Whether an instance's commands are ignored: the second of a ganged pair (R386). -/
def State.planeSecond (s : State) (k : Nat) : Bool := s.ganged k && decide (k % 2 = 1)

def State.planePair (s : State) (k : Nat) : Nat := s.fld (Reg.BLOT.PL_CFG k) Fld.BLOT.PL_CFG.pair
def State.planeRows (s : State) (k : Nat) : Nat := s.fld (Reg.BLOT.PL_CFG k) Fld.BLOT.PL_CFG.rows + 1
def State.planeCols (s : State) (k : Nat) : Nat := (s.pairCfg (s.planePair k)).columns
def State.planeLink (s : State) (k : Nat) : Nat := s.fld (Reg.BLOT.PL_CFG k) Fld.BLOT.PL_CFG.send_link
def State.planeCh (s : State) (k : Nat) : Nat := s.fld (Reg.BLOT.PL_CFG k) Fld.BLOT.PL_CFG.ch

/-- The largest value of a counter (R386). -/
def counterMax : Nat := 0xFFFFFFFF

/-- The counters of a plane or of a ganged pair as every read returns them (R390). -/
def State.planeCount (s : State) (k row col : Nat) : Nat :=
  let at_ (j : Nat) : Nat := sparseGet (fun _ => 0) (s.plane j).counts (row * 2048 + col)
  if s.ganged k then min counterMax (at_ (k / 2 * 2) + at_ (k / 2 * 2 + 1)) else at_ k

/-- The planes behind an instance. -/
def State.planeMembers (s : State) (k : Nat) : List Nat := if s.ganged k then [k / 2 * 2, k / 2 * 2 + 1] else [k]

/-- Whether an enabled viewport shows a plane. -/
def State.planeShown (s : State) (k : Nat) : Bool :=
  (List.range 8).any (fun v => s.flag (Reg.DISP.VP_CFG v) Fld.DISP.VP_CFG.en &&
    decide (s.planeBoss (s.fld (Reg.DISP.VP_CFG v) Fld.DISP.VP_CFG.plane) = s.planeBoss k))

def State.planeChange (s : State) (k : Nat) : State := if s.planeShown k then s.displayChange else s

/-! ## Accumulation -/

/-- The row of a value (R388): none where its hit is dropped. -/
def rowOf (lo step rows : Nat) (clipLo clipHi : Bool) (l : Nat) : Option Nat :=
  if l < lo then (if clipLo then some 0 else none)
  else
    let r := (l - lo) / max 1 step
    if rows ≤ r then (if clipHi then some (rows - 1) else none) else some r

/-- The row of a value on a plane's active row map. -/
def State.planeRow (s : State) (k : Nat) (clipLo clipHi : Bool) (l : Nat) : Option Nat :=
  let a := Reg.BLOT.PL_ROWMAP k
  rowOf (s.fld a Fld.BLOT.PL_ROWMAP.lo) (s.fld a Fld.BLOT.PL_ROWMAP.step) (s.planeRows k) clipLo clipHi l

/-- Hits (row, column) added to the counters of plane j, whose registers are those of k (R388). -/
def State.addHits (s : State) (k j : Nat) (hits : List (Nat × Nat)) : State :=
  let p := s.plane j
  let full := hits.any (fun h => decide (sparseGet (fun _ => 0) p.counts (h.1 * 2048 + h.2) = counterMax))
  let counts := hits.foldl (fun c h =>
    let i := h.1 * 2048 + h.2
    sparsePut (fun _ => 0) i (min counterMax (sparseGet (fun _ => 0) c i + 1)) c) p.counts
  let s : State := s.setPlane j { p with counts := counts }
  let s : State := s.count64 (Reg.BLOT.PL_HITS_LO k) (Reg.BLOT.PL_HITS_HI k) hits.length
  let s : State := if full && !(s.plane k).satSeen then
      ((s.setPlane k { s.plane k with satSeen := true, sat := true }).setSta (Reg.BLOT.PL_STA k)
        Fld.BLOT.PL_STA.SAT).blkEvent 12 9 Ev.BLOT.PL_SAT k
    else if full then s.setPlane k { s.plane k with sat := true } else s
  if hits.isEmpty then s else s.planeChange k

/-- The plane of a ganged pair that a frame goes to (R390). -/
def State.planeFor (s : State) (k seq : Nat) : Nat := if s.ganged k then k / 2 * 2 + seq % 2 else k

/-- Eleven-bit indices packed from the most significant bit of 240 bytes (R397). -/
def packRows (l : List Nat) : List Byte :=
  beBytes 240 ((l.foldl (fun v r => v * 2048 + r % 2048) 0) * 2 ^ (1920 - 11 * l.length))

/-- The indices of a segment. -/
def unpackRows (l : List Byte) (n : Nat) : List Nat :=
  let v := beAt l 16 240
  (List.range n).map (fun i => v / 2 ^ (1920 - 11 * (i + 1)) % 2048)

/-- The DENSITY segments of one spectrum frame (R397). -/
def densitySegments (origin ch fseq lost first : Nat) (rows : List Nat) : Nat → List (List Byte)
  | 0 => []
  | fuel + 1 =>
    let seg := rows.take 174
    let rest := rows.drop 174
    let flags := bit rest.isEmpty + 2 * bit (decide (lost ≠ 0))
    (beBytes 1 origin ++ beBytes 1 ch ++ beBytes 2 first ++ beBytes 2 seg.length ++ beBytes 1 flags ++
      beBytes 1 (min 255 lost) ++ beBytes 8 fseq ++ packRows seg) ::
      (if rest.isEmpty then [] else densitySegments origin ch fseq 0 (first + seg.length) rest fuel)

/-- A spectrum frame's row indices queued for the cascade (R397). -/
def State.sendDensity (s : State) (k fseq : Nat) (rows : List (Option Nat)) : State :=
  let link := s.planeLink k
  let ch := s.planeCh k
  let h := s.cascade link
  let waiting := h.density.countP (fun m => beAt m 1 1 = ch && decide (beAt m 6 1 % 2 = 1))
  if 16 ≤ waiting || !s.linkUp link then
    (s.count (Reg.BLOT.MERGE_DROP_CNT k) 1).setPlane k { s.plane k with unsent := (s.plane k).unsent + 1 }
  else
    let segs := densitySegments (s.fld Reg.SYNC.SYNC_CFG Fld.SYNC.SYNC_CFG.module) ch fseq (s.plane k).unsent 0
      (rows.map (·.getD 0x7FF)) (rows.length + 1)
    (s.setCascade link { h with density := h.density ++ segs }).setPlane k { s.plane k with unsent := 0 }

/-- A plane goes OFF. -/
def State.planeOff (s : State) (k : Nat) : State :=
  (s.setPlane k { s.plane k with stopping := false, commit := false }).setPlaneState k 0

/-- A commit that waits takes effect (R391). -/
def State.planeApply (s : State) (k : Nat) : State :=
  if (s.plane k).commit then
    ((s.commitScope ⟨.plane, k⟩).setPlane k { s.plane k with commit := false }).setSta (Reg.BLOT.PL_STA k)
      Fld.BLOT.PL_STA.COMMITTED
  else s

/-- One output frame taken by an enabled plane (R387 to R389, R391, R397). -/
def State.planeTake (s : State) (k : Nat) (f : SpecFrame) : State :=
  let s : State := s.planeApply k
  let cfg := Reg.BLOT.PL_CFG k
  let s : State :=
    if (f.marks.gap || f.marks.unsettled) && !s.flag cfg Fld.BLOT.PL_CFG.doubtful then
      (s.count (Reg.BLOT.PL_SKIP_CNT k) 1).setPlane k { s.plane k with skipped := (s.plane k).skipped + 1 }
    else
      let st := Reg.BLOT.PL_STATE k
      let s : State := s.setFld st Fld.BLOT.PL_STATE.marks (s.fld st Fld.BLOT.PL_STATE.marks ||| f.marks.frameBits)
      let p := s.plane k
      let s : State := s.setPlane k { p with first := p.first.or (some f.tbs), last := f.tbs, frames := p.frames + 1 }
      let rows := f.logs.map (s.planeRow k (s.flag cfg Fld.BLOT.PL_CFG.clip_lo) (s.flag cfg Fld.BLOT.PL_CFG.clip_hi))
      let hits := rows.zipIdx.filterMap (fun e => e.1.map (fun r => (r, e.2)))
      let s : State := s.addHits k (s.planeFor k f.seq) hits
      if s.flag cfg Fld.BLOT.PL_CFG.send_en then s.sendDensity k f.seq rows else s
  if (s.plane k).stopping then s.planeOff k else s

/-- An output frame of a pair delivered to the planes it feeds. -/
def State.planesTake (s : State) (i : Nat) (f : SpecFrame) : State :=
  (List.range 16).foldl (fun s k =>
    if s.planeSecond k || s.planeState k = 0 || s.planePair k ≠ i then s else s.planeTake k f) s

/-- Merge frames reported lost (R397). -/
def State.mergeLost (s : State) (k n : Nat) : State :=
  let s : State := s.count (Reg.BLOT.MERGE_LOSS_CNT k) n
  let s : State := s.setPlane k { s.plane k with lost := (s.plane k).lost + n, mergeLoss := true }
  (s.setSta (Reg.BLOT.PL_STA k) Fld.BLOT.PL_STA.MERGE_LOSS).blkEvent 12 11 Ev.BLOT.MERGE_LOSS k

/-- A DENSITY segment taken by a merging plane (R397). -/
def State.planeMerge (s : State) (k : Nat) (m : List Byte) : State :=
  let first := beAt m 2 2
  let n := beAt m 4 2
  let rows := unpackRows m n
  if decide (n = 0) || decide (174 < n) || decide (s.planeCols k < first + n) ||
      rows.any (fun r => decide (r ≠ 0x7FF) && decide (s.planeRows k ≤ r)) then
    s.count (Reg.BLOT.MERGE_LOSS_CNT k) 1
  else
    let s : State := if (beAt m 6 1).testBit 1 then s.mergeLost k (beAt m 7 1) else s
    let hits := rows.zipIdx.filterMap (fun e => if e.1 = 0x7FF then none else some (e.1, first + e.2))
    s.addHits k (s.planeFor k (beAt m 8 8)) hits

/-- DENSITY_FRAME (R397). -/
def execDensityFrame (f : CascFrame) (s : State) : Host.Outcome State Fault Refusal :=
  .next (s.rxCasc f 2 (fun s m =>
    (List.range 16).foldl (fun s k =>
      if s.planeSecond k || s.planeState k = 0 || !s.flag (Reg.BLOT.PL_CFG k) Fld.BLOT.PL_CFG.merge_en ||
          decide (s.planeLink k ≠ f.link.val) || decide (s.planeCh k ≠ beAt m 1 1 % 4) then s
      else s.planeMerge k m) s))

/-! ## Enable and disable -/

/-- The declared rate of a stream in samples per second, a complex sample counted once (R390). -/
def State.declaredRate (s : State) (id : Nat) : Rat :=
  match (s.stream id).source with
  | some (.head p _) => ((modeRate (s.portMode p) * 1000000 : Nat) : Rat)
  | some (.zoom z) => ((modeRate (s.portMode (z / 4)) * 1000000 : Nat) : Rat) / ((max 1 (s.zoomDecim z) : Nat) : Rat)
  | none => 0

/-- U of a plane (R390). -/
def State.planeRate (s : State) (k : Nat) : Rat :=
  let c := s.pairCfg (s.planePair k)
  s.declaredRate c.stream / ((c.hop : Nat) : Rat) * ((c.columns : Nat) : Rat)

/-- The bytes of a snapshot (R396). -/
def State.snapBytes (s : State) (k : Nat) : Nat := 64 + s.planeRows k * s.planeCols k * 4

def State.snapBase (s : State) (k : Nat) : Nat := s.fld (Reg.BLOT.PL_SNAP_BASE k) Fld.BLOT.PL_SNAP_BASE.base * 4096

/-- Whether a binding is of the plane k, alone or ganged. -/
def Binding.isPlane (k : Nat) : Binding → Bool
  | .plane j g => j = k || (g && j / 2 = k / 2)
  | _ => false

/-- The reason of R387 for which an enable is refused; 0 for none. -/
def State.planeRefusal (s : State) (k : Nat) : Nat :=
  let h := s.holder (Binding.isPlane k)
  let i := s.planePair k
  let c := s.pairCfg i
  let cfg := Reg.BLOT.PL_CFG k
  let link := s.planeLink k
  let dest := Reg.BLOT.PL_SNAP_DEST k
  let senders := (List.range 16).filter (fun j => decide (j ≠ k) && !s.planeSecond j && decide (s.planeState j ≠ 0) &&
    s.flag (Reg.BLOT.PL_CFG j) Fld.BLOT.PL_CFG.send_en && decide (s.planeLink j = link))
  let held (p : Binding → Bool) : Bool := h.isSome && s.heldBy h p
  if !held (· = .pair i) || c.det = 0 || decide (2048 < c.columns) then 1
  else if (if s.ganged k then 15360000000 else 7680000000 : Rat) < s.planeRate k then 2
  else if s.flag dest Fld.BLOT.PL_SNAP_DEST.area_en && !s.inAllocation (Binding.isPlane k) (s.snapBase k) (s.snapBytes k) then 3
  else if s.flag cfg Fld.BLOT.PL_CFG.send_en && (!s.linkUp link ||
      decide ((3840000000 : Rat) < s.planeRate k + (senders.map s.planeRate).sum)) then 4
  else if s.flag dest Fld.BLOT.PL_SNAP_DEST.exportEn &&
      !held (fun b => match b with
        | .exportCh ch _ => decide (ch = s.fld dest Fld.BLOT.PL_SNAP_DEST.exportCh)
        | _ => false) then 5
  else 0

/-- PL_ENABLE (R387): whether it is refused, and the state after. -/
def State.planeEnable (s : State) (k : Nat) : Bool × State :=
  if !s.blockOn 12 then (true, s)
  else if s.planeState k ≠ 0 then (false, s)
  else
    let r := s.planeRefusal k
    if r ≠ 0 then
      (true, ((s.setFld (Reg.BLOT.PL_STATE k) Fld.BLOT.PL_STATE.reason r).setSta (Reg.BLOT.PL_STA k)
        Fld.BLOT.PL_STA.REFUSED).blkEvent 12 8 Ev.BLOT.PL_REFUSED (k + 256 * r))
    else
      let s : State := s.setPlane k { s.plane k with seq := 0, stopping := false, commit := false }
      (false, (s.setReg (Reg.BLOT.PL_SNAP_SEQ k) 0).setPlaneState k 1)

def execPlEnable (k : Fin 16) (s : State) : Host.Outcome State Fault Refusal :=
  if s.planeSecond k.val then .next s
  else .next ((s.accept (Reg.BLOT.PL_CMD k.val) Fld.BLOT.PL_CMD.enable_go).planeEnable k.val).2

/-- PL_DISABLE (R413): OFF after the current frame; at once when no frame is under way. -/
def State.planeDisable (s : State) (k : Nat) : State :=
  if s.planeState k ≠ 1 then s
  else if s.pairState (s.planePair k) = 0 then s.planeOff k
  else (s.setPlane k { s.plane k with stopping := true }).setPlaneState k 2

def execPlDisable (k : Fin 16) (s : State) : Host.Outcome State Fault Refusal :=
  if s.planeSecond k.val then .next s
  else .next ((s.accept (Reg.BLOT.PL_CMD k.val) Fld.BLOT.PL_CMD.disable_go).planeDisable k.val)

/-- PL_COMMIT (R391): from the first output frame that the pair writes afterwards. -/
def State.planeCommit (s : State) (k : Nat) : State :=
  if s.planeState k = 0 then s.commitScope ⟨.plane, k⟩ else s.setPlane k { s.plane k with commit := true }

def execPlCommit (k : Fin 16) (s : State) : Host.Outcome State Fault Refusal :=
  if s.planeSecond k.val then .next s
  else .next ((s.accept (Reg.BLOT.PL_CMD k.val) Fld.BLOT.PL_CMD.commit_go).planeCommit k.val)

/-- PL_CLEAR (R389, R391). -/
def State.planeClear (s : State) (k : Nat) : State :=
  let s : State := (s.planeMembers k).foldl (fun s j => s.setPlane j { s.plane j with counts := [] }) s
  (s.setFld (Reg.BLOT.PL_STATE k) Fld.BLOT.PL_STATE.marks 0).planeChange k

def execPlClear (k : Fin 16) (s : State) : Host.Outcome State Fault Refusal :=
  if s.planeSecond k.val then .next s
  else .next ((s.accept (Reg.BLOT.PL_CMD k.val) Fld.BLOT.PL_CMD.clear_go).planeClear k.val)

/-! ## Persistence -/

/-- One decay of a counter (R392). -/
def decay (d c : Nat) : Nat :=
  let c' := (c * (2 ^ d - 1) + 2 ^ (d - 1)) / 2 ^ d
  if c' = c then c - 1 else c'

/-- PERSIST_TICK (R392). -/
def execPersistTick (k : Fin 16) (s : State) : Host.Outcome State Fault Refusal :=
  let k := k.val
  if s.planeSecond k || s.planeState k = 0 then .next s
  else
    let d := s.fld (Reg.BLOT.PL_PERSIST k) Fld.BLOT.PL_PERSIST.d
    let s : State := s.setPlane k { s.plane k with satSeen := false }
    if d = 0 then .next s
    else
      let any := (s.planeMembers k).any (fun j => !(s.plane j).counts.isEmpty)
      let s : State := (s.planeMembers k).foldl (fun s j =>
        let p := s.plane j
        s.setPlane j { p with counts := (p.counts.map (fun e => (e.1, decay d e.2))).filter (fun e => decide (e.2 ≠ 0)) }) s
      .next (if any then s.planeChange k else s)

/-! ## Snapshots -/

/-- PL_SNAP (R395): BUSY_DROP while a snapshot is in progress. -/
def State.planeSnap (s : State) (k req : Nat) : State :=
  let st := Reg.BLOT.PL_STATE k
  if s.flag st Fld.BLOT.PL_STATE.snapping then s.busyDrop 12 req else s.setFld st Fld.BLOT.PL_STATE.snapping 1

def execPlSnap (k : Fin 16) (s : State) : Host.Outcome State Fault Refusal :=
  if s.planeSecond k.val then .next s
  else
    let a := Reg.BLOT.PL_CMD k.val
    .next ((s.accept a Fld.BLOT.PL_CMD.snap_go).planeSnap k.val (s.issuer a))

/-- PL_RESTART (R348, R413). -/
def State.planeRestart (s : State) (k : Fin 16) : State :=
  let f : FlowId := .snapshot k
  if (s.flow f).stopped then s.setFlow f { s.flow f with stopped := false } else s

def execPlRestart (k : Fin 16) (s : State) : Host.Outcome State Fault Refusal :=
  if s.planeSecond k.val then .next s
  else .next ((s.accept (Reg.BLOT.PL_CMD k.val) Fld.BLOT.PL_CMD.restart_go).planeRestart k)

/-- A snapshot's bytes with a throttle exponent and a dropped count (R396). -/
def State.snapshotBytes (s : State) (k : Nat) (j dropped : Nat) : List Byte :=
  let p := s.plane k
  let rows := s.planeRows k
  let cols := s.planeCols k
  let flags := s.fld (Reg.BLOT.PL_STATE k) Fld.BLOT.PL_STATE.marks + 256 * bit p.mergeLoss + 512 * bit p.sat
  sealCrc (leBytes 2 0x4450 ++ leBytes 1 (k + 16 * bit (s.ganged k)) ++ leBytes 1 j ++ leBytes 2 cols ++ leBytes 2 rows ++
    leBytes 8 p.seq ++ leBytes 8 (p.first.getD p.last) ++ leBytes 8 p.last ++ leBytes 8 p.frames ++ leBytes 4 p.skipped ++
    leBytes 2 flags ++ leBytes 2 0 ++ leBytes 4 p.lost ++ leBytes 4 dropped ++ leBytes 4 0 ++ leBytes 4 0 ++
    (List.range rows).flatMap (fun r => (List.range cols).flatMap (fun c => leBytes 4 (s.planeCount k r c))))

/-- SNAP_DONE (R395, R396): the copy is complete and its header written last. -/
def execSnapDone (k : Fin 16) (s : State) : Host.Outcome State Fault Refusal :=
  let st := Reg.BLOT.PL_STATE k.val
  if s.planeSecond k.val || !s.flag st Fld.BLOT.PL_STATE.snapping then .next s
  else
    let dest := Reg.BLOT.PL_SNAP_DEST k.val
    let p := s.plane k.val
    let mk := s.snapshotBytes k.val
    let id := (s.pairCfg (s.planePair k.val)).stream
    let s : State := if s.flag dest Fld.BLOT.PL_SNAP_DEST.area_en then
        let l := mk 0 0
        (s.inkStore 2 (s.snapBase k.val + 64) (l.drop 64)).inkStore 2 (s.snapBase k.val) (l.take 64)
      else s
    let s : State := if s.flag dest Fld.BLOT.PL_SNAP_DEST.exportEn then
        (s.flowPush (.snapshot k) p.seq ⟨0, 3, p.seq, id, p.first.getD p.last, s.stampTbw, [], false, false⟩ mk).2
      else s
    let s : State := if s.flag (Reg.BLOT.PL_CFG k.val) Fld.BLOT.PL_CFG.snap_clear then
        (s.planeMembers k.val).foldl (fun s j => s.setPlane j { s.plane j with counts := [] }) s
      else s
    let s : State := s.setPlane k.val { s.plane k.val with
      first := none, frames := 0, skipped := 0, lost := 0, mergeLoss := false, sat := false, seq := p.seq + 1 }
    let s : State := (s.setFld st Fld.BLOT.PL_STATE.snapping 0).setFld st Fld.BLOT.PL_STATE.marks 0
    let s : State := s.setReg (Reg.BLOT.PL_SNAP_SEQ k.val) (BitVec.ofNat 32 (p.seq + 1))
    .next ((s.setSta (Reg.BLOT.PL_STA k.val) Fld.BLOT.PL_STA.SNAP_DONE).blkEvent 12 10 Ev.BLOT.SNAP_DONE k.val)

end Sys2Proof.Machine
end

