-- ==== Sys2Proof/Machine/Display.lean ====
section
/-! DEFINITION. The compositor and the display pair (R398 to R412): commits, frames with their check rectangles, Panel Replay,
links and layer releases. A commit applies to the registers as it is accepted; what a frame in scan still fetches stands in its
panel's areas. -/

namespace Sys2Proof.Machine

def State.panel (s : State) (o : Nat) : PanelRun := sparseGet (fun _ => PanelRun.fresh) s.panels o

def State.setPanel (s : State) (o : Nat) (v : PanelRun) : State :=
  { s with panels := sparsePut (fun _ => PanelRun.fresh) o v s.panels }

/-- DP_STATE.state: 0 OFF, 1 TRAINING, 2 RUN, 3 REPLAY, 4 LINK_LOST. -/
def State.dpState (s : State) (o : Nat) : Nat := s.fld (Reg.DISP.DP_STATE o) Fld.DISP.DP_STATE.state

def State.setDpState (s : State) (o v : Nat) : State := s.setFld (Reg.DISP.DP_STATE o) Fld.DISP.DP_STATE.state v

def State.tiled (s : State) : Bool := s.flag Reg.DISP.DISP_CFG Fld.DISP.DISP_CFG.tiled

/-- The outputs that output o's commands act on (R406). -/
def State.dpGroup (s : State) (o : Nat) : List Nat := if s.tiled then [0, 1] else [o]

/-- Whether an output's commands are ignored: output 1 in tiled mode (R406). -/
def State.dpIgnored (s : State) (o : Nat) : Bool := s.tiled && decide (o = 1)

/-! ## Settings of the compositor -/

/-- A rectangle: its left column, top line, width and height. -/
structure Box where
  x : Int
  y : Int
  w : Nat
  h : Nat

def Box.overlaps (a b : Box) : Bool :=
  decide (a.x < b.x + b.w) && decide (b.x < a.x + a.w) && decide (a.y < b.y + b.h) && decide (b.y < a.y + a.h) &&
    decide (a.w * a.h ≠ 0) && decide (b.w * b.h ≠ 0)

/-- The plane instance whose map and rows a viewport uses. -/
def State.vpPlane (s : State) (val : Nat → Word) (v : Nat) : Nat :=
  s.planeBoss (getField Fld.DISP.VP_CFG.plane (val (Reg.DISP.VP_CFG v)))

/-- The pixels a viewport covers (R399). -/
def State.vpBox (s : State) (val : Nat → Word) (v : Nat) : Box :=
  let k := s.vpPlane val v
  let c := val (Reg.DISP.VP_CFG v)
  let p := val (Reg.DISP.VP_POS v)
  { x := getField Fld.DISP.VP_POS.x p, y := getField Fld.DISP.VP_POS.y p,
    w := s.planeCols k * (getField Fld.DISP.VP_CFG.sx c + 1), h := s.planeRows k * (getField Fld.DISP.VP_CFG.sy c + 1) }

def vpOn (val : Nat → Word) (v : Nat) : Bool := getField Fld.DISP.VP_CFG.en (val (Reg.DISP.VP_CFG v)) = 1
def lyOn (val : Nat → Word) (n : Nat) : Bool := getField Fld.DISP.LY_CTL.en (val (Reg.DISP.LY_CTL n)) = 1
def txtOn (val : Nat → Word) : Bool := getField Fld.DISP.TXT_CTL.txt_en (val Reg.DISP.TXT_CTL) = 1
def curOn (val : Nat → Word) : Bool := getField Fld.DISP.TXT_CTL.cur_en (val Reg.DISP.TXT_CTL) = 1

def lyBox (val : Nat → Word) (n : Nat) : Box :=
  { x := getField Fld.DISP.LY_POS.x (val (Reg.DISP.LY_POS n)), y := getField Fld.DISP.LY_POS.y (val (Reg.DISP.LY_POS n)),
    w := getField Fld.DISP.LY_SIZE.w (val (Reg.DISP.LY_SIZE n)), h := getField Fld.DISP.LY_SIZE.h (val (Reg.DISP.LY_SIZE n)) }

def lyBase (val : Nat → Word) (n : Nat) : Nat := getField Fld.DISP.LY_BASE.base (val (Reg.DISP.LY_BASE n)) * 4096
def lyStride (val : Nat → Word) (n : Nat) : Nat := getField Fld.DISP.LY_STRIDE.stride (val (Reg.DISP.LY_STRIDE n))

/-- The ranges (address, length) that enabled layers reference under some settings (R400, R402, R412). -/
def State.fetchAreas (s : State) (val : Nat → Word) : List (Nat × Nat) :=
  let layers := (List.range 5).filterMap (fun n =>
    let b := lyBox val n
    if lyOn val n && decide (b.w * b.h ≠ 0) then some (lyBase val n, lyStride val n * (b.h - 1) + 4 * b.w) else none)
  let (w, h) := s.panelSize
  let txt := if txtOn val && decide (w * h ≠ 0) then
      [(getField Fld.DISP.TXT_BASE.base (val Reg.DISP.TXT_BASE) * 4096, 2 * ((ceilDiv h 16 - 1) * 960 + ceilDiv w 8)),
        (getField Fld.DISP.FONT_BASE.base (val Reg.DISP.FONT_BASE) * 4096, 4096)]
    else []
  let cur := if curOn val then [(getField Fld.DISP.CUR_BASE.base (val Reg.DISP.CUR_BASE) * 4096, 16384)] else []
  layers ++ txt ++ cur

/-- Whether two ranges (address, length) share a byte. -/
def rangesMeet (a b : Nat × Nat) : Bool := decide (a.1 < b.1 + b.2) && decide (b.1 < a.1 + a.2)

/-- The reason of R403 for which a commit is refused; 0 for none. -/
def State.dispRefusal (s : State) : Nat :=
  let val := s.stagedReg
  let base := s.fld Reg.DISP.DISP_AREA_BASE Fld.DISP.DISP_AREA_BASE.base * 4096
  let len := s.fld Reg.DISP.DISP_AREA_LEN Fld.DISP.DISP_AREA_LEN.len * 4096
  let vps := (List.range 8).filter (vpOn val)
  if (s.fetchAreas val).any (fun r => decide (r.1 < base) || decide (base + len < r.1 + r.2)) then 1
  else if s.schedulable < s.declaredTraffic + s.displayTraffic val then 2
  else if vps.any (fun v => vps.any (fun u => decide (u < v) && (s.vpBox val u).overlaps (s.vpBox val v))) then 3
  else if (List.range 5).any (fun n => decide (lyStride val n % 64 ≠ 0) || decide (lyStride val n < 4 * (lyBox val n).w)) then 4
  else 0

/-- DISP_COMMIT (R403). -/
def execDispCommit (s : State) : Host.Outcome State Fault Refusal :=
  let s : State := s.accept Reg.DISP.DISP_CMD Fld.DISP.DISP_CMD.commit_go
  let r := s.dispRefusal
  if r ≠ 0 then .next ((s.setFld Reg.DISP.DISP_STATE Fld.DISP.DISP_STATE.reason r).blkEvent 13 14 Ev.DISP.COMMIT_REFUSED 0)
  else
    .next (s.commitWhere 13 (fun a => a / 0x80000 = 13 && a ≠ Reg.DISP.REL_BASE && a ≠ Reg.DISP.REL_LEN &&
      a ≠ Reg.DISP.REL_TAG)).displayChange

/-- TOUCH_GO (R410). -/
def execTouchGo (s : State) : Host.Outcome State Fault Refusal :=
  .next (s.accept Reg.DISP.DISP_CMD Fld.DISP.DISP_CMD.touch_go).displayChange

/-! ## Layer releases -/

/-- LAYER_RELEASE (R412). -/
def execLayerRelease (s : State) : Host.Outcome State Fault Refusal :=
  let s : State := s.accept Reg.DISP.DISP_CMD Fld.DISP.DISP_CMD.release_go
  let s : State := s.commitRegs 13 [Reg.DISP.REL_BASE, Reg.DISP.REL_LEN, Reg.DISP.REL_TAG]
  let r := (s.fld Reg.DISP.REL_BASE Fld.DISP.REL_BASE.base * 4096, s.fld Reg.DISP.REL_LEN Fld.DISP.REL_LEN.len * 4096)
  let tag := s.fld Reg.DISP.REL_TAG Fld.DISP.REL_TAG.tag
  if (s.fetchAreas s.reg ++ s.fetchAreas s.stagedReg).any (rangesMeet r) then
    .next (s.blkEvent 13 13 Ev.DISP.RELEASE_BUSY tag)
  else if [0, 1].any (fun o => (s.panel o).areas.any (rangesMeet r)) then
    .next ({ s with releases := s.releases ++ [(r.1, r.2, tag)] }.setBlkSta 13 12)
  else .next (s.raise Ev.DISP.LAYER_RELEASED tag)

/-- The deferred releases that no frame in scan references any more. -/
def State.freeReleases (s : State) : State :=
  let busy (e : Nat × Nat × Nat) : Bool := [0, 1].any (fun o => (s.panel o).areas.any (rangesMeet (e.1, e.2.1)))
  let done := s.releases.filter (fun e => !busy e)
  let s : State := { s with releases := s.releases.filter busy }
  done.foldl (fun s e => s.raise Ev.DISP.LAYER_RELEASED e.2.2) s

/-! ## Composition -/

/-- Red, green and blue of a pixel. -/
abbrev Rgb := Nat × Nat × Nat

/-- A source colour ARGB over a pixel (R398). -/
def blend (argb alpha : Nat) (d : Rgb) : Rgb :=
  let f (c b : Nat) : Nat := (c * alpha + b * (255 - alpha) + 127) / 255
  (f (argb / 2 ^ 16 % 256) d.1, f (argb / 2 ^ 8 % 256) d.2.1, f (argb % 256) d.2.2)

/-- A fetched image: lines of pixels ARGB; a poisoned pixel is transparent black (R423). -/
abbrev Image := List (List Nat)

/-- The pixels of a line of bytes. -/
def linePixels : List (Byte × Bool) → List Nat
  | b :: g :: r :: a :: t =>
    (if b.2 || g.2 || r.2 || a.2 then 0 else leNat [b.1, g.1, r.1, a.1]) :: linePixels t
  | _ => []

/-- An image fetched from the Inkwell. -/
def State.fetchImage (s : State) (errs : List InkErr) (base stride w : Nat) : Nat → Nat → Image × State
  | 0, _ => ([], s)
  | n + 1, y =>
    let (l, s) := s.inkRead 5 (base + y * stride) (4 * w) errs
    let (t, s) := s.fetchImage errs base stride w n (y + 1)
    (linePixels l :: t, s)

/-- What a frame fetches: the layers, the text words with their errors by line, the glyph bytes and the cursor. -/
structure Fetched where
  layers : List Image
  text : List (List (Byte × Bool))
  font : List (Byte × Bool)
  cursor : Image

/-- The fetch of one frame (R400, R402). -/
def State.fetchFrame (s : State) (errs : List InkErr) : Fetched × State :=
  let val := s.reg
  let (ls, s) := (List.range 5).foldl (fun (r : List Image × State) n =>
    let b := lyBox val n
    let (i, s) := if lyOn val n then r.2.fetchImage errs (lyBase val n) (lyStride val n) b.w b.h 0 else (([] : Image), r.2)
    (r.1 ++ [i], s)) ([], s)
  let (w, h) := s.panelSize
  let tb := s.fld Reg.DISP.TXT_BASE Fld.DISP.TXT_BASE.base * 4096
  let (tx, s) := (List.range (if txtOn val then ceilDiv h 16 else 0)).foldl (fun (r : List (List (Byte × Bool)) × State) y =>
    let (l, s) := r.2.inkRead 5 (tb + 2 * y * 960) (2 * ceilDiv w 8) errs
    (r.1 ++ [l], s)) ([], s)
  let (ft, s) := if txtOn val then
      s.inkRead 5 (s.fld Reg.DISP.FONT_BASE Fld.DISP.FONT_BASE.base * 4096) 4096 errs else ([], s)
  let (cu, s) := if curOn val then
      s.fetchImage errs (s.fld Reg.DISP.CUR_BASE Fld.DISP.CUR_BASE.base * 4096) 256 64 64 0 else (([] : Image), s)
  (⟨ls, tx, ft, cu⟩, s)

/-- The greatest n up to a fuel with 2^n at most c^256: floor(256 log2 c) (R394). -/
def log8 (c : Nat) : Nat := Nat.log2 (c ^ 256)

/-- The colour map index of a counter (R394). -/
def State.mapIndex (s : State) (k c : Nat) : Nat :=
  let a := Reg.BLOT.PL_MAP k
  if s.flag a Fld.BLOT.PL_MAP.log then
    (if c = 0 then 0 else min 255 (1 + s.fld a Fld.BLOT.PL_MAP.k * log8 c / 4096))
  else min 255 (c / 2 ^ s.fld a Fld.BLOT.PL_MAP.sh)

/-- The cell (column, row from the bottom) of a viewport at a panel pixel (R399). -/
def State.vpCell (s : State) (v : Nat) (x y : Int) : Option (Nat × Nat) :=
  let b := s.vpBox s.reg v
  if !vpOn s.reg v || decide (x < b.x) || decide (y < b.y) || decide (b.x + b.w ≤ x) || decide (b.y + b.h ≤ y) then none
  else
    let c := s.reg (Reg.DISP.VP_CFG v)
    let up := (y - b.y).toNat / (getField Fld.DISP.VP_CFG.sy c + 1)
    some ((x - b.x).toNat / (getField Fld.DISP.VP_CFG.sx c + 1), s.planeRows (s.vpPlane s.reg v) - 1 - up)

/-- L0 at a pixel (R399). -/
def State.pixelPlanes (s : State) (x y : Int) (d : Rgb) : Rgb :=
  (List.range 8).foldl (fun d v =>
    match s.vpCell v x y with
    | none => d
    | some (j, r) =>
      let k := s.vpPlane s.reg v
      let i := if s.planeState k = 0 then 0 else s.mapIndex k (s.planeCount k r j)
      let e := (s.reg (Reg.BLOT.COLOUR_MAP k i)).toNat
      blend e (e / 2 ^ 24) d) d

/-- L1 to L5 at a pixel (R400). -/
def State.pixelLayers (s : State) (f : Fetched) (x y : Int) (d : Rgb) : Rgb :=
  (List.range 5).foldl (fun d n =>
    let b := lyBox s.reg n
    if !lyOn s.reg n || decide (x < b.x) || decide (y < b.y) || decide (b.x + b.w ≤ x) || decide (b.y + b.h ≤ y) then d
    else
      let e := ((f.layers.getD n []).getD (y - b.y).toNat []).getD (x - b.x).toNat 0
      let g := s.fld (Reg.DISP.LY_CTL n) Fld.DISP.LY_CTL.galpha
      blend e ((e / 2 ^ 24 * g + 127) / 255) d) d

/-- L6 at a pixel (R401). -/
def State.pixelTraces (s : State) (x y : Int) (d : Rgb) : Rgb :=
  (List.range 4).foldl (fun d t =>
    let c := s.reg (Reg.DISP.TR_CFG t)
    if getField Fld.DISP.TR_CFG.en c = 0 then d
    else
      let v := getField Fld.DISP.TR_CFG.viewport c
      let m := getField Fld.DISP.TR_CFG.mask c
      match s.vpCell v x y with
      | none => d
      | some (j, r) =>
        let w := s.reg (Reg.TRIG.MASK_ENTRY m j)
        let hit (l : Nat) : Bool := decide (l ≠ 0) && decide (l ≠ 0xFFFF) &&
          decide (s.planeRow (s.vpPlane s.reg v) false false l = some r)
        if decide (j < (s.pairCfg (s.maskPair m)).columns) &&
            (hit (getField Fld.TRIG.MASK_ENTRY.upper w) || hit (getField Fld.TRIG.MASK_ENTRY.lower w)) then
          let e := (s.reg (Reg.DISP.TR_COLOUR t)).toNat
          blend e (e / 2 ^ 24) d
        else d) d

/-- L7 at a pixel (R402): the text grid, then the cursor. -/
def State.pixelText (s : State) (f : Fetched) (x y : Nat) (d : Rgb) : Rgb :=
  let d := if !txtOn s.reg then d
    else
      let l := f.text.getD (y / 16) []
      let a := l.getD (x / 8 * 2) (0, true)
      let b := l.getD (x / 8 * 2 + 1) (0, true)
      let g := f.font.getD (16 * a.1.toNat + y % 16) (0, true)
      if a.2 || b.2 || g.2 then d
      else
        let i := if g.1.getLsbD (7 - x % 8) then b.1.toNat % 16 else b.1.toNat / 16
        let e := (s.reg (Reg.DISP.PALETTE i)).toNat
        blend e (e / 2 ^ 24) d
  if !curOn s.reg then d
  else
    let cx := signedOf 14 (s.fld Reg.DISP.CUR_POS Fld.DISP.CUR_POS.x)
    let cy := signedOf 13 (s.fld Reg.DISP.CUR_POS Fld.DISP.CUR_POS.y)
    if (x : Int) < cx || (y : Int) < cy || cx + 64 ≤ (x : Int) || cy + 64 ≤ (y : Int) then d
    else
      let e := (f.cursor.getD ((y : Int) - cy).toNat []).getD ((x : Int) - cx).toNat 0
      blend e (e / 2 ^ 24) d

/-- A composited pixel of the panel (R398). -/
def State.pixel (s : State) (f : Fetched) (x y : Nat) : Rgb :=
  let bg := s.fld Reg.DISP.DISP_BG Fld.DISP.DISP_BG.rgb
  let d : Rgb := (bg / 2 ^ 16, bg / 2 ^ 8 % 256, bg % 256)
  s.pixelText f x y (s.pixelTraces x y (s.pixelLayers f x y (s.pixelPlanes x y d)))

/-! ## Check rectangles -/

/-- One byte of the reflected CRC-32 of IEEE 802.3 (R409). -/
def crc32Byte (c : Word) (b : Byte) : Word :=
  let rec go : Nat → Word → Word
    | 0, x => x
    | n + 1, x => go n (if x.getLsbD 0 then (x >>> 1) ^^^ 0xEDB88320 else x >>> 1)
  go 8 (c ^^^ b.setWidth 32)

/-- CRC-32 of a byte string (R409). -/
def crc32 (l : List Byte) : Word := (l.foldl crc32Byte 0xFFFFFFFF) ^^^ 0xFFFFFFFF

/-- The three bytes of a pixel. -/
def rgbBytes (p : Rgb) : List Byte := [BitVec.ofNat 8 p.1, BitVec.ofNat 8 p.2.1, BitVec.ofNat 8 p.2.2]

/-- One check rectangle of an output in a composited frame (R409). -/
def State.checkRect (s : State) (f : Fetched) (o i : Nat) : State :=
  let p := s.reg (Reg.DISP.CHK_POS o i)
  let z := s.reg (Reg.DISP.CHK_SIZE o i)
  let x0 := getField Fld.DISP.CHK_POS.x0 p
  let y0 := getField Fld.DISP.CHK_POS.y0 p
  let w := getField Fld.DISP.CHK_SIZE.w z + 1
  let h := getField Fld.DISP.CHK_SIZE.h z + 1
  let hact := s.fld (Reg.DISP.DP_H 0) Fld.DISP.DP_H.hact
  let vact := s.fld (Reg.DISP.DP_V 0) Fld.DISP.DP_V.vact
  if getField Fld.DISP.CHK_SIZE.en z = 0 || decide (hact < x0 + w) || decide (vact < y0 + h) then s
  else
    let c := crc32 ((List.range h).flatMap (fun y => (List.range w).flatMap (fun x =>
      rgbBytes (s.pixel f (o * hact + x0 + x) (y0 + y)))))
    let s : State := s.setReg (Reg.DISP.CHK_LAST o i) c
    if c = s.reg (Reg.DISP.CHK_EXP o i) then s
    else (s.count (Reg.DISP.DP_CHK_FAIL_CNT o) 1).blkEvent 13 8 Ev.DISP.DISP_CHECK_FAIL (16 * o + i)

/-! ## Frames and Panel Replay -/

/-- A frame fetched, composited and sent. -/
def State.sendPanel (s : State) (o : Nat) (errs : List InkErr) : State :=
  let s : State := (s.setPanel o { s.panel o with areas := s.fetchAreas s.reg }).freeReleases
  let (f, s) := s.fetchFrame errs
  let s : State := (List.range 16).foldl (fun s i => s.checkRect f o i) s
  (s.count (Reg.DISP.DP_FRAME_CNT o) 1).emit (.display o 0)

/-- An output enters replay: it stops fetching (R410). -/
def State.enterReplay (s : State) (o : Nat) : State :=
  let s : State := (s.setDpState o 3).setPanel o { s.panel o with areas := [], unchanged := 0 }
  s.freeReleases.blkEvent 13 10 Ev.DISP.REPLAY_ENTER o

/-- An output leaves replay. -/
def State.leaveReplay (s : State) (o : Nat) : State :=
  let s : State := (s.setDpState o 2).setPanel o { s.panel o with held := false, exitGo := false, unchanged := 0 }
  s.blkEvent 13 10 Ev.DISP.REPLAY_EXIT o

/-- An output goes OFF. -/
def State.panelOff (s : State) (o : Nat) : State :=
  let s : State := (s.setDpState o 0).setPanel o { s.panel o with areas := [], stopGo := false, holdGo := false, unchanged := 0 }
  s.freeReleases

/-- Whether an output may enter replay: its link runs, replay_en is 1 and the sink supports it (R410). -/
def State.replayOk (s : State) (o : Nat) : Bool :=
  s.dpState o = 2 && s.flag (Reg.DISP.DP_CFG o) Fld.DISP.DP_CFG.replay_en &&
    s.flag (Reg.DISP.DP_STATE o) Fld.DISP.DP_STATE.replay_cap

/-- What a frame boundary decides for a group of outputs that change together (R410, R411). -/
def State.replayStep (s : State) (g : List Nat) : State :=
  let o := g.headD 0
  let p := s.panel o
  let n := if p.changed then 0 else p.unchanged + 1
  let s : State := g.foldl (fun s q => s.setPanel q { s.panel q with unchanged := n, changed := false }) s
  let inReplay := g.filter (fun q => s.dpState q = 3)
  if p.holdGo then
    (g.filter (fun q => s.dpState q = 2)).foldl (fun s q => s.enterReplay q)
      (g.foldl (fun s q => s.setPanel q { s.panel q with holdGo := false, held := true }) s)
  else if inReplay.isEmpty then
    (if decide (4 ≤ n) && g.all (fun q => s.replayOk q) then g.foldl (fun s q => s.enterReplay q) s else s)
  else if p.exitGo || (p.changed && !p.held) then inReplay.foldl (fun s q => s.leaveReplay q) s
  else s

/-- DISP_FRAME_START (R403, R406, R409 to R412): the first pixel of a frame, where the frame before it ends. -/
def execDispFrameStart (o : Fin 2) (errs : List InkErr) (s : State) : Host.Outcome State Fault Refusal :=
  let o := o.val
  let g := s.dpGroup o
  if s.dpState o = 0 then .next s
  else if (s.panel (g.headD 0)).stopGo then .next (g.foldl (fun s q => s.panelOff q) s)
  else
    let s : State := if s.dpIgnored o then s else s.replayStep g
    .next (if s.dpState o = 2 then s.sendPanel o errs else s)

/-- REPLAY_HOLD_GO (R411): replay starts after the current frame; a sink without Panel Replay drops it. -/
def execReplayHoldGo (o : Fin 2) (s : State) : Host.Outcome State Fault Refusal :=
  let o := o.val
  let a := Reg.DISP.DP_CMD o
  if s.dpIgnored o then .next s
  else
    let s : State := s.accept a Fld.DISP.DP_CMD.replay_hold_go
    let g := s.dpGroup o
    if g.any (fun q => !s.flag (Reg.DISP.DP_STATE q) Fld.DISP.DP_STATE.replay_cap) then .next (s.busyDrop 13 (s.issuer a))
    else if s.dpState o = 0 then .next s
    else .next (g.foldl (fun s q => s.setPanel q { s.panel q with holdGo := true }) s)

/-- REPLAY_EXIT_GO (R411): the output leaves replay at the next frame start. -/
def execReplayExitGo (o : Fin 2) (s : State) : Host.Outcome State Fault Refusal :=
  let o := o.val
  if s.dpIgnored o then .next s
  else
    let s : State := s.accept (Reg.DISP.DP_CMD o) Fld.DISP.DP_CMD.replay_exit_go
    .next ((s.dpGroup o).foldl (fun s q =>
      if s.dpState q = 3 || (s.panel q).held then s.setPanel q { s.panel q with exitGo := true } else s) s)

/-! ## Enable, disable and links -/

/-- The divider of R406: the smallest from 6 up that puts f_VCO in 6.4 to 12.8 GHz. -/
def pixelDivider (pclk : Nat) : Option Nat :=
  ((List.range 1019).map (· + 6)).find? (fun d => decide (6400000000 ≤ pclk * d) && decide (pclk * d ≤ 12800000000))

/-- PLL-D as the Steward programs it for a pixel clock (R406), OFF before. -/
def State.programPllD (s : State) (pclk div : Nat) : State :=
  let n := (2 * pclk * div * 2 ^ 32 + 100000000) / 200000000
  let s : State := (s.setPll 2 0).settleOutputs 2
  let c := Reg.CLK.PLL_CFG 2
  let s : State := ((s.setFld c Fld.CLK.PLL_CFG.rdiv 0).setFld c Fld.CLK.PLL_CFG.dither_en 0).setFld c Fld.CLK.PLL_CFG.pair_lock 1
  let s : State := s.setFld (Reg.CLK.PLL_NINT 2) Fld.CLK.PLL_NINT.nint (n / 2 ^ 32)
  let s : State := s.setReg (Reg.CLK.PLL_NFRAC 2) (BitVec.ofNat 32 n)
  (s.setFld (Reg.CLK.OUT_CFG 2 0) Fld.CLK.OUT_CFG.div (div - 1)).stewardCrc 6

/-- The reason of R406 for which an enable is refused, 0 for none, and the state with PLL-D programmed. -/
def State.dpRefusal (s : State) (o : Nat) : Nat × State :=
  let h := s.reg (Reg.DISP.DP_H o)
  let hs := s.reg (Reg.DISP.DP_HS o)
  let v := s.reg (Reg.DISP.DP_V o)
  let vs := s.reg (Reg.DISP.DP_VS o)
  let hact := getField Fld.DISP.DP_H.hact h
  let htot := getField Fld.DISP.DP_H.htot h
  let vact := getField Fld.DISP.DP_V.vact v
  let vtot := getField Fld.DISP.DP_V.vtot v
  let hss := getField Fld.DISP.DP_HS.hs_start hs
  let vss := getField Fld.DISP.DP_VS.vs_start vs
  let pclk := (s.reg (Reg.DISP.DP_PCLK o)).toNat
  let fast := s.flag (Reg.DISP.DP_CFG o) Fld.DISP.DP_CFG.rate
  if decide (3840 < hact) || decide (2160 < vact) || decide (hss < hact) ||
      decide (htot < hss + getField Fld.DISP.DP_HS.hs_width hs) || decide (vss < vact) ||
      decide (vtot < vss + getField Fld.DISP.DP_VS.vs_width vs) then (1, s)
  else if decide (1200000000 < pclk) || decide (241 * (htot * vtot) < 2 * pclk) then (2, s)
  else if (if fast then decide (40000000000 * 128 < pclk * 24 * 132) else decide (25920000000 < pclk * 24)) then (3, s)
  else if (s.holder (fun b => match b with
      | .unit 6 2 _ => true
      | _ => false)).isSome then (4, s)
  else match pixelDivider pclk with
    | none => (4, s)
    | some d =>
      let t := s.programPllD pclk d
      match t.findBand 2 0 with
      | none => (4, s)
      | some b =>
        if !t.pfdOk 2 0 then (4, s)
        else
          let t : State := (t.setFld (Reg.CLK.PLL_STATE 2) Fld.CLK.PLL_STATE.band b).setFld (Reg.CLK.PLL_STATE 2)
            Fld.CLK.PLL_STATE.ref_in_use 0
          let t : State := (t.setScope (outScope 2 0) .run).setScope (outScope 2 1) .run
          (0, (t.acquire 2).settleOutputs 2)

/-- DP_ENABLE (R406, R408): whether it is refused, and the state after. Output 1 has no enable of its own. -/
def State.dpEnable (s : State) (o : Nat) : Bool × State :=
  if !s.blockOn 13 || decide (o = 1) then (true, s)
  else if s.dpState o ≠ 0 then (false, s)
  else
    let (r, t) := s.dpRefusal o
    if r ≠ 0 then
      (true, (s.setFld (Reg.DISP.DP_STATE o) Fld.DISP.DP_STATE.reason r).blkEvent 13 11 Ev.DISP.TIMING_REFUSED o)
    else (false, (s.dpGroup o).foldl (fun t q =>
      (t.setDpState q 1).setPanel q { t.panel q with unchanged := 0, changed := true }) t)

def execDpEnable (o : Fin 2) (s : State) : Host.Outcome State Fault Refusal :=
  if s.dpIgnored o.val then .next s
  else .next ((s.accept (Reg.DISP.DP_CMD o.val) Fld.DISP.DP_CMD.enable_go).dpEnable o.val).2

/-- DP_DISABLE (R406, R414): at the next frame end, or at once while no frames run. -/
def State.dpDisable (s : State) (o : Nat) : State :=
  if s.dpState o = 0 then s
  else if s.running .disp then (s.dpGroup o).foldl (fun s q => s.setPanel q { s.panel q with stopGo := true }) s
  else (s.dpGroup o).foldl (fun s q => s.panelOff q) s

def execDpDisable (o : Fin 2) (s : State) : Host.Outcome State Fault Refusal :=
  if s.dpIgnored o.val then .next s
  else .next ((s.accept (Reg.DISP.DP_CMD o.val) Fld.DISP.DP_CMD.disable_go).dpDisable o.val)

/-- DP_LINK_LOST (R405, R407): training has failed or the link has dropped. -/
def execDpLinkLost (o : Fin 2) (hpd : Bool) (s : State) : Host.Outcome State Fault Refusal :=
  let o := o.val
  if s.dpState o = 0 || s.dpState o = 4 then .next s
  else
    let s : State := (s.setDpState o 4).setFld (Reg.DISP.DP_STATE o) Fld.DISP.DP_STATE.hpd (bit hpd)
    let s : State := (s.setPanel o { s.panel o with areas := [] }).freeReleases
    .next (s.blkEvent 13 9 Ev.DISP.DP_LINK_LOST o)

/-- DP_LINK_RETRY (R405): training starts again every 100 ms. -/
def execDpLinkRetry (o : Fin 2) (s : State) : Host.Outcome State Fault Refusal :=
  .next (if s.dpState o.val = 4 then s.setDpState o.val 1 else s)

/-- DP_LINK_UP (R405, R407, R411): the link has trained; under a hold the panel goes on replaying. -/
def execDpLinkUp (o : Fin 2) (replayCap : Bool) (s : State) : Host.Outcome State Fault Refusal :=
  let o := o.val
  let st := Reg.DISP.DP_STATE o
  if s.dpState o ≠ 1 || s.pll 2 ≠ 3 then .next s
  else
    let s : State := s.setDpState o (if (s.panel o).held then 3 else 2)
    let s : State := (s.setFld st Fld.DISP.DP_STATE.replay_cap (bit replayCap)).setFld st Fld.DISP.DP_STATE.hpd 1
    .next (s.raise Ev.DISP.DP_LINK_UP o)

end Sys2Proof.Machine
end

