-- ==== Sys2Proof/Machine/Export.lean ====
section
/-! DEFINITION. Export channels (R453 to R459, R463, R466): enables, bursts, buffers and their DATA entries, promotion and
halts. -/

namespace Sys2Proof.Machine

/-! ## Items and buffers -/

/-- The item that holds byte `p` of a sink buffer's items, and the byte's offset in it. -/
def itemAt : List FlowItem → Nat → Option (FlowItem × Nat)
  | [], _ => none
  | x :: t, p => if p < x.bytes.length then some (x, p) else itemAt t (p - x.bytes.length)

/-- The items left, and the bytes covered of the first of them, once `p` bytes are covered. -/
def coverItems : List FlowItem → Nat → List FlowItem × Nat
  | [], _ => ([], 0)
  | x :: t, p => if x.bytes.length ≤ p then coverItems t (p - x.bytes.length) else (x :: t, p)

/-- The byte that the next burst begins with. -/
def Channel.next (c : Channel) : Nat := c.covered + ((c.buf.map (·.used)).getD 0)

/-- Whether an item is part-transferred (R459). -/
def Channel.midItem (c : Channel) : Bool :=
  match itemAt c.items c.next with
  | some (_, o) => decide (o ≠ 0)
  | none => false

def State.dmaPack (s : State) (ch : Nat) : Bool := s.flag (Reg.DMA.DMA_CFG ch) Fld.DMA.DMA_CFG.pack

/-- The flags of a DATA entry (R449): NS stays as the host gave it. -/
def DmaBuf.flags (b : DmaBuf) : Nat :=
  (if (leAt b.desc 12 2).testBit 1 then 2 else 0) + (if b.offset = 0 then 4 else 0) + (if b.eop then 8 else 0) +
  (if b.replay then 16 else 0) + (if b.poison then 32 else 0) + (if b.ovf then 64 else 0)

/-- A channel turned OFF: nothing of it remains. -/
def State.dmaOff (s : State) (ch : Nat) : State :=
  let s : State := (s.setChannel ch Channel.idle).setDmaState ch 0
  let s : State := { s with ink := { s.ink with sinks := s.ink.sinks.filter (fun e => e.1 ≠ ch) } }
  s.reportFill (.channel ch)

/-- A buffer completed: its DATA entry is written and its items are delivered (R456, R463). -/
def State.bufDone (s : State) (ch : Nat) (b : DmaBuf) : State :=
  let c := s.channel ch
  let (items, covered) := coverItems c.items (c.covered + b.used)
  let s : State := s.rringWrite (s.dmaRing ch)
    (.data (leAt b.desc 0 8) b.used b.flags (leAt b.desc 14 2) b.seq b.offset b.items ch b.kind)
  let s : State := s.count64 (Reg.DMA.DMA_BYTES_LO ch) (Reg.DMA.DMA_BYTES_HI ch) b.used
  let s : State := s.count (Reg.DMA.DMA_ITEM_CNT ch) (c.items.length - items.length)
  let s : State := s.setChannel ch { c with
    items := items, covered := covered, buf := none, replay := c.replay && !b.replay }
  let s : State := if b.replay then
      (s.setSta (Reg.DMA.DMA_STA ch) Fld.DMA.DMA_STA.REPLAY).blkEvent 16 11 Ev.DMA.CH_REPLAY ch
    else s
  let s : State := s.reportFill (.channel ch)
  if s.dmaState ch = 5 && items.isEmpty then s.dmaOff ch else s

/-- The open buffer completed when its ring can take the entry. -/
def State.bufFlush (s : State) (ch : Nat) : State :=
  match (s.channel ch).buf with
  | some b => if s.rringRuns (s.dmaRing ch) && !s.rringFull (s.dmaRing ch) then s.bufDone ch b else s
  | none => s

/-! ## Promotion -/

/-- CH_PROMOTED: a valid shadow set promoted, where the channel runs with no item in transfer (R459). -/
def State.tryPromote (s : State) (ch : Nat) : State :=
  let st := Reg.DMA.DMA_STATE ch
  if !(s.flag st Fld.DMA.DMA_STATE.shadow_valid && decide (s.dmaState ch = 1)) || (s.channel ch).midItem then s
  else
    let s : State := s.bufFlush ch
    if (s.channel ch).buf.isSome then s
    else
      let s : State := s.commitScope ⟨.exportCh, ch⟩
      let s : State := s.setReg (Reg.DMA.DMA_ACTIVE ch) (s.reg (Reg.DMA.DMA_SHADOW ch))
      ((s.setFld st Fld.DMA.DMA_STATE.shadow_valid 0).setSta (Reg.DMA.DMA_STA ch) Fld.DMA.DMA_STA.PROMOTED).blkEvent 16 9
        Ev.DMA.CH_PROMOTED ch

/-! ## Bursts -/

/-- Whether a free-list entry names a valid buffer (R454). -/
def bufferOk (e : CommandEntry) : Bool :=
  !(leAt e 12 2).testBit 0 && decide (leAt e 0 8 % 64 = 0) && decide (leAt e 8 4 % 64 = 0) && decide (4096 ≤ leAt e 8 4) &&
    decide (leAt e 8 4 ≤ 0x1000000)

/-- A packed buffer that ends before the item at the next byte: the item is of another flow, or does not fit (R454). -/
def Channel.packEnds (c : Channel) : Bool :=
  match c.buf, itemAt c.items c.next with
  | some b, some (x, 0) => decide (b.used ≠ 0) && (decide (x.flow ≠ b.flow) || decide (b.cap < b.used + x.bytes.length))
  | _, _ => false

/-- A buffer taken from the free list for the item at the next byte, or the channel halted for a bad one (R454, R458). -/
def State.takeBuffer (s : State) (ch : Nat) : State :=
  let l := s.dmaList ch
  let c := s.channel ch
  match s.crEntries l, itemAt c.items c.next with
  | e :: _, some (x, o) =>
    if s.ringState (cring l) ≠ 1 then s
    else
      let s : State := s.crConsume l
      if !bufferOk e then s.chHalt ch 3
      else
        let b : DmaBuf :=
          { desc := e.take 16, cap := leAt e 8 4, used := 0, seq := x.seq, offset := o, items := 0, kind := x.kind,
            flow := x.flow, eop := false, poison := false, ovf := false, replay := c.replay }
        s.setChannel ch { c with retries := 0, buf := some b }
  | _, _ => s

/-- One burst moved into the open buffer, and the buffer completed where R454 says so. -/
def State.moveBurst (s : State) (ch : Nat) (b : DmaBuf) (bad : List Nat) : State :=
  let c := s.channel ch
  match itemAt c.items c.next with
  | none => s
  | some (x, o) =>
    let n := min 4096 (min (x.bytes.length - o) (b.cap - b.used))
    let hit := bad.any (fun i => decide (i < n))
    let data := ((x.bytes.drop o).take n).zipIdx.map (fun e => if bad.contains e.2 then (0 : Byte) else e.1)
    let ends := decide (o + n = x.bytes.length)
    let b : DmaBuf := { b with
      used := b.used + n, items := b.items + (if o = 0 then 1 else 0), eop := ends, poison := b.poison || hit,
      ovf := b.ovf || (ends && x.ovf) }
    let s : State := s.emit (.hostWrite (leAt b.desc 0 8 + b.used - n) data)
    let s : State := s.setChannel ch { c with buf := some b }
    let s : State := if hit then
        ((s.count (Reg.DMA.DMA_POISON_CNT ch) 1).setSta (Reg.DMA.DMA_STA ch) Fld.DMA.DMA_STA.POISON).blkEvent 16 10
          Ev.DMA.CH_POISON ch
      else s
    let more := (itemAt c.items (c.covered + b.used)).isSome
    let s : State := if decide (b.used = b.cap) || (ends && !s.dmaPack ch) || (s.channel ch).packEnds ||
        (decide (s.dmaState ch = 5) && !more) then s.bufDone ch b else s
    if ends then s.tryPromote ch else s

/-- DMA_BURST (R455): a channel that runs or drains moves one burst, while its rings run, its result ring has room and it has a
buffer or can take one. `bad` gives the offsets in the burst that the Inkwell read returned in error. -/
def execDmaBurst (ch : Fin 64) (bad : List Nat) (s : State) : Host.Outcome State Fault Refusal :=
  let ch := ch.val
  let ready (s : State) : Bool := (decide (s.dmaState ch = 1) || decide (s.dmaState ch = 5)) &&
    s.rringRuns (s.dmaRing ch) && !s.rringFull (s.dmaRing ch) && (itemAt (s.channel ch).items (s.channel ch).next).isSome
  if !ready s then
    .next (if s.dmaState ch = 5 && (itemAt (s.channel ch).items (s.channel ch).next).isNone then s.bufFlush ch else s)
  else
    let s : State := s.tryPromote ch
    let s : State := if (s.channel ch).packEnds then s.bufFlush ch else s
    if !ready s then .next s
    else
      let s : State := if (s.channel ch).buf.isNone then s.takeBuffer ch else s
      match (s.channel ch).buf with
      | some b => .next (s.moveBurst ch b bad)
      | none => .next s

/-- FLUSH_TIMER (R454): a packed buffer with bytes in it is completed. -/
def execFlushTimer (ch : Fin 64) (s : State) : Host.Outcome State Fault Refusal :=
  let used := ((s.channel ch.val).buf.map (·.used)).getD 0
  .next (if s.dmaPack ch.val && decide (used ≠ 0) && (decide (s.dmaState ch.val = 1) || decide (s.dmaState ch.val = 5)) then
    s.bufFlush ch.val else s)

/-- FREELIST_RETRY (R458): a failed read of the free list's head entry. -/
def execFreelistRetry (ch : Fin 64) (s : State) : Host.Outcome State Fault Refusal :=
  let ch := ch.val
  let c := s.channel ch
  let l := s.dmaList ch
  let reads := (decide (s.dmaState ch = 1) || decide (s.dmaState ch = 5)) && c.buf.isNone && decide (s.ringState (cring l) = 1) &&
    !(s.crEntries l).isEmpty && (itemAt c.items c.next).isSome
  if !reads then .next s
  else if c.retries < s.fld Reg.HOSTQ.HQ_CFG Fld.HOSTQ.HQ_CFG.retry_max then
    .next ((s.count (Reg.DMA.DMA_RETRY_CNT ch) 1).setChannel ch { c with retries := c.retries + 1 })
  else .next (s.chHalt ch 1)

/-! ## Enables -/

/-- The program that holds a channel. -/
def State.channelHolder (s : State) (ch : Nat) : Option Nat :=
  s.holder (fun b => match b with
    | .exportCh c _ => decide (c = ch)
    | _ => false)

/-- The bytes that the buffers of enabled channels and disk streams take, but for one of them (R453, R475). -/
def State.buffersTaken (s : State) (but : Sink) : Nat :=
  let chs := (List.range 64).filter (fun c => decide (s.dmaState c ≠ 0) && decide (but ≠ .channel c))
  let ds := (List.range 16).filter (fun n => decide (s.dsState n ≠ 0) && decide (but ≠ .disk n))
  (chs.map (fun c => s.channelCap c)).sum + (ds.map (fun n => s.diskCap n)).sum

/-- Whether a channel's enable is refused (R453, R466). -/
def State.dmaRefused (s : State) (ch : Nat) : Bool :=
  let set := s.stagedReg (Reg.DMA.DMA_SHADOW ch)
  let ring := getField Fld.DMA.DMA_SHADOW.ring set
  let list := getField Fld.DMA.DMA_SHADOW.freelist set
  let pairs := (List.range 4).any (fun k =>
    let p := Reg.DMA.DMA_PAIR ch k
    s.flag p Fld.DMA.DMA_PAIR.en &&
      !s.heldBy (s.channelHolder ch) (fun b => decide (b = .pair (s.fld p Fld.DMA.DMA_PAIR.pair))))
  decide (s.ink.outage.2 < s.buffersTaken (.channel ch) + s.fld (Reg.DMA.DMA_CFG ch) Fld.DMA.DMA_CFG.buf_mib * 2 ^ 20) ||
    decide (3072 ≤ ring) || decide (s.rringType ring ≠ 1) || decide (s.ringType (cring list) ≠ 1) || pairs

/-- DMA_ENABLE (R453, R466): whether it is refused, and the state after. The channel's spectral flows start anew. -/
def State.dmaEnable (s : State) (ch : Nat) : Bool × State :=
  if !s.blockOn 16 then (true, s)
  else if s.dmaState ch ≠ 0 then (false, s)
  else if s.dmaRefused ch then (true, s.setSta (Reg.DMA.DMA_STA ch) Fld.DMA.DMA_STA.REFUSED)
  else
    let s : State := (s.dmaOff ch).commitScope ⟨.exportCh, ch⟩
    let s : State := (List.finRange 4).foldl (fun s k =>
      s.setFlow (.spectral ⟨ch % 64, Nat.mod_lt _ (by decide)⟩ k) Flow.fresh) s
    let s : State := (s.setReg (Reg.DMA.DMA_ACTIVE ch) (s.reg (Reg.DMA.DMA_SHADOW ch))).setDmaState ch 1
    (false, (s.setFld (Reg.DMA.DMA_STATE ch) Fld.DMA.DMA_STATE.reason 0).tryPromote ch)

def execDmaEnable (ch : Fin 64) (s : State) : Host.Outcome State Fault Refusal :=
  .next ((s.accept (Reg.DMA.DMA_CMD ch.val) Fld.DMA.DMA_CMD.enable_go).dmaEnable ch.val).2

/-- DMA_DISABLE (R466): the sink buffer drains first. -/
def State.dmaDisable (s : State) (ch : Nat) : State :=
  if s.dmaState ch = 0 then s
  else
    let s : State := (s.setDmaState ch 5)
    if (s.channel ch).items.isEmpty then s.dmaOff ch
    else if (itemAt (s.channel ch).items (s.channel ch).next).isNone then s.bufFlush ch else s

def execDmaDisable (ch : Fin 64) (s : State) : Host.Outcome State Fault Refusal :=
  .next ((s.accept (Reg.DMA.DMA_CMD ch.val) Fld.DMA.DMA_CMD.disable_go).dmaDisable ch.val)

/-- DMA_PROMOTE (R459). -/
def execDmaPromote (ch : Fin 64) (s : State) : Host.Outcome State Fault Refusal :=
  let s : State := s.accept (Reg.DMA.DMA_CMD ch.val) Fld.DMA.DMA_CMD.promote_go
  .next ((s.setFld (Reg.DMA.DMA_STATE ch.val) Fld.DMA.DMA_STATE.shadow_valid 1).tryPromote ch.val)

/-- DMA_RESUME (R458). -/
def execDmaResume (ch : Fin 64) (s : State) : Host.Outcome State Fault Refusal :=
  let s : State := s.accept (Reg.DMA.DMA_CMD ch.val) Fld.DMA.DMA_CMD.resume_go
  .next (if s.dmaState ch.val = 4 then (s.setDmaState ch.val 1).tryPromote ch.val else s)

end Sys2Proof.Machine
end

