-- ==== Sys2Proof/Machine/Disks.lean ====
section
/-! DEFINITION. Drives and disk streams (R468 to R487): attaching, formatting and measuring drives, extents and their journal,
wear, loss and retirement, and reading back. -/

namespace Sys2Proof.Machine

def State.setDrvState (s : State) (d v : Nat) : State := s.setFld (Reg.STOR.DRV_STATE d) Fld.STOR.DRV_STATE.state v
def State.setDsState (s : State) (n v : Nat) : State := s.setFld (Reg.STOR.DS_STATE n) Fld.STOR.DS_STATE.state v
def State.setId (s : State) : Nat := s.reg64 Reg.STOR.STOR_SETID_LO Reg.STOR.STOR_SETID_HI

/-- A partition (first slot, slot count) of a drive for a disk stream. -/
def State.part (s : State) (d n : Nat) : Nat × Nat := (s.drive d).parts.getD n (0, 0)

/-- Payload bytes of an extent (R471). -/
def extentPayload : Nat := 4190208

/-! ## Drives that come up -/

/-- The lanes that a bifurcation gives a slot; 0 for a slot it does not use (R468). -/
def State.slotLanes (s : State) (d : Nat) : Nat :=
  let b := if d < 4 then s.fld Reg.STOR.STOR_CFG Fld.STOR.STOR_CFG.bif0 else s.fld Reg.STOR.STOR_CFG Fld.STOR.STOR_CFG.bif1
  match b with
  | 0 => if d % 4 = 0 then 16 else 0
  | 1 => if d % 2 = 0 then 8 else 0
  | 2 => 4
  | _ => 0

/-- The extent slots of a namespace of some blocks. -/
def slotsOf (blocks : Nat) : Nat := (blocks - 16386) / 1024

/-- DRV_REFUSED (R469, R470). -/
def State.drvRefuse (s : State) (d reason : Nat) : State :=
  let s : State := s.setFld (Reg.STOR.DRV_STATE d) Fld.STOR.DRV_STATE.reason reason
  (s.setSta (Reg.STOR.DRV_STA d) Fld.STOR.DRV_STA.REFUSED).raise Ev.STOR.DRV_REFUSED (d + 256 * reason)

/-- DRIVE_LINK_UP (R468, R469): a drive of an empty or lost slot comes up. -/
def execDriveLinkUp (d : Fin 8) (gen : BitVec 2) (width : BitVec 5) (lbaSize : Nat) (metadata : Bool) (blocks : Nat) (s : State) :
    Host.Outcome State Fault Refusal :=
  let d := d.val
  let st := Reg.STOR.DRV_STATE d
  let fits := decide (2 ≤ gen.toNat) && [1, 2, 4, 8, 16].contains width.toNat && decide (width.toNat ≤ s.slotLanes d)
  if !s.blockOn 17 || !(decide (s.drvState d = 0) || decide (s.drvState d = 6)) || !fits then .next s
  else
    let s : State := ((s.setFld st Fld.STOR.DRV_STATE.gen gen.toNat).setFld st Fld.STOR.DRV_STATE.width width.toNat).setFld st
      Fld.STOR.DRV_STATE.reason 0
    let s : State := (s.setDrive d { Drive.blank with blocks := blocks }).setDrvState d 1
    .next (if lbaSize ≠ 4096 then s.drvRefuse d 1
      else if metadata then s.drvRefuse d 2
      else if slotsOf blocks < 64 then s.drvRefuse d 3
      else (s.setReg (Reg.STOR.DRV_SLOTS d) (BitVec.ofNat 32 (slotsOf blocks))).setDrvState d 3)

/-! ## Labels, attach, format and measurement -/

/-- A label's bytes before its CRC. -/
def State.labelBody (s : State) (d : Nat) : List Byte × State :=
  let slots := (s.reg (Reg.STOR.DRV_SLOTS d)).toNat
  let (n, s) := s.draw
  let parts := (List.range 16).flatMap (fun i =>
    let p := Config.partition d slots i
    leBytes 4 p.1 ++ leBytes 4 p.2)
  let l := ([0x4C, 0x55, 0x41, 0x53, 1] : List Byte) ++ leBytes 1 (Config.freeNat 67 n % 256) ++
    leBytes 1 (Config.freeNat 68 n % 256) ++ [0] ++ leBytes 8 s.setId ++ leBytes 4 slots ++ parts
  (bytesAt l 0 4092, s)

/-- A block with the CRC-32C of its bytes 0 to 4,091 at its end. -/
def sealBlock (l : List Byte) : List Byte := l ++ leBytes 4 (crc32c l).toNat

def blockSealed (l : List Byte) : Bool := decide (leAt l 4092 4 = (crc32c (bytesAt l 0 4092)).toNat)

/-- Whether a label is whole, and whether it carries the module's set ID (R470). -/
def labelWhole (l : List Byte) : Bool := decide (l.take 5 = [0x4C, 0x55, 0x41, 0x53, 1]) && blockSealed l

/-- A journal entry is whole (R473). -/
def journalWhole (l : List Byte) : Bool :=
  decide (leAt l 0 2 = 0x4A45) && decide (leAt l 60 4 = (crc32c (bytesAt l 0 60)).toNat)

/-- Journal entries in ascending count. -/
def insertEntry (x : List Byte) : List (List Byte) → List (List Byte)
  | [] => [x]
  | y :: t => if leAt x 48 8 < leAt y 48 8 then x :: y :: t else y :: insertEntry x t

/-- The extents that hold data, after one more journal entry: disk stream, slot and seq, oldest first. -/
def replayEntry (valid : List (Nat × Nat × Nat)) (e : List Byte) : List (Nat × Nat × Nat) :=
  let rest := valid.filter (fun v => v.2.1 ≠ leAt e 12 4)
  if leAt e 2 1 = 1 then rest ++ [(leAt e 3 1, leAt e 12 4, leAt e 4 8)] else rest

/-- A stream's rotation resumed after a COMMIT entry of drive `d` (R473). -/
def State.resumeRotation (s : State) (d : Nat) (e : List Byte) : State :=
  let n := leAt e 3 1
  let q := leAt e 4 8
  if leAt e 2 1 ≠ 1 || decide (16 ≤ n) || decide (s.dsState n ≠ 0) then s
  else if s.reg64 (Reg.STOR.DS_SEQ_LO n) (Reg.STOR.DS_SEQ_HI n) ≤ q then
    (s.setReg64 (Reg.STOR.DS_SEQ_LO n) (Reg.STOR.DS_SEQ_HI n) (q + 1)).setDisk n { s.disk n with last := some d }
  else s

/-- ATTACH_GO (R470, R473, R477, R481): a READY drive with a good label of the set joins it and is measured. -/
def execAttachGo (d : Fin 8) (labels journal : List (List Byte)) (s : State) : Host.Outcome State Fault Refusal :=
  let d := d.val
  let s : State := s.accept (Reg.STOR.DRV_CMD d) Fld.STOR.DRV_CMD.attach_go
  let good := labels.filter labelWhole
  if s.drvState d ≠ 3 then .next s
  else match good, good.find? (fun l => leAt l 8 8 = s.setId) with
    | [], _ => .next (s.drvRefuse d 4)
    | _, none => .next (s.drvRefuse d 5)
    | _, some l =>
      let es := (journal.filter (fun e => journalWhole e && decide (leAt e 16 8 = s.setId))).foldl (fun a e => insertEntry e a) []
      let count := (es.getLast?.map (fun e => leAt e 48 8 + 1)).getD 0
      let parts := (List.range 16).map (fun i => (leAt l (20 + 8 * i) 4, leAt l (24 + 8 * i) 4))
      let s : State := s.setDrive d { s.drive d with parts := parts, count := count, valid := es.foldl replayEntry [] }
      let s : State := s.setReg (Reg.STOR.DRV_SLOTS d) (BitVec.ofNat 32 (leAt l 16 4))
      let s : State := es.foldl (fun s e => s.resumeRotation d e) s
      .next (((s.setFld (Reg.STOR.DRV_STATE d) Fld.STOR.DRV_STATE.reason 0).setDrvState d 2).raise Ev.STOR.DRV_ATTACHED d)

/-- FORMAT_GO (R470, R485): both labels are written and the journal is zeroed; the streams that name the drive start again from
extent 0. -/
def execFormatGo (d : Fin 8) (s : State) : Host.Outcome State Fault Refusal :=
  let d := d.val
  let s : State := s.accept (Reg.STOR.DRV_CMD d) Fld.STOR.DRV_CMD.format_go
  if s.drvState d = 4 then .next (s.setSta (Reg.STOR.DRV_STA d) Fld.STOR.DRV_STA.REFUSED)
  else if s.drvState d ≠ 3 then .next s
  else
    let (l, s) := s.labelBody d
    let s : State := ((s.emit (.driveWrite d 0 (sealBlock l))).emit (.driveWrite d 1 (sealBlock l))).emit
      (.driveWrite d 2 (List.replicate 0x4000000 0))
    .next ((List.range 16).foldl (fun s n =>
      if s.dsState n = 0 && (s.fld (Reg.STOR.DS_CFG n) Fld.STOR.DS_CFG.drives).testBit d then
        (s.setReg64 (Reg.STOR.DS_SEQ_LO n) (Reg.STOR.DS_SEQ_HI n) 0).setDisk n { s.disk n with last := none }
      else s) s)

/-- MEASURE_GO (R477). -/
def execMeasureGo (d : Fin 8) (s : State) : Host.Outcome State Fault Refusal :=
  let s : State := s.accept (Reg.STOR.DRV_CMD d.val) Fld.STOR.DRV_CMD.measure_go
  .next (if s.drvState d.val = 3 then s.setDrvState d.val 2 else s)

/-- MEASURE_END (R477): a drive measured after its attach is then IN_SET, one measured by command READY. -/
def execMeasureEnd (d : Fin 8) (mbs : Word) (s : State) : Host.Outcome State Fault Refusal :=
  let d := d.val
  .next (if s.drvState d = 2 then
    (s.setReg (Reg.STOR.DRV_RATE d) mbs).setDrvState d (if (s.drive d).parts.isEmpty then 3 else 4)
  else s)

/-! ## The journal -/

/-- The entries being collected written with Force Unit Access (R472). The block's place in the ring is not stated. -/
def State.flushJournal (s : State) (d : Nat) : State :=
  let v := s.drive d
  if v.block.isEmpty then s
  else
    let (n, s) := s.draw
    let s : State := s.emit (.driveWrite d (2 + Config.freeNat 71 n % 16384) (bytesAt (v.block.flatMap (·.bytes)) 0 4096))
    s.setDrive d { v with block := [], flight := v.flight ++ [v.block] }

/-- A journal entry added; a full block of 64 is written. -/
def State.journal (s : State) (d type n seq slot : Nat) (stamps : List Byte) (hcrc : Nat) : State :=
  let v := s.drive d
  let l := leBytes 2 0x4A45 ++ leBytes 1 type ++ leBytes 1 n ++ leBytes 8 seq ++ leBytes 4 slot ++ leBytes 8 s.setId ++
    bytesAt stamps 0 24 ++ leBytes 8 v.count ++ leBytes 4 hcrc
  let e : JournalEntry :=
    { type := type, ds := n, seq := seq, slot := slot, bytes := l ++ leBytes 4 (crc32c l).toNat }
  let s : State := s.setDrive d { v with block := v.block ++ [e], count := v.count + 1 }
  if 64 ≤ v.block.length + 1 then s.flushJournal d else s

/-- JOURNAL_FLUSH (R472): 1 ms after the first entry of a block. -/
def execJournalFlush (d : Fin 8) (s : State) : Host.Outcome State Fault Refusal :=
  .next (if s.drvState d.val = 4 then s.flushJournal d.val else s)

/-! ## Extents -/

/-- The next drive of a stream's rotation. -/
def State.nextDrive (s : State) (n : Nat) : Option Nat :=
  let l := s.diskDrives n
  match (s.disk n).last with
  | none => l.head?
  | some k => match l.find? (fun d => k < d) with
    | some d => some d
    | none => l.head?

/-- Whether an extent holds a slot of a drive, written or committed. -/
def State.slotUsed (s : State) (d n slot : Nat) : Bool :=
  (s.drive d).valid.any (fun v => v.2.1 = slot) ||
    (s.disk n).written.any (fun e => decide (e.drive = d) && decide (e.slot = slot))

/-- The slot after the last one that a stream wrote on a drive, or its partition's first. -/
def State.slotStart (s : State) (d n : Nat) : Nat :=
  let (first, count) := s.part d n
  let last := match ((s.disk n).written.filter (fun e => e.drive = d)).getLast? with
    | some e => some e.slot
    | none => ((s.drive d).valid.filter (fun v => v.1 = n)).getLast?.map (fun v => v.2.1)
  match last with
  | some k => if k + 1 < first + count then k + 1 else first
  | none => first

/-- A free slot of a stream's partition on a drive, from the one after the last written upward and around (R472, R474). -/
def State.freeSlot (s : State) (d n : Nat) : Option Nat :=
  let (first, count) := s.part d n
  let start := s.slotStart d n
  let l := (List.range count).map (fun i => first + (start - first + i) % max 1 count)
  l.find? (fun k => !s.slotUsed d n k)

/-- A slot to write on a drive, or in ring mode a FREE entry for the oldest slot, whose block must complete first (R474). -/
def State.takeSlot (s : State) (d n : Nat) : Option Nat × State :=
  match s.freeSlot d n with
  | some k => (some k, s)
  | none =>
    if s.flag (Reg.STOR.DS_CFG n) Fld.STOR.DS_CFG.mode then (none, s)
    else match (s.drive d).valid.find? (fun v => v.1 = n) with
      | none => (none, s)
      | some (_, slot, seq) =>
        let v := s.drive d
        if (v.block ++ v.flight.flatten).any (fun e => decide (e.type = 2) && decide (e.slot = slot)) then (none, s)
        else
          let (k, s) := s.draw
          (none, s.journal d 2 n seq slot (leBytes 24 (Config.freeNat 70 (2 * k))) (Config.freeNat 70 (2 * k + 1) % 2 ^ 32))

/-- The items of a staging buffer with where each starts, counted from the buffer's first byte. -/
def itemStarts : List FlowItem → Nat → List (FlowItem × Nat)
  | [], _ => []
  | x :: t, o => (x, o) :: itemStarts t (o + pad8 x.bytes.length)

/-- The items left and the bytes placed of the first of them, once `p` bytes are placed. -/
def placeItems : List FlowItem → Nat → List FlowItem × Nat
  | [], _ => ([], 0)
  | x :: t, p => if pad8 x.bytes.length ≤ p then placeItems t (p - pad8 x.bytes.length) else (x :: t, p)

/-- An extent's header and payload, with the extent's sequence number (R471, R476). The stamps of an extent in which no item
starts are not stated. -/
def State.makeExtent (s : State) (n drive slot seq : Nat) (full : Bool) (bad : List Nat) : Extent × Nat × State :=
  let d := s.disk n
  let all := d.items.flatMap (fun x => padTo8 x.bytes)
  let used := min extentPayload (all.length - d.placed)
  let hit := bad.any (fun i => decide (i < used))
  let payload := ((all.drop d.placed).take used).zipIdx.map (fun e => if bad.contains e.2 then (0 : Byte) else e.1)
  let at_ := itemStarts d.items 0
  let starts := at_.filter (fun e => decide (d.placed ≤ e.2) && decide (e.2 < d.placed + used))
  let ends := at_.filter (fun e =>
    decide (d.placed < e.2 + e.1.bytes.length) && decide (e.2 + e.1.bytes.length ≤ d.placed + used))
  let (k, s) := s.draw
  let stamp (i : Nat) (x : Option FlowItem) (f : FlowItem → Nat) : Nat :=
    (x.map f).getD (Config.freeNat 69 (4 * k + i) % 2 ^ 64)
  let a := starts.head?.map (·.1)
  let z := starts.getLast?.map (·.1)
  let flags := bit hit + 2 * bit (full || ends.any (fun e => e.1.ovf)) + 4 * bit full + 16 * bit d.loss +
    32 * bit (decide (d.placed ≠ 0))
  let l := ([0x4C, 0x55, 0x45, 0x58, 1] : List Byte) ++ leBytes 1 n ++ leBytes 1 ((a.map (·.stream)).getD 0) ++
    leBytes 1 ((d.items.head?.map (·.kind)).getD 0) ++ leBytes 8 seq ++ leBytes 8 s.setId ++
    leBytes 8 (stamp 0 a (·.tbs)) ++ leBytes 8 (stamp 1 z (·.tbs)) ++ leBytes 8 (stamp 2 a (·.tbw)) ++
    leBytes 8 (stamp 3 z (·.tbw)) ++ leBytes 4 used ++
    leBytes 4 ((starts.head?.map (fun e => e.2 - d.placed)).getD 0xFFFFFFFF) ++ leBytes 4 starts.length ++ leBytes 2 flags ++
    leBytes 2 0 ++ leBytes 4 d.lost ++ leBytes 4 (crc32c payload).toNat
  let e : Extent :=
    { ds := n, seq := seq, drive := drive, slot := slot, header := sealBlock (bytesAt l 0 4092), payload := payload }
  (e, used, s)

/-- An extent written whole to its drive, with its COMMIT entry (R472). -/
def State.putExtent (s : State) (e : Extent) : State :=
  let s : State := s.emit (.driveWrite e.drive (16386 + 1024 * e.slot) (e.header ++ e.payload))
  let s : State := s.count64 (Reg.STOR.DRV_WRITTEN_LO e.drive) (Reg.STOR.DRV_WRITTEN_HI e.drive) 1
  let d := s.disk e.ds
  let s : State := s.setDisk e.ds { d with
    written := d.written.filter (fun x => x.seq ≠ e.seq) ++ [e], last := some e.drive }
  s.journal e.drive 1 e.ds e.seq e.slot (bytesAt e.header 24 24) (leAt e.header 4092 4)

/-- An extent whose drive is gone written again to the next drive (R480). -/
def State.rewriteExtent (s : State) (e : Extent) : State :=
  match s.nextDrive e.ds with
  | none => s
  | some d =>
    match s.takeSlot d e.ds with
    | (none, s) => s
    | (some slot, s) =>
      let h := setItemBits (bytesAt e.header 0 4092) 68 2 8
      (s.count (Reg.STOR.DS_REWRITE_CNT e.ds) 1).putExtent { e with drive := d, slot := slot, header := sealBlock h }

/-- The extents of a stream whose drive has left the set before they were committed. -/
def State.stranded (s : State) (n : Nat) : List Extent := (s.disk n).written.filter (fun e => s.drvState e.drive ≠ 4)

/-- FULL (R474): the items that remain are discarded. -/
def State.diskFull (s : State) (n : Fin 16) : State :=
  let left := (s.disk n.val).items.length
  let s : State := s.setDisk n.val { s.disk n.val with items := [], placed := 0 }
  let s : State := if left = 0 then s else s.flowDrop (.disk n) left
  ((s.setDsState n.val 3).setSta (Reg.STOR.DS_STA n.val) Fld.STOR.DS_STA.FULL).blkEvent 17 10 Ev.STOR.DS_FULL n.val

/-- A stream that has drained goes OFF. -/
def State.diskDrained (s : State) (n : Nat) : State :=
  if s.dsState n = 4 && (s.disk n).items.isEmpty && (s.disk n).written.isEmpty then
    let s : State := { s with ink := { s.ink with sinks := s.ink.sinks.filter (fun e => e.1 ≠ 64 + n) } }
    (s.setDsState n 0).reportFill (.disk n)
  else s

/-- Whether an extent is due: a full payload, or what is left of a draining stream. -/
def State.extentDue (s : State) (n : Nat) : Bool :=
  let d := s.disk n
  let have_ := (d.items.map (fun x => pad8 x.bytes.length)).sum - d.placed
  if s.dsState n = 4 then decide (0 < have_)
  else (decide (s.dsState n = 1) || decide (s.dsState n = 2)) && decide (extentPayload ≤ have_)

/-- A new extent formed and written to drive `drive` (R471, R472, R474, R476). -/
def State.newExtent (s : State) (n : Fin 16) (drive slot : Nat) (bad : List Nat) : State :=
  let i := n.val
  let seq := s.reg64 (Reg.STOR.DS_SEQ_LO i) (Reg.STOR.DS_SEQ_HI i)
  let after : State := s.setDisk i { s.disk i with
    last := some drive,
    written := (s.disk i).written ++ [⟨i, seq, drive, slot, [], []⟩] }
  let full := s.flag (Reg.STOR.DS_CFG i) Fld.STOR.DS_CFG.mode &&
    (match after.nextDrive i with
      | some d => (after.freeSlot d i).isNone
      | none => false)
  let (e, used, s) := s.makeExtent i drive slot seq full bad
  let d := s.disk i
  let (items, placed) := placeItems d.items (d.placed + used)
  let s : State := s.setDisk i { d with items := items, placed := placed, lost := 0, loss := false }
  let s : State := (s.putExtent e).setReg64 (Reg.STOR.DS_SEQ_LO i) (Reg.STOR.DS_SEQ_HI i) (seq + 1)
  let s : State := if bad.any (fun k => decide (k < used)) then
      ((s.count (Reg.STOR.DS_POISON_CNT i) 1).setSta (Reg.STOR.DS_STA i) Fld.STOR.DS_STA.POISON).blkEvent 17 11 Ev.STOR.DS_POISON i
    else s
  if full && decide (s.dsState i ≠ 4) then s.diskFull n else s

/-- EXTENT_WRITE (R472): an extent stranded by a loss first, else a new one when it is due. In ring mode on a full partition the FREE entry
is written instead (R474). -/
def execExtentWrite (n : Fin 16) (bad : List Nat) (s : State) : Host.Outcome State Fault Refusal :=
  let i := n.val
  match s.stranded i with
  | e :: _ => .next ((s.rewriteExtent e).reportFill (.disk i))
  | [] =>
    if !s.extentDue i then .next s
    else match s.nextDrive i with
      | none => .next s
      | some d =>
        match s.takeSlot d i with
        | (some slot, s) => .next ((s.newExtent n d slot bad).reportFill (.disk i))
        | (none, s) =>
          .next (if s.flag (Reg.STOR.DS_CFG i) Fld.STOR.DS_CFG.mode && decide (s.dsState i ≠ 4) then
            (s.diskFull n).reportFill (.disk i) else s)

/-! ## Retirement, completion and loss -/

/-- Whether an extent of some stream waits for its COMMIT block on a drive. -/
def State.inHand (s : State) (d : Nat) : Bool :=
  (List.range 16).any (fun n => (s.disk n).written.any (fun e => e.drive = d))

/-- RETIRED (R479), once the extents in hand are committed. -/
def State.drvRetire (s : State) (d : Nat) : State :=
  if s.inHand d then s.setDrive d { s.drive d with retiring := true }
  else
    let s : State := s.setDrive d { s.drive d with retiring := false }
    ((s.setDrvState d 5).setSta (Reg.STOR.DRV_STA d) Fld.STOR.DRV_STA.RETIRED).blkEvent 17 9 Ev.STOR.DRV_RETIRED d

/-- One completed journal entry: a COMMIT frees its extent's staging, a FREE frees its slot. -/
def State.entryDone (s : State) (d : Nat) (e : JournalEntry) : State :=
  let v := s.drive d
  let rest := v.valid.filter (fun x => x.2.1 ≠ e.slot)
  if e.type = 2 then s.setDrive d { v with valid := rest }
  else
    let k := s.disk e.ds
    let s : State := s.setDrive d { v with valid := rest ++ [(e.ds, e.slot, e.seq)] }
    s.setDisk e.ds { k with written := k.written.filter (fun x => x.seq ≠ e.seq || x.drive ≠ d) }

/-- JOURNAL_BLOCK_DONE (R472). -/
def execJournalBlockDone (d : Fin 8) (s : State) : Host.Outcome State Fault Refusal :=
  let d := d.val
  match (s.drive d).flight with
  | [] => .next s
  | b :: t =>
    if s.drvState d ≠ 4 then .next s
    else
      let s : State := s.setDrive d { s.drive d with flight := t }
      let s : State := b.foldl (fun s e => s.entryDone d e) s
      let s : State := (List.range 16).foldl (fun s n =>
        if s.dsState n = 0 then s else (s.reportFill (.disk n)).diskDrained n) s
      .next (if (s.drive d).retiring then s.drvRetire d else s)

/-- RETIRE_GO (R479). -/
def execRetireGo (d : Fin 8) (s : State) : Host.Outcome State Fault Refusal :=
  let s : State := s.accept (Reg.STOR.DRV_CMD d.val) Fld.STOR.DRV_CMD.retire_go
  .next (if s.drvState d.val = 3 || s.drvState d.val = 4 then s.drvRetire d.val else s)

/-- DETACH_GO (R485). -/
def execDetachGo (d : Fin 8) (s : State) : Host.Outcome State Fault Refusal :=
  let d := d.val
  let s : State := s.accept (Reg.STOR.DRV_CMD d) Fld.STOR.DRV_CMD.detach_go
  let named := (List.range 16).any (fun n =>
    decide (s.dsState n ≠ 0) && (s.fld (Reg.STOR.DS_CFG n) Fld.STOR.DS_CFG.drives).testBit d)
  if named then .next (s.setSta (Reg.STOR.DRV_STA d) Fld.STOR.DRV_STA.REFUSED)
  else if s.drvState d = 4 then
    .next ((s.setDrive d { s.drive d with parts := [], valid := [], block := [], flight := [] }).setDrvState d 3)
  else .next s

/-- DRV_LOST (R480, R482): the drive's extents not committed are written again elsewhere. -/
def execDrvLost (d : Fin 8) (timeout : Bool) (s : State) : Host.Outcome State Fault Refusal :=
  let d := d.val
  if s.drvState d = 0 || s.drvState d = 6 then .next s
  else
    let st := Reg.STOR.DRV_STATE d
    let s : State := if timeout then s.count (Reg.STOR.DRV_TIMEOUT_CNT d) 1 else s
    let s : State := (s.setDrive d Drive.blank).setDrvState d 6
    let s : State := (s.setFld st Fld.STOR.DRV_STATE.gen 0).setFld st Fld.STOR.DRV_STATE.width 0
    let s : State := (s.setSta (Reg.STOR.DRV_STA d) Fld.STOR.DRV_STA.LOST).blkEvent 17 8 Ev.STOR.DRV_LOST d
    .next ((List.range 16).foldl (fun s n => (s.stranded n).foldl (fun s e => s.rewriteExtent e) s) s)

/-- WEAR_READ (R479). -/
def execWearRead (d : Fin 8) (used crit : Byte) (s : State) : Host.Outcome State Fault Refusal :=
  let d := d.val
  if !(decide (3 ≤ s.drvState d) && decide (s.drvState d ≤ 5)) then .next s
  else
    let w := Reg.STOR.DRV_WEAR d
    let changed := decide (crit.toNat ≠ 0) && decide (s.fld w Fld.STOR.DRV_WEAR.crit ≠ crit.toNat)
    let reached := !(s.drive d).warned && decide (s.fld Reg.STOR.STOR_WEAR Fld.STOR.STOR_WEAR.warn ≤ used.toNat)
    let s : State := (s.setFld w Fld.STOR.DRV_WEAR.used used.toNat).setFld w Fld.STOR.DRV_WEAR.crit crit.toNat
    let s : State := if reached then s.setDrive d { s.drive d with warned := true } else s
    let s : State := if reached || changed then
        (s.setSta (Reg.STOR.DRV_STA d) Fld.STOR.DRV_STA.WEAR_WARN).raise Ev.STOR.DRV_WEAR_WARN (d + 256 * crit.toNat)
      else s
    .next (if s.drvState d ≠ 5 && decide (s.fld Reg.STOR.STOR_WEAR Fld.STOR.STOR_WEAR.retire ≤ used.toNat) then s.drvRetire d else s)

/-- DRV_SLOW (R478): a drive below its admitted load for 1 s stays in rotation. -/
def execDrvSlow (d : Fin 8) (s : State) : Host.Outcome State Fault Refusal :=
  .next (if s.drvState d.val = 4 then
    (s.setSta (Reg.STOR.DRV_STA d.val) Fld.STOR.DRV_STA.SLOW).blkEvent 17 12 Ev.STOR.DRV_SLOW d.val
  else s)

/-! ## Disk streams -/

/-- Whether a template that is not OFF sends its records to a disk stream. -/
def State.diskTemplates (s : State) (n : Nat) : Bool :=
  (List.range 64).any (fun t => decide (s.fld (Reg.REC.TPL_STATE t) Fld.REC.TPL_STATE.state ≠ 0) &&
    s.flag (Reg.REC.TPL_CFG t) Fld.REC.TPL_CFG.disk_en && decide (s.fld (Reg.REC.TPL_CFG t) Fld.REC.TPL_CFG.disk = n))

/-- DS_ENABLE (R475, R486): whether it is refused, and the state after. -/
def State.dsEnable (s : State) (n : Fin 16) : Bool × State :=
  let i := n.val
  if !s.blockOn 17 then (true, s)
  else if s.dsState i ≠ 0 then (false, s)
  else
    let size := s.fld (Reg.STOR.DS_CFG i) Fld.STOR.DS_CFG.buf_mib * 2 ^ 20
    if (s.flag (Reg.STOR.DS_SRC i) Fld.STOR.DS_SRC.pair_en && s.diskTemplates i) ||
        decide (s.ink.outage.2 < s.buffersTaken (.disk i) + size) then
      (true, s.setSta (Reg.STOR.DS_STA i) Fld.STOR.DS_STA.REFUSED)
    else
      let s : State := (s.commitScope ⟨.diskStream, i⟩).setFlow (.disk n) Flow.fresh
      let s : State := s.setDisk i { DiskRun.idle with last := (s.disk i).last }
      (false, (s.setFld (Reg.STOR.DS_STATE i) Fld.STOR.DS_STATE.throttle 0).setDsState i 1)

def execDsEnable (n : Fin 16) (s : State) : Host.Outcome State Fault Refusal :=
  .next ((s.accept (Reg.STOR.DS_CMD n.val) Fld.STOR.DS_CMD.enable_go).dsEnable n).2

/-- DS_DISABLE (R486): staging drains first. -/
def State.dsDisable (s : State) (n : Nat) : State :=
  if s.dsState n = 0 then s else (s.setDsState n 4).diskDrained n

def execDsDisable (n : Fin 16) (s : State) : Host.Outcome State Fault Refusal :=
  .next ((s.accept (Reg.STOR.DS_CMD n.val) Fld.STOR.DS_CMD.disable_go).dsDisable n.val)

/-- DS_RESTART (R476, R486): no effect but in STOPPED. -/
def State.dsRestart (s : State) (n : Fin 16) : State :=
  if s.dsState n.val ≠ 2 then s
  else
    let s : State := s.setFlow (.disk n) { s.flow (.disk n) with stopped := false }
    (s.setDisk n.val { s.disk n.val with loss := true }).setDsState n.val 1

def execDsRestart (n : Fin 16) (s : State) : Host.Outcome State Fault Refusal :=
  .next ((s.accept (Reg.STOR.DS_CMD n.val) Fld.STOR.DS_CMD.restart_go).dsRestart n)

/-! ## Reading back -/

/-- Where a read-back goes: its first byte and its bytes. -/
def State.readTarget (s : State) : Nat × Nat :=
  (s.fld Reg.STOR.RD_DST Fld.STOR.RD_DST.dst * 4096, (s.fld Reg.STOR.RD_CFG Fld.STOR.RD_CFG.count + 1) * 4096)

/-- Whether a read-back is refused (R483): the buffers lie from the region's base upward (R436). -/
def State.readRefused (s : State) : Bool :=
  let (a, n) := s.readTarget
  let st := s.drvState (s.fld Reg.STOR.RD_CFG Fld.STOR.RD_CFG.drive)
  decide (a / 4096 % 7 ≠ 0) || decide (a < s.ink.outage.1 + s.buffersTaken .none) || decide (s.ink.outage.1 + s.ink.outage.2 < a + n) ||
    !(decide (3 ≤ st) && decide (st ≤ 5))

/-- READ_GO (R483). -/
def execReadGo (s : State) : Host.Outcome State Fault Refusal :=
  let s : State := s.accept Reg.STOR.STOR_CMD Fld.STOR.STOR_CMD.read_go
  let rd := Reg.STOR.RD_STATE
  if s.flag rd Fld.STOR.RD_STATE.busy then .next (s.busyDrop 17 (s.issuer Reg.STOR.STOR_CMD))
  else
    let s : State := s.commitRegs 17 [Reg.STOR.RD_LBA_LO, Reg.STOR.RD_LBA_HI, Reg.STOR.RD_CFG, Reg.STOR.RD_DST]
    let no := s.readRefused
    .next (((s.setFld rd Fld.STOR.RD_STATE.refused (bit no)).setFld rd Fld.STOR.RD_STATE.busy (bit (!no))).setFld rd
      Fld.STOR.RD_STATE.error 0)

/-- A read-back's end. -/
def State.readEnd (s : State) (error : Bool) : State :=
  let rd := Reg.STOR.RD_STATE
  let s : State := (s.setFld rd Fld.STOR.RD_STATE.busy 0).setFld rd Fld.STOR.RD_STATE.error (bit error)
  s.raise Ev.STOR.READ_DONE (s.fld Reg.STOR.RD_CFG Fld.STOR.RD_CFG.drive)

/-- READ_DONE (R483): the copy, or none after a drive error. -/
def execReadDone (data : Option (List Byte)) (s : State) : Host.Outcome State Fault Refusal :=
  if !s.flag Reg.STOR.RD_STATE Fld.STOR.RD_STATE.busy then .next s
  else
    let (a, n) := s.readTarget
    match data with
    | some l => .next ((s.inkStore 9 a (bytesAt l 0 n)).readEnd false)
    | none => .next (s.readEnd true)

end Sys2Proof.Machine
end

