-- ==== Sys2Proof/Machine/Placement.lean ====
section
/-! DEFINITION. Where the Steward places the regions of the Inkwell (R332, R404, R418), and the pools it takes for a redirected
channel (R434 to R436). -/

namespace Sys2Proof.Machine

/-- 28 KiB: 512 cells (R418). -/
def placeUnit : Nat := 28672

def upToUnit (n : Nat) : Nat := ceilDiv n placeUnit * placeUnit

/-! ## Gaps -/

/-- Whether a region meets another. -/
def meets (a b : Nat × Nat) : Bool := decide (a.1 < b.1 + b.2) && decide (b.1 < a.1 + a.2)

/-- The lowest multiple of 28 KiB at which a region of some bytes meets none of the given ones and stays in the user
allocation. -/
def lowestGap (taken : List (Nat × Nat)) (n : Nat) : Option Nat :=
  let starts := 0 :: taken.map (fun e => upToUnit (e.1 + e.2))
  let ok := starts.filter (fun a => decide (a + n ≤ inkUser) && !taken.any (fun e => decide (e.2 ≠ 0) && meets (a, n) e))
  match ok with
  | [] => none
  | a :: t => some (t.foldl min a)

/-- The bytes free from a place upward to the next region or the end of the user allocation. -/
def gapAt (taken : List (Nat × Nat)) (a : Nat) : Nat :=
  if taken.any (fun e => decide (e.1 ≤ a) && decide (a < e.1 + e.2)) then 0
  else taken.foldl (fun m e => if a ≤ e.1 && decide (e.2 ≠ 0) then min m (e.1 - a) else m) (inkUser - a)

/-- The bytes of the greatest gap. -/
def greatestGap (taken : List (Nat × Nat)) : Nat :=
  (0 :: taken.map (fun e => upToUnit (e.1 + e.2))).foldl (fun m a => max m (gapAt taken a)) 0

/-! ## Regions -/

/-- The pieces of a pool. -/
def State.poolPieces (s : State) : List (Nat × Nat) := (s.ink.redirect.map (·.2)).getD []

/-- The INK_SPACE allocations of admitted programs. -/
def State.allocations (s : State) : List (Nat × Nat) :=
  (List.range 12).filterMap (fun k =>
    let n := s.nib k
    if n.state = .empty || n.inkMiB = 0 then none else some (n.inkBase, n.inkMiB * 2 ^ 20))

/-- The display area in bytes. -/
def State.displayArea (s : State) : Nat × Nat :=
  (s.fld Reg.DISP.DISP_AREA_BASE Fld.DISP.DISP_AREA_BASE.base * 4096, s.fld Reg.DISP.DISP_AREA_LEN Fld.DISP.DISP_AREA_LEN.len * 4096)

def State.setDisplayArea (s : State) (r : Nat × Nat) : State :=
  (s.setFld Reg.DISP.DISP_AREA_BASE Fld.DISP.DISP_AREA_BASE.base (r.1 / 4096)).setFld Reg.DISP.DISP_AREA_LEN
    Fld.DISP.DISP_AREA_LEN.len (r.2 / 4096)

def State.displaySize (s : State) : Nat := s.fld Reg.DISP.DISP_AREA_REQ Fld.DISP.DISP_AREA_REQ.mib * 2 ^ 20

/-- The size of the host-outage buffer after the next admission (R453, R464). -/
def State.outageSize (s : State) : Nat := s.stagedFld Reg.HOSTQ.HQ_OUTAGE Fld.HOSTQ.HQ_OUTAGE.gib * 2 ^ 30

/-- The bytes of the user allocation that admission counts with (R434). -/
def State.userBytes (s : State) : Nat := s.fld Reg.INK.INK_CAP Fld.INK.INK_CAP.user_gib * 2 ^ 30

/-- The display area and the host-outage buffer placed for an admission (R418): both anew where no program is admitted (`anew`) or
where their size changes, else where they are. `extra` holds the new program's allocation. -/
def State.placeAreas (s : State) (anew : Bool) (extra : List (Nat × Nat)) : State :=
  let fixed := s.poolPieces ++ s.allocations ++ extra
  let d := s.displayArea
  let o := s.ink.outage
  let dNew := anew || decide (d.2 ≠ s.displaySize)
  let oNew := anew || (decide (o.2 ≠ s.outageSize) && s.ink.redirect.isNone)
  let keepO := if oNew then [] else [o]
  let d := if dNew then ((lowestGap (fixed ++ keepO) s.displaySize).getD 0, s.displaySize) else d
  let o := if oNew then ((lowestGap (fixed ++ [d]) s.outageSize).getD 0, s.outageSize) else o
  let s : State := s.commitRegs 15 [Reg.HOSTQ.HQ_OUTAGE]
  let s : State := s.setDisplayArea d
  { s with ink := { s.ink with outage := o } }

/-! ## Raw rings -/

/-- The units of 28 KiB of the stamp index of a ring of 512 · n cells (R332). -/
def indexUnits (n : Nat) : Nat := ceilDiv ((ceilDiv (512 * n) 1024 + 4096) * 32) placeUnit

/-- The units of the ring in a share of some units (R332): the most that leave room for its index. -/
def ringUnits (share : Nat) : Nat :=
  let guess := share - indexUnits share
  ((List.range 6).reverse.map (fun d => guess + d)).find? (fun n => decide (n + indexUnits n ≤ share)) |>.getD 0

/-- A stream's ring as its registers have it: base, cells, index base, index entries. -/
def State.ringRegs (s : State) (id : Nat) : Nat × Nat × Nat × Nat :=
  (s.fld (Reg.REC.RAW_BASE id) Fld.REC.RAW_BASE.base, s.rawLen id,
    s.fld (Reg.REC.RAW_IDX_BASE id) Fld.REC.RAW_IDX_BASE.base, s.fld (Reg.REC.RAW_IDX_LEN id) Fld.REC.RAW_IDX_LEN.entries)

/-- A ring placed (R332): where its base or length changes, the stream's history restarts at the next cell, and its index with
it; the next entry of the index carries RESIZE where there was a ring before. -/
def State.setRing (s : State) (id base cells ibase entries : Nat) : State :=
  let (b, c, _, _) := s.ringRegs id
  if b = base / 4096 && c = cells && s.flag (Reg.REC.RAW_STATE id) Fld.REC.RAW_STATE.configured then s
  else
    let had := s.flag (Reg.REC.RAW_STATE id) Fld.REC.RAW_STATE.configured
    let s : State := s.setFld (Reg.REC.RAW_BASE id) Fld.REC.RAW_BASE.base (base / 4096)
    let s : State := s.setReg (Reg.REC.RAW_LEN id) (BitVec.ofNat 32 cells)
    let s : State := s.setFld (Reg.REC.RAW_IDX_BASE id) Fld.REC.RAW_IDX_BASE.base (ibase / 4096)
    let s : State := s.setFld (Reg.REC.RAW_IDX_LEN id) Fld.REC.RAW_IDX_LEN.entries entries
    let s : State := s.setReg (Reg.REC.RAW_IDX_WPTR id) 0
    let s : State := s.setFld (Reg.REC.RAW_STATE id) Fld.REC.RAW_STATE.configured 1
    s.setStream id { s.stream id with validFrom := s.rawWcell id, resize := had, lastEntry := none }

/-- The rings of the configured streams sized and placed in ascending stream ID (R332, R418). -/
def State.placeRings (s : State) : State :=
  let fixed := s.poolPieces ++ s.allocations ++ [s.displayArea, s.ink.outage]
  let ids := s.configured
  let space := s.userBytes - ((s.allocations.map (·.2)).sum + s.displayArea.2 + s.ink.outage.2)
  let total := (ids.map s.valueRate).sum
  (ids.foldl (fun (r : List (Nat × Nat) × State) id =>
    let (taken, s) := r
    let share : Nat := if total = 0 then 0 else ((space : Rat) * s.valueRate id / total).floor.toNat
    let n := min (ringUnits (share / placeUnit)) (greatestGap taken / placeUnit)
    let base := (lowestGap taken (n * placeUnit)).getD 0
    let taken := taken ++ [(base, n * placeUnit)]
    let i := indexUnits n
    let ibase := (lowestGap taken (i * placeUnit)).getD 0
    let s : State := s.setRing id base (512 * n) ibase (i * placeUnit / 32)
    (taken ++ [(ibase, i * placeUnit)], s.setFld (Reg.REC.RAW_STATE id) Fld.REC.RAW_STATE.shrunk 0)) (fixed, s)).2

/-- A stream's ring given up: the stream is no longer configured. -/
def State.dropRing (s : State) (id : Nat) : State :=
  let s : State := (s.setReg (Reg.REC.RAW_BASE id) 0).setReg (Reg.REC.RAW_LEN id) 0
  let s : State := (s.setReg (Reg.REC.RAW_IDX_BASE id) 0).setReg (Reg.REC.RAW_IDX_LEN id) 0
  let s : State := (s.setReg (Reg.REC.RAW_IDX_WPTR id) 0).setReg (Reg.REC.RAW_STATE id) 0
  s.setReg64 (Reg.REC.RAW_WCELL_LO id) (Reg.REC.RAW_WCELL_HI id) 0

/-! ## Pools -/

/-- The flow of a key. -/
def flowOfKey (k : Nat) : FlowId :=
  if k < 64 then .template ⟨k % 64, Nat.mod_lt _ (by decide)⟩
  else if k < 320 then
    .spectral ⟨(k - 64) / 4 % 64, Nat.mod_lt _ (by decide)⟩ ⟨(k - 64) % 4, Nat.mod_lt _ (by decide)⟩
  else if k < 336 then .snapshot ⟨(k - 320) % 16, Nat.mod_lt _ (by decide)⟩
  else .disk ⟨(k - 336) % 16, Nat.mod_lt _ (by decide)⟩

def State.sinkItems (s : State) : Sink → List FlowItem
  | .none => []
  | .channel ch => (s.channel ch).items
  | .disk n => (s.disk n).items

def State.setSinkItems (s : State) (k : Sink) (l : List FlowItem) : State :=
  match k with
  | .none => s
  | .channel ch => s.setChannel ch { s.channel ch with items := l }
  | .disk n => s.setDisk n { s.disk n with items := l }

/-- The newest items that no longer fit discarded under their flows' policies (R436). -/
def State.trimSink (s : State) (k : Sink) : Nat → State
  | 0 => s
  | fuel + 1 =>
    let (used, cap) := s.sinkFill k
    match (s.sinkItems k).getLast? with
    | none => s
    | some x =>
      if used ≤ cap then s
      else
        let f := flowOfKey x.flow
        let s : State := (s.setSinkItems k (s.sinkItems k).dropLast).flowDrop f 1
        let s : State := if s.flowThrottles f || (s.flow f).stopped then s else s.flowStop f
        s.trimSink k fuel

/-- Every sink and staging buffer shrunk in proportion to what remains of the region (R436). -/
def State.shrinkSinks (s : State) (left : Nat) : State :=
  let taken := s.buffersTaken .none
  if taken ≤ left then s
  else
    let sinks := (List.range 64).filterMap (fun c => if s.dmaState c = 0 then none else some (Sink.channel c)) ++
      (List.range 16).filterMap (fun n => if s.dsState n = 0 then none else some (Sink.disk n))
    let sizes := sinks.map (fun k => (k, (s.sinkFill k).2 * left / taken))
    let s : State := sizes.foldl (fun s e => match e.1 with
      | .channel c => { s with ink := { s.ink with sinks := (s.ink.sinks.filter (fun x => x.1 ≠ c)) ++ [(c, e.2)] } }
      | .disk n => { s with ink := { s.ink with sinks := (s.ink.sinks.filter (fun x => x.1 ≠ 64 + n)) ++ [(64 + n, e.2)] } }
      | .none => s) s
    sinks.foldl (fun s k =>
      let before := s.sinkItems k
      let s : State := s.trimSink k before.length
      let gone := (before.drop (s.sinkItems k).length).map (·.flow)
      let s : State := (gone.eraseDups).foldl (fun s f => if s.flowThrottles (flowOfKey f) then s else s.sinkOvf k f) s
      s.reportFill k) s

/-- The pool's size: 12 GiB in whole units of 28 KiB (R434). -/
def poolBytes : Nat := upToUnit (12 * 2 ^ 30)

/-- A ring's top given to a pool (R434): the ring shrinks under R332. -/
def State.giveRing (s : State) (id units : Nat) : (Nat × Nat) × State :=
  let (b, c, ib, ie) := s.ringRegs id
  let keep := c / 512 - units
  let s : State := s.setRing id (b * 4096) (512 * keep) (ib * 4096) ie
  let s : State := (s.setFld (Reg.REC.RAW_STATE id) Fld.REC.RAW_STATE.shrunk 1).blkEvent 11 14 Ev.REC.RAW_SHRINK id
  ((b * 4096 + keep * placeUnit, units * placeUnit), s)

/-- The pool of R434: from the top of the host-outage buffer, and what that cannot give from the rings. -/
def State.buildPool (s : State) : List (Nat × Nat) × State :=
  let (base, len) := s.ink.outage
  let top := (base + len) / placeUnit * placeUnit
  let take := min poolBytes (top - base)
  let start := top - take
  let rest := (poolBytes - take) / placeUnit
  let s : State := if s.flag Reg.STOR.RD_STATE Fld.STOR.RD_STATE.busy && meets s.readTarget (start, take) then s.readEnd true else s
  let s : State := s.shrinkSinks (start - base)
  let s : State := { s with ink := { s.ink with outage := (base, start - base) } }
  let ids := s.configured
  let total := (ids.map (fun id => s.rawLen id / 512)).sum
  let pieces : List (Nat × Nat) := if take = 0 then [] else [(start, take)]
  if rest = 0 || total = 0 then (pieces, s)
  else
    let r := ids.foldl (fun (r : List (Nat × Nat) × Nat × State) id =>
      let (l, owed, s) := r
      let n := min owed (min (s.rawLen id / 512) (ceilDiv (rest * (s.rawLen id / 512)) total))
      if n = 0 then r
      else
        let (p, s) := s.giveRing id n
        (l ++ [p], owed - n, s)) (pieces, rest, s)
    (r.1, r.2.2)

/-- Pieces in address order. -/
def insertPiece (x : Nat × Nat) : List (Nat × Nat) → List (Nat × Nat)
  | [] => [x]
  | y :: t => if x.1 < y.1 then x :: y :: t else y :: insertPiece x t

/-- A channel's cells redirected into a pool (R434, R435). -/
def State.redirectChannel (s : State) (c : Nat) : State :=
  let (l, s) := s.buildPool
  let s : State := { s with ink := { s.ink with redirect := some (c, l.foldl (fun a x => insertPiece x a) []), filled := [] } }
  (s.setFld Reg.INK.INK_STATE Fld.INK.INK_STATE.redirect 1).setFld Reg.INK.INK_STATE Fld.INK.INK_STATE.redirect_ch c

/-- The pool returned (R435, R436): buffers and rings regain their sizes. -/
def State.returnPool (s : State) : State :=
  let s : State := { s with ink := { s.ink with
    redirect := none, filled := [], sinks := [],
    outage := (s.ink.outage.1, s.fld Reg.HOSTQ.HQ_OUTAGE Fld.HOSTQ.HQ_OUTAGE.gib * 2 ^ 30) } }
  let s : State := (s.setFld Reg.INK.INK_STATE Fld.INK.INK_STATE.redirect 0).setFld Reg.INK.INK_STATE
    Fld.INK.INK_STATE.redirect_ch 0
  let s : State := (List.range 64).foldl (fun s c => if s.dmaState c = 0 then s else s.reportFill (.channel c)) s
  let s : State := (List.range 16).foldl (fun s n => if s.dsState n = 0 then s else s.reportFill (.disk n)) s
  if s.configured.any (fun id => s.flag (Reg.REC.RAW_STATE id) Fld.REC.RAW_STATE.shrunk) then s.placeRings else s

end Sys2Proof.Machine
end

