-- ==== Sys2Proof/Machine/Frames.lean ====
section
/-! DEFINITION. Where the output frames of a pair go (R259, R284, R297, R347 to R349, R388): masks, planes, spectral flows to export
channels and disk streams. -/

namespace Sys2Proof.Machine

/-! ## Spectral flows -/

/-- A frame's columns as the detector's domain adds them (R349). -/
def meanPart (c : PairCfg) (f : SpecFrame) : List (Int × Int) :=
  match c.det with
  | 0 => f.cols.map (fun x => (x.1 * 2 ^ f.exp, x.2 * 2 ^ f.exp))
  | 1 => f.cols.map (fun x => (f32Val x.1.toNat, 0))
  | _ => f.cols

/-- Consecutive frames combined as a mean in the detector's domain, with navg multiplied (R349). -/
def combineFrames (c : PairCfg) (slack : Nat) (l : List SpecFrame) : SpecFrame :=
  match l with
  | [] => makeFrame c [] 0 0 0 0 Marks.none 0 0
  | f :: t =>
    let m : PairCfg := { c with mode := 2 }
    let acc := t.foldl (fun a x => accumulate m a (meanPart c x)) (meanPart c f)
    let (cols, e) := averaged m acc l.length slack
    makeFrame c cols e f.seq f.tbs ((l.map (·.navg)).sum) (l.foldl (fun a x => a.or x.marks) Marks.none) 0 0

/-- A frame's bytes with its throttle field (R277). -/
def throttled (f : SpecFrame) (j : Nat) : List Byte := patchBytes f.bytes 7 (leBytes 1 j)

/-- A frame offered to a spectral flow (R348, R349). -/
def State.flowFrame (s : State) (fl : FlowId) (avg : Bool) (c : PairCfg) (f : SpecFrame) : State :=
  let push (s : State) (f : SpecFrame) (seq : Nat) : State :=
    (s.flowPush fl seq ⟨0, 2, f.seq, c.stream, f.tbs, s.stampTbw, [], false, false⟩ (fun j _ => throttled f j)).2
  if s.flowThrottles fl && avg then
    let l := (s.flow fl).held ++ [f]
    if l.length < 2 ^ (s.flow fl).j then s.setFlow fl { s.flow fl with held := l }
    else
      let s : State := s.setFlow fl { s.flow fl with held := [] }
      if l.length = 1 then push s f 0
      else
        let (n, s) := s.draw
        push s (combineFrames c (Config.freeNat 72 n) l) 0
  else push s f f.seq

/-- A frame offered to the export channels and the disk streams that carry its pair (R347, R475). -/
def State.exportFrame (s : State) (i : Nat) (c : PairCfg) (f : SpecFrame) : State :=
  let s : State := (List.finRange 64).foldl (fun s (ch : Fin 64) =>
    if s.dmaState ch.val = 0 || s.dmaState ch.val = 5 then s
    else (List.finRange 4).foldl (fun s (k : Fin 4) =>
      let p := Reg.DMA.DMA_PAIR ch.val k.val
      if s.flag p Fld.DMA.DMA_PAIR.en && decide (s.fld p Fld.DMA.DMA_PAIR.pair = i) then
        s.flowFrame (.spectral ch k) (s.flag p Fld.DMA.DMA_PAIR.avg) c f
      else s) s) s
  (List.finRange 16).foldl (fun s (n : Fin 16) =>
    let p := Reg.STOR.DS_SRC n.val
    if s.dsState n.val ≠ 0 && s.dsState n.val ≠ 4 && s.flag p Fld.STOR.DS_SRC.pair_en && decide (s.fld p Fld.STOR.DS_SRC.pair = i) then
      s.flowFrame (.disk n) (s.flag p Fld.STOR.DS_SRC.avg) c f
    else s) s

/-! ## Delivery -/

/-- The output frames of a pair delivered (MASK_QUALIFY, PLANE_ACCUMULATE, DENSITY_SEND, R297, R388, R397). -/
def State.deliverFrames (s : State) (i : Nat) (c : PairCfg) (l : List SpecFrame) : State :=
  l.foldl (fun s f => ((s.masksTake i c f).planesTake i f).exportFrame i c f) s

/-- Planes that wait for a last frame of a pair that is OFF. -/
def State.stopPlanes (s : State) (i : Nat) : State :=
  if s.pairState i ≠ 0 then s
  else (List.range 16).foldl (fun s k =>
    if s.planeState k = 2 && !s.planeSecond k && decide (s.planePair k = i) then s.planeOff k else s) s

/-- XF_DISABLE with the delivery of what comes out at once (R284). -/
def State.disablePair (s : State) (i : Nat) : State :=
  let c := s.pairCfg i
  let (l, s) := s.xfDisable i
  (s.deliverFrames i c l).stopPlanes i

/-- XF_DISABLE (R284). -/
def execXfDisable (i : Fin 128) (s : State) : Host.Outcome State Fault Refusal :=
  .next ((s.accept (Reg.XFORM.XF_CMD i.val) Fld.XFORM.XF_CMD.disable_go).disablePair i.val)

/-- TRANSFORM_FRAME (R259 to R283): a pair completes its next frame. -/
def execTransformFrame (i : Fin 128) (s : State) : Host.Outcome State Fault Refusal :=
  let (l, s) := s.nextFrame i.val
  .next ((s.deliverFrames i.val (s.pairCfg i.val) l).stopPlanes i.val)

end Sys2Proof.Machine
end

