-- ==== Sys2Proof/Machine/RegRead.lean ====
section
/-! DEFINITION. Reading a register (R37, R52, R54): the fields that report other state, measured values, and the latches of
64-bit counters. -/

namespace Sys2Proof.Machine

/-- The requester of a program's accesses: the physical core behind its slot (R51, R104). -/
def State.nibReq (s : State) (k : Nat) : Requester := .nib (Fin.ofNat 16 (s.physical 3 k))

/-- BLK_STATE with its computed fields (R48, R64). -/
def State.readBlkState (s : State) (b : Nat) : Word :=
  let w := putField Fld.HDR.BLK_STATE.stage_pending (bit (s.stagePending b)) (s.reg (Reg.HDR.BLK_STATE b))
  let w := putField Fld.HDR.BLK_STATE.compare_held (bit (s.stagePending b && !(s.blk b).holdExpired)) w
  putField Fld.HDR.BLK_STATE.enabled (min (s.enabledScopes b) 0xFF) w

/-- PROG_STATE of a slot (R104). -/
def State.readProgState (s : State) (k : Nat) : Word :=
  let n := s.nib k
  putField Fld.NIB.PROG_STATE.rrb n.rrb.toNat (putField Fld.NIB.PROG_STATE.in_loopm
    (bit (n.loops.any (fun f => decide (f.stages ≠ 0)))) (BitVec.ofNat 32 n.state.code))

/-- Whether the latest output of a port's spike filter carries UNSETTLED by the filter's own rule (R232, R254). -/
def State.spikeUnsettled (s : State) (p : Nat) : Bool :=
  s.flag (Reg.COND.SPK_STATE p) Fld.COND.SPK_STATE.enabled &&
    (s.portStreams p).zipIdx.any (fun e => match e.1 with
      | none => false
      | some id =>
        let st := s.stream id
        let n := st.delivered - (s.spikeWin p - 1) / 2
        ((s.filtered p e.2 st (n - 1)).head?.map (fun x => x.1.marks.unsettled)).getD true)

/-- Whether a pair's input runs at half rate (R285). -/
def State.pairHalved (s : State) (i : Nat) : Bool :=
  s.pairState i ≠ 0 && (match s.streamPort (s.pairCfg i).stream with
    | some p => decide (s.portState p = 3)
    | none => false)

/-- Whether a channel in RUN waits for ring space or for a buffer (R466). -/
def State.dmaWaits (s : State) (ch : Nat) : Bool :=
  let c := s.channel ch
  decide (s.dmaState ch = 1) && (itemAt c.items c.next).isSome &&
    (!s.rringRuns (s.dmaRing ch) || s.rringFull (s.dmaRing ch) ||
      (c.buf.isNone && ((s.crEntries (s.dmaList ch)).isEmpty || decide (s.ringState (cring (s.dmaList ch)) ≠ 1))))

/-- Hours with VIN on since manufacture; a tick is 50 ns (R549). -/
def State.hours (s : State) : Nat :=
  (s.mod.onTicks + (if s.mod.started then s.time.tick - s.mod.since else 0)) / 72000000000

/-- Registers that hold a measurement of the outside, which changes with no command: a read of one is free while what it
measures is powered. -/
def State.measured (s : State) (a : Nat) : Bool :=
  if a = Reg.PWR.PWR_VAUX || a = Reg.PWR.PWR_POWER then s.mod.vaux
  else if a = Reg.PWR.PWR_VIN || a = Reg.PWR.PWR_TEMP then s.mod.started
  else (List.range 8).any (fun p => decide (s.portState p ≠ 0) && (List.range 5).any (fun l =>
      decide (a = Reg.FLANE.LANE_EYE p l) || decide (a = Reg.FLANE.LANE_OPT p l))) ||
    (List.range 2).any (fun k => decide (s.linkState k ≠ 0) && (List.range 2).any (fun l =>
      decide (a = Reg.CASC.LANE_EYE k l)))

/-- The value a read of a register returns: the active value, with the fields that report other state computed (R48, R63 to
R65, R104, R519). The value of a measurement is free. -/
def State.readReg (s : State) (a : Nat) : Word :=
  match lookupReg a with
  | none => 0
  | some r =>
    let b := r.block
    if a = Reg.HDR.BLK_STATE b then s.readBlkState b
    else if a = Reg.HDR.CRC_LIVE b then s.crcLive b
    else if a = Reg.HDR.SCRUB_AGE b then BitVec.ofNat 32 ((s.time.tick - (s.blk b).scrubTick) / 20)
    else if s.measured a then
      BitVec.ofNat 32 (Config.freeNat 76 s.fresh) &&& rowMask (fun _ => true) r.row
    else match b, r.idx with
      | 2, k :: _ =>
        if a = Reg.NIB.PROG_STATE k then s.readProgState k
        else if a = Reg.NIB.PROG_PC k then (s.nib k).pc.setWidth 32
        else if a = Reg.NIB.PROG_CAUSE k then
          putField Fld.NIB.PROG_CAUSE.epc (s.nib k).epc.toNat ((s.nib k).cause.setWidth 32)
        else s.reg a
      | 6, [y, o] =>
        if a = Reg.CLK.OUT_STATE y o then
          putField Fld.CLK.OUT_STATE.delay_now (s.fld (Reg.CLK.OUT_DELAY y (s.pairOut y o)) Fld.CLK.OUT_DELAY.delay) (s.reg a)
        else s.reg a
      | 8, p :: _ =>
        if a = Reg.COND.SPK_STATE p then
          putField Fld.COND.SPK_STATE.unsettled (bit (s.spikeUnsettled p)) (s.reg a)
        else s.reg a
      | 9, i :: _ =>
        if a = Reg.XFORM.WIN_STATE i then putField Fld.XFORM.WIN_STATE.users (s.slotUsers i) (s.reg a)
        else if a = Reg.XFORM.XF_STATE i then putField Fld.XFORM.XF_STATE.fallback (bit (s.pairHalved i)) (s.reg a)
        else s.reg a
      | 16, ch :: _ =>
        if a = Reg.DMA.DMA_STATE ch && s.dmaWaits ch then putField Fld.DMA.DMA_STATE.state 2 (s.reg a) else s.reg a
      | 21, k :: _ =>
        if a = Reg.SPARE.SP_FREE k then BitVec.ofNat 32 (s.spareFree k)
        else if a = Reg.SPARE.SP_SUSPECT k then BitVec.ofNat 32 (s.spareSuspect k)
        else if a = Reg.SPARE.SP_USED k then BitVec.ofNat 32 (s.spareUsed k)
        else s.reg a
      | 24, _ => if a = Reg.PWR.PWR_HOURS then BitVec.ofNat 32 s.hours else s.reg a
      | _, _ => s.reg a

/-- A 32-bit read by a requester (R37, R52, R54): a read of the low half of a 64-bit counter latches its high half, and a read of
a high half returns what that requester latched. The maker-reserved blocks answer only under SERVICE (R543), with values the
manual does not give. -/
def State.readBy (s : State) (req : Requester) (a : Nat) : Word × State :=
  match lookupReg a with
  | none =>
    if decide (25 ≤ a / 0x80000) && s.flag Reg.PWR.PWR_STATE Fld.PWR.PWR_STATE.service then
      let (n, s) := s.draw
      (BitVec.ofNat 32 (Config.freeNat 77 n), s)
    else (0, s)
  | some r =>
    if r.row.half = 1 then
      (s.readReg a, { s with latches := sparsePut (fun _ => 0) (a * 256 + req.code) (s.readReg (a + 4)) s.latches })
    else if r.row.half = 2 then (sparseGet (fun _ => 0) s.latches ((a - 4) * 256 + req.code), s)
    else (s.readReg a, if s.measured a then s.draw.2 else s)

/-- COUNTER_LOW_READ (R54): a read of the low half of a designated 64-bit counter. -/
def execCounterLowRead (req : Requester) (addr : BitVec 24) (s : State) : Host.Outcome State Fault Refusal :=
  let (v, s) := s.readBy req (addr.toNat / 4 * 4)
  .next (s.emit (.readData req v))

end Sys2Proof.Machine
end

