-- ==== Sys2Proof/Machine/Seq.lean ====
section
/-! DEFINITION. Trigger sequencers (R303 to R315, R326): arming, commits, arcs with their actions, the opening, passing and
committing of tadpoles, the qualification limit, and TRIG frames sent (R321, R322). -/

namespace Sys2Proof.Machine

/-! ## State sets -/

/-- The inputs of a state's term: source, inverted (R303). -/
def termInputs (w : Word) : List (Nat × Bool) :=
  ((List.range 4).map (fun i => (w.toNat / 2 ^ (7 * i) % 128, w.getLsbD (28 + i)))).filter (fun e => decide (e.1 ≠ 0x7F))

/-- The action bits of an arc: OPEN, PASS, FAIL, OUT. -/
structure Acts where
  open_ : Bool
  pass : Bool
  fail : Bool
  out : Bool

def actsOf (v : Nat) : Acts := ⟨v.testBit 0, v.testBit 1, v.testBit 2, v.testBit 3⟩

/-- Whether R307 refuses an arc's actions. -/
def Acts.bad (a : Acts) : Bool := a.fail && (a.pass || a.open_)

def State.seqState (s : State) (q : Nat) : Nat := s.fld (Reg.TRIG.SEQ_STATE q) Fld.TRIG.SEQ_STATE.state
def State.armed (s : State) (q : Nat) : Bool := s.flag (Reg.TRIG.SEQ_STATE q) Fld.TRIG.SEQ_STATE.armed
def State.stTerm (s : State) (q : Nat) : List (Nat × Bool) := termInputs (s.reg (Reg.TRIG.ST_TERM q (s.seqState q)))
def State.stCtl (s : State) (q : Nat) (f : Bits) : Nat := s.fld (Reg.TRIG.ST_CTRL q (s.seqState q)) f

/-- The reason of R307 for which an arm or a commit is refused, its words read through `val`; 0 for none. -/
def State.seqRefusal (s : State) (val : Nat → Word) (q : Nat) : Nat :=
  let k := s.holder (· = .seq q)
  let sts := List.range 8
  let lines (w : Word) : List Nat := ((List.range 20).filter (fun i => w.getLsbD i)).map (· + 16)
  if sts.any (fun i => (termInputs (val (Reg.TRIG.ST_TERM q i))).any (fun e => !s.heldBy k (· = .trigSrc e.1))) then 1
  else if sts.any (fun i => (lines (val (Reg.TRIG.ST_OUTMAP q i))).any (fun n => !s.heldBy k (Binding.isUnit 10 n))) then 2
  else if sts.any (fun i =>
      (actsOf (getField Fld.TRIG.ST_CTRL.act_a (val (Reg.TRIG.ST_CTRL q i)))).bad ||
      (actsOf (getField Fld.TRIG.ST_CTRL.act_t (val (Reg.TRIG.ST_CTRL q i)))).bad) then 3
  else if !s.heldBy k (Binding.isUnit 11 (s.seqTpl q)) then 4
  else 0

/-- SEQ_REFUSED (R307). -/
def State.seqRefused (s : State) (q reason : Nat) : State :=
  ((s.setFld (Reg.TRIG.SEQ_STATE q) Fld.TRIG.SEQ_STATE.reason reason).setSta (Reg.TRIG.SEQ_STA q)
    Fld.TRIG.SEQ_STA.REFUSED).blkEvent 10 10 Ev.TRIG.SEQ_REFUSED q

/-! ## Enable, arm, disarm -/

/-- SEQ_ENABLE (R308, R377): whether it is refused, and the state after. -/
def State.seqEnable (s : State) (q : Nat) : Bool × State :=
  if !s.blockOn 10 then (true, s)
  else if s.hiddenScope ⟨.seq, q⟩ ≠ .off then (false, s)
  else
    let k := s.holder (· = .seq q)
    let seqs := if k.isSome then s.seqsOf k else s.seqsOf k ++ [q]
    let t := s.seqTpl q
    let mine := (s.tplSecs t).any (fun c => c.type = 3)
    if mine && !s.kernelsFit k seqs t then (true, s.seqRefused q 4)
    else (false, s.setScope ⟨.seq, q⟩ .run)

def execSeqEnable (q : Fin 16) (s : State) : Host.Outcome State Fault Refusal :=
  .next ((s.accept (Reg.TRIG.SEQ_CMD q.val) Fld.TRIG.SEQ_CMD.enable_go).seqEnable q.val).2

/-- SEQ_DISARM (R308): idle, every undecided tadpole rolled back. -/
def State.seqDisarm (s : State) (q : Nat) : State :=
  let s : State := s.rollbackWhere q 4 (fun t => t.passed.isNone)
  (s.setFld (Reg.TRIG.SEQ_STATE q) Fld.TRIG.SEQ_STATE.armed 0).setFld (Reg.TRIG.SEQ_STATE q) Fld.TRIG.SEQ_STATE.state 0

def execSeqDisarm (q : Fin 16) (s : State) : Host.Outcome State Fault Refusal :=
  .next ((s.accept (Reg.TRIG.SEQ_CMD q.val) Fld.TRIG.SEQ_CMD.disarm_go).seqDisarm q.val)

/-- A sequencer in DRAINING goes OFF once it has no tadpole left. -/
def State.seqDrained (s : State) (q : Nat) : State :=
  if s.hiddenScope ⟨.seq, q⟩ = .draining && (s.seqr q).tadpoles.isEmpty then s.setScope ⟨.seq, q⟩ .off else s

/-- SEQ_DISABLE (R308). -/
def State.seqDisable (s : State) (q : Nat) : State :=
  if s.hiddenScope ⟨.seq, q⟩ = .off then s
  else ((s.seqDisarm q).setScope ⟨.seq, q⟩ .draining).seqDrained q

def execSeqDisable (q : Fin 16) (s : State) : Host.Outcome State Fault Refusal :=
  .next ((s.accept (Reg.TRIG.SEQ_CMD q.val) Fld.TRIG.SEQ_CMD.disable_go).seqDisable q.val)

/-- SEQ_ARM (R307, R308): whether it is refused, and the state after. -/
def State.seqArm (s : State) (q : Nat) : Bool × State :=
  if s.hiddenScope ⟨.seq, q⟩ ≠ .run then (true, s)
  else
    let r := s.seqRefusal s.reg q
    if r ≠ 0 then (true, s.seqRefused q r)
    else
      let t := s.stampTbs
      let s : State := s.setSeqr q { s.seqr q with armAt := t, entry := t, reached := (t, 0), early := false }
      (false, (s.setFld (Reg.TRIG.SEQ_STATE q) Fld.TRIG.SEQ_STATE.armed 1).setFld (Reg.TRIG.SEQ_STATE q)
        Fld.TRIG.SEQ_STATE.state 0)

def execSeqArm (q : Fin 16) (s : State) : Host.Outcome State Fault Refusal :=
  .next ((s.accept (Reg.TRIG.SEQ_CMD q.val) Fld.TRIG.SEQ_CMD.arm_go).seqArm q.val).2

/-- The committed state words of a sequencer take effect. -/
def State.seqApply (s : State) (q : Nat) : State :=
  ((s.commitScope ⟨.seq, q⟩).setFld (Reg.TRIG.SEQ_STATE q) Fld.TRIG.SEQ_STATE.stage_wait 0).setSta (Reg.TRIG.SEQ_STA q)
    Fld.TRIG.SEQ_STA.COMMITTED

/-- SEQ_COMMIT (R307, R308): whether it is refused, and the state after. -/
def State.seqCommit (s : State) (q : Nat) : Bool × State :=
  let r := s.seqRefusal s.stagedReg q
  if r ≠ 0 then (true, s.seqRefused q r)
  else if s.hiddenScope ⟨.seq, q⟩ = .off then (false, s.seqApply q)
  else (false, s.setFld (Reg.TRIG.SEQ_STATE q) Fld.TRIG.SEQ_STATE.stage_wait 1)

def execSeqCommit (q : Fin 16) (s : State) : Host.Outcome State Fault Refusal :=
  .next ((s.accept (Reg.TRIG.SEQ_CMD q.val) Fld.TRIG.SEQ_CMD.commit_go).seqCommit q.val).2

/-- SEQ_COMMIT_APPLY (R308): in state 0 with no undecided tadpole. -/
def execSeqCommitApply (q : Fin 16) (s : State) : Host.Outcome State Fault Refusal :=
  let q := q.val
  if s.flag (Reg.TRIG.SEQ_STATE q) Fld.TRIG.SEQ_STATE.stage_wait && decide (s.seqState q = 0) &&
      (s.seqr q).tadpoles.all (fun t => t.passed.isSome) then .next (s.seqApply q)
  else .next s

/-! ## Terms -/

/-- A change of an input (R304): its instant, its rank in the order of R305 at that instant (the end of an event's window
comes first), its source, what it adds (for a level source, 2 turns it on and -2 off), and the marks it carries. -/
structure Turn where
  time : Nat
  rank : Nat
  source : Nat
  add : Int
  marks : Nat

/-- Whether a source is a level: masks, zoom thresholds, and external inputs stamped on both edges (R293). -/
def State.levelSource (s : State) (n : Nat) : Bool :=
  decide (n < 48) || (decide (n < 56) && decide (s.fld (Reg.TIME.TDC_CFG (n - 48)) Fld.TIME.TDC_CFG.edge = 2))

def turnBefore (a b : Turn) : Bool := decide (a.time < b.time) || (decide (a.time = b.time) && decide (a.rank ≤ b.rank))

def insertTurn (x : Turn) : List Turn → List Turn
  | [] => [x]
  | y :: t => if turnBefore x y then x :: y :: t else y :: insertTurn x t

/-- The changes that a source makes; an event placed before the entry instant is ignored (R305). -/
def State.turnsOf (s : State) (n entry window : Nat) : List Turn :=
  (s.source n).items.flatMap (fun i =>
    if s.levelSource n then [⟨i.time, n + 1, n, if i.on then 2 else -2, i.marks⟩]
    else if !i.on || decide (i.time < entry) then []
    else [⟨i.time, n + 1, n, 1, i.marks⟩, ⟨i.time + window, 0, n, -1, i.marks⟩])

/-- The value of a source after a change: 1 or 0 for a level, the number of running windows for an event. -/
def turnValue (v : Nat) (add : Int) : Nat := if add = 2 then 1 else if add = -2 then 0 else ((v : Int) + add).toNat

/-- The term of a state for the values of its sources (R303). -/
def termTrue (or : Bool) (inputs : List (Nat × Bool)) (vals : List (Nat × Nat)) : Bool :=
  let b (e : Nat × Bool) : Bool := Bool.xor e.2 (decide (sparseGet (fun _ => 0) vals e.1 ≠ 0))
  if inputs.isEmpty then false else if or then inputs.any b else inputs.all b

/-- The change that completes the count of rising edges placed from `from_` on, among changes in order. -/
def edgeScan (or : Bool) (inputs : List (Nat × Bool)) (from_ count : Nat) :
    List Turn → List (Nat × Nat) → Nat → Option Turn
  | [], _, _ => none
  | t :: l, vals, n =>
    let was := termTrue or inputs vals
    let vals := sparsePut (fun _ => 0) t.source (turnValue (sparseGet (fun _ => 0) vals t.source) t.add) vals
    if !was && termTrue or inputs vals && decide (from_ ≤ t.time) then
      (if n + 1 = count then some t else edgeScan or inputs from_ count l vals (n + 1))
    else edgeScan or inputs from_ count l vals n

/-- The change that fires arc A of the current state, as far as the items delivered show (R303 to R306). -/
def State.arcEdge (s : State) (q : Nat) : Option Turn :=
  let r := s.seqr q
  let st := s.seqState q
  let inputs := s.stTerm q
  let window := max 1 (s.reg (Reg.TRIG.ST_WIN q st)).toNat * sampUnits
  let srcs := cellSet (inputs.map (·.1))
  let turns := (srcs.flatMap (fun n => s.turnsOf n r.entry window)).foldr insertTurn []
  let past := turns.filter (fun t => decide (t.time < r.reached.1) ||
    (decide (t.time = r.reached.1) && decide (t.rank ≤ r.reached.2)))
  let vals := past.foldl (fun v t =>
    sparsePut (fun _ => 0) t.source (turnValue (sparseGet (fun _ => 0) v t.source) t.add) v) ([] : List (Nat × Nat))
  edgeScan (s.stCtl q Fld.TRIG.ST_CTRL.op = 1) inputs (r.entry + (s.reg (Reg.TRIG.ST_HOLD q st)).toNat * sampUnits)
    (s.stCtl q Fld.TRIG.ST_CTRL.count + 1) (turns.drop past.length) vals 0

/-- How far every source the state names has reported (R305); with no source, as far as TB-S has come. -/
def State.seqMark (s : State) (q : Nat) : Nat :=
  (s.stTerm q).foldl (fun m e => min m (s.watermark e.1)) s.stampTbs

/-- The instant of arc T (R306). -/
def State.arcDeadline (s : State) (q : Nat) : Option Nat :=
  let tmo := (s.reg (Reg.TRIG.ST_TMO q (s.seqState q))).toNat
  if tmo = 0 then none else some ((s.seqr q).entry + tmo * sampUnits)

/-- The decision step of an instant (R306). -/
def stepOf (t : Nat) : Nat := t / sampUnits

/-- The instant at which arc A fires next; the arrival wins over a timeout in the same step (R306). -/
def State.arcReady (s : State) (q : Nat) : Option Turn :=
  match s.arcEdge q with
  | none => none
  | some t =>
    let late := match s.arcDeadline q with
      | some d => decide (stepOf d < stepOf t.time)
      | none => false
    if late || decide (s.seqMark q ≤ t.time) then none else some t

/-! ## Actions -/

/-- The tadpole of an OPEN (R309, R310, R339, R372). TB-W and TB-M are read now and taken back to the candidate; the
rounding of the conversion is not stated. -/
def State.openTadpole (s : State) (q t : Nat) (d : DetailEntry) : State :=
  let tpl := s.seqTpl q
  let r := s.seqr q
  let early := (s.tplStreams tpl).any (fun e =>
    let st := s.stream e.1
    match st.hist.head? with
    | some x => decide (st.first ≠ 0) || decide (t < x.tbs + e.2.1) || decide (t < r.armAt + e.2.1)
    | none => true)
  if s.tplState tpl ≠ 1 && s.tplState tpl ≠ 2 then s
  else if early then
    let s : State := (s.count (Reg.TRIG.TRIG_EARLY_CNT q) 1).setSta (Reg.TRIG.SEQ_STA q) Fld.TRIG.SEQ_STA.TRIG_EARLY
    if r.early then s
    else (s.setSeqr q { r with early := true }).blkEvent 10 8 Ev.TRIG.TRIG_EARLY q
  else if 64 ≤ r.tadpoles.length then
    ((s.count (Reg.TRIG.TP_FULL_CNT q) 1).setSta (Reg.TRIG.SEQ_STA q) Fld.TRIG.SEQ_STA.TP_FULL).blkEvent 10 9
      Ev.TRIG.TP_FULL q
  else
    let ds := s.stampTbs - t
    let incr := s.increment
    let wall : Int := ((s.time.tbwNs.toNat : Int) * 2 ^ 32 + s.time.tbwFrac.toNat) -
      freeDiv 57 (ds * incr * 10 : Nat) 393216
    let wall16 : Int := freeDiv 58 wall (2 ^ 16)
    let tracked := s.tim.trackA.isSome && decide (s.bucketPeriod ≠ 0)
    let tbm : Int := if tracked then (s.tbm.toNat : Int) - freeDiv 59 (ds * 2 ^ 32 : Nat) s.bucketPeriod else s.tbm.toNat
    let flags := 256 * s.fld Reg.TIME.TIME_STATE Fld.TIME.TIME_STATE.tbm_holdover +
      512 * bit (!tracked || s.flag Reg.TIME.TIME_STATE Fld.TIME.TIME_STATE.tbm_estimated) +
      1024 * bit (!s.flag Reg.TIME.TIME_STATE Fld.TIME.TIME_STATE.tbw_set)
    let meas := (s.tplSecs tpl).filter (fun c => c.type = 3)
    let x : Tadpole :=
      { uid := s.tadpoles, tpl := tpl, cand := t, passed := none, detail := [d], tbm := (tbm % 2 ^ 64).toNat,
        tbw := (wall16.fdiv (2 ^ 16) % 2 ^ 64).toNat, tbwFrac := (wall16 % 2 ^ 16).toNat, flags := flags, held := [],
        counts := [], results := [], open_ := meas.map (·.idx) }
    let s : State := { s with tadpoles := s.tadpoles + 1 }
    let s : State := (s.setSeqr q { r with tadpoles := r.tadpoles ++ [x] }).count (Reg.TRIG.TP_OPEN_CNT q) 1
    s.queueInvocations (meas.map (fun c => ⟨q, x.uid, tpl, c.idx, c.kernel⟩))

/-- PASS (R307): every undecided tadpole passes. -/
def State.passAll (s : State) (q : Nat) (d : DetailEntry) : State :=
  s.setSeqr q { s.seqr q with tadpoles := (s.seqr q).tadpoles.map (fun t =>
    if t.passed.isNone then { t with passed := some d.instant, detail := t.detail ++ [d] } else t) }

/-- OUT (R316, R319, R321): the lines of the state's OUTMAP. -/
def State.driveOutputs (s : State) (q t marks : Nat) : State :=
  let w := s.reg (Reg.TRIG.ST_OUTMAP q (s.seqState q))
  let s : State := (List.range 4).foldl (fun s o => if w.getLsbD o then s.outTrig o else s) s
  let s : State := (List.range 8).foldl (fun s k => if w.getLsbD (4 + k) then s.outSync k else s) s
  (List.range 8).foldl (fun s c => if w.getLsbD (12 + c) then s.outCasc (c / 4) (c % 4) t marks else s) s

/-- An arc (R307): its actions in order, then the next state. -/
def State.fireArc (s : State) (q t rank source role marks : Nat) (a : Acts) (next : Nat) : State :=
  let s : State := if a.open_ then s.openTadpole q t ⟨source, 0, marks, t⟩ else s
  let s : State := if a.pass then s.passAll q ⟨source, role, marks, t⟩ else s
  let s : State := if a.fail then s.rollbackWhere q 1 (fun x => x.passed.isNone) else s
  let s : State := if a.out then s.driveOutputs q t marks else s
  (s.setSeqr q { s.seqr q with entry := t, reached := (t, rank) }).setFld (Reg.TRIG.SEQ_STATE q)
    Fld.TRIG.SEQ_STATE.state next

/-- ARC_A (R303 to R307). -/
def execArcA (q : Fin 16) (s : State) : Host.Outcome State Fault Refusal :=
  let q := q.val
  if !s.armed q then .next s
  else match s.arcReady q with
    | none => .next s
    | some t => .next (s.fireArc q t.time t.rank t.source 1 t.marks (actsOf (s.stCtl q Fld.TRIG.ST_CTRL.act_a))
        (s.stCtl q Fld.TRIG.ST_CTRL.next_a))

/-- ARC_T (R306, R307): the timeout, once every source named has reported the whole of its step and no edge fires first. The
source number that a deadline leaves in the trigger detail is not stated. -/
def execArcT (q : Fin 16) (s : State) : Host.Outcome State Fault Refusal :=
  let q := q.val
  match s.arcDeadline q with
  | none => .next s
  | some d =>
    if !s.armed q || decide (s.seqMark q < (stepOf d + 1) * sampUnits) || (s.arcReady q).isSome then .next s
    else
      let (n, s) := s.draw
      .next (s.fireArc q d 128 (Config.freeNat 50 n % 128) 2 0 (actsOf (s.stCtl q Fld.TRIG.ST_CTRL.act_t))
        (s.stCtl q Fld.TRIG.ST_CTRL.next_t))

/-! ## Commit and limit -/

/-- The handle of a template in its program (R342). -/
def State.tplHandle (s : State) (t : Nat) : Nat :=
  match s.tplHolder t with
  | some k => (((s.nib k).bindings.find? (fun e => e.2.isUnit 11 t)).map (·.1)).getD 0
  | none => 0

/-- The order in which records of one step drain (R342, R27). -/
def recordBefore (a b : PendingRecord) : Bool :=
  decide (a.step < b.step) || (decide (a.step = b.step) && (decide (a.port < b.port) ||
    (decide (a.port = b.port) && (decide (a.handle < b.handle) ||
      (decide (a.handle = b.handle) && decide (a.num ≤ b.num))))))

def insertRecord (x : PendingRecord) : List PendingRecord → List PendingRecord
  | [] => [x]
  | y :: t => if recordBefore y x then y :: insertRecord x t else x :: y :: t

/-- Whether a tadpole can commit (R312). -/
def State.canCommit (s : State) (t : Tadpole) : Bool :=
  t.passed.isSome && t.open_.isEmpty && (s.tplStreams t.tpl).all (fun e => (s.tadSpan t.cand e).isSome)

/-- Whether a raw cell that a tadpole references has been overwritten: the OVERRUN of R313. -/
def State.overrun (s : State) (t : Tadpole) : Bool :=
  (s.tplStreams t.tpl).any (fun e =>
    let st := s.stream e.1
    match st.hist.findIdx? (fun x => decide (t.cand - e.2.1 ≤ x.tbs)) with
    | some i =>
      let c := (st.first + i) * st.width / 37
      decide (c < s.rawWcell e.1) && !s.rawValid e.1 c
    | none => false)

/-- TADPOLE_COMMIT (R312, R342): the oldest tadpole, once it may. An OVERRUN comes first (R314). -/
def State.tadpoleCommit (s : State) (q : Nat) : State :=
  match (s.seqr q).tadpoles with
  | [] => s
  | t :: rest =>
    if s.overrun t then (s.rollback q t.uid 3).seqDrained q
    else if !s.canCommit t then s
    else
      let lo := Reg.REC.REC_SEQ_LO t.tpl
      let num := s.reg64 lo (lo + 4)
      let p := (s.streamPort ((s.tplStreams t.tpl).headD (0, 0, 0)).1).getD 8
      let x : PendingRecord := ⟨t, q, num, stepOf s.stampTbs, p, s.tplHandle t.tpl⟩
      let s : State := s.setReg64 lo (lo + 4) (num + 1)
      let s : State := { s with records := insertRecord x s.records }
      let s : State := (s.setSeqr q { s.seqr q with tadpoles := rest }).count (Reg.TRIG.TP_COMMIT_CNT q) 1
      (s.seqDrained q).tplDrained t.tpl

def execTadpoleCommit (q : Fin 16) (s : State) : Host.Outcome State Fault Refusal := .next (s.tadpoleCommit q.val)

/-- QUAL_LIMIT (R313, R314): a tadpole still undecided at t + SEQ_QLIM, once no arc of its step or an earlier one can pass it. -/
def execQualLimit (q : Fin 16) (s : State) : Host.Outcome State Fault Refusal :=
  let q := q.val
  let lim := (s.reg (Reg.TRIG.SEQ_QLIM q)).toNat * sampUnits
  match (s.seqr q).tadpoles.find? (fun t => t.passed.isNone) with
  | none => .next s
  | some t =>
    let step := stepOf (t.cand + lim)
    let arc := match s.arcReady q, s.arcDeadline q with
      | some e, _ => decide (stepOf e.time ≤ step)
      | none, some d => decide (stepOf d ≤ step)
      | none, none => false
    if decide (s.seqMark q < (step + 1) * sampUnits) || (s.armed q && arc) then .next s
    else .next ((s.rollback q t.uid 2).tplDrained t.tpl)

/-! ## TRIG frames sent -/

/-- The instant before which sequencer q sends no further message on link k (R322). -/
def State.seqThrough (s : State) (q k : Nat) : Nat :=
  let drives := (List.range 8).any (fun i =>
    decide (s.fld (Reg.TRIG.ST_OUTMAP q i) Fld.TRIG.ST_OUTMAP.casc / 16 ^ k % 16 ≠ 0) &&
      ((actsOf (s.fld (Reg.TRIG.ST_CTRL q i) Fld.TRIG.ST_CTRL.act_a)).out ||
        (actsOf (s.fld (Reg.TRIG.ST_CTRL q i) Fld.TRIG.ST_CTRL.act_t)).out))
  if !s.armed q || !drives then s.stampTbs
  else
    let m := s.seqMark q
    let a := (s.arcEdge q).map (·.time)
    let d := s.arcDeadline q
    min (min m (a.getD m)) (d.getD m)

/-- TRIG_FRAME_SEND (R322): a TRIG frame with up to 15 messages; the program messages and the density segments that wait come
after it (R135). -/
def execTrigFrameSend (k : Fin 2) (s : State) : Host.Outcome State Fault Refusal :=
  let k := k.val
  if !s.linkUp k then .next s
  else
    let h := s.cascade k
    let ms := h.trig.take 15
    let through := (List.range 16).foldl (fun m q => min m (s.seqThrough q k)) s.stampTbs
    let s : State := s.setCascade k { h with trig := h.trig.drop 15, msgs := [], density := [] }
    let s : State := s.sendCasc k 1
      (beBytes 1 ms.length ++ List.replicate 7 0 ++ beBytes 8 (s.tbsToBusFloor through) ++ ms.flatten ++
        List.replicate ((15 - ms.length) * 16) 0)
    let s : State := h.msgs.foldl (fun s m => s.sendCasc k 3 m) s
    .next (h.density.foldl (fun s m => s.sendCasc k 2 m) s)

end Sys2Proof.Machine
end

