-- ==== Sys2Proof/Machine/Scopes.lean ====
section
/-! DEFINITION. Enable scopes as such (R41, R47, R48, R553): the enable and disable of any unit scope by its kind, the block-wide
scopes, the end of a drain, and the return of an unloaded program's items to the free pool (R75). -/

namespace Sys2Proof.Machine

/-- The state a meaning goes on to; a meaning that stops leaves the state. -/
def State.after (s : State) (o : Host.Outcome State Fault Refusal) : State :=
  match o with
  | .next t => t
  | _ => s

/-! ## One unit scope -/

/-- The enable of a unit scope by its kind, as the unit's own command enables it. -/
def State.scopeEnable (s : State) (id : ScopeId) : State :=
  let i := id.idx
  match id.kind with
  | .core => if s.blockOn 3 && decide (s.coreState i = 0) then
      s.setFld (Reg.BRUSH.CORE_STATE i) Fld.BRUSH.CORE_STATE.state 1 else s
  | .port => s.portEnable i
  | .laneTest => s.after (execTestEnable (portLane (i / 5) (i % 5)) s)
  | .synth => s.after (execPllEnable (Fin.ofNat 4 i) s.clk.mclk s)
  | .clkOut => s.after (execOutEnable (Fin.ofNat 4 (i / 8)) (Fin.ofNat 8 (i % 8)) s)
  | .tdc => s.when (s.blockOn 7) (fun s => s.setScope id .run)
  | .ival => s.after (execIvalArm (Fin.ofNat 4 i) s)
  | .regr => s.after (execFreqStart (Fin.ofNat 4 i) s)
  | .spk => s.spkEnable i
  | .zoom => s.zcEnable i
  | .pair => (s.xfEnable i).2
  | .win => s.winEnable i
  | .mask => (s.maskEnable i).2
  | .mec => s.mecEnable i
  | .timer => (s.tmrEnable i).2
  | .seq => (s.seqEnable i).2
  | .trigOut => s.when (s.blockOn 10) (fun s => s.setScope id .run)
  | .template => (s.tplEnable i).2
  | .job => (s.lbSubmit i).2
  | .plane => if s.planeSecond i then s else (s.planeEnable i).2
  | .output => if s.dpIgnored i then s else (s.dpEnable i).2
  | .inkChan => s
  | .cring => (s.ringEnable (cring i)).2
  | .rring => (s.ringEnable (rring i)).2
  | .exportCh => (s.dmaEnable i).2
  | .drive => s
  | .diskStream => (s.dsEnable (Fin.ofNat 16 i)).2
  | .cascLink => s.cascEnable i
  | .cascLaneTest => s.after (execTestEnable (cascLane (i / 2) (i % 2)) s)

/-- Whether a stream that is not OFF names a drive. -/
def State.driveNamed (s : State) (d : Nat) : Bool :=
  (List.range 16).any (fun n => decide (s.dsState n ≠ 0) && (s.fld (Reg.STOR.DS_CFG n) Fld.STOR.DS_CFG.drives).testBit d)

/-- A drive leaves the set. -/
def State.driveLeaves (s : State) (d : Nat) : State :=
  (((s.setDrive d { s.drive d with parts := [], valid := [], block := [], flight := [] }).setDrvState d 3)).setScope ⟨.drive, d⟩ .off

/-- A core leaves its program's work. -/
def State.coreOff (s : State) (c : Nat) : State :=
  (s.setFld (Reg.BRUSH.CORE_STATE c) Fld.BRUSH.CORE_STATE.state 0).setScope ⟨.core, c⟩ .off

/-- The disable of a unit scope by its kind, as the unit's own disable disables it (R41). -/
def State.scopeDisable (s : State) (id : ScopeId) : State :=
  let i := id.idx
  match id.kind with
  | .core => if s.coreState i = 1 then s.coreOff i else if s.coreState i = 0 then s else s.setScope id .draining
  | .port => s.portDisable i
  | .laneTest => s.after (execTestDisable (portLane (i / 5) (i % 5)) s)
  | .synth => s.after (execPllDisable (Fin.ofNat 4 i) s)
  | .clkOut => s.after (execOutDisable (Fin.ofNat 4 (i / 8)) (Fin.ofNat 8 (i % 8)) s)
  | .tdc => s.setScope id .off
  | .ival => if (s.ival i).start.isNone && (s.ival i).stop.isNone then s.setScope id .off else s
  | .regr => s.after (execFreqStop (Fin.ofNat 4 i) s)
  | .spk => s.spkDisable i
  | .zoom => s.zcDisable i
  | .pair => s.disablePair i
  | .win => if s.slotUsers i = 0 then s.setFld (Reg.XFORM.WIN_STATE i) Fld.XFORM.WIN_STATE.enabled 0 else s.setScope id .draining
  | .mask => s.maskDisable i
  | .mec => s.mecDisable i
  | .timer => s.tmrDisable i
  | .seq => s.seqDisable i
  | .trigOut => s.trigOutDisable i
  | .template => s.tplDisable i
  | .job => s.lbCancel i
  | .plane => if s.planeSecond i then s else s.planeDisable i
  | .output => if s.dpIgnored i then s else s.dpDisable i
  | .inkChan => s.setFld (Reg.INK.CH_STATE i) Fld.INK.CH_STATE.state 0
  | .cring => s.ringDisable (cring i)
  | .rring => s.ringDisable (rring i)
  | .exportCh => s.dmaDisable i
  | .drive => if s.driveNamed i then s.setScope id .draining else s.driveLeaves i
  | .diskStream => s.dsDisable i
  | .cascLink => s.cascDisable i
  | .cascLaneTest => s.after (execTestDisable (cascLane (i / 2) (i % 2)) s)

/-- Whether a stream brings no more samples. -/
def State.noInput (s : State) (id : Nat) : Bool :=
  (s.stream id).source.isNone || (match s.streamPort id with
    | some p => !s.portUp p
    | none => true)

/-- A unit in DRAINING goes OFF when its items in flight have left it (R48). -/
def State.drainEnd (s : State) (id : ScopeId) : State :=
  let i := id.idx
  match id.kind with
  | .core => if s.coreState i = 1 && decide (s.scopeState id = .draining) then s.coreOff i else s
  | .spk =>
    if s.scopeState id = .draining && (s.portStreams i).all (fun o => o.all (s.noInput ·)) then
      ((s.setSpike i Spike.fresh).setFld (Reg.COND.SPK_STATE i) Fld.COND.SPK_STATE.enabled 0).setScope id .off
    else s
  | .zoom => if s.zoomState i = 3 && (decide ((s.zoom i).outs = 256) || s.noInput (s.zoomIn i)) then s.zoomOff i else s
  | .pair =>
    if s.pairState i ≠ 3 || !s.noInput (s.pairCfg i).stream then s
    else
      let c := s.pairCfg i
      let (l, s) := s.flushBlock i
      ((s.pairOff i).deliverFrames i c l).stopPlanes i
  | .win =>
    if s.scopeState id = .draining && decide (s.slotUsers i = 0) then
      (s.setFld (Reg.XFORM.WIN_STATE i) Fld.XFORM.WIN_STATE.enabled 0).setScope id .off
    else s
  | .seq => s.seqDrained i
  | .template => s.tplDrained i
  | .plane => if s.planeState i = 2 && decide (s.pairState (s.planePair i) = 0) then s.planeOff i else s
  | .output => if (s.panel i).stopGo && !s.running .disp then s.panelOff i else s
  | .cring => if s.ringState (cring i) = 3 && !s.ringBusy (cring i) then s.ringOff (cring i) else s
  | .rring => if s.ringState (rring i) = 3 then s.ringOff (rring i) else s
  | .exportCh =>
    if s.dmaState i ≠ 5 then s
    else if (s.channel i).items.isEmpty then s.dmaOff i
    else if (itemAt (s.channel i).items (s.channel i).next).isNone then s.bufFlush i else s
  | .diskStream => s.diskDrained i
  | .drive => if s.scopeState id = .draining && !s.driveNamed i then s.driveLeaves i else s
  | .port | .laneTest | .synth | .clkOut | .tdc | .ival | .regr | .mask | .mec | .timer | .trigOut | .job | .inkChan | .cascLink
  | .cascLaneTest => s

/-! ## What a binding stands for -/

/-- The unit scope behind an instance of a UNIT declaration (R77, R175 and the blocks' chapters). Where another kind of
declaration binds the instances, a UNIT entry names none. -/
def unitScope (block inst : Nat) : Option ScopeId :=
  match block with
  | 4 => if 8 ≤ inst && inst < 48 then some ⟨.laneTest, inst - 8⟩ else none
  | 5 => if inst < 8 then some ⟨.port, inst⟩ else none
  | 6 => if inst < 4 then some ⟨.synth, inst⟩ else none
  | 7 => if 20 ≤ inst && inst < 24 then some ⟨.ival, inst - 20⟩
    else if 24 ≤ inst && inst < 28 then some ⟨.regr, inst - 24⟩ else none
  | 8 => if 32 ≤ inst && inst < 40 then some ⟨.spk, inst - 32⟩ else none
  | 9 => if 128 ≤ inst && inst < 136 then some ⟨.win, inst - 128⟩ else none
  | 10 => if 16 ≤ inst && inst < 20 then some ⟨.trigOut, inst - 16⟩ else none
  | 11 => if inst < 64 then some ⟨.template, inst⟩ else if inst < 72 then some ⟨.job, inst - 64⟩ else none
  | 13 => if inst < 2 then some ⟨.output, inst⟩ else none
  | 14 => if inst < 16 then some ⟨.inkChan, inst⟩ else none
  | 17 => if inst < 8 then some ⟨.drive, inst⟩ else none
  | 18 => if inst < 2 then some ⟨.cascLink, inst⟩ else if inst < 6 then some ⟨.cascLaneTest, inst - 2⟩ else none
  | _ => none

/-- Whether a UNIT entry may name an instance: those with a scope, and TRIG's sync lines and cascade channels, which have none. -/
def unitNamed (block inst : Nat) : Bool :=
  (unitScope block inst).isSome || (block = 10 && decide (20 ≤ inst) && decide (inst < 36))

/-- The unit scopes that a binding holds. -/
def Binding.scopes : Binding → List ScopeId
  | .port p => [⟨.port, p⟩]
  | .stream _ => []
  | .zoom z => [⟨.zoom, z⟩]
  | .pair i => [⟨.pair, i⟩]
  | .plane k g => if g then [⟨.plane, k⟩, ⟨.plane, k + 1⟩] else [⟨.plane, k⟩]
  | .seq q => [⟨.seq, q⟩]
  | .trigSrc n =>
    if n < 16 then [⟨.mask, n⟩] else if 56 ≤ n && n < 64 then [⟨.mec, n - 56⟩]
    else if 80 ≤ n && n < 88 then [⟨.timer, n - 80⟩] else []
  | .commandRing c => [⟨.cring, c⟩]
  | .resultRing r _ => [⟨.rring, r⟩]
  | .brush _ l => l.map (fun c => ⟨.core, c⟩)
  | .exportCh ch _ => [⟨.exportCh, ch⟩]
  | .disk n _ => [⟨.diskStream, n⟩]
  | .barrier _ => []
  | .tdc c => [⟨.tdc, c⟩]
  | .unit b i only => if only then [] else (unitScope b i).toList

/-- Whether another program that stays holds a port. -/
def State.portShared (s : State) (k p : Nat) : Bool :=
  (List.range 12).any (fun j => decide (j ≠ k) && !(s.nib j).unloading && (s.nib j).bindings.any (fun e => e.2 = .port p))

/-- The unit scopes that an unload of a program disables. -/
def State.slotScopes (s : State) (k : Nat) : List ScopeId :=
  ((s.nib k).bindings.flatMap (fun e => e.2.scopes)).filter (fun id => !(decide (id.kind = .port) && s.portShared k id.idx))

/-! ## The free pool (R75) -/

/-- What a binding's item shows once it is free. -/
def State.releaseBinding (s : State) (b : Binding) : State :=
  match b with
  | .stream id => s.setStream id Stream.vacant
  | .pair i => (s.setFld (Reg.XFORM.XF_STATE i) Fld.XFORM.XF_STATE.slots 0).setFld (Reg.XFORM.XF_STATE i) Fld.XFORM.XF_STATE.tiles 0
  | .plane k g =>
    if g then (s.setFld (Reg.BLOT.PL_STATE k) Fld.BLOT.PL_STATE.ganged 0).setFld (Reg.BLOT.PL_STATE (k + 1)) Fld.BLOT.PL_STATE.ganged 0
    else s
  | .commandRing c => s.setFld (Reg.HOSTQ.CRING_STATE c) Fld.HOSTQ.CRING_STATE.owner 15
  | .resultRing r _ => s.setFld (Reg.HOSTQ.RRING_STATE r) Fld.HOSTQ.RRING_STATE.owner 15
  | .brush k l =>
    let s : State := l.foldl (fun s c => (s.setReg (Reg.BRUSH.CORE_STATE c) 0).setCore c BrushCore.idle) s
    let a := Reg.BRUSH.KRN_STATE k
    s.setFld a Fld.BRUSH.KRN_STATE.cores (s.fld a Fld.BRUSH.KRN_STATE.cores - l.length)
  | .disk n _ => s.setReg (Reg.STOR.DS_RATE n) 0
  | _ => s

/-- FREE_POOL_RETURN for one program: its items are free and its slot is empty. -/
def State.emptySlot (s : State) (k : Nat) : State :=
  let l := (s.nib k).bindings
  let s : State := l.foldl (fun s e => s.releaseBinding e.2) s
  let s : State := (s.setNib k NibSlot.vacant).setReg (Reg.NIB.PROG_IMAGE_CRC k) 0
  s.reportBudget

/-- FREE_POOL_RETURN: every unloaded program whose units have left DRAINING (R75). -/
def State.freePool (s : State) : State :=
  (List.range 12).foldl (fun s k =>
    if (s.nib k).unloading && (s.slotScopes k).all (fun id => !s.live id) then s.emptySlot k else s) s

/-! ## Commands -/

/-- Whether a unit of a block has failed with no spare to replace it (R48, R499). -/
def State.blockFailed (s : State) (b : Nat) : Bool := s.stw.failedUnits.any (fun e => e.1 = b)

def State.setBlockState (s : State) (b v : Nat) : State := s.setFld (Reg.HDR.BLK_STATE b) Fld.HDR.BLK_STATE.state v

/-- A block-wide scope enabled (R48): RUN, and FAULT again at once while a unit of the block is failed. -/
def State.blockEnable (s : State) (b : Nat) : State :=
  if s.blockState b = 0 then s.setBlockState b (if s.blockFailed b then 3 else 1) else s

/-- BLOCK_ENABLE (R47): accepted with no effect but in IDLE. -/
def execBlockEnable (block : Fin 25) (s : State) : Host.Outcome State Fault Refusal :=
  .next ((s.accept (Reg.HDR.BLK_CMD block.val) Fld.HDR.BLK_CMD.enable_go).blockEnable block.val)

/-- BLOCK_DISABLE (R41, R47, R48): every unit scope is disabled as its own disable would, and the block-wide scope reads
DRAINING. -/
def execBlockDisable (block : Fin 25) (s : State) : Host.Outcome State Fault Refusal :=
  let b := block.val
  let s : State := s.accept (Reg.HDR.BLK_CMD b) Fld.HDR.BLK_CMD.disable_go
  if !s.blockOn b then .next s
  else .next ((scopesOfBlock b).foldl (fun s id => if s.live id then s.scopeDisable id else s) (s.setBlockState b 2))

/-- BLOCK_DRAIN_END (R41): IDLE once every unit scope of the block is OFF. -/
def execBlockDrainEnd (block : Fin 25) (s : State) : Host.Outcome State Fault Refusal :=
  let b := block.val
  if s.blockState b = 2 && (scopesOfBlock b).all (fun id => !s.live id) then .next (s.setBlockState b 0) else .next s

/-- UNIT_DRAIN_END (R48, R75). -/
def execUnitDrainEnd (scope : ScopeId) (s : State) : Host.Outcome State Fault Refusal :=
  .next (s.drainEnd scope).freePool

end Sys2Proof.Machine
end

