-- ==== Sys2Proof/Machine/Admit.lean ====
section
/-! DEFINITION. Program images (R76, R77, R555, R556) and the checks of admission in the order of R79. -/

namespace Sys2Proof.Machine

/-! ## The image (R76) -/

def progDeclCount (l : List Byte) : Nat := leAt l 0x10 4
def progCodeLen (l : List Byte) : Nat := leAt l 0x14 4
def progDataLen (l : List Byte) : Nat := leAt l 0x18 4
def progFlag (l : List Byte) (i : Nat) : Bool := (leAt l 6 2).testBit i
def progEntry (l : List Byte) : Nat := leAt l 8 4
def progHandler (l : List Byte) : Nat := leAt l 12 4
/-- The offset of the code, of the data, and of the crc. -/
def progCodeAt (l : List Byte) : Nat := 0x40 + 8 * progDeclCount l
def progDataAt (l : List Byte) : Nat := progCodeAt l + progCodeLen l
def progCrcAt (l : List Byte) : Nat := progDataAt l + progDataLen l

/-- Declaration entry i (R77). -/
def progDecl (l : List Byte) (i : Nat) : Decl :=
  let a := 0x40 + 8 * i
  { kind := leAt l a 1, flags := leAt l (a + 1) 1, handle := leAt l (a + 2) 2, param := leAt l (a + 4) 4 }

def progDecls (l : List Byte) : List Decl := (List.range (progDeclCount l)).map (progDecl l)

/-- The words of the code, by word address. -/
def progWords (l : List Byte) : List (Nat × Word) :=
  (List.range (progCodeLen l / 4)).foldl (fun m i =>
    sparsePut (fun _ => (0 : Word)) i (BitVec.ofNat 32 (leAt l (progCodeAt l + 4 * i) 4)) m) []

/-- The bytes of the data. -/
def progData (l : List Byte) : List Byte := bytesAt l (progDataAt l) (progDataLen l)

/-- The offset of the first length that is out of range (R76, R79). -/
def progField (l : List Byte) : Option Nat :=
  if !sizeOk (progDeclCount l) 1 1 1024 then some 0x10
  else if !sizeOk (progCodeLen l) 4 4 65536 then some 0x14
  else if !sizeOk (progDataLen l) 4 0 65536 then some 0x18
  else none

/-- Whether an entry point lies in the code on a word. -/
def entryOk (l : List Byte) (a : Nat) : Bool := decide (a % 4 = 0) && decide (a < progCodeLen l)

/-- The checks of R79 from BAD_MAGIC to BAD_ENTRY: code and argument of the first that fails. -/
def State.imageRefusal (s : State) (l : List Byte) (signatureOk : Bool) : Option (Nat × Nat) :=
  if l.take 4 ≠ [0x51, 0x55, 0x49, 0x4C] then some (1, 0)
  else if leAt l 4 1 ≠ 1 then some (2, leAt l 4 1)
  else if l.length < 64 then some (3, 0xFFFF)
  else match progField l with
    | some o => some (3, o)
    | none =>
      if l.length ≠ progCrcAt l + 4 + (if progFlag l 0 then 96 else 0) then some (3, 0xFFFE)
      else if leAt l (progCrcAt l) 4 ≠ (crc32c (l.take (progCrcAt l))).toNat then some (4, 0)
      else if progFlag l 2 then some (5, 0)
      else match s.keyRefusal (progFlag l 0) (leAt l 0x1C 1) signatureOk with
        | some r => some r
        | none =>
          if !entryOk l (progEntry l) || (if progFlag l 1 then !entryOk l (progHandler l) else decide (progHandler l ≠ 0))
          then some (9, 0) else none

/-! ## Fields of declarations (R77) -/

/-- A PORT or ZOOM entry's port. -/
def Decl.port (d : Decl) : Nat := d.param % 8
def Decl.portMode (d : Decl) : Nat := d.param / 16 % 4
def Decl.decim (d : Decl) : Nat := d.param / 8 % 2 ^ 17
/-- A STREAM or PAIR entry's stream ID. -/
def Decl.streamId (d : Decl) : Nat := d.param % 256
def Decl.log2n (d : Decl) : Nat := d.param / 256 % 32
def Decl.ov (d : Decl) : Nat := d.param / 2 ^ 13 % 4
/-- A STREAM entry's head output, and the handle of its ZOOM entry. -/
def Decl.headOut (d : Decl) : Nat × Nat := (d.param / 256 % 8, d.param / 2 ^ 11 % 4)
def Decl.zoomHandle (d : Decl) : Nat := d.param / 2 ^ 16 % 1024
def Decl.fromZoom (d : Decl) : Bool := d.flags.testBit 0
/-- A UNIT entry's block, its instance, and whether it is send-only. -/
def Decl.unit (d : Decl) : Nat × Nat × Bool := (d.param % 32, d.param / 256 % 256, d.flags.testBit 0)

/-- The entries without a logical handle. -/
def Decl.noHandle (d : Decl) : Bool := [5, 13, 14, 15].contains d.kind

/-- The PORT entry of a port. -/
def portDecl (all : List Decl) (p : Nat) : Option Decl := all.find? (fun d => decide (d.kind = 1) && decide (d.port = p))
/-- The STREAM entry of a stream ID. -/
def streamDecl (all : List Decl) (id : Nat) : Option Decl :=
  all.find? (fun d => decide (d.kind = 2) && decide (d.streamId = id))
def zoomDecl (all : List Decl) (h : Nat) : Option Decl := all.find? (fun d => decide (d.kind = 3) && decide (d.handle = h))

/-- Whether the fields of an entry lie in range (R77, R379). -/
def State.declRange (s : State) (d : Decl) : Bool :=
  (if d.noHandle then decide (d.kind = 15 && d.handle ≤ 4 || d.handle = 0) else decide (d.handle < 1024)) &&
  (match d.kind with
  | 1 | 2 | 6 | 11 | 12 | 13 | 14 | 15 => true
  | 3 => decide (2 ≤ d.decim) && decide (d.decim ≤ 65536)
  | 4 => decide (6 ≤ d.log2n) && decide (d.log2n ≤ 16)
  | 5 => decide (d.param % 2 ^ 16 ≤ 2048)
  | 7 => decide (d.param = 0)
  | 8 => decide (d.param % 128 < 96)
  | 9 => d.param.testBit 0 || !d.param.testBit 1
  | 10 =>
    let k := Reg.BRUSH.KRN_STATE (d.param % 256)
    (s.flag k Fld.BRUSH.KRN_STATE.loaded || s.flag k Fld.BRUSH.KRN_STATE.builtin) &&
      decide (1 ≤ d.param / 256 % 256) && decide (d.param / 256 % 256 ≤ 40)
  | 16 => decide (2 ≤ d.param) && decide (d.param ≤ 12)
  | 17 => decide (d.param < 20)
  | 18 => unitNamed d.unit.1 d.unit.2.1 || decide (d.unit.1 = 6 && d.unit.2.1 = 0)
  | _ => false) &&
  (decide (d.flags = 0) || (decide (d.flags = 1) && (decide (d.kind = 2) || (decide (d.kind = 18) && decide (d.unit.1 = 18)))))

/-- Whether two STREAM entries name one source. -/
def sameSource (a b : Decl) : Bool :=
  if a.fromZoom then b.fromZoom && decide (a.zoomHandle = b.zoomHandle) else !b.fromZoom && decide (a.headOut = b.headOut)

/-- Whether an entry is malformed (R79 code 0x0A, R287, R555, R556), given the whole image and the entries before it. -/
def State.declBad (s : State) (all before : List Decl) (d : Decl) : Bool :=
  !s.declRange d ||
  (if d.noHandle then before.any (fun e => decide (e.kind = d.kind) && (d.kind ≠ 15 || decide (e.handle = d.handle)))
    else before.any (fun e => !e.noHandle && decide (e.handle = d.handle))) ||
  (match d.kind with
  | 1 => (portDecl before d.port).isSome
  | 2 =>
    (streamDecl before d.streamId).isSome ||
    before.any (fun e => decide (e.kind = 2) && sameSource d e) ||
    (if d.fromZoom then (zoomDecl all d.zoomHandle).isNone
      else match portDecl all d.headOut.1 with
        | some p => decide (modeOutputs p.portMode ≤ d.headOut.2)
        | none => true)
  | 3 => (portDecl all d.port).isNone
  | 4 =>
    (streamDecl all d.streamId).isNone ||
    decide (4 ≤ before.countP (fun e => decide (e.kind = 4) && decide (e.streamId = d.streamId)))
  | _ => false)

/-- The index of the first malformed entry. -/
def State.firstBad (s : State) (all : List Decl) : Option Nat :=
  (List.range all.length).find? (fun i => match all[i]? with
    | some d => s.declBad all (all.take i) d
    | none => false)

/-! ## The budget (R32, R286) -/

/-- The real-equivalent rate of a declared stream, MS/s. -/
def declaredRate (all : List Decl) (id : Nat) : Rat :=
  let mode (p : Nat) : Nat := ((portDecl all p).map Decl.portMode).getD 0
  match streamDecl all id with
  | none => 0
  | some d =>
    if d.fromZoom then
      match zoomDecl all d.zoomHandle with
      | some z => ((2 * modeRate (mode z.port) : Nat) : Rat) / ((max 1 z.decim : Nat) : Rat)
      | none => 0
    else
      let m := mode d.headOut.1
      ((modeRate m * (if m = 2 then 2 else 1) : Nat) : Rat)

/-- The slots of a PAIR entry. -/
def pairSlots (all : List Decl) (d : Decl) : Nat := slotsFor (declaredRate all d.streamId) (2 ^ d.ov)

/-- The recomputed total. -/
def declaredTotal (all : List Decl) : Nat := ((all.filter (·.kind = 4)).map (pairSlots all)).sum

/-- The sum of a field over the entries of a kind. -/
def declSum (all : List Decl) (kind : Nat) (f : Decl → Nat) : Nat := ((all.filter (·.kind = kind)).map f).sum

/-! ## Items (R74) -/

/-- The items that a binding takes out of a pool: the kind of unit, and its number. -/
def Binding.items : Binding → List (ScopeKind × Nat)
  | .zoom z => [(.zoom, z)]
  | .pair i => [(.pair, i)]
  | .plane k g => if g then [(.plane, k), (.plane, k + 1)] else [(.plane, k)]
  | .seq q => [(.seq, q)]
  | .commandRing c => [(.cring, c)]
  | .resultRing r _ => [(.rring, r)]
  | .brush _ l => l.map (fun c => (ScopeKind.core, c))
  | .exportCh ch _ => [(.exportCh, ch)]
  | .disk n _ => [(.diskStream, n)]
  | _ => []

/-- Whether a failed unit without a spare counts as absent (R499), by its kind of R494. -/
def State.absent (s : State) (kind inst : Nat) : Bool := s.stw.failedUnits.any (fun e => e.2 = kind * 65536 + inst)

/-- Whether an item of a pool is free: no program holds it, nothing has enabled it, and it is not absent. -/
def State.itemFree (s : State) (acc : List (Nat × Binding)) (k : ScopeKind) (i : Nat) : Bool :=
  !acc.any (fun e => e.2.items.contains (k, i)) && (s.holder (fun b => b.items.contains (k, i))).isNone &&
    !s.live ⟨k, i⟩ && !s.absent (match k with
      | .zoom => 2
      | .core => 4
      | .plane => 5
      | _ => 12) i

/-- The lowest free item among some numbers. -/
def State.pick (s : State) (acc : List (Nat × Binding)) (k : ScopeKind) (l : List Nat) : Option Nat :=
  l.find? (fun i => s.itemFree acc k i)

/-- Whether an entry names an item that another program holds, or one that no program may hold (R74, R137, R175, R209,
R556). -/
def State.declConflict (s : State) (d : Decl) : Bool :=
  match d.kind with
  | 2 =>
    (s.holder (· = .stream d.streamId)).isSome || (s.stream d.streamId).source.isSome ||
      (!d.fromZoom && s.streams.any (fun e => e.2.source = some (.head d.headOut.1 d.headOut.2)))
  | 8 => (s.holder (· = .trigSrc (d.param % 128))).isSome
  | 17 => decide (11 ≤ d.param) || (s.holder (· = .tdc d.param)).isSome
  | 18 =>
    let (b, i, only) := d.unit
    decide (b = 6 && i = 0) || (!only && (s.holder (· = .unit b i false)).isSome)
  | _ => false

/-- The binding of an entry other than a RING: none where the kind has no free unit. -/
def State.declBind (s : State) (acc : List (Nat × Binding)) (d : Decl) : Option Binding :=
  match d.kind with
  | 1 => some (.port d.port)
  | 2 => some (.stream d.streamId)
  | 3 => (s.pick acc .zoom ((List.range 4).map (fun c => 4 * d.port + c))).map .zoom
  | 4 => (s.pick acc .pair (List.range 128)).map .pair
  | 6 =>
    if d.param.testBit 0 then
      (((List.range 8).map (2 * ·)).find? (fun i => s.itemFree acc .plane i && s.itemFree acc .plane (i + 1))).map (.plane · true)
    else (s.pick acc .plane (List.range 16)).map (.plane · false)
  | 7 => (s.pick acc .seq (List.range 16)).map .seq
  | 8 => some (.trigSrc (d.param % 128))
  | 10 =>
    let l := ((List.range 40).filter (fun c => s.itemFree acc .core c)).take (d.param / 256 % 256)
    if l.length = d.param / 256 % 256 then some (.brush (d.param % 256) l) else none
  | 11 => (s.pick acc .exportCh (List.range 64)).map (.exportCh · d.param)
  | 12 => (s.pick acc .diskStream (List.range 16)).map (.disk · d.param)
  | 16 => some (.barrier d.param)
  | 17 => if s.absent 6 d.param then none else some (.tdc d.param)
  | _ => some (.unit d.unit.1 d.unit.2.1 d.unit.2.2)

/-- The bindings of the entries other than RINGs, in entry order, or the kind that has run out (code 0x0F). -/
def State.bindUnits (s : State) : List Decl → List (Nat × Binding) → Except Nat (List (Nat × Binding))
  | [], acc => .ok acc
  | d :: t, acc =>
    if d.noHandle || d.kind = 9 then s.bindUnits t acc
    else match s.declBind acc d with
      | some b => s.bindUnits t (acc ++ [(d.handle, b)])
      | none => .error d.kind

/-- The bindings of RING entries, or the entry that finds none (code 0x10). -/
def State.bindRings (s : State) : List (Decl × Nat) → List (Nat × Binding) → Except Nat (List (Nat × Binding))
  | [], acc => .ok acc
  | (d, i) :: t, acc =>
    if d.kind ≠ 9 then s.bindRings t acc
    else
      let r := if d.param.testBit 0 then (s.pick acc .rring (List.range 3072)).map (.resultRing · (d.param.testBit 1))
        else (s.pick acc .cring (List.range 1024)).map Binding.commandRing
      match r with
      | some b => s.bindRings t (acc ++ [(d.handle, b)])
      | none => .error i

/-! ## Sinks (R35, R441, R478) -/

/-- The rate of the host link in MB/s: as trained, and the figure of R35 while it has never been (R441). -/
def State.hostRate (s : State) : Nat :=
  let r := s.fld Reg.HOSTQ.HQ_LINK Fld.HOSTQ.HQ_LINK.rate
  if r = 0 then 121000 else r

/-- The admitted export rates. -/
def State.exportRates (s : State) : Nat :=
  ((List.range 12).map (fun k => ((s.nib k).bindings.map (fun e => match e.2 with
    | .exportCh _ r => r
    | _ => 0)).sum)).sum

/-- A drive's admission rate in MB/s (R477). -/
def State.driveAdmission (s : State) (d : Nat) : Rat :=
  let st := Reg.STOR.DRV_STATE d
  let w := s.fld st Fld.STOR.DRV_STATE.width
  let link : Nat := 2000 * w / (if s.fld st Fld.STOR.DRV_STATE.gen = 3 then 1 else 2)
  min ((4 * (s.reg (Reg.STOR.DRV_RATE d)).toNat : Nat) / 5 : Rat) (link : Rat)

/-- The drives that a disk stream names. -/
def State.namedDrives (s : State) (n : Nat) : List Nat :=
  (List.range 8).filter (fun d => (s.fld (Reg.STOR.DS_CFG n) Fld.STOR.DS_CFG.drives).testBit d)

/-- The load that disk streams put on a drive (R478). -/
def State.driveLoad (s : State) (d : Nat) (l : List (Nat × Nat)) : Rat :=
  (l.map (fun e =>
    let ds := s.namedDrives e.1
    if ds.contains d then (e.2 : Rat) / (ds.length : Rat) else 0)).sum

/-- The disk streams that programs hold, with their rates. -/
def State.diskRates (s : State) : List (Nat × Nat) :=
  (List.range 12).flatMap (fun k => (s.nib k).bindings.filterMap (fun e => match e.2 with
    | .disk n r => some (n, r)
    | _ => none))

/-- The first EXPORT or DISK entry that breaks R35 or R478. -/
def State.sinkRefusal (s : State) (l : List (Nat × Binding)) : List (Decl × Nat) → Nat → List (Nat × Nat) → Option Nat
  | [], _, _ => none
  | (d, i) :: t, out, disks =>
    let b : Option Binding := (l.find? (fun e => !d.noHandle && decide (e.1 = d.handle))).map (·.2)
    match b with
    | some (.exportCh _ r) => if s.hostRate < out + r then some i else s.sinkRefusal l t (out + r) disks
    | some (.disk n r) =>
      let ds := s.namedDrives n
      let all := disks ++ [(n, r)]
      if (ds.isEmpty && decide (r ≠ 0)) || ds.any (fun x => (s.drvState x ≠ 3 && s.drvState x ≠ 4) ||
          decide (s.driveAdmission x < s.driveLoad x all)) then some i
      else s.sinkRefusal l t out all
    | _ => s.sinkRefusal l t out disks

/-! ## The checks from NO_NIB on -/

/-- The bound of R25 for a path of R29, in ns. -/
def latencyBound (path : Nat) : Nat :=
  match path with
  | 0 => 24000 | 1 => 10000 | 2 => 80 | 3 => 40000 | _ => 150000

/-- The raw-ring writes of an image's own streams, MB/s (R34). -/
def declaredRaw (all : List Decl) : Rat :=
  (((all.filter (·.kind = 2)).map (fun d => declaredRate all d.streamId)).sum) * 56 / 37

/-- The bytes of an image's INK_SPACE allocation. -/
def declaredInk (all : List Decl) : Nat := declSum all 13 (·.param) * 2 ^ 20

/-- The bytes of the user allocation that a new allocation may take (R418, R434). -/
def State.freeInk (s : State) : Nat :=
  s.userBytes - (((s.allocations.map (fun e => upToUnit e.2)).sum) + upToUnit s.displaySize + upToUnit s.outageSize)

/-- The regions that a new allocation leaves where they are: the pool, the other allocations, and the display area and the
host-outage buffer where this admission does not move them (R418). -/
def State.fixedRegions (s : State) (anew : Bool) : List (Nat × Nat) :=
  s.poolPieces ++ s.allocations ++
    (if anew || decide (s.displayArea.2 ≠ s.displaySize) then [] else [s.displayArea]) ++
    (if anew || (decide (s.ink.outage.2 ≠ s.outageSize) && s.ink.redirect.isNone) then [] else [s.ink.outage])

/-- Whether no program is admitted. -/
def State.idleSession (s : State) : Bool := (List.range 12).all (fun k => (s.nib k).state = .empty)

/-- A port that another program holds in another mode (code 0x15). -/
def State.modeClash (s : State) (d : Decl) : Bool :=
  decide (d.kind = 1) && (s.holder (· = .port d.port)).isSome && decide (s.portMode d.port ≠ d.portMode)

/-- What an admitted program gets: its slot, its bindings and the base of its Inkwell allocation. -/
structure Admission where
  slot : Nat
  bindings : List (Nat × Binding)
  inkBase : Nat
deriving DecidableEq, Repr

/-- The checks of R79 from DECL_MALFORMED to PORT_MODE, on the declarations of a checked image: a refusal with its argument, or the
admission. `slots` are the program slots that the program may take. -/
def State.admission (s : State) (all : List Decl) (slots : List Nat) : Except (Nat × Nat) Admission :=
  let total := declaredTotal all
  let sat (n : Nat) : Nat := min n 65535
  match s.firstBad all with
  | some i => .error (0x0A, i)
  | none =>
    match slots.find? (fun k => decide ((s.nib k).state = .empty) && !s.absent 3 k) with
    | none => .error (0x0B, 0)
    | some slot =>
      if declSum all 5 (fun d => d.param % 2 ^ 16) ≠ total then .error (0x0C, sat total)
      else if s.freeSlots < total then .error (0x0D, s.freeSlots)
      else match (all.zipIdx.find? (fun e => s.declConflict e.1)) with
        | some e => .error (0x0E, e.2)
        | none => match s.bindUnits all [] with
          | .error k => .error (0x0F, k)
          | .ok units => match s.bindRings all.zipIdx units with
            | .error i => .error (0x10, i)
            | .ok l =>
              let ink := declaredInk all
              let base := if ink = 0 then some 0 else lowestGap (s.fixedRegions s.idleSession) ink
              match (if s.freeInk < upToUnit ink then none else base) with
              | none => .error (0x11, sat (s.freeInk / 2 ^ 20))
              | some base =>
                let left := s.freeTraffic - declaredRaw all
                if left < (declSum all 14 (·.param) : Rat) then .error (0x12, sat (left.floor.toNat / 16))
                else match s.sinkRefusal l all.zipIdx s.exportRates s.diskRates with
                  | some i => .error (0x13, i)
                  | none =>
                    match all.find? (fun d => decide (d.kind = 15) && decide (d.param < latencyBound d.handle)) with
                    | some d => .error (0x14, d.handle)
                    | none => match all.find? s.modeClash with
                      | some d => .error (0x15, d.port)
                      | none => .ok { slot := slot, bindings := l, inkBase := base }

/-- The whole of R79 on an image. -/
def State.checkImage (s : State) (l : List Byte) (signatureOk : Bool) (slots : List Nat) : Except (Nat × Nat) Admission :=
  match s.imageRefusal l signatureOk with
  | some r => .error r
  | none => s.admission (progDecls l) slots

end Sys2Proof.Machine
end

