-- ==== Sys2Proof/Machine/NibCore.lean ====
section
/-! DEFINITION. The Nib's ALU, immediate, load and store, branch, loop and system instructions (R85 to R87, R98 to
R100). The unit, ring and barrier instructions stand in NibUnit. -/

namespace Sys2Proof.Machine

/-- ADD (R86). -/
def execNibAdd (slot : Fin 12) (rd ra rb : BitVec 5) (s : State) : Host.Outcome State Fault Refusal :=
  .next (nibAlu slot rd ra rb (fun a b => a + b) s)

/-- SUB (R86). -/
def execNibSub (slot : Fin 12) (rd ra rb : BitVec 5) (s : State) : Host.Outcome State Fault Refusal :=
  .next (nibAlu slot rd ra rb (fun a b => a - b) s)

/-- AND (R86). -/
def execNibAnd (slot : Fin 12) (rd ra rb : BitVec 5) (s : State) : Host.Outcome State Fault Refusal :=
  .next (nibAlu slot rd ra rb (fun a b => a &&& b) s)

/-- OR (R86). -/
def execNibOr (slot : Fin 12) (rd ra rb : BitVec 5) (s : State) : Host.Outcome State Fault Refusal :=
  .next (nibAlu slot rd ra rb (fun a b => a ||| b) s)

/-- XOR (R86). -/
def execNibXor (slot : Fin 12) (rd ra rb : BitVec 5) (s : State) : Host.Outcome State Fault Refusal :=
  .next (nibAlu slot rd ra rb (fun a b => a ^^^ b) s)

/-- SLL (R86). -/
def execNibSll (slot : Fin 12) (rd ra rb : BitVec 5) (s : State) : Host.Outcome State Fault Refusal :=
  .next (nibAlu slot rd ra rb (fun a b => a <<< (b.toNat % 32)) s)

/-- SRL (R86). -/
def execNibSrl (slot : Fin 12) (rd ra rb : BitVec 5) (s : State) : Host.Outcome State Fault Refusal :=
  .next (nibAlu slot rd ra rb (fun a b => a >>> (b.toNat % 32)) s)

/-- SRA (R86). -/
def execNibSra (slot : Fin 12) (rd ra rb : BitVec 5) (s : State) : Host.Outcome State Fault Refusal :=
  .next (nibAlu slot rd ra rb (fun a b => a.sshiftRight (b.toNat % 32)) s)

/-- MUL (R86). -/
def execNibMul (slot : Fin 12) (rd ra rb : BitVec 5) (s : State) : Host.Outcome State Fault Refusal :=
  .next (nibAlu slot rd ra rb (fun a b => a * b) s)

/-- MULH (R86). -/
def execNibMulh (slot : Fin 12) (rd ra rb : BitVec 5) (s : State) : Host.Outcome State Fault Refusal :=
  .next (nibAlu slot rd ra rb (fun a b => mulhSigned a b) s)

/-- MULHU (R86). -/
def execNibMulhu (slot : Fin 12) (rd ra rb : BitVec 5) (s : State) : Host.Outcome State Fault Refusal :=
  .next (nibAlu slot rd ra rb (fun a b => mulhUnsigned a b) s)

/-- MIN (R86). -/
def execNibMin (slot : Fin 12) (rd ra rb : BitVec 5) (s : State) : Host.Outcome State Fault Refusal :=
  .next (nibAlu slot rd ra rb (fun a b => if a.slt b then a else b) s)

/-- MAX (R86). -/
def execNibMax (slot : Fin 12) (rd ra rb : BitVec 5) (s : State) : Host.Outcome State Fault Refusal :=
  .next (nibAlu slot rd ra rb (fun a b => if a.slt b then b else a) s)

/-- MINU (R86). -/
def execNibMinu (slot : Fin 12) (rd ra rb : BitVec 5) (s : State) : Host.Outcome State Fault Refusal :=
  .next (nibAlu slot rd ra rb (fun a b => if a < b then a else b) s)

/-- MAXU (R86). -/
def execNibMaxu (slot : Fin 12) (rd ra rb : BitVec 5) (s : State) : Host.Outcome State Fault Refusal :=
  .next (nibAlu slot rd ra rb (fun a b => if a < b then b else a) s)

/-- CLZ (R86): the count of leading zeros of ra; rb is ignored. -/
def execNibClz (slot : Fin 12) (rd ra rb : BitVec 5) (s : State) : Host.Outcome State Fault Refusal :=
  .next (nibAlu slot rd ra rb (fun a _ => BitVec.ofNat 32 (leadingZeros a 32)) s)

/-- CMPEQ (R86). -/
def execNibCmpeq (slot : Fin 12) (rd ra rb : BitVec 5) (s : State) : Host.Outcome State Fault Refusal :=
  .next (nibCmp slot rd ra rb (fun a b => decide (a = b)) s)

/-- CMPNE (R86). -/
def execNibCmpne (slot : Fin 12) (rd ra rb : BitVec 5) (s : State) : Host.Outcome State Fault Refusal :=
  .next (nibCmp slot rd ra rb (fun a b => decide (a ≠ b)) s)

/-- CMPLT (R86). -/
def execNibCmplt (slot : Fin 12) (rd ra rb : BitVec 5) (s : State) : Host.Outcome State Fault Refusal :=
  .next (nibCmp slot rd ra rb (fun a b => a.slt b) s)

/-- CMPLTU (R86). -/
def execNibCmpltu (slot : Fin 12) (rd ra rb : BitVec 5) (s : State) : Host.Outcome State Fault Refusal :=
  .next (nibCmp slot rd ra rb (fun a b => decide (a < b)) s)

/-- CMPGE (R86). -/
def execNibCmpge (slot : Fin 12) (rd ra rb : BitVec 5) (s : State) : Host.Outcome State Fault Refusal :=
  .next (nibCmp slot rd ra rb (fun a b => !a.slt b) s)

/-- CMPGEU (R86). -/
def execNibCmpgeu (slot : Fin 12) (rd ra rb : BitVec 5) (s : State) : Host.Outcome State Fault Refusal :=
  .next (nibCmp slot rd ra rb (fun a b => decide (b ≤ a)) s)

/-- PAND (R86). -/
def execNibPand (slot : Fin 12) (rd ra rb : BitVec 5) (s : State) : Host.Outcome State Fault Refusal :=
  .next (nibPredOp slot rd ra rb true (fun a b => a && b) s)

/-- POR (R86). -/
def execNibPor (slot : Fin 12) (rd ra rb : BitVec 5) (s : State) : Host.Outcome State Fault Refusal :=
  .next (nibPredOp slot rd ra rb true (fun a b => a || b) s)

/-- PNOT (R86). -/
def execNibPnot (slot : Fin 12) (rd ra rb : BitVec 5) (s : State) : Host.Outcome State Fault Refusal :=
  .next (nibPredOp slot rd ra rb false (fun a _ => !a) s)

/-- ADDI (R85). -/
def execNibAddi (slot : Fin 12) (rd ra : BitVec 5) (imm : BitVec 16) (s : State) : Host.Outcome State Fault Refusal :=
  .next (nibImm slot rd ra (fun a => a + imm.signExtend 32) s)

/-- ANDI (R85). -/
def execNibAndi (slot : Fin 12) (rd ra : BitVec 5) (imm : BitVec 16) (s : State) : Host.Outcome State Fault Refusal :=
  .next (nibImm slot rd ra (fun a => a &&& imm.setWidth 32) s)

/-- ORI (R85). -/
def execNibOri (slot : Fin 12) (rd ra : BitVec 5) (imm : BitVec 16) (s : State) : Host.Outcome State Fault Refusal :=
  .next (nibImm slot rd ra (fun a => a ||| imm.setWidth 32) s)

/-- XORI (R85). -/
def execNibXori (slot : Fin 12) (rd ra : BitVec 5) (imm : BitVec 16) (s : State) : Host.Outcome State Fault Refusal :=
  .next (nibImm slot rd ra (fun a => a ^^^ imm.setWidth 32) s)

/-- CMPEQI (R85). -/
def execNibCmpeqi (slot : Fin 12) (rd ra : BitVec 5) (imm : BitVec 16) (s : State) : Host.Outcome State Fault Refusal :=
  .next (nibCmpImm slot rd ra (fun a => decide (a = imm.signExtend 32)) s)

/-- CMPLTI (R85). -/
def execNibCmplti (slot : Fin 12) (rd ra : BitVec 5) (imm : BitVec 16) (s : State) : Host.Outcome State Fault Refusal :=
  .next (nibCmpImm slot rd ra (fun a => decide (a.slt (imm.signExtend 32) = true)) s)

/-- CMPLTUI (R85). -/
def execNibCmpltui (slot : Fin 12) (rd ra : BitVec 5) (imm : BitVec 16) (s : State) : Host.Outcome State Fault Refusal :=
  .next (nibCmpImm slot rd ra (fun a => decide (a < imm.setWidth 32)) s)

/-- LUI (R85): ra is ignored. -/
def execNibLui (slot : Fin 12) (rd : BitVec 5) (imm : BitVec 16) (s : State) : Host.Outcome State Fault Refusal :=
  .next (nibImm slot rd 0 (fun _ => imm.setWidth 32 <<< 16) s)

/-- SHI (R85); a shift kind of 3 or a bit set in [15:7] is undefined and raises ILLEGAL. -/
def execNibShi (slot : Fin 12) (rd ra : BitVec 5) (imm : BitVec 16) (s : State) : Host.Outcome State Fault Refusal :=
  .next (nibStep slot (fun n => match shiftImm imm (n.get ra) with
    | some v => n.result rd v
    | none => .trap .illegal) s)

/-- LW (R85): the word at base + off. -/
def execNibLw (slot : Fin 12) (rd base : BitVec 5) (off : BitVec 16) (s : State) :
    Host.Outcome State Fault Refusal :=
  .next (nibLoad slot rd base off 4 (fun v => BitVec.ofNat 32 v) s)

/-- LH (R85): the sign-extended halfword at base + off. -/
def execNibLh (slot : Fin 12) (rd base : BitVec 5) (off : BitVec 16) (s : State) :
    Host.Outcome State Fault Refusal :=
  .next (nibLoad slot rd base off 2 (signExt 16) s)

/-- LHU (R85): the zero-extended halfword at base + off. -/
def execNibLhu (slot : Fin 12) (rd base : BitVec 5) (off : BitVec 16) (s : State) :
    Host.Outcome State Fault Refusal :=
  .next (nibLoad slot rd base off 2 (fun v => BitVec.ofNat 32 v) s)

/-- LB (R85): the sign-extended byte at base + off. -/
def execNibLb (slot : Fin 12) (rd base : BitVec 5) (off : BitVec 16) (s : State) :
    Host.Outcome State Fault Refusal :=
  .next (nibLoad slot rd base off 1 (signExt 8) s)

/-- LBU (R85): the zero-extended byte at base + off. -/
def execNibLbu (slot : Fin 12) (rd base : BitVec 5) (off : BitVec 16) (s : State) :
    Host.Outcome State Fault Refusal :=
  .next (nibLoad slot rd base off 1 (fun v => BitVec.ofNat 32 v) s)

/-- SW (R85): the low 4 byte(s) of rd to base + off. -/
def execNibSw (slot : Fin 12) (rd base : BitVec 5) (off : BitVec 16) (s : State) :
    Host.Outcome State Fault Refusal :=
  .next (nibStore slot rd base off 4 s)

/-- SH (R85): the low 2 byte(s) of rd to base + off. -/
def execNibSh (slot : Fin 12) (rd base : BitVec 5) (off : BitVec 16) (s : State) :
    Host.Outcome State Fault Refusal :=
  .next (nibStore slot rd base off 2 s)

/-- SB (R85): the low 1 byte(s) of rd to base + off. -/
def execNibSb (slot : Fin 12) (rd base : BitVec 5) (off : BitVec 16) (s : State) :
    Host.Outcome State Fault Refusal :=
  .next (nibStore slot rd base off 1 s)

/-- BR (R85): the branch is taken when the predicate equals the sense. -/
def execNibBr (slot : Fin 12) (pred : BitVec 3) (sense : Bool) (off : BitVec 22) (s : State) :
    Host.Outcome State Fault Refusal :=
  .next (nibStep slot (fun n =>
    if n.pred pred.toNat = sense then
      match branchTarget n.pc off with
      | some t => .done (n.jump t)
      | none => .trap .addrRange
    else .done n.advance) s)

/-- CALL (R85): under the same test n15 takes PC + 4, then the branch. -/
def execNibCall (slot : Fin 12) (pred : BitVec 3) (sense : Bool) (off : BitVec 22) (s : State) :
    Host.Outcome State Fault Refusal :=
  .next (nibStep slot (fun n =>
    if n.pred pred.toNat = sense then
      match branchTarget n.pc off with
      | some t => .done ((n.set 15 (BitVec.ofNat 32 (n.pc.toNat + 4))).jump t)
      | none => .trap .addrRange
    else .done n.advance) s)

/-- JR (R86): a target that is not a multiple of 4 raises ALIGN, one outside 64 KiB ADDR_RANGE (R103). -/
def execNibJr (slot : Fin 12) (ra : BitVec 5) (s : State) : Host.Outcome State Fault Refusal :=
  .next (nibStep slot (fun n =>
    let t := (n.get ra).toNat
    if t % 4 ≠ 0 then .trap .align
    else if 65536 ≤ t then .trap .addrRange
    else .done (n.jump t)) s)

/-- LOOP (R98). The stages field belongs to LOOPM and must be 0. -/
def execNibLoop (slot : Fin 12) (count : BitVec 5) (len : BitVec 12) (stages : BitVec 2) (s : State) :
    Host.Outcome State Fault Refusal :=
  .next (nibLoopEntry slot count len 0 (stages ≠ 0) s)

/-- LOOPM (R98 to R100), with stages − 1 in the field. -/
def execNibLoopm (slot : Fin 12) (count : BitVec 5) (len : BitVec 12) (stages : BitVec 2) (s : State) :
    Host.Outcome State Fault Refusal :=
  .next (nibLoopEntry slot count len (stages.toNat + 1) false s)

/-- NOP (R87). -/
def execNibNop (slot : Fin 12) (s : State) : Host.Outcome State Fault Refusal :=
  .next (nibStep slot (fun n => .done n.advance) s)

/-- SBND (R87, R99): a stage boundary inside a LOOPM body, where it is no instruction of a segment; NOP elsewhere. -/
def execNibSbnd (slot : Fin 12) (s : State) : Host.Outcome State Fault Refusal :=
  .next (nibStep slot (fun n => .done n.advance) s)

/-- HALT (R87, R75): the program halts; its units run on and its resources stay allocated. -/
def execNibHalt (slot : Fin 12) (s : State) : Host.Outcome State Fault Refusal :=
  .next (nibStepS slot (fun n s =>
    .ok ((s.setNib slot { n.advance with state := .halted, wait := none }).nibHalted slot)) s)

/-- MFS (R87): the special register whose number is the ra field, 0 to 5. -/
def execNibMfs (slot : Fin 12) (rd ra : BitVec 5) (s : State) : Host.Outcome State Fault Refusal :=
  .next (nibStep slot (fun n =>
    match ra.toNat with
    | 0 => n.result rd (n.ucc.setWidth 32)
    | 1 => n.result rd (n.rrb.setWidth 32)
    | 2 => n.result rd (BitVec.ofNat 32 n.lc)
    | 3 => n.result rd (BitVec.ofNat 32 slot.val)
    | 4 => n.result rd (n.cause.setWidth 32)
    | 5 => n.result rd (n.epc.setWidth 32)
    | _ => .trap .illegal) s)

/-- MTS (R87): only RRB is writable; any other special register raises ILLEGAL. -/
def execNibMts (slot : Fin 12) (rd ra : BitVec 5) (s : State) : Host.Outcome State Fault Refusal :=
  .next (nibStep slot (fun n =>
    if rd = 1 then .done { n with rrb := (n.get ra).setWidth 4 }.advance else .trap .illegal) s)

/-- ERET (R87): back to EPC + 4 from the handler; outside the handler it raises ILLEGAL. -/
def execNibEret (slot : Fin 12) (s : State) : Host.Outcome State Fault Refusal :=
  .next (nibStep slot (fun n =>
    if n.state = .inHandler then
      .done ({ n with state := .running, loops := leaveLoops n.pc.toNat n.epc.toNat n.loops }.advanceFrom n.epc.toNat)
    else .trap .illegal) s)

/-- TREAD (R87, R204): both halves from one instant into rd and rd + 1. UCC is HOLDOVER for TB-M during holdover; a
TREAD of TB-M while MACH is stopped ends with XDOM and all ones. -/
def execNibTread (slot : Fin 12) (rd rb : BitVec 5) (s : State) : Host.Outcome State Fault Refusal :=
  .next (nibStep slot (fun n =>
    if 3 ≤ rb.toNat || rd = 0 || rd = 31 then .trap .illegal
    else
      let stopped := rb = 1 && !s.running .mach
      let v : DWord := if stopped then 0xFFFFFFFFFFFFFFFF else s.timeBase rb.toNat
      let u : BitVec 4 := if stopped then 5
        else if rb = 1 && s.flag Reg.TIME.TIME_STATE Fld.TIME.TIME_STATE.tbm_holdover then 6 else 0
      .done { (n.set rd (v.setWidth 32)).set (rd + 1) ((v >>> 32).setWidth 32) with ucc := u }.advance) s)

/-- TWAIT (R87, R95): the wait is decided at once when the time base has reached the value, or when the timeout is 0;
otherwise the program waits. -/
def execNibTwait (slot : Fin 12) (rd ra rb : BitVec 5) (s : State) : Host.Outcome State Fault Refusal :=
  .next (nibStepS slot (fun n s =>
    if 3 ≤ rd.toNat || ra = 0 || ra = 31 then .error .illegal
    else
      let v : DWord := (n.get (ra + 1)) ++ (n.get ra)
      let w : NibWait :=
        { kind := .time rd.toNat v, left := (n.get rb).toNat, sp := 0, handler := n.state = .inHandler }
      .ok (s.decideWait slot w false)) s)

end Sys2Proof.Machine
end

