-- ==== Sys2Proof/Machine/NibUnit.lean ====
section
/-! DEFINITION. The Nib's unit, ring and barrier instructions (R88 to R97, R137, R450), the decision steps of its waits, and an
access that cannot cross into a stopped domain (R59). -/

namespace Sys2Proof.Machine

/-! ## Units behind handles -/

/-- The registers of a unit scope: the BAR0 offset of the first and the bytes they span, for unit-relative offsets (R88). -/
def scopeWindow (id : ScopeId) : Nat × Nat :=
  let i := id.idx
  let at_ (b o : Nat) : Nat := b * 0x80000 + o
  match id.kind with
  | .core => (at_ 3 (0x1000 + 0x40 * i), 0x40)
  | .port => (at_ 4 (0x1000 + 0x400 * i), 0x400)
  | .laneTest => (at_ 4 (0x1100 + 0x400 * (i / 5) + 0x40 * (i % 5)), 0x40)
  | .synth => (at_ 6 (0x1000 + 0x800 * i), 0x800)
  | .clkOut => (at_ 6 (0x1200 + 0x800 * (i / 8) + 0x10 * (i % 8)), 0x10)
  | .tdc => (at_ 7 (0x2000 + 0x40 * i), 0x40)
  | .ival => (at_ 7 (0x3000 + 0x20 * i), 0x20)
  | .regr => (at_ 7 (0x3100 + 0x40 * i), 0x40)
  | .spk => (at_ 8 (0x1000 + 0x100 * i), 0x100)
  | .zoom => (at_ 8 (0x2000 + 0x200 * i), 0x200)
  | .pair => (at_ 9 (0x2000 + 0x100 * i), 0x100)
  | .win => (at_ 9 (0x1100 + 0x40 * i), 0x40)
  | .mask => (at_ 10 (0x1000 + 0x40 * i), 0x40)
  | .mec => (at_ 10 (0x1800 + 0x20 * i), 0x20)
  | .timer => (at_ 10 (0x1A00 + 0x20 * i), 0x20)
  | .seq => (at_ 10 (0x2000 + 0x200 * i), 0x200)
  | .trigOut => (at_ 10 (0x1C40 + 0x10 * i), 0x10)
  | .template => (at_ 11 (0x4000 + 0x100 * i), 0x100)
  | .job => (at_ 11 (0x8000 + 0x80 * i), 0x80)
  | .plane => (at_ 12 (0x1000 + 0x100 * i), 0x100)
  | .output => (at_ 13 (0x1000 + 0x200 * i), 0x200)
  | .inkChan => (at_ 14 (0x2000 + 0x100 * i), 0x100)
  | .cring => (at_ 15 (0x8000 + 0x40 * i), 0x40)
  | .rring => (at_ 15 (0x20000 + 0x40 * i), 0x40)
  | .exportCh => (at_ 16 (0x1000 + 0x100 * i), 0x100)
  | .drive => (at_ 17 (0x2000 + 0x100 * i), 0x100)
  | .diskStream => (at_ 17 (0x4000 + 0x100 * i), 0x100)
  | .cascLink => (at_ 18 (0x1000 + 0x400 * i), 0x400)
  | .cascLaneTest => (at_ 18 (0x1100 + 0x400 * (i / 2) + 0x40 * (i % 2)), 0x40)

/-- The registers behind a binding: none where it names no unit with registers. A UNIT entry of block 5 names the port's FLINK
registers. -/
def Binding.window (b : Binding) : Option (Nat × Nat) :=
  match b with
  | .unit 5 p false => some (0x280000 + 0x1000 + 0x400 * p, 0x400)
  | _ => b.scopes.head?.map scopeWindow

/-- Whether a binding is a unit that UCMD, USTAGE, UCOMMIT and UWAIT may name: streams and barrier groups are none, and send-only
access allows nothing but POST selector 1 (R137). -/
def Binding.isUnitItem : Binding → Bool
  | .stream _ | .barrier _ => false
  | .unit _ _ only => !only
  | _ => true

/-- The block a binding's registers lie in. -/
def Binding.block (b : Binding) : Nat := ((b.window.map (·.1)).getD 0) / 0x80000

/-! ## The instruction frame -/

/-- A unit instruction (R84, R94): the body answers the condition code with the state; then UCC and the status predicate are
written and the program goes on. A form of two values needs a in 1 to 30 (R88). -/
def nibUnit (k : Fin 12) (a : BitVec 5) (sp : BitVec 3) (two : Bool)
    (body : NibSlot → State → Except NibExc (Nat × State)) (s : State) : State :=
  nibStepS k (fun n s =>
    if two && (a = 0 || a = 31) then .error .illegal
    else if n.stageWrite sp.toNat then .error .predStage
    else match body n s with
      | .error e => .error e
      | .ok (u, s) => .ok (s.setNib k ((s.nib k).conclude sp.toNat u).advance)) s

/-- A unit instruction on a unit's handle; another handle raises HANDLE (R103). -/
def nibUnitOn (k : Fin 12) (h : BitVec 10) (a : BitVec 5) (sp : BitVec 3) (two : Bool)
    (body : Binding → NibSlot → State → Except NibExc (Nat × State)) (s : State) : State :=
  nibUnit k a sp two (fun n s =>
    match n.bound h.toNat with
    | some b => if b.isUnitItem then body b n s else .error .handle
    | none => .error .handle) s

/-! ## UCMD -/

/-- A refusal, or OK. -/
def ucc (refused : Bool) : Nat := if refused then 7 else 0

/-- The Steward keeps CRC_REF in step with a change made through a unit instruction (R65). -/
def State.keepCrc (s : State) (b : Binding) : State := s.stewardCrc b.block

/-- UCMD ENABLE (R41, R88): OK when every scope of the item then runs. -/
def State.unitEnable (s : State) (b : Binding) : Nat × State :=
  let ids := b.scopes.filter (fun id => !(decide (id.kind = .plane) && s.planeSecond id.idx))
  let t := ids.foldl (fun s id => s.scopeEnable id) s
  (ucc (ids.isEmpty || ids.any (fun id => decide (t.scopeState id ≠ .run))), t)

/-- UCMD DISABLE. -/
def State.unitDisable (s : State) (b : Binding) : Nat × State :=
  (ucc b.scopes.isEmpty, b.scopes.foldl (fun s id => if s.live id then s.scopeDisable id else s) s)

/-- The head entry of a USER ring consumed (R450). -/
def State.ringPop (s : State) (c : Nat) : Nat × State :=
  if (s.crEntries c).isEmpty then (7, s) else (0, s.crConsume c)

/-- A UCMD by its number (R88): the condition code and the state. A command that the unit's chapter does not define is refused. -/
def State.unitCmd (s : State) (b : Binding) (cmd : Nat) : Nat × State :=
  match cmd, b with
  | 0, b => s.unitEnable b
  | 1, b => s.unitDisable b
  | 2, .seq q => let (r, t) := s.seqArm q; (ucc r, t)
  | 3, .seq q => (0, s.seqDisarm q)
  | 4, .trigSrc n => if 88 ≤ n then (0, s.swFire (n - 88)) else (7, s)
  | 6, .exportCh ch _ => (0, s.when (s.dmaPack ch) (fun s => s.bufFlush ch))
  | 7, .pair i => (0, s.xfHoldReset i)
  | 7, .commandRing c => s.ringPop c
  | c, .unit blk inst false =>
    match c, unitScope blk inst with
    | 2, some ⟨.ival, i⟩ => let t := s.scopeEnable ⟨.ival, i⟩; (ucc (!s.blockOn 7), t)
    | 4, some ⟨.regr, r⟩ => let t := s.scopeEnable ⟨.regr, r⟩; (ucc (!s.blockOn 7), t)
    | 5, some ⟨.regr, r⟩ => (0, s.scopeDisable ⟨.regr, r⟩)
    | 4, some ⟨.template, t⟩ => (0, s.tplRestart (Fin.ofNat 64 t))
    | 4, some ⟨.job, j⟩ => let (r, t) := s.lbSubmit j; (ucc r, t)
    | 5, some ⟨.job, j⟩ => (0, s.lbCancel j)
    | _, _ => (7, s)
  | _, _ => (7, s)

/-- The effect of a UCMD. -/
def nibUcmd (k : Fin 12) (h : BitVec 10) (a : BitVec 5) (sp : BitVec 3) (cmd : Nat) (s : State) : State :=
  nibUnitOn k h a sp false (fun b _ s => let (u, t) := s.unitCmd b cmd; .ok (u, t.keepCrc b)) s

/-- UCMD ENABLE. -/
def execUcmdEnable (slot : Fin 12) (handle : BitVec 10) (a : BitVec 5) (sp : BitVec 3) (s : State) :
    Host.Outcome State Fault Refusal := .next (nibUcmd slot handle a sp 0 s)

/-- UCMD DISABLE. -/
def execUcmdDisable (slot : Fin 12) (handle : BitVec 10) (a : BitVec 5) (sp : BitVec 3) (s : State) :
    Host.Outcome State Fault Refusal := .next (nibUcmd slot handle a sp 1 s)

/-- UCMD ARM (R327). -/
def execUcmdArm (slot : Fin 12) (handle : BitVec 10) (a : BitVec 5) (sp : BitVec 3) (s : State) :
    Host.Outcome State Fault Refusal := .next (nibUcmd slot handle a sp 2 s)

/-- UCMD DISARM (R327). -/
def execUcmdDisarm (slot : Fin 12) (handle : BitVec 10) (a : BitVec 5) (sp : BitVec 3) (s : State) :
    Host.Outcome State Fault Refusal := .next (nibUcmd slot handle a sp 3 s)

/-- UCMD START (R302, R358). -/
def execUcmdStart (slot : Fin 12) (handle : BitVec 10) (a : BitVec 5) (sp : BitVec 3) (s : State) :
    Host.Outcome State Fault Refusal := .next (nibUcmd slot handle a sp 4 s)

/-- UCMD STOP (R358). -/
def execUcmdStop (slot : Fin 12) (handle : BitVec 10) (a : BitVec 5) (sp : BitVec 3) (s : State) :
    Host.Outcome State Fault Refusal := .next (nibUcmd slot handle a sp 5 s)

/-- UCMD FLUSH. -/
def execUcmdFlush (slot : Fin 12) (handle : BitVec 10) (a : BitVec 5) (sp : BitVec 3) (s : State) :
    Host.Outcome State Fault Refusal := .next (nibUcmd slot handle a sp 6 s)

/-- UCMD 7 on a pair: HOLD_RESET (R291). -/
def execUcmdHoldReset (slot : Fin 12) (handle : BitVec 10) (a : BitVec 5) (sp : BitVec 3) (s : State) :
    Host.Outcome State Fault Refusal := .next (nibUcmd slot handle a sp 7 s)

/-- UCMD 7 on a USER ring: POP (R450). -/
def execPop (slot : Fin 12) (handle : BitVec 10) (a : BitVec 5) (sp : BitVec 3) (s : State) :
    Host.Outcome State Fault Refusal := .next (nibUcmd slot handle a sp 7 s)

/-! ## USTAGE and UCOMMIT -/

/-- Why a range of data memory may not be read by a unit instruction, with the alignment it needs (R103). -/
def NibSlot.rangeTrap (n : NibSlot) (a len align : Nat) : Option NibExc :=
  if a % align ≠ 0 then some .align
  else if 65536 < a + len then some .addrRange
  else if n.eccHard.any (fun x => decide (a ≤ x) && decide (x < a + len)) then some .ecc
  else none

/-- Words staged into a window slot from WIN_ADDR upward while the slot is disabled (R289). -/
def State.stageWindow (s : State) (w : Nat) (l : List Nat) : Nat × State :=
  if s.slotOn w then (7, s)
  else
    let i := s.fld (Reg.XFORM.WIN_ADDR w) Fld.XFORM.WIN_ADDR.index
    let t : State := l.zipIdx.foldl (fun s e =>
      if i + e.2 < 65536 then
        { s with windows := sparsePut (fun _ => 0) (w * 65536 + i + e.2) (e.1 % 2 ^ 18) s.windows } else s) s
    (0, t.setFld (Reg.XFORM.WIN_DATA w) Fld.XFORM.WIN_DATA.value (t.windowEntry w i))

/-- Words staged into a zoom channel's coefficients; refused during a fade (R247). -/
def State.stageCoefs (s : State) (req : Requester) (z : Nat) (l : List Nat) : Nat × State :=
  if s.zoomState z = 2 then (7, s)
  else (0, (l.take 255).zipIdx.foldl (fun s e =>
    (s.write32 req (Reg.COND.COEF z e.2) (BitVec.ofNat 32 (e.1 % 2 ^ 18)) 0xF).2) s)

/-- USTAGE (R88, R90): the bytes in register a + 1 from the data-memory address in a, taken as little-endian words. The number of
a zoom channel's coefficient area is not stated; an area that the unit's chapter does not define is refused. -/
def execUstage (slot : Fin 12) (handle : BitVec 10) (a : BitVec 5) (area : BitVec 4) (sp : BitVec 3) (s : State) :
    Host.Outcome State Fault Refusal :=
  .next (nibUnitOn slot handle a sp true (fun b n s =>
    let m := (n.get a).toNat
    let len := (n.get (a + 1)).toNat
    match n.rangeTrap m len 4 with
    | some e => .error e
    | none =>
      let l := (List.range (len / 4)).map (fun i => n.loadLe (m + 4 * i) 4)
      let s : State := eccScrub slot m len s
      match b, unitScope 9 (match b with
        | .unit 9 i false => i
        | _ => 0) with
      | .zoom z, _ =>
        if area.toNat = Config.freeNat 78 0 % 16 then
          let (u, t) := s.stageCoefs (s.nibReq slot) z l
          .ok (u, t.when (!s.live ⟨.zoom, z⟩) (fun t => t.keepCrc b))
        else .ok (7, s)
      | _, some ⟨.win, w⟩ => if area = 0 then .ok (s.stageWindow w l) else .ok (7, s)
      | _, _ => .ok (7, s)) s)

/-- The commit of a unit scope: whether it is refused, and the state after. -/
def State.scopeCommit (s : State) (id : ScopeId) : Bool × State :=
  let i := id.idx
  match id.kind with
  | .zoom => s.zcCommit i
  | .pair => s.xfCommit i
  | .seq => s.seqCommit i
  | .mask => s.maskCommit i
  | .plane => (false, if s.planeSecond i then s else s.planeCommit i)
  | .mec => (false, s.mecCommit i)
  | .spk => (false, s.spkCommit i)
  | .exportCh => (false, s.after (execDmaPromote (Fin.ofNat 64 i) s))
  | .clkOut =>
    let t := s.after (execDelayCommit (Fin.ofNat 4 (i / 8)) (Fin.ofNat 8 (i % 8)) s)
    (t.staged.any (fun e => inScope id e.1), t)
  | _ => (false, s.commitScope id)

/-- The scopes that UCOMMIT commits: a synthesiser's with those of its outputs. -/
def Binding.commits (b : Binding) : List ScopeId :=
  b.scopes.flatMap (fun id =>
    if id.kind = .synth then (List.range 8).map (fun o => outScope id.idx o) ++ [id] else [id])

/-- One scope's UCOMMIT (R90): the Steward stages the CRC_REF that matches the state after the commit (R65). -/
def State.unitCommit (s : State) (id : ScopeId) : Bool × State :=
  let b := id.kind.block
  let (r, t) := (s.setReg (Reg.HDR.CRC_REF b) ((s.commitScope id).crcLive b)).scopeCommit id
  if r then (true, (s.scopeCommit id).2) else (false, t)

/-- UCOMMIT (R88, R90). -/
def execUcommit (slot : Fin 12) (handle : BitVec 10) (a : BitVec 5) (sp : BitVec 3) (s : State) :
    Host.Outcome State Fault Refusal :=
  .next (nibUnitOn slot handle a sp false (fun b _ s =>
    let (r, t) := b.commits.foldl (fun (e : Bool × State) id => let (r, t) := e.2.unitCommit id; (e.1 || r, t)) (false, s)
    .ok (ucc (r || b.scopes.isEmpty), t)) s)

/-! ## UREAD and UWRITE -/

/-- A program's read of a unit register (R37, R89, R450): an offset outside the unit is one that no register occupies. -/
def State.unitRead (s : State) (k : Nat) (b : Binding) (off : Nat) : Word × State :=
  let o := off / 4 * 4
  match b with
  | .commandRing c => (BitVec.ofNat 32 (leAt ((s.crEntries c).headD []) o 4), s)
  | _ => match b.window with
    | some (base, size) => if o < size then s.readBy (s.nibReq k) (base + o) else (0, s)
    | none => (0, s)

/-- UREAD (R88, R89): register a + 1 takes the value. -/
def execUread (slot : Fin 12) (handle : BitVec 10) (a : BitVec 5) (sp : BitVec 3) (s : State) :
    Host.Outcome State Fault Refusal :=
  .next (nibUnitOn slot handle a sp true (fun b n s =>
    if b.window.isNone then .error .handle
    else
      let (v, s) := s.unitRead slot b (n.get a).toNat
      .ok (0, s.setNib slot ((s.nib slot).set (a + 1) v))) s)

/-- UCC for the outcome of a write (R94). -/
def WriteResult.ucc : WriteResult → Nat
  | .ok => 0 | .ignoredEn => 1 | .busy => 4 | .access => 8

/-- A program's write of a unit register (R89): the condition code and the state. -/
def State.unitWrite (s : State) (k : Nat) (b : Binding) (off : Nat) (v : Word) : Nat × State :=
  let o := off / 4 * 4
  match b.window with
  | none => (8, s)
  | some (base, size) =>
    if size ≤ o then (8, s.accessErr (base / 0x80000) ((base + o) % 0x80000) (s.nibReq k).code 0xF 4)
    else
      let (r, t) := s.write32 (s.nibReq k) (base + o) v 0xF
      let t : State := if r = .ignoredEn then t.count (Reg.NIB.PROG_IGN_CNT k) 1 else t
      let direct := match lookupReg (base + o) with
        | some x => (hasClass .cfg x.row || hasClass .stage x.row) && !s.scopeOn x
        | none => false
      (r.ucc, t.when (direct && decide (r ≠ .ignoredEn)) (fun t => t.keepCrc b))

/-- UWRITE (R88, R89). -/
def execUwrite (slot : Fin 12) (handle : BitVec 10) (a : BitVec 5) (sp : BitVec 3) (s : State) :
    Host.Outcome State Fault Refusal :=
  .next (nibUnitOn slot handle a sp true (fun b n s =>
    if b.window.isNone then .error .handle
    else .ok (s.unitWrite slot b (n.get a).toNat (n.get (a + 1)))) s)

/-- The low word of an instruction's fields as XDOM_TIMEOUT finds them: its sub-op, handle, argument and status predicate, when
it is a U-format instruction (R84, R85). -/
def unitFields (w : Word) : Option (Nat × Nat × Nat) :=
  let v := w.toNat
  if v / 2 ^ 26 = 0x30 then some (v / 2 ^ 22 % 16, v / 2 ^ 7 % 32, v % 8) else none

/-- XDOM_TIMEOUT (R59, R94): the attempt ends after 4 µs; a read returns all ones, a write is discarded. A program's instruction
ends with UCC = XDOM. -/
def execXdomTimeout (req : Requester) (addr : BitVec 24) (write : Bool) (s : State) :
    Host.Outcome State Fault Refusal :=
  let a := addr.toNat / 4 * 4
  let b := a / 0x80000
  if 25 ≤ b then .next s
  else
    let s : State := (s.logAccess b (a % 0x80000) req.code 0xF 8).setStaEv (Reg.HDR.BLK_STA b)
      Fld.HDR.BLK_STA.XDOM_TIMEOUT (Ev.xdomTimeout b) req.code
    match (List.finRange 12).find? (fun (k : Fin 12) => decide (s.nibReq k.val = req) && (s.nib k.val).issues) with
    | none => .next (if write then s else s.emit (.readData req 0xFFFFFFFF))
    | some k =>
      match unitFields (sparseGet (fun _ => 0) (s.nib k.val).imem ((s.nib k.val).pc.toNat / 4)) with
      | none => .next s
      | some (op, r, sp) => .next (nibUnit k 1 (BitVec.ofNat 3 sp) false (fun n s =>
          .ok (5, s.setNib k.val (if op = 4 && !write then n.set (BitVec.ofNat 5 (r + 1)) 0xFFFFFFFF else n))) s)

/-! ## Waits -/

/-- The conditions of UWAIT that a unit has beyond DONE, COMMITTED and EVENT (R256, R291, R327, R358, R450). -/
def Binding.conditions : Binding → List Nat
  | .zoom _ => [3, 4, 5]
  | .pair _ => [3, 4]
  | .seq _ => [3, 4, 5]
  | .commandRing _ => [3]
  | .unit blk inst _ => match unitScope blk inst with
    | some ⟨.spk, _⟩ => [4]
    | some ⟨.template, _⟩ => [3]
    | _ => []
  | _ => []

/-- UWAIT (R88, R95): decided at once when the condition holds or the timeout in a is 0; a condition that the unit does not have is
refused. -/
def execUwait (slot : Fin 12) (handle : BitVec 10) (a : BitVec 5) (cond : BitVec 4) (sp : BitVec 3) (arrived : Bool)
    (s : State) : Host.Outcome State Fault Refusal :=
  .next (nibStepS slot (fun n s =>
    if n.stageWrite sp.toNat then .error .predStage
    else match n.bound handle.toNat with
      | none => .error .handle
      | some b =>
        if !b.isUnitItem then .error .handle
        else
          let w : NibWait := { kind := .unit handle.toNat cond.toNat, left := (n.get a).toNat, sp := sp.toNat,
                               handler := n.state = .inHandler }
          if cond.toNat ≤ 2 || b.conditions.contains cond.toNat then .ok (s.decideWait slot w arrived)
          else .ok (s.endWait slot w 7)) s)

/-- The other programs that wait at a barrier group: those that have arrived under the same handle (R93). -/
def State.barrierWaiters (s : State) (k h : Nat) : List Nat :=
  (List.range 12).filter (fun j => decide (j ≠ k) && (match (s.nib j).wait with
    | some w => decide (w.kind = .barrier h false)
    | none => false))

/-- BARRIER_RELEASE (R93): every waiting participant is released. -/
def State.barrierRelease (s : State) (h : Nat) (l : List Nat) : State :=
  l.foldl (fun s j => match (s.nib j).wait with
    | some w => s.setNib j { s.nib j with wait := some { w with kind := .barrier h true } }
    | none => s) s

/-- BARRIER (R93, R95). -/
def execBarrier (slot : Fin 12) (handle : BitVec 10) (a : BitVec 5) (sp : BitVec 3) (s : State) :
    Host.Outcome State Fault Refusal :=
  .next (nibStepS slot (fun n s =>
    if n.stageWrite sp.toNat then .error .predStage
    else match n.bound handle.toNat with
      | some (.barrier p) =>
        let h := handle.toNat
        let l := s.barrierWaiters slot h
        let last := decide (p ≤ l.length + 1)
        let s : State := if last then s.barrierRelease h l else s
        let w : NibWait := { kind := .barrier h last, left := (n.get a).toNat, sp := sp.toNat, handler := n.state = .inHandler }
        .ok (s.decideWait slot w false)
      | _ => .error .handle) s)

/-- WAIT_DECISION (R95, R96): one decision step of a program's wait. -/
def execWaitDecision (slot : Fin 12) (arrived : Bool) (s : State) : Host.Outcome State Fault Refusal :=
  match (s.nib slot).state, (s.nib slot).wait with
  | .waiting, some w => .next (s.decideWait slot w arrived)
  | _, _ => .next s

/-- WAIT_TIMEOUT (R95, R96): the decision step at which the timeout has expired; an arrival in the same step wins. -/
def execWaitTimeout (slot : Fin 12) (arrived : Bool) (s : State) : Host.Outcome State Fault Refusal :=
  match (s.nib slot).state, (s.nib slot).wait with
  | .waiting, some w => .next (if w.left = 0 then s.decideWait slot w arrived else s)
  | _, _ => .next s

/-! ## POST -/

/-- POST selector 0 (R88, R92). -/
def State.postEntry (s : State) (k : Nat) (b : Binding) (n : NibSlot) (m : Nat) : Except NibExc (Nat × State) :=
  match b with
  | .resultRing r event =>
    match n.rangeTrap m 32 32 with
    | some e => .error e
    | none =>
      let s : State := eccScrub k m 32 s
      if event then .ok (7, s)
      else if !s.rringRuns r || s.rringFull r then .ok (3, s)
      else .ok (0, s.rringWrite r (.posted (sparseGetN (fun _ => 0) n.dmem m 32)))
  | _ => .error .handle

/-- POST selector 1 (R137): the message goes to the link's queue of 8. -/
def State.postMessage (s : State) (k : Nat) (b : Binding) (n : NibSlot) (m : Nat) : Except NibExc (Nat × State) :=
  match b with
  | .unit 18 link _ =>
    if 2 ≤ link then .error .handle
    else match n.rangeTrap m 8 8 with
      | some e => .error e
      | none =>
        let len := n.loadLe m 2
        if len = 0 || 248 < len || !s.linkUp link then .ok (7, eccScrub k m 8 s)
        else match n.rangeTrap m (8 + len) 8 with
          | some e => .error e
          | none =>
            let s : State := eccScrub k m (8 + len) s
            let c := s.cascade link
            if 8 ≤ c.msgs.length then .ok (3, s)
            else
              let msg := beBytes 2 len ++ beBytes 1 (n.loadLe (m + 2) 1 % 16) ++ beBytes 1 (n.loadLe (m + 3) 1) ++
                beBytes 2 (n.loadLe (m + 4) 2) ++ beBytes 1 (s.fld Reg.SYNC.SYNC_CFG Fld.SYNC.SYNC_CFG.module) ++ beBytes 1 k ++
                sparseGetN (fun _ => 0) n.dmem (m + 8) len
              .ok (0, s.setCascade link { c with msgs := c.msgs ++ [msg] })
  | _ => .error .handle

/-- The effect of a POST by its selector; selectors above 1 raise ILLEGAL (R88). -/
def nibPost (k : Fin 12) (h : BitVec 10) (a : BitVec 5) (sel : Nat) (sp : BitVec 3) (s : State) : State :=
  nibUnit k a sp false (fun n s =>
    if 2 ≤ sel then .error .illegal
    else match n.bound h.toNat with
      | none => .error .handle
      | some b => if sel = 0 then s.postEntry k b n (n.get a).toNat else s.postMessage k b n (n.get a).toNat) s

/-- POST (R88, R92). -/
def execPost (slot : Fin 12) (handle : BitVec 10) (a : BitVec 5) (sel : BitVec 4) (sp : BitVec 3) (s : State) :
    Host.Outcome State Fault Refusal := .next (nibPost slot handle a sel.toNat sp s)

/-- POST with selector 1 (R137). -/
def execPostCascade (slot : Fin 12) (handle : BitVec 10) (a : BitVec 5) (sp : BitVec 3) (s : State) :
    Host.Outcome State Fault Refusal := .next (nibPost slot handle a 1 sp s)

end Sys2Proof.Machine
end

