-- ==== Sys2Proof/Machine/Session.lean ====
section
/-! DEFINITION. Programs loaded, unloaded, stopped and restarted (R75, R78 to R80, R104 to R106). -/

namespace Sys2Proof.Machine

/-- A program at its start (R80): its code and data loaded, the rest of data memory zero, the registers as R80 gives them. -/
def NibSlot.start (n : NibSlot) : NibSlot :=
  { n with
    state := .running, regs := [], preds := 1, rrb := 0, pc := BitVec.ofNat 16 n.entry, loops := [], wait := none,
    imem := progWords n.image, dmem := sparsePutN (fun _ => (0 : Byte)) [] 0 (progData n.image), eccSoft := [], eccHard := [] }

/-- The slot of an admitted program. -/
def NibSlot.loaded (l : List Byte) (a : Admission) : NibSlot :=
  let all := progDecls l
  NibSlot.start { NibSlot.vacant with
    entry := progEntry l, handler := if progFlag l 1 then some (progHandler l) else none, image := l, decls := all,
    bindings := a.bindings, budget := declaredTotal all, inkMiB := declSum all 13 (·.param), inkBase := a.inkBase,
    inkBw := declSum all 14 (·.param) }

/-! ## What admission writes for each binding -/

/-- XF_STATE.slots and tiles of a pair (R287): the number of tiles among which the Steward deals its slots is free within what its
slots need and the 32 tiles; a number that the field cannot hold is free. -/
def State.dealPair (s : State) (i n : Nat) : State :=
  let (f, s) := s.draw
  let lo := ceilDiv n 64
  let tiles := lo + Config.freeNat 79 f % (min 32 n - lo + 1)
  let tiles := if tiles < 32 then tiles else Config.freeNat 80 f % 32
  (s.setFld (Reg.XFORM.XF_STATE i) Fld.XFORM.XF_STATE.slots n).setFld (Reg.XFORM.XF_STATE i) Fld.XFORM.XF_STATE.tiles tiles

/-- A stream bound to its source (R148, R556). -/
def State.bindStream (s : State) (all : List Decl) (l : List (Nat × Binding)) (d : Decl) : State :=
  let id := d.streamId
  if d.fromZoom then
    let b : Option Binding := (l.find? (fun e => e.1 = d.zoomHandle)).map (·.2)
    match b with
    | some (.zoom z) =>
      let s : State := s.setFld (Reg.COND.ZC_IO z) Fld.COND.ZC_IO.out_id id
      s.setStream id { Stream.vacant with source := some (.zoom z), cplx := true }
    | _ => s
  else
    let (p, o) := d.headOut
    let m := ((portDecl all p).map Decl.portMode).getD 0
    let per := modePeriod m * (if (s.port p).half then 2 else 1)
    s.setStream id { Stream.vacant with source := some (.head p o), cplx := decide (m = 2), period := per }

/-- What admission writes for one entry (R139, R286, R290, R386, R478, R556 and the blocks' state registers). A port that no other
program holds is enabled: it has no other enable command. -/
def State.bindEntry (s : State) (k : Nat) (all : List Decl) (l : List (Nat × Binding)) (d : Decl) : State :=
  let b : Option Binding := (l.find? (fun e => !d.noHandle && decide (e.1 = d.handle))).map (·.2)
  match b with
  | some (.port p) =>
    if s.portShared k p then s
    else (s.setFld (Reg.FLANE.PORT_CFG p) Fld.FLANE.PORT_CFG.mode d.portMode).portEnable p
  | some (.stream _) => s.bindStream all l d
  | some (.pair i) =>
    let c := Reg.XFORM.XF_CFG i
    let s : State := (s.setFld c Fld.XFORM.XF_CFG.stream d.streamId).setFld c Fld.XFORM.XF_CFG.log2n d.log2n
    (s.setFld c Fld.XFORM.XF_CFG.ov d.ov).dealPair i (pairSlots all d)
  | some (.plane i true) =>
    (s.setFld (Reg.BLOT.PL_STATE i) Fld.BLOT.PL_STATE.ganged 1).setFld (Reg.BLOT.PL_STATE (i + 1)) Fld.BLOT.PL_STATE.ganged 1
  | some (.commandRing c) => s.setFld (Reg.HOSTQ.CRING_STATE c) Fld.HOSTQ.CRING_STATE.owner k
  | some (.resultRing r _) => s.setFld (Reg.HOSTQ.RRING_STATE r) Fld.HOSTQ.RRING_STATE.owner k
  | some (.brush krn cores) =>
    let s : State := cores.foldl (fun s c =>
      (s.setReg (Reg.BRUSH.CORE_STATE c) (putField Fld.BRUSH.CORE_STATE.state 1 (putField Fld.BRUSH.CORE_STATE.kernel krn
        (putField Fld.BRUSH.CORE_STATE.slot k 0)))).setCore c BrushCore.idle) s
    let a := Reg.BRUSH.KRN_STATE krn
    s.setFld a Fld.BRUSH.KRN_STATE.cores (s.fld a Fld.BRUSH.KRN_STATE.cores + cores.length)
  | some (.disk n r) => s.setReg (Reg.STOR.DS_RATE n) (BitVec.ofNat 32 r)
  | _ => s

/-- The rings of streams that have left the session are given up at an admission (R75, R332). -/
def State.dropOldRings (s : State) : State :=
  (List.range 256).foldl (fun s id =>
    if s.flag (Reg.REC.RAW_STATE id) Fld.REC.RAW_STATE.configured && (s.stream id).source.isNone then s.dropRing id else s) s

/-- The blocks whose CFG or STAGE words an admission writes. -/
def admitBlocks : List Nat := [4, 8, 9, 15]

/-- A program admitted and started (R73, R78 to R80, R332, R418). -/
def State.takeProgram (s : State) (l : List Byte) (a : Admission) : State :=
  let all := progDecls l
  let anew := s.idleSession
  let extra := if declaredInk all = 0 then [] else [(a.inkBase, declaredInk all)]
  let s : State := s.placeAreas anew extra
  let s : State := s.shrinkSinks s.ink.outage.2
  let s : State := s.setNib a.slot (NibSlot.loaded l a)
  let s : State := all.foldl (fun s d => s.bindEntry a.slot all a.bindings d) s
  let s : State := s.setFld (Reg.NIB.PROG_IMAGE_CRC a.slot) Fld.NIB.PROG_IMAGE_CRC.crc (leAt l (progCrcAt l) 4)
  let s : State := s.dropOldRings.placeRings.reportBudget
  admitBlocks.foldl (fun s b => s.stewardCrc b) s

/-- A refusal recorded (R79, R106). -/
def State.admitRefused (s : State) (code arg : Nat) : State :=
  let s : State := (s.setFld Reg.NIB.ADMIT_LAST Fld.NIB.ADMIT_LAST.code code).setFld Reg.NIB.ADMIT_LAST Fld.NIB.ADMIT_LAST.arg arg
  (s.count Reg.NIB.ADMIT_REFUSE_CNT 1).raise Ev.NIB.ADMIT_REFUSED code

/-- An image checked and admitted, or refused: the code and the argument of R79, and the state. -/
def State.loadProgram (s : State) (l : List Byte) (signatureOk : Bool) (slots : List Nat) : (Nat × Nat) × State :=
  match s.checkImage l signatureOk slots with
  | .error (code, arg) => ((code, arg), s.admitRefused code arg)
  | .ok a => ((0, a.slot), s.takeProgram l a)

/-- PROG_LOAD (R79, R452). -/
def execProgLoad (ring : Fin 1024) (data : HostData) (signatureOk : Bool) (s : State) : Host.Outcome State Fault Refusal :=
  .next (s.ctrl ring (· = 1) data (fun c s =>
    let (r, s) := s.loadProgram c.data signatureOk (List.range 12)
    (some r, s)))

/-- A program's units disabled, and its items returned once they have left DRAINING (R75). -/
def State.unloadProgram (s : State) (k : Nat) : State :=
  let s : State := (s.slotScopes k).foldl (fun s id => if s.live id then s.scopeDisable id else s) s
  (s.setNib k { s.nib k with state := .halted, wait := none, unloading := true }).freePool

/-- PROG_UNLOAD (R75, R452). -/
def execProgUnload (ring : Fin 1024) (data : HostData) (s : State) : Host.Outcome State Fault Refusal :=
  .next (s.ctrl ring (· = 2) data (fun c s =>
    if decide (c.arg < 12) && decide ((s.nib c.arg).state ≠ .empty) && !(s.nib c.arg).unloading then
      (some (0, 0), s.unloadProgram c.arg)
    else (some (0x18, 0), s)))

/-- PROG_STOP (R75, R104, R105): a running, handling or waiting program halts; a wait is given up. -/
def execProgStop (slot : Fin 12) (s : State) : Host.Outcome State Fault Refusal :=
  let k := slot.val
  let s : State := s.accept (Reg.NIB.PROG_CTL k) Fld.NIB.PROG_CTL.stop_go
  let n := s.nib k
  if n.issues || n.state = .waiting || n.state = .paused then
    .next ((s.setNib k { n with state := .halted, wait := none }).nibHalted k)
  else .next s

/-- PROG_RESTART (R80, R104, R105): only while halted. -/
def execProgRestart (slot : Fin 12) (s : State) : Host.Outcome State Fault Refusal :=
  let k := slot.val
  let s : State := s.accept (Reg.NIB.PROG_CTL k) Fld.NIB.PROG_CTL.restart_go
  let n := s.nib k
  if (n.state = .halted || n.state = .exceptionHalt) && !n.unloading then .next (s.setNib k n.start) else .next s

end Sys2Proof.Machine
end

