-- ==== Sys2Proof/Machine/Handover.lean ====
section
/-! DEFINITION. Handovers and failures of units (R22, R23, R102, R495 to R499). -/

namespace Sys2Proof.Machine

/-! ## What a switch changes -/

/-- A lane's slot moved onto its direction's spare lane (R121, R127); the lane left becomes the spare where `back` holds. -/
def State.moveLane (s : State) (inst spare : Nat) (back : Bool) : State :=
  let p := inst / 16
  let l := inst % 8
  let n := spare % 8
  let rest := if back then l else 7
  let put (m : List Nat) : List Nat := m.map (fun x => if x = l then n else x)
  let h := s.port p
  let rx := (h.pend.map (·.slots)).getD (s.rxSlots p)
  let rxSpare := (h.pend.map (·.spare)).getD (s.rxSpare p)
  if inst / 8 % 2 = 0 then
    let s : State := s.setPort p { h with pend := some ⟨put rx, rest, true⟩ }
    s.sendLaneMap p 0 (put rx) rest
  else
    let s : State := (s.setTxMap p (put (s.txSlots p)) rest).setPort p { h with mapsw := true, pend := some ⟨rx, rxSpare, false⟩ }
    let s : State := (s.setSta (Reg.FLANE.PORT_STA p) Fld.FLANE.PORT_STA.RESTRIPED).raise Ev.FLANE.RESTRIPED (laneArg p n)
    s.sendLaneMap p 0 rx rxSpare

/-- A logical TDC channel on another physical one: its next stamp carries CAL, and TDC_QUAL.phys names it (R212, R226). -/
def State.moveTdc (s : State) (c phys : Nat) : State :=
  (s.setTdc c { s.tdc c with cal := true }).setFld (Reg.TIME.TDC_QUAL c) Fld.TIME.TDC_QUAL.phys phys

/-- A program on another Nib (R102). -/
def State.moveProgram (s : State) (k : Nat) : State :=
  if (s.nib k).state = .empty then s
  else (s.setSta (Reg.NIB.PROG_STA k) Fld.NIB.PROG_STA.MOVED).raise Ev.NIB.PROG_MOVED k

/-- A unit rebound to a spare, which leaves the pool; `back` says that the item replaced will serve again. -/
def State.rebind (s : State) (kind inst spare : Nat) (back : Bool) : State :=
  let s : State := s.setSpare kind spare .free
  match kind with
  | 0 => s.moveLane inst spare back
  | 7 => s.twinSwap
  | 3 => (s.bindPhysical 3 inst spare).moveProgram inst
  | 6 => (s.bindPhysical 6 inst spare).moveTdc inst spare
  | k => s.bindPhysical k inst spare

/-- The item behind a unit: a lane is its own. -/
def State.itemOf (s : State) (kind inst : Nat) : Nat := if kind = 0 then inst else s.physical kind inst

/-- What the pool holds of the item a handover replaced (R498), by the row of R495. -/
def replacedState (cause : Nat) : SpareState :=
  if cause = 1 then .failed else if cause ≤ 4 then .retired else .free

/-- A handover reported (R513, R519, R521). -/
def State.reportHandover (s : State) (kind inst cause before after : Nat) (failed : Bool) : State :=
  let r := Reg.SPARE.SPARE_LAST
  let s : State := (s.setFld r Fld.SPARE.SPARE_LAST.kind kind).setFld r Fld.SPARE.SPARE_LAST.cause cause
  let s : State := (s.setFld r Fld.SPARE.SPARE_LAST.inst inst).setFld r Fld.SPARE.SPARE_LAST.compare_fail (bit failed)
  let s : State := s.logEntry 1 kind cause inst before after
  if failed then (s.count Reg.SPARE.HANDOVER_FAIL_CNT 1).blkEvent 21 9 Ev.SPARE.HANDOVER_FAIL (spareArg kind inst)
  else (s.count Reg.SPARE.HANDOVER_CNT 1).blkEvent 21 8 Ev.SPARE.HANDOVER (spareArg kind inst)

/-- A unit switched to a spare: the item replaced enters the pool (R498). -/
def State.switchUnit (s : State) (kind inst spare cause : Nat) : State :=
  let old := s.itemOf kind inst
  let s : State := s.rebind kind inst spare (decide (5 ≤ cause))
  let s : State := s.poolState kind old (replacedState cause)
  s.reportHandover kind inst cause old spare false

/-! ## Calibrations switched in -/

/-- The key of the record of a physical item (R493). -/
def recordKey (target item : Nat) : Nat := target * 65536 + item

/-- A calibration that has succeeded: its result is stored and reported (R490, R493, R513). -/
def State.calDone (s : State) (item : Nat) : State :=
  match s.stw.cal with
  | none => s
  | some c =>
    let s : State := { s with retained := { s.retained with
      cal := sparsePut (fun _ => []) (recordKey c.target item) c.values s.retained.cal } }
    let s : State := (s.slotWritten 2).logEntry 2 c.target 0 c.inst 0 0
    let s : State := (s.setFld Reg.CAL.CAL_QUAL Fld.CAL.CAL_QUAL.q1 c.quality.1).setFld Reg.CAL.CAL_QUAL Fld.CAL.CAL_QUAL.q2 c.quality.2
    let s : State := if c.target = 2 then
      s.setFld (Reg.TIME.TDC_QUAL c.inst) Fld.TIME.TDC_QUAL.rms c.quality.1 else s
    let s : State := (s.count Reg.CAL.CAL_DONE_CNT 1).blkEvent 20 8 Ev.CAL.CAL_DONE (spareArg c.target c.inst)
    s.dropCal 0 0 c.quality.1

/-- A calibration's switch: every unit that its spares stand for moves to them. -/
def State.switchCal (s : State) (h : Handover) : State :=
  match s.stw.cal with
  | none => s
  | some c =>
    let s : State := if c.target = 3 then
        ([9, 10].zip c.spares).foldl (fun s e => s.switchUnit 6 e.1 e.2 5) s
      else s.switchUnit h.kind h.inst h.spare 5
    s.calDone (if c.target = 3 then 0 else if c.target = 4 then c.inst else h.spare)

/-! ## Commands of a handover -/

/-- Whether the condition of a row of R495 holds: the pace margin at the ceiling, and the second failed repair. The rate of corrected
errors and a reconfiguration are seen by the Steward alone. -/
def State.handoverDue (s : State) (block inst cause : Nat) : Bool :=
  let ceiling := s.fld Reg.STEWARD.AVS_CFG Fld.STEWARD.AVS_CFG.ceiling
  match cause with
  | 2 =>
    decide (s.fld Reg.STEWARD.AVS_STATE Fld.STEWARD.AVS_STATE.vcore = ceiling) &&
      s.stw.margins.any (fun m => decide (m.1 = block * 256 + inst) && decide (m.2 < (s.fld Reg.SPARE.SPARE_THR Fld.SPARE.SPARE_THR.pace : Int)))
  | 3 | 6 => true
  | 4 => decide (2 ≤ sparseGet (fun _ => 0) s.stw.repairFails block)
  | _ => false

/-- Whether a unit of a kind lies in a block and is handed over one by one (R494, R496). -/
def unitOf (block kind inst : Nat) : Bool := decide (kindBlock kind block = block) && decide (inst < unitCount kind)

/-- HANDOVER_START (R495, R497): rows 2, 3, 4 and 6; a failure is UNIT_FAILURE's, and a calibration starts its own. -/
def execHandoverStart (block : Fin 25) (kind : Fin 12) (inst : BitVec 16) (cause : Fin 6) (s : State) :
    Host.Outcome State Fault Refusal :=
  let b := block.val
  let k := kind.val
  let i := inst.toNat
  let row := cause.val + 1
  let known := (s.stw.running ++ s.stw.queued).any (fun h => decide (h.kind = k) && decide (h.inst = i))
  if !unitOf b k i || known || !s.handoverDue b i row then .next s
  else .next (s.askHandover { block := b, kind := k, inst := i, spare := 0, cause := row, spans := 0, matched := false })

/-- A comparison that does not match (R22): the spare is SUSPECT, and the unit runs on. -/
def State.mismatch (s : State) (h : Handover) : State :=
  let s : State := s.leaveHandover h
  let spares := match s.stw.cal with
    | some c => if h.cause = 5 then c.spares else [h.spare]
    | none => [h.spare]
  let s : State := spares.foldl (fun s n => s.poolState h.kind n (.suspect 0)) s
  let old := s.itemOf h.kind h.inst
  let s : State := s.reportHandover h.kind h.inst h.cause old old true
  let s : State := if h.cause = 5 then s.dropCal 4 0x1C 0 else s
  s.nextHandover h.block

/-- SHADOW_COMPARE (R496): a span with a GAP item is compared again, at most 8 spans in all. -/
def execShadowCompare (block : Fin 25) (gap agree : Bool) (s : State) : Host.Outcome State Fault Refusal :=
  match s.stw.running.find? (fun h => decide (h.block = block.val) && !h.matched) with
  | none => .next s
  | some h =>
    if !gap && !agree then .next (s.mismatch h)
    else
      let g : Handover := { h with spans := h.spans + 1, matched := !gap }
      if gap && decide (8 ≤ g.spans) then .next (s.mismatch h)
      else
        let s : State := { s with stw := { s.stw with running := s.stw.running.map (fun x => if x = h then g else x) } }
        .next (if g.matched && decide (h.cause = 5) then s.setFld Reg.CAL.CAL_STATE Fld.CAL.CAL_STATE.state 3 else s)

/-- HANDOVER_SWITCH (R22, R102): a matched spare takes over at a block boundary; a Brush core's lies between two invocations. -/
def execHandoverSwitch (block : Fin 25) (s : State) : Host.Outcome State Fault Refusal :=
  match s.stw.running.find? (fun h => decide (h.block = block.val) && h.matched) with
  | none => .next s
  | some h =>
    if h.kind = 4 && decide (2 ≤ s.coreState h.inst) then .next s
    else
      let s : State := { s with stw := { s.stw with running := s.stw.running.erase h } }.setHandover h.block false
      let s : State := if h.cause = 5 then s.switchCal h else s.switchUnit h.kind h.inst h.spare h.cause
      .next (s.nextHandover h.block)

/-! ## Failures -/

/-- A pair loses what a failed tile held: its next frame carries GAP (R23). The tiles behind a pair are the Steward's choice
(R286), so which running pairs that are is free. -/
def State.tileLost (s : State) : State :=
  (List.range 128).foldl (fun s i =>
    if s.pairState i = 2 || s.pairState i = 3 then
      let (f, s) := s.draw
      if Config.freeNat 84 f % 2 = 1 then s.setPair i { s.pair i with gap := true } else s
    else s) s

/-- A zoom channel's filters start empty on the spare: its next output carries GAP, and those after it UNSETTLED (R23, R249). -/
def State.zoomLost (s : State) (z : Nat) : State :=
  if s.zoomState z = 0 then s
  else
    let zc := s.zoom z
    let p := zc.path
    let q : ZoomPath := { ZoomPath.fresh with
      taken := p.taken, acc := p.acc, cicN := p.cicN, hb1N := p.hb1N, hb2N := p.hb2N, firN := p.firN, base := p.base, k := p.k,
      num := p.num, bNext := p.bNext, slew := p.slew }
    s.setZoom z { zc with path := q, gap := true, fade := none, unsettled := s.zoomSettle z }

/-- What a failed unit had in hand is discarded (R23): an invocation ends without entries, and a plane's counters are gone. -/
def State.dropItems (s : State) (kind inst : Nat) : State :=
  match kind with
  | 1 => s.tileLost
  | 2 => s.zoomLost inst
  | 4 => s.finishJob inst []
  | 5 => s.setPlane inst { s.plane inst with counts := [] }
  | _ => s

/-- The scope of a failed unit that no spare replaces is disabled at once (R499). -/
def State.unitStops (s : State) (kind inst : Nat) : State :=
  match kind with
  | 2 => if s.zoomState inst = 0 then s else s.zoomOff inst
  | 3 =>
    let n := s.nib inst
    if n.issues || n.state = .waiting || n.state = .paused then
      (s.setNib inst { n with state := .halted, wait := none }).nibHalted inst
    else s
  | 4 => if s.coreState inst = 0 then s else s.coreOff inst
  | 5 => if s.planeState inst = 0 then s else s.planeOff inst
  | 6 => s.setScope ⟨.tdc, inst⟩ .off
  | 7 => s.loseActive 0
  | _ => s

/-- A unit has failed and no spare is available (R48, R499). -/
def State.unitFailed (s : State) (block kind inst : Nat) : State :=
  let s : State := s.unitStops kind inst
  let e := (block, unitKey kind inst)
  let s : State := { s with stw := { s.stw with failedUnits := s.stw.failedUnits.filter (fun x => x ≠ e) ++ [e] } }
  let s : State := if s.blockState block = 0 then s else s.setBlockState block 3
  (s.reportBudget.blkEvent 21 12 Ev.SPARE.UNIT_FAILED (spareArg kind inst)).freePool

/-- UNIT_FAILURE (R23, R495, R497, R499): at the next block boundary a FREE spare takes over, or a SUSPECT one where none is FREE.
A lane that fails loses its lock, and its port acts (R125, R127). -/
def execUnitFailure (block : Fin 25) (kind : Fin 12) (inst : BitVec 16) (s : State) : Host.Outcome State Fault Refusal :=
  let b := block.val
  let k := kind.val
  let i := inst.toNat
  if !unitOf b k i || s.stw.failedUnits.contains (b, unitKey k i) then .next s
  else if k = 0 then
    let p := i / 16
    let l := i % 8
    if 5 ≤ l then .next s
    else if i / 8 % 2 = 0 then
      .next (if s.fld (Reg.FLANE.LANE_STATE p l) Fld.FLANE.LANE_STATE.lock = 0 then s else s.loseLock (portLane p l) .sync 0)
    else
      let s : State := if (s.txSlots p).contains l then
        (s.setSta (Reg.FLANE.PORT_STA p) Fld.FLANE.PORT_STA.LANE_FAIL).raise Ev.FLANE.LANE_FAIL (laneArg p l) else s
      .next ((s.setPort p { s.port p with txOk := (s.port p).txOk.set l false }).handleFailures p)
  else if k = 7 && decide (s.pll 0 ≠ 3) then .next s
  else
    let wanted := match s.stw.cal with
      | some c => if c.standsFor k i then c.spares.head? else none
      | none => none
    let t : State := s.preempt b k i
    match wanted.or (t.spareNow k i) with
    | some n =>
      let t : State := if k = 7 then t.lol 0 else t
      let t : State := (t.dropItems k i).switchUnit k i n 1
      let t : State := if k = 7 then t.setFld (Reg.CLK.PLL_STATE 0) Fld.CLK.PLL_STATE.twin_locked 0 else t
      .next (t.nextHandover b)
    | none => .next (((t.dropItems k i).unitFailed b k i).nextHandover b)

/-! ## The pool -/

/-- A self-test of a SUSPECT spare (R498): two passes in a row make it FREE, a failure makes it FAILED. -/
def State.selfTest (s : State) (kind num : Nat) (pass : Bool) : State :=
  match s.spareState kind num with
  | .suspect n =>
    if !pass then s.poolState kind num .failed
    else if 1 ≤ n then s.poolState kind num .free
    else (s.setSpare kind num (.suspect 1)).slotWritten 4
  | _ => s

/-- SPARE_SELFTEST (R498). -/
def execSpareSelftest (kind : Fin 12) (num : BitVec 16) (pass : Bool) (s : State) : Host.Outcome State Fault Refusal :=
  .next (s.selfTest kind.val num.toNat pass)

/-- SPARE_COMMIT (R519). -/
def execSpareCommit (s : State) : Host.Outcome State Fault Refusal :=
  .next ((s.accept Reg.SPARE.SPARE_CMD Fld.SPARE.SPARE_CMD.commit_go).commitRegs 21 [Reg.SPARE.SPARE_THR])

/-- SPARE_RETEST (R498, R516). What the argument says of a spare that stays SUSPECT after its first pass is not stated. -/
def execSpareRetest (ring : Fin 1024) (data : HostData) (pass : Bool) (s : State) : Host.Outcome State Fault Refusal :=
  .next (s.ctrl ring (· = 0x16) data (fun c s =>
    let kind := c.arg % 256
    let num := c.arg / 256
    if 12 ≤ kind || 65536 ≤ num || !(s.spareState kind num).isSuspect then (some (0x21, 0), s)
    else
      let s : State := s.selfTest kind num pass
      match s.spareState kind num with
      | .free => (some (0, 1), s)
      | .failed => (some (0, 2), s)
      | _ =>
        let (f, s) := s.draw
        (some (0, 1 + Config.freeNat 83 f % 2), s)))

end Sys2Proof.Machine
end

