-- ==== Sys2Proof/Machine/Firmware.lean ====
section
/-! DEFINITION. The pair of Steward Nibs and firmware updates (R509 to R511). -/

namespace Sys2Proof.Machine

def State.stwFld (s : State) (f : Bits) : Nat := s.fld Reg.STEWARD.STW_STATE f

def State.setStw (s : State) (f : Bits) (v : Nat) : State := s.setFld Reg.STEWARD.STW_STATE f v

/-- The versions of the two NOR images, as STW_FW_A and STW_FW_B show them. -/
def State.reportVersions (s : State) : State :=
  (s.setReg Reg.STEWARD.STW_FW_A (BitVec.ofNat 32 s.mod.versionA)).setReg Reg.STEWARD.STW_FW_B (BitVec.ofNat 32 s.mod.versionB)

/-- The version of the running image. -/
def State.runningVersion (s : State) : Nat :=
  if s.stwFld Fld.STEWARD.STW_STATE.image = 1 then s.mod.versionB else s.mod.versionA

/-- Whether an envelope is whole (R510): magic, length, image and a 96-byte signature. -/
def envelopeWhole (l : List Byte) : Bool :=
  l.take 4 = [0x53, 0x54, 0x46, 0x57] && decide (l.length = 12 + leAt l 8 4 + 96)

/-- FW_UPDATE (R510, R516): it completes at FW_SWITCHED. -/
def execFwUpdate (ring : Fin 1024) (data : HostData) (signatureOk : Bool) (s : State) : Host.Outcome State Fault Refusal :=
  .next (s.ctrl ring (· = 0x14) data (fun c s =>
    let version := leAt c.data 4 4
    if !envelopeWhole c.data || !signatureOk then (some (0x22, 1), s)
    else if version < s.retained.rollback then (some (0x22, 2), s)
    else if s.stwFld Fld.STEWARD.STW_STATE.standby_ready = 0 then (some (0x27, 0), s)
    else if s.stw.fw.isSome then (some (0x23, 0), s)
    else (none, { s with stw := { s.stw with fw := some { version := version, switched := false, ring := c.ring, cookie := c.cookie } } })))

/-- The image slot that does not boot takes a version. -/
def State.writeImage (s : State) (v : Nat) : State :=
  { s with mod := (if s.mod.bootB then { s.mod with versionA := v } else { s.mod with versionB := v }) }.reportVersions

/-- FW_SWITCH (R510 steps 3 and 4): no calibration and no handover runs; the standby with the new image takes over. -/
def execFwSwitch (s : State) : Host.Outcome State Fault Refusal :=
  match s.stw.fw with
  | none => .next s
  | some f =>
    if f.switched || s.stwFld Fld.STEWARD.STW_STATE.standby_ready = 0 || s.stw.cal.isSome || !s.stw.running.isEmpty then .next s
    else
      let old := s.runningVersion
      let s : State := s.writeImage f.version
      let s : State := s.setStw Fld.STEWARD.STW_STATE.active (1 - s.stwFld Fld.STEWARD.STW_STATE.active)
      let s : State := (s.setStw Fld.STEWARD.STW_STATE.image (bit (!s.mod.bootB))).setStw Fld.STEWARD.STW_STATE.confirmed 0
      let s : State := { s with stw := { s.stw with fw := some { f with switched := true } } }
      let s : State := (s.logEntry 5 0 0 0 old f.version).blkEvent 1 8 Ev.STEWARD.FW_SWITCHED 0
      let s : State := s.ctrlLate f.ring f.cookie 0 0x14 0
      .next ((List.range 25).foldl State.nextHandover s)

/-- FW_CONFIRM (R511): after 60 s the boot pointer moves to the new image. -/
def execFwConfirm (s : State) : Host.Outcome State Fault Refusal :=
  match s.stw.fw with
  | none => .next s
  | some f =>
    if !f.switched then .next s
    else
      let s : State := { s with stw := { s.stw with fw := none },
                                mod := { s.mod with bootB := decide (s.stwFld Fld.STEWARD.STW_STATE.image = 1) } }
      .next (s.setStw Fld.STEWARD.STW_STATE.confirmed 1)

/-- New firmware that fails before its confirmation: the old Nib runs the old image again (R511). -/
def State.revertFw (s : State) : State :=
  let new := s.runningVersion
  let s : State := { s with stw := { s.stw with fw := none } }
  let s : State := (s.setStw Fld.STEWARD.STW_STATE.image (bit s.mod.bootB)).setStw Fld.STEWARD.STW_STATE.confirmed 1
  (s.logEntry 5 0 1 0 new s.runningVersion).blkEvent 1 9 Ev.STEWARD.FW_REVERTED 0

/-- STEWARD_TAKEOVER (R509, R511): commands in progress end ABORTED. -/
def execStewardTakeover (s : State) : Host.Outcome State Fault Refusal :=
  if s.stwFld Fld.STEWARD.STW_STATE.standby_ready = 0 then .next s
  else
    let s : State := s.setStw Fld.STEWARD.STW_STATE.active (1 - s.stwFld Fld.STEWARD.STW_STATE.active)
    let s : State := s.setStw Fld.STEWARD.STW_STATE.standby_ready 0
    let s : State := (s.count Reg.STEWARD.TAKEOVER_CNT 1).blkEvent 1 10 Ev.STEWARD.STEWARD_TAKEOVER 0
    let s : State := if s.stw.cal.any (fun c => c.ring.isSome) then s.dropCal 4 0x1C 0 else s
    match s.stw.fw with
    | none => .next s
    | some f =>
      if f.switched then .next s.revertFw
      else
        let s : State := { s with stw := { s.stw with fw := none } }.ctrlLate f.ring f.cookie 0x1C 0x14 0
        .next ((List.range 25).foldl State.nextHandover s)

/-- STANDBY_READY (R494, R509): a spare Nib becomes the new standby, and the failed one enters the pool (R498). The Steward's Nibs
are Nib units 12 and 13. -/
def execStandbyReady (s : State) : Host.Outcome State Fault Refusal :=
  if s.stwFld Fld.STEWARD.STW_STATE.standby_ready = 1 || !s.mod.started then .next s
  else
    let unit := 12 + (1 - s.stwFld Fld.STEWARD.STW_STATE.active)
    match s.spareNow 3 unit with
    | none => .next s
    | some n => .next ((s.switchUnit 3 unit n 1).setStw Fld.STEWARD.STW_STATE.standby_ready 1)

end Sys2Proof.Machine
end

