-- ==== Sys2Proof/Machine/InkSpare.lean ====
section
/-! DEFINITION. Drift, failure and retraining of Inkwell channels (R430, R431, R434, R435). -/

namespace Sys2Proof.Machine

def State.chState (s : State) (c : Nat) : Nat := s.fld (Reg.INK.CH_STATE c) Fld.INK.CH_STATE.state

/-- CH_STATE.state, with the channel's bit of INK_STATE.ch_run. -/
def State.setChState (s : State) (c v : Nat) : State :=
  let run := s.fld Reg.INK.INK_STATE Fld.INK.INK_STATE.ch_run
  let rest := run - (if run.testBit c then 2 ^ c else 0)
  (s.setFld (Reg.INK.CH_STATE c) Fld.INK.CH_STATE.state v).setFld Reg.INK.INK_STATE Fld.INK.INK_STATE.ch_run
    (rest + (if v = 2 then 2 ^ c else 0))

/-- A channel trained (R430): in RUN, with the margins it reports, which come from its analogue parts. -/
def State.trained (s : State) (c : Nat) : State :=
  let (n, s) := s.draw
  let m := Reg.INK.CH_MARGIN c
  let eye (i : Nat) : Nat := 8 + Config.freeNat 73 (3 * n + i) % 120
  let s : State := (s.setFld m Fld.INK.CH_MARGIN.read_eye (eye 0)).setFld m Fld.INK.CH_MARGIN.write_eye (eye 1)
  let s : State := s.setFld m Fld.INK.CH_MARGIN.vref (Config.freeNat 73 (3 * n + 2) % 1024)
  (s.setFld (Reg.INK.CH_DRIFT c) Fld.INK.CH_DRIFT.offset 0).setChState c 2

/-- A retraining begins with the evacuation of the channel (R435). -/
def State.startRetrain (s : State) (c : Nat) : State :=
  let s : State := s.redirectChannel c
  { s with ink := { s.ink with retrain := some c } }.setChState c 3

/-- DRIFT_READ (R431): the oscillator's count, and whether the delay needs a step: upward, downward or none. -/
def execDriftRead (c : Fin 16) (osc : BitVec 16) (away : Option Bool) (s : State) : Host.Outcome State Fault Refusal :=
  let c := c.val
  if s.chState c ≠ 2 then .next s
  else
    let r := Reg.INK.CH_DRIFT c
    let s : State := s.setFld r Fld.INK.CH_DRIFT.osc osc.toNat
    match away with
    | none => .next s
    | some up =>
      let o : Int := signedOf 6 (s.fld r Fld.INK.CH_DRIFT.offset) + (if up then 1 else -1)
      if -16 ≤ o && o ≤ 16 then .next (s.setFld r Fld.INK.CH_DRIFT.offset (o % 64).toNat)
      else
        let s : State := s.blkEvent 14 14 Ev.INK.DRIFT_LIMIT (c * 256)
        .next (if s.ink.redirect.isSome then s else s.startRetrain c)

/-- INK_RETRAIN (R434, R435): refused while a channel is redirected. -/
def execInkRetrain (s : State) : Host.Outcome State Fault Refusal :=
  let s : State := s.accept Reg.INK.INK_CMD Fld.INK.INK_CMD.retrain_go
  if s.ink.redirect.isSome then .next (s.busyDrop 14 (s.issuer Reg.INK.INK_CMD))
  else
    let s : State := s.commitRegs 14 [Reg.INK.INK_SEL]
    let c := s.fld Reg.INK.INK_SEL Fld.INK.INK_SEL.channel
    .next (if s.chState c = 2 then s.startRetrain c else s)

/-- CHANNEL_RETRAINED (R435): the cells are copied back, the pool is returned and the channel runs. -/
def execChannelRetrained (s : State) : Host.Outcome State Fault Refusal :=
  match s.ink.retrain with
  | none => .next s
  | some c =>
    if s.chState c = 6 then .next s
    else
      let s : State := { s with ink := { s.ink with retrain := none } }.returnPool
      .next ((s.trained c).raise Ev.INK.CHANNEL_RETRAINED (c * 256))

/-- Tadpoles that refer to raw cells which a loss of capacity took (R313). -/
def State.rollbackLost (s : State) : State :=
  (List.range 16).foldl (fun s q => (s.rollbackWhere q 3 (fun t => s.overrun t)).seqDrained q) s

/-- A channel's failure (R434): the first is redirected, a second puts INK in FAULT. -/
def State.failChannel (s : State) (c : Nat) : State :=
  let s : State := (s.setChState c 6).blkEvent 14 11 Ev.INK.CHANNEL_FAILED (c * 256)
  match s.ink.redirect with
  | some (r, _) =>
    if r = c then s else s.setFld (Reg.HDR.BLK_STATE 14) Fld.HDR.BLK_STATE.state 3
  | none =>
    let s : State := s.redirectChannel c
    let s : State := (s.setFld Reg.INK.INK_CAP Fld.INK.INK_CAP.user_gib 180).setFld Reg.INK.INK_CAP
      Fld.INK.INK_CAP.reserve_mib 6826
    s.rollbackLost

/-- CHANNEL_FAILED (R434). -/
def execChannelFailed (c : Fin 16) (s : State) : Host.Outcome State Fault Refusal :=
  .next (if s.chState c.val = 0 || s.chState c.val = 6 then s else s.failChannel c.val)

end Sys2Proof.Machine
end

