-- ==== Sys2Proof/Machine/Pace.lean ====
section
/-! DEFINITION. Pace monitors and VCORE (R21, R500 to R502). -/

namespace Sys2Proof.Machine

def State.vcore (s : State) : Nat := s.fld Reg.STEWARD.AVS_STATE Fld.STEWARD.AVS_STATE.vcore

def State.vFloor (s : State) : Nat := s.fld Reg.STEWARD.AVS_CFG Fld.STEWARD.AVS_CFG.floor

def State.vCeiling (s : State) : Nat := s.fld Reg.STEWARD.AVS_CFG Fld.STEWARD.AVS_CFG.ceiling

/-- VCORE set to a value: each step of 5 mV counts, and the change is logged (R500, R513). -/
def State.setVcore (s : State) (v : Nat) : State :=
  let old := s.vcore
  if v = old then s
  else
    let s : State := s.setFld Reg.STEWARD.AVS_STATE Fld.STEWARD.AVS_STATE.vcore v
    (s.count Reg.STEWARD.AVS_STEP_CNT (((max v old - min v old) + 4) / 5)).logEntry 3 0 0 0 old v

/-- The entry with the smallest margin, the first of several. -/
def leastMargin : List (Nat × Int) → Option (Nat × Int)
  | [] => none
  | x :: t => match leastMargin t with
    | none => some x
    | some y => if y.2 < x.2 then some y else some x

/-- Ticks of 50 ns in 10 ms and in 100 ms. -/
def tenMs : Nat := 200000
def hundredMs : Nat := 2000000

/-- The step that a reading calls for (R501): up while a margin is below 14 %, down once all have been at 15 % or more for 10 ms. -/
def State.vcoreStep (s : State) (least : Int) : State :=
  let v := s.vcore
  let since (n : Nat) (s : State) : State := { s with stw := { s.stw with highSince := n } }
  if !s.flag Reg.STEWARD.AVS_CFG Fld.STEWARD.AVS_CFG.avs_en then s.setVcore s.vCeiling
  else if least < 14 then s.setVcore (min s.vCeiling (v + 5))
  else if decide (s.stw.highSince ≠ 0) && decide (s.stw.highSince + tenMs ≤ s.time.tick + 1) && decide (s.vFloor + 5 ≤ v) then
    since (s.time.tick + 1) (s.setVcore (v - 5))
  else s

/-- PACE_READ (R500, R501): every monitor's margin in percent, by block * 256 + unit. `highSince` is 0, or one
more than the tick from which every margin has been at 15 % or more since the last step. VCORE_LIMIT is raised when a margin comes to lie below 12 % at the ceiling. -/
def execPaceRead (margins : List (Nat × Int)) (s : State) : Host.Outcome State Fault Refusal :=
  match leastMargin margins with
  | none => .next s
  | some (unit, least) =>
    let limited (l : List (Nat × Int)) : Bool := decide (s.vcore = s.vCeiling) && l.any (fun m => decide (m.2 < 12))
    let was := limited s.stw.margins
    let r := Reg.STEWARD.AVS_STATE
    let s : State := s.setFld r Fld.STEWARD.AVS_STATE.margin (min 255 least.toNat)
    let s : State := s.setFld Reg.STEWARD.AVS_MIN_UNIT Fld.STEWARD.AVS_MIN_UNIT.block (unit / 256)
    let s : State := s.setFld Reg.STEWARD.AVS_MIN_UNIT Fld.STEWARD.AVS_MIN_UNIT.inst (unit % 256)
    let s : State := { s with stw := { s.stw with
      margins := margins, highSince := if least < 15 then 0 else if s.stw.highSince = 0 then s.time.tick + 1 else s.stw.highSince } }
    let s : State := if limited margins && !was then s.blkEvent 1 11 Ev.STEWARD.VCORE_LIMIT 0 else s
    .next (s.vcoreStep least)

/-- KEEPALIVE (R502). -/
def execKeepalive (s : State) : Host.Outcome State Fault Refusal :=
  .next { s with stw := { s.stw with alive := s.time.tick } }

/-- KEEPALIVE_TIMEOUT (R502): the power stage goes to the ceiling by itself. -/
def execKeepaliveTimeout (s : State) : Host.Outcome State Fault Refusal :=
  .next (if s.stw.alive + hundredMs ≤ s.time.tick then s.setVcore s.vCeiling else s)

/-- AVS_COMMIT (R501): a floor below 700 mV, a ceiling above 850 mV and a floor above the ceiling are refused. VCORE comes to lie
within the new bounds, and at the ceiling with avs_en at 0. -/
def execAvsCommit (s : State) : Host.Outcome State Fault Refusal :=
  let s : State := s.accept Reg.STEWARD.STW_CMD Fld.STEWARD.STW_CMD.avs_commit_go
  let a := Reg.STEWARD.AVS_CFG
  let floor := s.stagedFld a Fld.STEWARD.AVS_CFG.floor
  let ceiling := s.stagedFld a Fld.STEWARD.AVS_CFG.ceiling
  if floor < 700 || decide (850 < ceiling) || decide (ceiling < floor) then .next (s.busyDrop 1 (s.issuer Reg.STEWARD.STW_CMD))
  else
    let s : State := s.commitRegs 1 [a]
    let v := if s.flag a Fld.STEWARD.AVS_CFG.avs_en then max floor (min s.vcore ceiling) else ceiling
    .next (s.setVcore v)

end Sys2Proof.Machine
end

