-- ==== Sys2Proof/Machine/Retain.lean ====
section
/-! DEFINITION. The retained store: the live image, the session, keys, and the service bundle (R503 to R508, R512 to R514). -/

namespace Sys2Proof.Machine

/-- What the live image holds of a register: its CFG and active STAGE fields, and CRC_COMMITTED (R503). -/
def liveWord (a : Nat) (v : Word) : Word :=
  if a % 0x80000 = 0x30 && decide (a / 0x80000 < 25) then v
  else match lookupReg a with
    | some r => mergeMask (rowMask (fun c => c = .cfg || c = .stage) r.row) (resetWord a) v
    | none => resetWord a

/-- The live image of the registers now. -/
def State.liveWords (s : State) : List (Nat × Word) :=
  s.regs.foldl (fun l e => sparsePut resetWord e.1 (liveWord e.1 e.2) l) []

/-- LIVE_IMAGE_UPDATE (R505). -/
def execLiveImageUpdate (s : State) : Host.Outcome State Fault Refusal :=
  .next ({ s with retained := { s.retained with live := s.liveWords } }.slotWritten 1)

/-! ## The session -/

/-- The session as a commit writes it (R503, R505): the admitted programs, the loaded kernels, the live image, the region sizes of
R332 and R404, and the unit scopes that are enabled. -/
def State.sessionImage (s : State) : SessionImage :=
  let slots := (List.range 12).filter (fun k => decide ((s.nib k).state ≠ .empty) && !(s.nib k).unloading)
  { programs := slots.map (fun k => (k, (s.nib k).image)), bindings := slots.map (fun k => (k, (s.nib k).bindings)),
    kernels := s.kernels, regs := s.retained.live, sizes := [(0, s.displaySize), (1, s.outageSize)],
    scopes := (List.range 25).flatMap (fun b => (scopesOfBlock b).filter (fun id => s.scopeState id = .run)) }

/-- A session slot written (R504, R505, R520). -/
def State.writeSession (s : State) (i : Option SessionImage) : State :=
  let s : State := { s with retained := { s.retained with session := i } }.slotWritten 0
  let lo := Reg.RETAIN.RT_SESSION_SEQ_LO
  let hi := Reg.RETAIN.RT_SESSION_SEQ_HI
  s.setReg64 lo hi (s.reg64 lo hi + 1)

/-- SESSION_COMMIT (R505, R516): `written` says whether the MRAM took the slot. -/
def execSessionCommit (ring : Fin 1024) (data : HostData) (written : Bool) (s : State) : Host.Outcome State Fault Refusal :=
  .next (s.ctrl ring (· = 0x10) data (fun _ s =>
    if !written then (some (0x26, 0), s)
    else
      let s : State := s.writeSession (some s.sessionImage)
      (some (0, 0), (s.logEntry 6 0 0 0 0 0).blkEvent 22 8 Ev.RETAIN.SESSION_COMMITTED 0)))

/-- SESSION_CLEAR (R505, R516). -/
def execSessionClear (ring : Fin 1024) (data : HostData) (written : Bool) (s : State) : Host.Outcome State Fault Refusal :=
  .next (s.ctrl ring (· = 0x11) data (fun _ s =>
    if !written then (some (0x26, 0), s) else (some (0, 0), s.writeSession none)))

/-! ## Keys -/

/-- The slots that hold a key, and the policy, as KEY_STATE shows them (R520). -/
def State.reportKeys (s : State) (signedOnly : Bool) : State :=
  let m := (List.range 8).foldl (fun a k => a + (if (s.retained.keys.any (fun e => e.1 = k)) then 2 ^ k else 0)) 0
  (s.setFld Reg.RETAIN.KEY_STATE Fld.RETAIN.KEY_STATE.keys m).setFld Reg.RETAIN.KEY_STATE Fld.RETAIN.KEY_STATE.require_signed
    (bit signedOnly)

/-- A KEY_CHANGE record carried out, or none where it is refused (R508). -/
def State.changeKey (s : State) (l : List Byte) (signatureOk : Bool) : Option State :=
  let slot := leAt l 0 1
  let action := leAt l 1 1
  let signer := leAt l 2 1
  let strict := s.flag Reg.RETAIN.KEY_STATE Fld.RETAIN.KEY_STATE.require_signed
  let holds (k : Nat) : Bool := s.retained.keys.any (fun e => e.1 = k)
  let first := action = 1 && s.retained.keys.isEmpty && signer = 0xFF
  let allowed := first || (holds signer && signatureOk)
  let put (ks : List (Nat × List Byte)) (strict : Bool) : State :=
    { s with retained := { s.retained with keys := ks } }.reportKeys strict
  if l.length ≠ 200 || leAt l 3 1 ≠ 0 || leAt l 101 3 ≠ 0 || !allowed || (decide (action ≤ 2) && decide (8 ≤ slot)) then none
  else match action with
    | 1 => some (put (sparsePut (fun _ => []) slot (bytesAt l 4 97) s.retained.keys) strict)
    | 2 =>
      let ks := s.retained.keys.filter (fun e => e.1 ≠ slot)
      if ks.isEmpty && strict then none else some (put ks strict)
    | 3 => some (put s.retained.keys true)
    | 4 => some (put s.retained.keys false)
    | _ => none

/-- KEY_CHANGE (R508, R516): the completion comes first, then the event. -/
def execKeyChange (ring : Fin 1024) (data : HostData) (signatureOk : Bool) (s : State) : Host.Outcome State Fault Refusal :=
  .next (s.ctrl ring (· = 0x13) data (fun c s =>
    match s.changeKey c.data signatureOk with
    | none => (some (0x24, 0), s)
    | some t =>
      let r := Reg.RETAIN.KEY_STATE
      let t : State := (t.slotWritten 5).logEntry 7 (leAt c.data 1 1) 0 (leAt c.data 0 1) (s.reg r).toNat (t.reg r).toNat
      let t : State := t.ctrlLate c.ring c.cookie 0 c.op 0
      (none, t.blkEvent 22 10 Ev.RETAIN.KEY_CHANGED 0)))

/-! ## The service bundle -/

/-- The 16 bytes of an event record (R68). -/
def EventRecord.bytes (e : EventRecord) : List Byte :=
  leBytes 2 (e.id + 2 ^ 10 * e.severity + 2 ^ 12 * bit e.dropped + 2 ^ 13 * bit e.anchor + 2 ^ 14 * bit e.tsHeld) ++ leBytes 2 e.arg ++
    leBytes 6 e.tbw ++ leBytes 6 e.tbs

/-- The 32 bytes of a Steward log entry (R513). -/
def LogEntry.bytes (e : LogEntry) : List Byte :=
  leBytes 1 e.type ++ leBytes 1 e.kind ++ leBytes 1 e.cause ++ leBytes 1 0 ++ leBytes 4 e.inst ++ leBytes 8 e.tbw ++ leBytes 8 e.tbs ++
    leBytes 4 e.before ++ leBytes 4 e.after

/-- n bytes that the spec leaves open. -/
def freeBytes (site f n : Nat) : List Byte := (List.range n).map (fun i => BitVec.ofNat 8 (Config.freeNat site (f * 2 ^ 24 + i)))

/-- The entries of a ring of the retained store, the newest at the place before `count`; places never written are open. -/
def ringSection (f size depth count : Nat) (l : List (List Byte)) : List Byte :=
  (List.range depth).flatMap (fun i =>
    let age := (count + depth - 1 - i) % depth
    if age < l.length then l.getD (l.length - 1 - age) [] else freeBytes 82 (f + i) size)

/-- Every assigned register of a block, by ascending offset (R514). -/
def State.registerBytes (s : State) (b : Nat) : List Byte :=
  ((List.range (blockTop b / 4)).filter (fun i => (lookupReg (b * 0x80000 + 4 * i)).isSome)).flatMap (fun i =>
    leBytes 4 (s.readReg (b * 0x80000 + 4 * i)).toNat)

/-- Calibration records, ledgers and spare maps: one slot of each region (R503). Their form is not stated. -/
def mapsSize : Nat := 0x100000 + 0x40000 + 0x40000

/-- The sections of a bundle that a mask selects (R514). -/
def State.bundleSections (s : State) (f mask : Nat) (maker : List Byte) : List Byte :=
  (if mask.testBit 0 then ringSection f 16 flightDepth (s.reg Reg.RETAIN.RT_FR_COUNT).toNat (s.retained.flight.map EventRecord.bytes) else []) ++
  (if mask.testBit 1 then ringSection f 32 logDepth (s.reg Reg.RETAIN.RT_LOG_COUNT).toNat (s.retained.log.map LogEntry.bytes) else []) ++
  (if mask.testBit 2 then freeBytes 85 f mapsSize else []) ++
  (if mask.testBit 3 then (List.range 25).flatMap s.registerBytes else []) ++
  (if mask.testBit 4 then maker.take 0x400000 else [])

/-- SERVICE_BUNDLE (R514, R516). Only the magic has a stated place in the header; where its other fields lie is open. -/
def execServiceBundle (ring : Fin 1024) (data : HostData) (maker : List Byte) (s : State) : Host.Outcome State Fault Refusal :=
  .next (s.ctrl ring (· = 0x15) data (fun c s =>
    let (f, s) := s.draw
    let body := s.bundleSections f c.arg maker
    let size := 64 + body.length
    if c.data.length < size then (some (0x25, ceilDiv size 0x100000), s)
    else (some (0, 0), s.emit (.bundle ([0x53, 0x56, 0x42, 0x4E] ++ freeBytes 81 f 60 ++ body)))))

end Sys2Proof.Machine
end

