-- ==== Sys2Proof/Machine/Resume.lean ====
section
/-! DEFINITION. The resume of a committed session, and idle sessions (R506, R507, R553). -/

namespace Sys2Proof.Machine

/-- A register's CFG and STAGE fields taken from a retained image. -/
def State.restoreReg (s : State) (e : Nat × Word) : State :=
  match lookupReg e.1 with
  | none => s
  | some r =>
    let m := rowMask (fun c => c = .cfg || c = .stage) r.row
    if m = 0 || e.1 % 0x80000 < 0x1000 then s else s.setReg e.1 (mergeMask m (s.reg e.1) e.2)

/-- The registers of an image whose scope passes a test. -/
def State.restoreWhere (s : State) (img : List (Nat × Word)) (p : Option ScopeId → Bool) : State :=
  img.foldl (fun s e => match lookupReg e.1 with
    | some r => if p r.scope then s.restoreReg e else s
    | none => s) s

/-- The blocks of an image. -/
def imageBlocks (img : List (Nat × Word)) : List Nat := (List.range 25).filter (fun b => img.any (fun e => e.1 / 0x80000 = b))

/-- Whether a scope is a port, and whether it is PLL-R or one of its outputs. -/
def isPort (o : Option ScopeId) : Bool := o.any (fun id => id.kind = .port)
def isPllR (o : Option ScopeId) : Bool :=
  o.any (fun id => (decide (id.kind = .synth) && decide (id.idx = 0)) || (decide (id.kind = .clkOut) && decide (id.idx < 8)))

/-- The Inkwell trained (R430, R506 step 4), and its regions laid out as with no program admitted (R418). -/
def State.trainInk (s : State) : State := ((List.range 16).foldl State.trained s).placeAreas true []

/-- Field ports of a session enabled in their retained modes (R506 step 2); no START is sent yet. -/
def State.resumePorts (s : State) (i : SessionImage) : State :=
  let s : State := s.restoreWhere i.regs isPort
  let s : State := (i.scopes.filter (fun id => id.kind = .port)).foldl (fun s id => s.portEnable id.idx) s
  { s with stw := { s.stw with resumeStep := 2 } }

/-- A program readmitted into its slot with the items it had (R506 step 5), or left out with its refusal code (R507). -/
def State.readmit (s : State) (i : SessionImage) (e : Nat × List Byte) : State :=
  match s.checkImage e.2 true [e.1] with
  | .ok a =>
    let l := ((i.bindings.find? (fun b => b.1 = e.1)).map (·.2)).getD a.bindings
    s.takeProgram e.2 { a with bindings := l }
  | .error (code, arg) =>
    let s : State := (s.admitRefused code arg).blkEvent 1 12 Ev.STEWARD.RESUME_PARTIAL e.1
    s.setStw Fld.STEWARD.STW_STATE.resume 6

/-- The kinds of unit scope that a resume enables again, in this order; a drive is attached, and a ring is enabled, by the host. -/
def resumeKinds : List ScopeKind :=
  [.synth, .clkOut, .tdc, .regr, .spk, .win, .zoom, .pair, .mask, .mec, .timer, .seq, .trigOut, .template, .plane, .output,
   .exportCh, .diskStream, .cascLink]

/-- Steps 4 to 6 of R506: the Inkwell is trained, kernels and programs are loaded, the units take their retained configuration and are
enabled, and heads start. -/
def State.resumeRest (s : State) (i : SessionImage) : State :=
  let s : State := { s with stw := { s.stw with holdWindow := false, held := false } }
  let s : State := (s.setStw Fld.STEWARD.STW_STATE.resume 3).trainInk
  let s : State := i.kernels.foldl (fun s e => s.loadKernel e.2) s
  let s : State := i.programs.foldl (fun s e => s.readmit i e) s
  let s : State := s.restoreWhere i.regs (fun o => o.isSome && !isPllR o)
  let s : State := (imageBlocks i.regs).foldl State.stewardCrc s
  let s : State := resumeKinds.foldl (fun s k =>
    (i.scopes.filter (fun id => id.kind = k && !isPllR (some id))).foldl State.scopeEnable s) s
  let s : State := { s with stw := { s.stw with resumeStep := 6 } }.logEntry 4 0 (s.stwFld Fld.STEWARD.STW_STATE.resume) 0 0 0
  ((List.range 8).foldl State.tryStart s).resumeCheck

/-- An idle session (R507): no program and no unit scope; the Inkwell is trained. -/
def State.idleStart (s : State) (resume : Nat) : State :=
  let s : State := { s with stw := { s.stw with holdWindow := false, held := false, resumeStep := 0 } }
  (s.setStw Fld.STEWARD.STW_STATE.resume resume).trainInk

/-- Every CFG and STAGE field but PLL-R's at its reset value (R507). -/
def State.resetConfig (s : State) : State :=
  let l := s.regs.map (fun e => (e.1, resetWord e.1))
  (imageBlocks l).foldl State.stewardCrc (s.restoreWhere l (fun o => !isPllR o))

/-- Register access begins (R506 step 1, R533, R553): with a session to resume, the block-wide scopes and PLL-R take their retained
configuration; every block-wide scope is enabled, and PLL-R brought to RUN with both cores locked and its outputs on. -/
def State.access (s : State) : State :=
  let inhibited := s.stwFld Fld.STEWARD.STW_STATE.resume_inh = 1
  let service := s.flag Reg.PWR.PWR_STATE Fld.PWR.PWR_STATE.service
  let session := if inhibited || service then none else s.retained.session
  let img := (session.map (·.regs)).getD []
  let s : State := s.restoreWhere img (fun o => o.isNone || isPllR o)
  let s : State := (imageBlocks img).foldl State.stewardCrc s
  let s : State := (s.setVcore s.vCeiling)
  let s : State := (List.range 25).foldl State.blockEnable s
  let s : State := (List.range 6).foldl (fun s o => s.setScope (outScope 0 o) .run) s
  let s : State := s.after (execPllEnable 0 0 s)
  let s : State := if s.pll 0 = 1 then s.after (execSettleEnd 0 (s.setPll 0 2)) else s
  let s : State := if s.pll 0 = 3 then s.setFld (Reg.CLK.PLL_STATE 0) Fld.CLK.PLL_STATE.twin_locked 1 else s
  let s : State := { s with mod := { s.mod with accessible := true } }
  match session with
  | none => s.idleStart (if inhibited then 5 else 0)
  | some i =>
    let s : State := (s.resumePorts i).setStw Fld.STEWARD.STW_STATE.resume 1
    { s with stw := { s.stw with holdWindow := true } }

/-! ## Commands -/

/-- HOLD_GO (R507): in the hold window it disables the ports; later it sets BUSY_DROP. -/
def execHoldGo (s : State) : Host.Outcome State Fault Refusal :=
  let s : State := s.accept Reg.STEWARD.STW_CMD Fld.STEWARD.STW_CMD.hold_go
  if !s.stw.holdWindow then .next (s.busyDrop 1 (s.issuer Reg.STEWARD.STW_CMD))
  else
    let s : State := (List.range 8).foldl State.portDisable s
    let s : State := { s with stw := { s.stw with holdWindow := false, held := true } }
    .next ((s.setStw Fld.STEWARD.STW_STATE.resume 2).raise Ev.STEWARD.RESUME_HELD 0)

/-- RESUME_GO (R507): after a hold, with the ports enabled again. -/
def execResumeGo (s : State) : Host.Outcome State Fault Refusal :=
  let s : State := s.accept Reg.STEWARD.STW_CMD Fld.STEWARD.STW_CMD.resume_go
  match s.stw.held, s.retained.session with
  | true, some i => .next ((s.resumePorts i).resumeRest i)
  | _, _ => .next s

/-- DISCARD_GO (R507): after a hold; the committed session stays. -/
def execDiscardGo (s : State) : Host.Outcome State Fault Refusal :=
  let s : State := s.accept Reg.STEWARD.STW_CMD Fld.STEWARD.STW_CMD.discard_go
  .next (if s.stw.held then s.resetConfig.idleStart 0 else s)

/-- HOLD_WINDOW_END (R506). -/
def execHoldWindowEnd (s : State) : Host.Outcome State Fault Refusal :=
  match s.stw.holdWindow, s.retained.session with
  | true, some i => .next (s.resumeRest i)
  | _, _ => .next s

end Sys2Proof.Machine
end

