-- ==== Sys2Proof/Machine/Power.lean ====
section
/-! DEFINITION. Supplies, start-up, stops, thermal limits and VCORE phases (R531 to R540, R543, R549, R550). -/

namespace Sys2Proof.Machine

/-! ## The VAUX domain -/

def State.pin (s : State) (name : String) (level : Bool) : State := s.emit (.pin name level)

/-- A PWR event with its block bit, which asserts SMB_ALERT_N (R540). -/
def State.pwrEvent (s : State) (n : Nat) (e : EventDef) (arg : Nat) : State :=
  let s : State := s.blkEvent 24 n e arg
  if s.mod.alert then s else { s with mod := { s.mod with alert := true } }.pin "SMB_ALERT_N" false

/-- Registers that outlive a stop: the PWR block, which VAUX powers, and what RETAIN and the Inkwell's row maps show of retained
state. -/
def keptReg (a : Nat) : Bool :=
  a / 0x80000 = 24 || a = Reg.RETAIN.RT_STATE || a = Reg.RETAIN.RT_SESSION_SEQ_LO || a = Reg.RETAIN.RT_SESSION_SEQ_HI ||
    a = Reg.RETAIN.RT_FR_COUNT || a = Reg.RETAIN.RT_LOG_COUNT || a = Reg.RETAIN.KEY_STATE

/-- The fields of CH_STATE and CH_ROWS that tell of remapped rows and banks (R432, R433). -/
def State.keepRows (s old : State) : State :=
  (List.range 16).foldl (fun s c =>
    let r := Reg.INK.CH_STATE c
    let take (s : State) (f : Bits) : State := s.setFld r f (old.fld r f)
    let s : State := ((take s Fld.INK.CH_STATE.spare_used) |> (take · Fld.INK.CH_STATE.spared_bank)) |> (take · Fld.INK.CH_STATE.exhausted)
    s.setReg (Reg.INK.CH_ROWS c) (old.reg (Reg.INK.CH_ROWS c))) s

/-- Everything that VIN powers is gone; what is retained, VAUX, the pins' levels and the model's own counters stay. -/
def State.unpowered (s : State) : State :=
  let t : State := { State.reset with
    pending := s.pending, regs := sparseFilter keptReg s.regs, out := s.out, fresh := s.fresh, time := { State.reset.time with tick := s.time.tick },
    retained := { s.retained with flightAnchor := none },
    clk := { State.reset.clk with refclkLost := s.clk.refclkLost, syncLost := s.clk.syncLost, mclkLost := s.clk.mclkLost, mclk := s.clk.mclk },
    stw := { State.reset.stw with failedUnits := s.stw.failedUnits },
    ink := { State.reset.ink with rows := s.ink.rows },
    mod := s.mod }
  t.keepRows s

/-- A stop (R534, R539, R540): PWRGD goes, every VIN rail is down, and the hours with VIN on are added up. -/
def State.stop (s : State) : State :=
  let hours := s.mod.onTicks + (s.time.tick - s.mod.since)
  let s : State := s.unpowered.pin "PWRGD" false
  { s with mod := { s.mod with started := false, pwrgd := false, accessible := false, onTicks := hours, since := 0, ir := 1, bsr := [] } }

/-! ## Start-up -/

/-- A region of the retained store without a valid slot (R504): it is empty, and keys then require signed images. -/
def State.regionLost (s : State) (i : Nat) : State :=
  let r : Retained := match i with
    | 0 => { s.retained with session := none }
    | 1 => { s.retained with live := [] }
    | 2 => { s.retained with cal := [] }
    | 3 => { s.retained with ledger := [] }
    | 4 => { s.retained with spares := [], physical := [] }
    | _ => { s.retained with keys := [] }
  let s : State := { s with retained := r }
  let s : State := if i = 5 then s.reportKeys true else if i = 4 then { s with ink := { s.ink with rows := [] } } else s
  let v := s.fld Reg.RETAIN.RT_STATE Fld.RETAIN.RT_STATE.valid
  let s : State := s.setFld Reg.RETAIN.RT_STATE Fld.RETAIN.RT_STATE.valid (if v.testBit i then v - 2 ^ i else v)
  (s.count Reg.RETAIN.RT_BAD_CNT 2).blkEvent 22 9 Ev.RETAIN.RETAIN_BAD_SLOT 0

/-- A calibration record whose check fails gives way to factory values (R493). -/
def State.recordBad (s : State) (k : Nat) : State :=
  { s with retained := { s.retained with cal := sparsePut (fun _ => []) k [] s.retained.cal } }.blkEvent 20 11 Ev.CAL.CAL_FACTORY
    (spareArg (k / 65536) k)

/-- POWER_UP (R504, R532, R533, R543): rails good, straps sampled, the retained store checked. With PERST_N released already,
register access follows. -/
def execPowerUp (resumeInh service : Bool) (bad : BitVec 6) (badCal : List Nat) (s : State) : Host.Outcome State Fault Refusal :=
  if !s.mod.vaux || s.mod.started || s.mod.fault then .next s
  else
    let first := !s.mod.powered
    let s : State := s.unpowered
    let s : State := { s with mod := { s.mod with started := true, pwrgd := true, powered := true, since := s.time.tick } }
    let s : State := s.pin "PWRGD" true
    let rt := Reg.RETAIN.RT_STATE
    let s : State := if first then s.setFld rt Fld.RETAIN.RT_STATE.valid 0x3F else s
    let s : State := s.setFld rt Fld.RETAIN.RT_STATE.factory (bit first)
    let s : State := (List.range 6).foldl (fun s i => if bad.getLsbD i then s.regionLost i else s) s
    let s : State := (badCal.filter (fun k => k / 65536 < 6)).foldl State.recordBad s
    let s : State := (s.setStw Fld.STEWARD.STW_STATE.resume_inh (bit resumeInh)).setStw Fld.STEWARD.STW_STATE.standby_ready 1
    let s : State := (s.setStw Fld.STEWARD.STW_STATE.image (bit s.mod.bootB)).setStw Fld.STEWARD.STW_STATE.confirmed 1
    let s : State := s.reportVersions.setFld Reg.PWR.PWR_STATE Fld.PWR.PWR_STATE.service (bit service)
    let s : State := if service then s.pwrEvent 12 Ev.PWR.SERVICE_MODE 0 else s
    .next (if s.mod.perst then s else s.access)

/-- PERST_RELEASE (R462, R533). -/
def execPerstRelease (s : State) : Host.Outcome State Fault Refusal :=
  if !s.mod.perst then .next s
  else
    let s : State := { s with mod := { s.mod with perst := false } }
    .next (if s.mod.started && !s.mod.accessible then s.access else s)

/-- PERST_TIMEOUT (R533): the session resumes, and the host port stays in reset. -/
def execPerstTimeout (s : State) : Host.Outcome State Fault Refusal :=
  .next (if s.mod.started && s.mod.perst && !s.mod.accessible then s.access else s)

/-! ## Stops -/

/-- The VAUX domain loses its power (R531, R535). -/
def State.vauxLost (s : State) : State :=
  { s with regs := sparseFilter (fun a => !(a / 0x80000 = 24)) s.regs, mod := { s.mod with vaux := false, alert := false } }

/-- VIN_LOW (R534, R535, R539): VIN below 10.5 V for 100 µs, or, with `vaux` false, VAUX out of its range. It ends a FAULT_N. -/
def execVinLow (vaux : Bool) (s : State) : Host.Outcome State Fault Refusal :=
  let s : State := if s.mod.started then
      let s : State := (s.count Reg.PWR.VIN_LOW_CNT 1).setFld Reg.PWR.PWR_STATE Fld.PWR.PWR_STATE.vin_low 1
      (s.pwrEvent 11 Ev.PWR.VIN_LOW 0).stop
    else if s.mod.fault && vaux then { s with mod := { s.mod with fault := false } }.pin "FAULT_N" true else s
  .next (if vaux || !s.mod.vaux then s else s.vauxLost)

/-- A shutdown with FAULT_N (R539, R540). -/
def State.shutdown (s : State) : State :=
  if !s.mod.started then s
  else
    let s : State := s.setFld Reg.PWR.PWR_STATE Fld.PWR.PWR_STATE.vin_low 0
    { s with mod := { s.mod with fault := true } }.stop.pin "FAULT_N" false

/-- THERMAL_SHUTDOWN (R539): at 115 °C, or at 125 °C under SERVICE, for 1 ms. -/
def execThermalShutdown (s : State) : Host.Outcome State Fault Refusal := .next s.shutdown

/-- RAIL_FAULT (R540). -/
def execRailFault (s : State) : Host.Outcome State Fault Refusal := .next s.shutdown

/-! ## Heat and phases -/

/-- THERM_WARN (R539): the sensors read anew. THERM_N asserts at 85 °C of the case or 100 °C of a junction, and deasserts 3 °C below
both. -/
def execThermWarn (case_ junction optical dram : Byte) (s : State) : Host.Outcome State Fault Refusal :=
  if !s.mod.started then .next s
  else
    let r := Reg.PWR.PWR_STATE
    let t := Reg.PWR.PWR_TEMP
    let s : State := (s.setFld t Fld.PWR.PWR_TEMP.case case_.toNat).setFld t Fld.PWR.PWR_TEMP.junction junction.toNat
    let s : State := (s.setFld t Fld.PWR.PWR_TEMP.optical optical.toNat).setFld t Fld.PWR.PWR_TEMP.dram dram.toNat
    let on := s.flag r Fld.PWR.PWR_STATE.therm
    let hotCase := decide (85 ≤ case_.toInt)
    if !on && (hotCase || decide (100 ≤ junction.toInt)) then
      let s : State := ((s.setFld r Fld.PWR.PWR_STATE.therm 1).count Reg.PWR.THERM_CNT 1).pin "THERM_N" false
      .next (s.pwrEvent 10 Ev.PWR.THERM_WARN (if hotCase then case_.toNat else junction.toNat + 256))
    else if on && decide (case_.toInt ≤ 82) && decide (junction.toInt ≤ 97) then
      .next ((s.setFld r Fld.PWR.PWR_STATE.therm 0).pin "THERM_N" true)
    else .next s

/-- The working phases. -/
def State.phasesOk (s : State) : Nat :=
  (List.range 14).countP (fun i => (s.fld Reg.PWR.PWR_PHASE Fld.PWR.PWR_PHASE.ok).testBit i)

/-- A failing phase turned off (R537). -/
def State.shedPhase (s : State) (i : Nat) : State :=
  let a := Reg.PWR.PWR_PHASE
  let s0 := s
  let s : State := s.setFld a Fld.PWR.PWR_PHASE.ok (s.fld a Fld.PWR.PWR_PHASE.ok - 2 ^ i)
  let s : State := s.setFld a Fld.PWR.PWR_PHASE.shed (s.fld a Fld.PWR.PWR_PHASE.shed + 2 ^ i)
  let s : State := (s.count Reg.PWR.PHASE_SHED_CNT 1).setFld Reg.PWR.PWR_STATE Fld.PWR.PWR_STATE.phases_ok s.phasesOk
  (s.pwrEvent 8 Ev.PWR.PHASE_SHED i).spareAlarm s0 11

/-- PHASE_CHECK (R537): the phases that fail are turned off; with fewer than 12 left PHASE_SHORT is raised. -/
def execPhaseCheck (bad : BitVec 14) (s : State) : Host.Outcome State Fault Refusal :=
  if !s.mod.started then .next s
  else
    let l := (List.range 14).filter (fun i => bad.getLsbD i && (s.fld Reg.PWR.PWR_PHASE Fld.PWR.PWR_PHASE.ok).testBit i)
    let s : State := l.foldl State.shedPhase s
    let r := Reg.PWR.PWR_STATE
    if s.phasesOk < 12 && !s.flag r Fld.PWR.PWR_STATE.phase_short then
      .next ((s.setFld r Fld.PWR.PWR_STATE.phase_short 1).pwrEvent 9 Ev.PWR.PHASE_SHORT (l.getLastD 0))
    else .next s

/-- VAUX_WITHIN_RANGE (R531, R541). -/
def execVauxWithinRange (s : State) : Host.Outcome State Fault Refusal :=
  .next { s with mod := { s.mod with vaux := true } }

/-- HOST_LINK_UP (R441, R462): only while the host port is out of reset. -/
def execHostLinkUp (gen : BitVec 2) (width : BitVec 5) (s : State) : Host.Outcome State Fault Refusal :=
  if s.mod.perst || !s.mod.accessible || s.fld Reg.HOSTQ.HQ_LINK Fld.HOSTQ.HQ_LINK.up = 1 || !linkOk gen.toNat width.toNat then .next s
  else .next (s.setHostLink true gen.toNat width.toNat)

end Sys2Proof.Machine
end

