-- ==== Sys2Proof/Machine/Board.lean ====
section
/-! DEFINITION. The SMBus target and the JTAG port (R540 to R542). -/

namespace Sys2Proof.Machine

/-! ## SMBus -/

/-- A reply on SMBus while VAUX is within range; no bytes where the target does not acknowledge. -/
def State.smbus (s : State) (l : List Byte) : State := if s.mod.vaux then s.emit (.smbus l) else s

/-- SMBUS_REG_READ (R541). -/
def execSmbusRegRead (code : Byte) (s : State) : Host.Outcome State Fault Refusal :=
  let a := 24 * 0x80000 + 0x1000 + 4 * code.toNat
  if 0x40 ≤ code.toNat then .next (s.smbus [])
  else
    let l := leBytes 4 (s.readReg a).toNat
    .next (if s.measured a then s.draw.2.smbus l else s.smbus l)

/-- The 16 bytes of the identity block (R541): the ordering code and the serial number are the part's own. -/
def State.identity (s : State) : List Byte :=
  leBytes 1 (s.fld (Reg.HDR.BLK_ID 24) Fld.HDR.BLK_ID.stepping) ++ leBytes 1 (Config.freeNat 86 0 % 2) ++ leBytes 8 (Config.freeNat 87 0) ++
    leBytes 4 s.runningVersion ++ leBytes 2 0

/-- SMBUS_IDENT (R541). -/
def execSmbusIdent (s : State) : Host.Outcome State Fault Refusal := .next (s.smbus s.identity)

/-- SMBUS_ARA (R540): the target with an alert answers with its address, and SMB_ALERT_N clears. PRESUMED: the SMBus form, the 7-bit
address in the upper seven bits. -/
def execSmbusAra (s : State) : Host.Outcome State Fault Refusal :=
  if !s.mod.vaux || !s.mod.alert then .next (s.smbus [])
  else .next ({ s with mod := { s.mod with alert := false } }.smbus [0xB8] |>.pin "SMB_ALERT_N" true)

/-! ## JTAG -/

/-- A scan of a register that captured `dr`: the bits shifted out, and what the register holds after. -/
def scan (dr tdi : List Bool) : List Bool × List Bool := ((dr ++ tdi).take tdi.length, (dr ++ tdi).drop tdi.length)

def State.setJtag (s : State) (ir : Nat) (bsr : List Bool) : State := { s with mod := { s.mod with ir := ir, bsr := bsr } }

/-- An instruction whose data register is the one-bit bypass. -/
def State.jtagShort (s : State) (ir : Nat) (tdi : List Bool) : State :=
  (s.setJtag ir s.mod.bsr).emit (.tdo (scan [false] tdi).1)

/-- BYPASS (R542). The port works while VIN is up. -/
def execJtagBypass (tdi : List Bool) (s : State) : Host.Outcome State Fault Refusal :=
  .next (if s.mod.started then s.jtagShort 0 tdi else s)

/-- IDCODE's 32 bits, lowest first (R542): the manufacturer's identity is the part's own. -/
def idcode : List Bool :=
  let v := 1 + 2 * (Config.freeNat 88 0 % 2 ^ 11) + 2 ^ 12 * 0x1600 + 2 ^ 28 * 0xB
  (List.range 32).map v.testBit

/-- IDCODE (R542). -/
def execJtagIdcode (tdi : List Bool) (s : State) : Host.Outcome State Fault Refusal :=
  .next (if s.mod.started then (s.setJtag 1 s.mod.bsr).emit (.tdo (scan idcode tdi).1) else s)

/-- SAMPLE/PRELOAD (R542). -/
def execJtagSamplePreload (pins tdi : List Bool) (s : State) : Host.Outcome State Fault Refusal :=
  let (o, b) := scan pins tdi
  .next (if s.mod.started then (s.setJtag 2 b).emit (.tdo o) else s)

/-- Whether EXTEST, CLAMP and HIGHZ take effect (R542). -/
def State.scanAllowed (s : State) : Bool := s.stwFld Fld.STEWARD.STW_STATE.resume_inh = 1 && s.idleSession

/-- EXTEST (R542): the boundary register drives the pins; executed as BYPASS where it may not take effect. -/
def execJtagExtest (pins tdi : List Bool) (s : State) : Host.Outcome State Fault Refusal :=
  let (o, b) := scan pins tdi
  .next (if !s.mod.started then s else if s.scanAllowed then ((s.setJtag 3 b).emit (.tdo o)).emit (.boundary (some b)) else s.jtagShort 0 tdi)

/-- CLAMP (R542): the pins hold what the boundary register holds. -/
def execJtagClamp (tdi : List Bool) (s : State) : Host.Outcome State Fault Refusal :=
  .next (if !s.mod.started then s else if s.scanAllowed then (s.jtagShort 4 tdi).emit (.boundary (some s.mod.bsr)) else s.jtagShort 0 tdi)

/-- HIGHZ (R542). -/
def execJtagHighz (tdi : List Bool) (s : State) : Host.Outcome State Fault Refusal :=
  .next (if !s.mod.started then s else if s.scanAllowed then (s.jtagShort 5 tdi).emit (.boundary none) else s.jtagShort 0 tdi)

end Sys2Proof.Machine
end

