-- ==== Sys2Proof/Machine/Calib.lean ====
section
/-! DEFINITION. Calibration (R489 to R493, R516, R518). -/

namespace Sys2Proof.Machine

/-- The spare kind that a target is calibrated on; the Inkwell uses none (R489). -/
def targetKind (target : Nat) : Nat :=
  match target with
  | 0 | 1 => 0
  | 2 | 3 => 6
  | 4 => 7
  | _ => 12

/-- Whether CAL_SEL names an item (R489, R518). -/
def targetOk (target inst : Nat) : Bool :=
  match target with
  | 0 => decide (inst < 128) && decide (inst % 8 < 5)
  | 1 => decide (inst < 8)
  | 2 => decide (inst < 20)
  | 3 => true
  | 4 => decide (inst < 7)
  | 5 => decide (inst < 16)
  | _ => false

/-- The spares that a calibration takes, if they are FREE (R489, R490). -/
def State.calSpares (s : State) (target inst : Nat) : Option (List Nat) :=
  let free (x : SpareState) : Bool := x = .free
  match target with
  | 0 => (s.spareFor 0 inst free).map (fun n => [n])
  | 1 => (s.spareFor 0 (16 * inst) free).map (fun n => [n])
  | 2 => (s.spareFor 6 inst free).map (fun n => [n])
  | 3 =>
    let l := (List.range (physicalCount 6)).filter (fun n => !s.inService 6 n && free (s.spareState 6 n))
    if 2 ≤ l.length then some (l.take 2) else none
  | 4 => (s.spareFor 7 0 free).map (fun n => [n])
  | _ => some []

/-- The precondition of a target (R489), as far as the State shows it. -/
def State.calReady (s : State) (c : CalRun) : Bool :=
  match c.target with
  | 0 =>
    let p := c.inst / 16
    if c.inst / 8 % 2 = 0 then s.fld (Reg.FLANE.LANE_STATE p (s.spareLane p 0)) Fld.FLANE.LANE_STATE.state = 5 else s.portUp p
  | 1 => s.portState c.inst = 2
  | 3 => s.flag Reg.SYNC.SYNC_STATE Fld.SYNC.SYNC_STATE.phase_valid && s.trg.lines.all (fun e => e.2 ≠ 2) && !s.trg.epoch
  | 4 => s.flag (Reg.CLK.PLL_STATE 0) Fld.CLK.PLL_STATE.twin_locked
  | 5 => s.ink.redirect.isNone && decide (s.chState c.inst = 2)
  | _ => true

def State.calEvent (s : State) (n : Nat) (e : EventDef) : State :=
  match s.stw.cal with
  | some c => s.blkEvent 20 n e (spareArg c.target c.inst)
  | none => s

/-- A precondition has failed (R490): an attempt every 100 ms, then PRECOND. -/
def State.precondFail (s : State) : State :=
  match s.stw.cal with
  | none => s
  | some c =>
    let s : State := (s.count Reg.CAL.CAL_PRECOND_CNT 1).calEvent 10 Ev.CAL.CAL_PRECOND
    if c.attempt < s.fld Reg.CAL.CAL_CFG Fld.CAL.CAL_CFG.retry then
      { s with stw := { s.stw with cal := some { c with attempt := c.attempt + 1 }, retryWait := true } }
    else s.dropCal 2 0x20 0

/-- An attempt (R490 steps 1 and 2); the Inkwell's channel is evacuated (R435). -/
def State.calAttempt (s : State) : State :=
  match s.stw.cal with
  | none => s
  | some c =>
    if !targetOk c.target c.inst || !s.calReady c then s.precondFail
    else
      let s : State := { s with stw := { s.stw with retryWait := false } }
      if c.target = 5 then s.startRetrain c.inst else s

/-- The item next in background mode (R491): lanes by port, direction and lane; TDC channels; the sync bus; PLL-R outputs. -/
def backgroundItem (n : Nat) : Nat × Nat :=
  if n < 80 then (0, 16 * (n / 10) + 8 * (n / 5 % 2) + n % 5)
  else if n < 100 then (2, n - 80)
  else if n = 100 then (3, 0)
  else (4, n - 101)

def backgroundItems : Nat := 108

/-- A calibration started (R490 to R492): its spare is reserved and its precondition checked. -/
def State.startCal (s : State) (target inst : Nat) (background : Bool) (ring : Option (Nat × Nat)) : State :=
  let next := s.stw.bgNext
  let skip := background || (s.flag Reg.CAL.CAL_CFG Fld.CAL.CAL_CFG.bg_en && decide (backgroundItem next = (target, inst)))
  let s : State := { s with stw := { s.stw with bgNext := if skip then (next + 1) % backgroundItems else next } }
  let c : CalRun := { target := target, inst := inst, spareKind := targetKind target, spares := [], attempt := 0,
                      background := background, ring := ring, values := [], quality := (0, 0) }
  let s : State := s.setFld Reg.CAL.CAL_STATE Fld.CAL.CAL_STATE.target target
  let s : State := { s with stw := { s.stw with cal := some c, retryWait := false } }
  match (if targetOk target inst then s.calSpares target inst else some []) with
  | none => (s.calEvent 12 Ev.CAL.CAL_NO_SPARE).dropCal 3 0x21 0
  | some l =>
    let s : State := l.foldl (fun s n => s.poolState c.spareKind n .reserved) s
    let s : State := { s with stw := { s.stw with cal := some { c with spares := l } } }
    (s.setFld Reg.CAL.CAL_STATE Fld.CAL.CAL_STATE.state 1).calAttempt

/-- CAL_GO (R491, R492): it commits CAL_SEL. While new calibrations are held back (R510) it stays pending. -/
def execCalGo (s : State) : Host.Outcome State Fault Refusal :=
  if s.stw.cal.isNone && s.stwHolds then .next s
  else
    let s : State := s.accept Reg.CAL.CAL_CMD Fld.CAL.CAL_CMD.cal_go
    if s.stw.cal.isSome then .next (s.busyDrop 20 (s.issuer Reg.CAL.CAL_CMD))
    else
      let s : State := s.commitRegs 20 [Reg.CAL.CAL_SEL]
      .next (s.startCal (s.fld Reg.CAL.CAL_SEL Fld.CAL.CAL_SEL.target) (s.fld Reg.CAL.CAL_SEL Fld.CAL.CAL_SEL.inst) false none)

/-- CAL_COMMIT (R518). -/
def execCalCommit (s : State) : Host.Outcome State Fault Refusal :=
  .next ((s.accept Reg.CAL.CAL_CMD Fld.CAL.CAL_CMD.commit_go).commitRegs 20 [Reg.CAL.CAL_CFG])

/-- CAL_RUN (R491, R516). -/
def execCalRun (ring : Fin 1024) (data : HostData) (s : State) : Host.Outcome State Fault Refusal :=
  if s.stw.cal.isNone && s.stwHolds then .next s
  else .next (s.ctrl ring (· = 0x12) data (fun c s =>
    if s.stw.cal.isSome then (some (0x23, 0), s)
    else (none, s.startCal (c.arg % 256) (c.arg / 256 % 65536) false (some (c.ring, c.cookie)))))

/-- CAL_BACKGROUND (R491). -/
def execCalBackground (s : State) : Host.Outcome State Fault Refusal :=
  if !s.flag Reg.CAL.CAL_CFG Fld.CAL.CAL_CFG.bg_en || s.stw.cal.isSome || s.stwHolds then .next s
  else
    let (t, i) := backgroundItem s.stw.bgNext
    .next (s.startCal t i true none)

/-- CAL_RETRY (R490). -/
def execCalRetry (s : State) : Host.Outcome State Fault Refusal := .next (if s.stw.retryWait then s.calAttempt else s)

/-- The tolerance of adjusted value i of n in steps of that value (R489): a TDC offset and a TDC residual step is 0.01 ps, as in the
example of R493. -/
def tolerance (target n i : Nat) : Nat :=
  match target with
  | 0 => if i + 1 = n then 1 else 2
  | 2 => if i = 0 then 50 else if i = 1 then 100 else 1
  | 3 => 10
  | 5 => if i % 2 = 0 then 1 else 5
  | _ => 1

/-- Whether two runs agree on every value (R490). -/
def runsAgree (target : Nat) (a b : List Int) : Bool :=
  a.length = b.length && (a.zip b).zipIdx.all (fun e => decide ((e.1.1 - e.1.2).natAbs ≤ tolerance target a.length e.2))

/-- The mean of two values, rounded half up to the step. -/
def meanUp (a b : Int) : Int := (a + b + 1).fdiv 2

/-- The result of two runs taken over (R490 steps 4 and 5): the spare shadow-runs it. Deskew sets taps of lanes in place, a lane that
holds no slot has nothing to hand over, and the Inkwell's channel returns under R435. -/
def State.calAgreed (s : State) (c : CalRun) : State :=
  let s : State := { s with stw := { s.stw with cal := some c } }
  let idle := c.target = 0 && !((if c.inst / 8 % 2 = 0 then s.rxSlots (c.inst / 16) else s.txSlots (c.inst / 16)).contains (c.inst % 8))
  if c.target = 1 || c.target = 5 || idle then s.calDone c.inst
  else
    let s : State := s.setFld Reg.CAL.CAL_STATE Fld.CAL.CAL_STATE.state 2
    let unit := if c.target = 3 then 9 else if c.target = 4 then 0 else c.inst
    s.askHandover { block := kindBlock c.spareKind 0, kind := c.spareKind, inst := unit, spare := c.spares.headD 0, cause := 5, spans := 0, matched := false }

/-- CAL_RUN_END (R490 steps 3 and 4). -/
def execCalRunEnd (values1 values2 : List Int) (held : Bool) (q : Nat × Nat) (s : State) : Host.Outcome State Fault Refusal :=
  match s.stw.cal with
  | none => .next s
  | some c =>
    if s.fld Reg.CAL.CAL_STATE Fld.CAL.CAL_STATE.state ≠ 1 || s.stw.retryWait then .next s
    else
      let ready := c.target = 5 || s.calReady c
      let s : State := if c.target = 5 && s.ink.retrain = some c.inst then s.after (execChannelRetrained s) else s
      if !(held && ready) then .next s.precondFail
      else if !runsAgree c.target values1 values2 then
        let s : State := (s.count Reg.CAL.CAL_DISAGREE_CNT 1).calEvent 9 Ev.CAL.CAL_DISAGREE
        .next (s.dropCal 1 0x1F 0)
      else .next (s.calAgreed { c with values := (values1.zip values2).map (fun e => meanUp e.1 e.2), quality := q })

end Sys2Proof.Machine
end

