-- ==== Sys2Proof/Machine/NetPort.lean ====
section
/-! DEFINITION. The network port (R220 to R224, R228): frames received and sent, stamps of PTP event messages, and the transmit
stamp queue. -/

namespace Sys2Proof.Machine

/-! ## PTP event messages -/

/-- Where the Ethernet type of a frame lies, behind at most one IEEE 802.1Q tag (R221). -/
def etherAt (f : List Byte) : Nat := if beAt f 12 2 = 0x8100 then 16 else 12

/-- Where the PTP message of a frame begins, in either form of R221. -/
def ptpAt (f : List Byte) : Option Nat :=
  let e := etherAt f
  let udp (u : Nat) : Option Nat := if beAt f (u + 2) 2 = 319 then some (u + 8) else none
  match beAt f e 2 with
  | 0x88F7 => some (e + 2)
  | 0x0800 => if beAt f (e + 11) 1 = 17 then udp (e + 2 + beAt f (e + 2) 1 % 16 * 4) else none
  | 0x86DD => if beAt f (e + 8) 1 = 17 then udp (e + 42) else none
  | _ => none

/-- messageType and sequenceId of a PTP event message. -/
def ptpEvent (f : List Byte) : Option (Nat × Nat) :=
  match ptpAt f with
  | none => none
  | some p =>
    let t := beAt f p 1 % 16
    if p < f.length && decide (t ≤ 3) then some (t, beAt f (p + 30) 2) else none

/-- A stamp in 1/65,536 ns (R221): TB-W at the interrupt less the compensation, within 8 ns of the stamp point. -/
def State.ptpStamp (s : State) (comp : Nat) : Nat × State :=
  let (n, s) := s.draw
  let now := s.time.tbwNs.toNat * 65536 + s.time.tbwFrac.toNat / 65536
  let err := Config.freeNat 74 n % (16 * 65536 + 1)
  (((now : Int) - comp * 4096 + err - 8 * 65536).toNat, s)

def State.stampMiss (s : State) : State := (s.count Reg.NET.STAMP_MISS_CNT 1).blkEvent 23 10 Ev.NET.STAMP_MISS 0

/-- Whether the port carries frames. -/
def State.netUp (s : State) : Bool :=
  s.blockOn 23 && s.running .net && s.flag Reg.NET.NET_STATE Fld.NET.NET_STATE.link_up

/-! ## Receiving -/

/-- The next valid buffer of the receive free list; each invalid one is skipped and counted (R220). -/
def State.rxBuffer (s : State) (l : Nat) : Nat → Option CommandEntry × State
  | 0 => (none, s)
  | n + 1 =>
    match s.crEntries l with
    | [] => (none, s)
    | e :: _ =>
      let s : State := s.crConsume l
      if leAt e 0 8 % 64 = 0 && decide (1536 ≤ leAt e 8 4) then (some e, s)
      else (s.count Reg.NET.RX_NOBUF_CNT 1).rxBuffer l n

/-- A frame delivered to the host with its stamp, if it has one, and the EVENT, STAMPED and NOSTAMP flags (R220). The stamp field of
a frame without a stamp is not stated. -/
def State.rxDeliver (s : State) (f : List Byte) (flags : Nat) (stamp : Option Nat) : State :=
  let r := s.fld Reg.NET.NET_RXRING Fld.NET.NET_RXRING.rx_ring
  let l := s.fld Reg.NET.NET_RXRING Fld.NET.NET_RXRING.rx_free
  let usable := s.rringRuns r && decide (s.rringType r = 4) && decide (s.ringState (cring l) = 1) && decide (s.ringType (cring l) = 1)
  let (b, s) := if usable then s.rxBuffer l (s.crEntries l).length else (none, s)
  match b with
  | none => s.count Reg.NET.RX_NOBUF_CNT 1
  | some e =>
    let (n, s) := s.draw
    let t := stamp.getD (Config.freeNat 75 n)
    let vlan := bit (decide (beAt f 12 2 = 0x8100))
    let s : State := s.emit (.hostWrite (leAt e 0 8) f)
    s.rringWrite r (.netRx (bytesAt e 0 8 ++ leBytes 4 f.length ++ bytesAt e 12 4 ++ leBytes 8 (t / 65536) ++ leBytes 2 t ++
      leBytes 1 (flags + 8 * vlan) ++ [0] ++ List.replicate 4 0))

/-- Whether the port takes a frame's destination address (R220). The most significant byte of NET_MAC comes first. -/
def State.netAddressed (s : State) (f : List Byte) : Bool :=
  let mac := s.reg64 Reg.NET.NET_MAC_LO Reg.NET.NET_MAC_HI % 2 ^ 48
  [mac, 0x011B19000000, 0x0180C200000E, 0xFFFFFFFFFFFF].contains (beAt f 0 6)

/-- NET_RX_FRAME (R220 to R222). -/
def execNetRxFrame (frame : List Byte) (fcsOk : Bool) (s : State) : Host.Outcome State Fault Refusal :=
  if !s.netUp then .next s
  else if !fcsOk || !s.netAddressed frame then .next (s.count Reg.NET.RX_DROP_CNT 1)
  else match ptpEvent frame with
    | none => .next (s.rxDeliver frame 0 none)
    | some _ =>
      if s.tim.netRx.isSome then .next (s.stampMiss.rxDeliver frame 5 none)
      else
        let (t, s) := s.ptpStamp (s.fld Reg.NET.NET_RX_COMP Fld.NET.NET_RX_COMP.comp)
        .next { s with tim := { s.tim with netRx := some { frame := frame, stamp := t, tag := 0 } } }

/-! ## Sending -/

/-- The head of the transmit stamp queue in its registers (R223). -/
def State.txtsHead (s : State) : State :=
  let (t, m, q, tag) := s.tim.txts.head?.getD (0, 0, 0, 0)
  let s : State := s.setFld Reg.NET.NET_TXTS_LEVEL Fld.NET.NET_TXTS_LEVEL.level s.tim.txts.length
  let s : State := s.setReg64 Reg.NET.NET_TXTS_0 Reg.NET.NET_TXTS_1 (t / 65536)
  let s : State := s.setReg Reg.NET.NET_TXTS_2 (BitVec.ofNat 32 (t % 65536 + 65536 * (tag % 65536)))
  s.setReg Reg.NET.NET_TXTS_3 (BitVec.ofNat 32 (q % 65536 + 65536 * (m % 16)))

/-- A stamp for the transmit stamp queue (R223): TXTS_OVF where it is full. -/
def State.txtsPush (s : State) (e : Nat × Nat × Nat × Nat) : State :=
  if 16 ≤ s.tim.txts.length then (s.count Reg.NET.TXTS_OVF_CNT 1).blkEvent 23 9 Ev.NET.TXTS_OVF 0
  else { s with tim := { s.tim with txts := s.tim.txts ++ [e] } }.txtsHead

/-- NET_TX_FRAME (R220, R222, R223): the next frame of the transmit ring, whose bytes the port reads from host memory. A tag with bit
16 set stands for a frame that asked for its stamp. -/
def execNetTxFrame (frame : List Byte) (s : State) : Host.Outcome State Fault Refusal :=
  let r := s.fld Reg.NET.NET_CFG Fld.NET.NET_CFG.tx_ring
  match s.crEntries r with
  | [] => .next s
  | e :: _ =>
    if !s.netUp || decide (s.ringState (cring r) ≠ 1) || decide (s.ringType (cring r) ≠ 3) then .next s
    else
      let f := bytesAt frame 0 (leAt e 8 4)
      let s : State := (s.crConsume r).emit (.netFrame f)
      match ptpEvent f with
      | none => .next s
      | some _ =>
        if s.tim.netTx.isSome then .next s.stampMiss
        else
          let (t, s) := s.ptpStamp (s.fld Reg.NET.NET_TX_COMP Fld.NET.NET_TX_COMP.comp)
          let x : NetStamp := { frame := f, stamp := t, tag := leAt e 28 2 + 65536 * (leAt e 26 1 % 2) }
          .next { s with tim := { s.tim with netTx := some x } }

/-- The stamps in progress completed (PTP_STAMP, R222, R223). -/
def State.netStamps (s : State) : State :=
  let s : State := match s.tim.netRx with
    | some x => { s with tim := { s.tim with netRx := none } }.rxDeliver x.frame 3 (some x.stamp)
    | none => s
  match s.tim.netTx with
  | some x =>
    let s : State := { s with tim := { s.tim with netTx := none } }
    match ptpEvent x.frame with
    | some (m, q) => if 65536 ≤ x.tag then s.txtsPush (x.stamp, m, q, x.tag % 65536) else s
    | none => s
  | none => s

/-- The frames whose stamps a takeover of the Steward cuts short (R222, R509). -/
def State.netAbort (s : State) : State :=
  let s : State := match s.tim.netRx with
    | some x => ({ s with tim := { s.tim with netRx := none } }.stampMiss).rxDeliver x.frame 5 none
    | none => s
  match s.tim.netTx with
  | some _ => { s with tim := { s.tim with netTx := none } }.stampMiss
  | none => s

/-- TXTS_POP (R223). -/
def execTxtsPop (s : State) : Host.Outcome State Fault Refusal :=
  let s : State := s.accept Reg.NET.NET_TXTS_CMD Fld.NET.NET_TXTS_CMD.pop_go
  .next { s with tim := { s.tim with txts := s.tim.txts.tail } }.txtsHead

/-! ## The link -/

/-- NET_LINK_DOWN (R228, R229). -/
def execNetLinkDown (s : State) : Host.Outcome State Fault Refusal :=
  let st := Reg.NET.NET_STATE
  if !s.flag st Fld.NET.NET_STATE.link_up then .next s
  else .next (((s.setFld st Fld.NET.NET_STATE.link_up 0).setFld st Fld.NET.NET_STATE.fec_lock 0).blkEvent 23 8 Ev.NET.LINK_DOWN 0)

/-- NET_LINK_UP (R228, R229). -/
def execNetLinkUp (s : State) : Host.Outcome State Fault Refusal :=
  let st := Reg.NET.NET_STATE
  if !s.blockOn 23 || !s.running .net || s.flag st Fld.NET.NET_STATE.link_up then .next s
  else .next (((s.setFld st Fld.NET.NET_STATE.link_up 1).setFld st Fld.NET.NET_STATE.fec_lock
    (s.fld Reg.NET.NET_CFG Fld.NET.NET_CFG.fec)).raise Ev.NET.LINK_UP 0)

end Sys2Proof.Machine
end

