-- ==== Sys2Proof/Machine/Dispatch.lean ====
section
/-! DEFINITION. exec: one arm for each constructor of Instr, each a direct call of that command's meaning. -/

namespace Sys2Proof.Machine

def exec (i : Instr) (s : State) : Host.Outcome State Fault Refusal :=
  match i with
  | .registerWrite req addr data => Sys2Proof.Machine.execRegisterWrite req addr data s
  | .staClear req addr data => Sys2Proof.Machine.execStaClear req addr data s
  | .counterLowRead req addr => Sys2Proof.Machine.execCounterLowRead req addr s
  | .xdomTimeout req addr write => Sys2Proof.Machine.execXdomTimeout req addr write s
  | .blockEnable block => Sys2Proof.Machine.execBlockEnable block s
  | .blockDisable block => Sys2Proof.Machine.execBlockDisable block s
  | .blockDrainEnd block => Sys2Proof.Machine.execBlockDrainEnd block s
  | .unitDrainEnd scope => Sys2Proof.Machine.execUnitDrainEnd scope s
  | .crcCommit block => Sys2Proof.Machine.execCrcCommit block s
  | .rescrubGo block => Sys2Proof.Machine.execRescrubGo block s
  | .rescrub block => Sys2Proof.Machine.execRescrub block s
  | .compareHoldExpiry block => Sys2Proof.Machine.execCompareHoldExpiry block s
  | .driftRepair block => Sys2Proof.Machine.execDriftRepair block s
  | .evtRouteCommit => Sys2Proof.Machine.execEvtRouteCommit s
  | .progLoad ring data signatureOk => Sys2Proof.Machine.execProgLoad ring data signatureOk s
  | .progUnload ring data => Sys2Proof.Machine.execProgUnload ring data s
  | .progStop slot => Sys2Proof.Machine.execProgStop slot s
  | .progRestart slot => Sys2Proof.Machine.execProgRestart slot s
  | .nibAdd slot rd ra rb => Sys2Proof.Machine.execNibAdd slot rd ra rb s
  | .nibSub slot rd ra rb => Sys2Proof.Machine.execNibSub slot rd ra rb s
  | .nibAnd slot rd ra rb => Sys2Proof.Machine.execNibAnd slot rd ra rb s
  | .nibOr slot rd ra rb => Sys2Proof.Machine.execNibOr slot rd ra rb s
  | .nibXor slot rd ra rb => Sys2Proof.Machine.execNibXor slot rd ra rb s
  | .nibSll slot rd ra rb => Sys2Proof.Machine.execNibSll slot rd ra rb s
  | .nibSrl slot rd ra rb => Sys2Proof.Machine.execNibSrl slot rd ra rb s
  | .nibSra slot rd ra rb => Sys2Proof.Machine.execNibSra slot rd ra rb s
  | .nibMul slot rd ra rb => Sys2Proof.Machine.execNibMul slot rd ra rb s
  | .nibMulh slot rd ra rb => Sys2Proof.Machine.execNibMulh slot rd ra rb s
  | .nibMulhu slot rd ra rb => Sys2Proof.Machine.execNibMulhu slot rd ra rb s
  | .nibMin slot rd ra rb => Sys2Proof.Machine.execNibMin slot rd ra rb s
  | .nibMax slot rd ra rb => Sys2Proof.Machine.execNibMax slot rd ra rb s
  | .nibMinu slot rd ra rb => Sys2Proof.Machine.execNibMinu slot rd ra rb s
  | .nibMaxu slot rd ra rb => Sys2Proof.Machine.execNibMaxu slot rd ra rb s
  | .nibClz slot rd ra rb => Sys2Proof.Machine.execNibClz slot rd ra rb s
  | .nibCmpeq slot rd ra rb => Sys2Proof.Machine.execNibCmpeq slot rd ra rb s
  | .nibCmpne slot rd ra rb => Sys2Proof.Machine.execNibCmpne slot rd ra rb s
  | .nibCmplt slot rd ra rb => Sys2Proof.Machine.execNibCmplt slot rd ra rb s
  | .nibCmpltu slot rd ra rb => Sys2Proof.Machine.execNibCmpltu slot rd ra rb s
  | .nibCmpge slot rd ra rb => Sys2Proof.Machine.execNibCmpge slot rd ra rb s
  | .nibCmpgeu slot rd ra rb => Sys2Proof.Machine.execNibCmpgeu slot rd ra rb s
  | .nibPand slot rd ra rb => Sys2Proof.Machine.execNibPand slot rd ra rb s
  | .nibPor slot rd ra rb => Sys2Proof.Machine.execNibPor slot rd ra rb s
  | .nibPnot slot rd ra rb => Sys2Proof.Machine.execNibPnot slot rd ra rb s
  | .nibJr slot ra => Sys2Proof.Machine.execNibJr slot ra s
  | .nibNop slot => Sys2Proof.Machine.execNibNop slot s
  | .nibHalt slot => Sys2Proof.Machine.execNibHalt slot s
  | .nibMfs slot rd ra => Sys2Proof.Machine.execNibMfs slot rd ra s
  | .nibMts slot rd ra => Sys2Proof.Machine.execNibMts slot rd ra s
  | .nibSbnd slot => Sys2Proof.Machine.execNibSbnd slot s
  | .nibEret slot => Sys2Proof.Machine.execNibEret slot s
  | .nibTread slot rd rb => Sys2Proof.Machine.execNibTread slot rd rb s
  | .nibTwait slot rd ra rb => Sys2Proof.Machine.execNibTwait slot rd ra rb s
  | .nibAddi slot rd ra imm => Sys2Proof.Machine.execNibAddi slot rd ra imm s
  | .nibAndi slot rd ra imm => Sys2Proof.Machine.execNibAndi slot rd ra imm s
  | .nibOri slot rd ra imm => Sys2Proof.Machine.execNibOri slot rd ra imm s
  | .nibXori slot rd ra imm => Sys2Proof.Machine.execNibXori slot rd ra imm s
  | .nibLui slot rd imm => Sys2Proof.Machine.execNibLui slot rd imm s
  | .nibShi slot rd ra imm => Sys2Proof.Machine.execNibShi slot rd ra imm s
  | .nibCmpeqi slot rd ra imm => Sys2Proof.Machine.execNibCmpeqi slot rd ra imm s
  | .nibCmplti slot rd ra imm => Sys2Proof.Machine.execNibCmplti slot rd ra imm s
  | .nibCmpltui slot rd ra imm => Sys2Proof.Machine.execNibCmpltui slot rd ra imm s
  | .nibLw slot rd base off => Sys2Proof.Machine.execNibLw slot rd base off s
  | .nibLh slot rd base off => Sys2Proof.Machine.execNibLh slot rd base off s
  | .nibLhu slot rd base off => Sys2Proof.Machine.execNibLhu slot rd base off s
  | .nibLb slot rd base off => Sys2Proof.Machine.execNibLb slot rd base off s
  | .nibLbu slot rd base off => Sys2Proof.Machine.execNibLbu slot rd base off s
  | .nibSw slot rd base off => Sys2Proof.Machine.execNibSw slot rd base off s
  | .nibSh slot rd base off => Sys2Proof.Machine.execNibSh slot rd base off s
  | .nibSb slot rd base off => Sys2Proof.Machine.execNibSb slot rd base off s
  | .nibBr slot pred sense off => Sys2Proof.Machine.execNibBr slot pred sense off s
  | .nibCall slot pred sense off => Sys2Proof.Machine.execNibCall slot pred sense off s
  | .nibLoop slot count len stages => Sys2Proof.Machine.execNibLoop slot count len stages s
  | .nibLoopm slot count len stages => Sys2Proof.Machine.execNibLoopm slot count len stages s
  | .ucmdEnable slot handle a sp => Sys2Proof.Machine.execUcmdEnable slot handle a sp s
  | .ucmdDisable slot handle a sp => Sys2Proof.Machine.execUcmdDisable slot handle a sp s
  | .ucmdArm slot handle a sp => Sys2Proof.Machine.execUcmdArm slot handle a sp s
  | .ucmdDisarm slot handle a sp => Sys2Proof.Machine.execUcmdDisarm slot handle a sp s
  | .ucmdStart slot handle a sp => Sys2Proof.Machine.execUcmdStart slot handle a sp s
  | .ucmdStop slot handle a sp => Sys2Proof.Machine.execUcmdStop slot handle a sp s
  | .ucmdFlush slot handle a sp => Sys2Proof.Machine.execUcmdFlush slot handle a sp s
  | .ucmdHoldReset slot handle a sp => Sys2Proof.Machine.execUcmdHoldReset slot handle a sp s
  | .pop slot handle a sp => Sys2Proof.Machine.execPop slot handle a sp s
  | .ustage slot handle a area sp => Sys2Proof.Machine.execUstage slot handle a area sp s
  | .ucommit slot handle a sp => Sys2Proof.Machine.execUcommit slot handle a sp s
  | .uwait slot handle a cond sp arrived => Sys2Proof.Machine.execUwait slot handle a cond sp arrived s
  | .uread slot handle a sp => Sys2Proof.Machine.execUread slot handle a sp s
  | .uwrite slot handle a sp => Sys2Proof.Machine.execUwrite slot handle a sp s
  | .post slot handle a sel sp => Sys2Proof.Machine.execPost slot handle a sel sp s
  | .postCascade slot handle a sp => Sys2Proof.Machine.execPostCascade slot handle a sp s
  | .barrier slot handle a sp => Sys2Proof.Machine.execBarrier slot handle a sp s
  | .waitDecision slot arrived => Sys2Proof.Machine.execWaitDecision slot arrived s
  | .waitTimeout slot arrived => Sys2Proof.Machine.execWaitTimeout slot arrived s
  | .sampleFrame f => Sys2Proof.Machine.execSampleFrame f s
  | .idleFrame f => Sys2Proof.Machine.execIdleFrame f s
  | .rttMark f => Sys2Proof.Machine.execRttMark f s
  | .frameLock lane inverted => Sys2Proof.Machine.execFrameLock lane inverted s
  | .lossOfLock lane framesLost => Sys2Proof.Machine.execLossOfLock lane framesLost s
  | .losAssert p l => Sys2Proof.Machine.execLosAssert p l s
  | .losDeassert p l => Sys2Proof.Machine.execLosDeassert p l s
  | .optLow p l => Sys2Proof.Machine.execOptLow p l s
  | .dfeTapStep lane up => Sys2Proof.Machine.execDfeTapStep lane up s
  | .dfeRail lane => Sys2Proof.Machine.execDfeRail lane s
  | .cdrLock lane => Sys2Proof.Machine.execCdrLock lane s
  | .tapsSettled lane => Sys2Proof.Machine.execTapsSettled lane s
  | .seqFound lane seq farIndex => Sys2Proof.Machine.execSeqFound lane seq farIndex s
  | .laneReady lane skewSteps => Sys2Proof.Machine.execLaneReady lane skewSteps s
  | .portRestore p => Sys2Proof.Machine.execPortRestore p s
  | .portRetrain p => Sys2Proof.Machine.execPortRetrain p s
  | .singleGo lane => Sys2Proof.Machine.execSingleGo lane s
  | .burstGo lane => Sys2Proof.Machine.execBurstGo lane s
  | .rateInject lane => Sys2Proof.Machine.execRateInject lane s
  | .testEnable lane => Sys2Proof.Machine.execTestEnable lane s
  | .testDisable lane => Sys2Proof.Machine.execTestDisable lane s
  | .checkerLock lane => Sys2Proof.Machine.execCheckerLock lane s
  | .checkerLoss lane bits errors => Sys2Proof.Machine.execCheckerLoss lane bits errors s
  | .cascSlip k l => Sys2Proof.Machine.execCascSlip k l s
  | .linkRetrain k => Sys2Proof.Machine.execLinkRetrain k s
  | .trigFrame f => Sys2Proof.Machine.execTrigFrame f s
  | .trigFrameSend k => Sys2Proof.Machine.execTrigFrameSend k s
  | .densityFrame f => Sys2Proof.Machine.execDensityFrame f s
  | .nibmsgFrame f => Sys2Proof.Machine.execNibmsgFrame f s
  | .headId f => Sys2Proof.Machine.execHeadId f s
  | .headIdTimeout p => Sys2Proof.Machine.execHeadIdTimeout p s
  | .headLife f => Sys2Proof.Machine.execHeadLife f s
  | .headSilent p => Sys2Proof.Machine.execHeadSilent p s
  | .headCfg f => Sys2Proof.Machine.execHeadCfg f s
  | .headCfgTimeout p => Sys2Proof.Machine.execHeadCfgTimeout p s
  | .headCal f => Sys2Proof.Machine.execHeadCal f s
  | .laneMap f => Sys2Proof.Machine.execLaneMap f s
  | .rttReply f => Sys2Proof.Machine.execRttReply f s
  | .rttMeasure p t1 => Sys2Proof.Machine.execRttMeasure p t1 s
  | .rttAbandon p => Sys2Proof.Machine.execRttAbandon p s
  | .headImageStatus f => Sys2Proof.Machine.execHeadImageStatus f s
  | .alarm f => Sys2Proof.Machine.execAlarm f s
  | .ack f => Sys2Proof.Machine.execAck f s
  | .ackSend p => Sys2Proof.Machine.execAckSend p s
  | .msgResend p => Sys2Proof.Machine.execMsgResend p s
  | .idReqGo p => Sys2Proof.Machine.execIdReqGo p s
  | .imageActivateGo p => Sys2Proof.Machine.execImageActivateGo p s
  | .takeoverGo q => Sys2Proof.Machine.execTakeoverGo q s
  | .revertGo q => Sys2Proof.Machine.execRevertGo q s
  | .rttResetGo p => Sys2Proof.Machine.execRttResetGo p s
  | .headImage ring data signatureOk => Sys2Proof.Machine.execHeadImage ring data signatureOk s
  | .pllEnable y mclk => Sys2Proof.Machine.execPllEnable y mclk s
  | .pllDisable y => Sys2Proof.Machine.execPllDisable y s
  | .twinSwapGo => Sys2Proof.Machine.execTwinSwapGo s
  | .refRevertGo => Sys2Proof.Machine.execRefRevertGo s
  | .outEnable y o => Sys2Proof.Machine.execOutEnable y o s
  | .outDisable y o => Sys2Proof.Machine.execOutDisable y o s
  | .delayCommit y o => Sys2Proof.Machine.execDelayCommit y o s
  | .refLoss r => Sys2Proof.Machine.execRefLoss r s
  | .pllLock y twin => Sys2Proof.Machine.execPllLock y twin s
  | .settleEnd y => Sys2Proof.Machine.execSettleEnd y s
  | .pllLol y twin => Sys2Proof.Machine.execPllLol y twin s
  | .holdoverExpiry => Sys2Proof.Machine.execHoldoverExpiry s
  | .refReturn r => Sys2Proof.Machine.execRefReturn r s
  | .snapGo => Sys2Proof.Machine.execSnapGo s
  | .incrCommitGo => Sys2Proof.Machine.execIncrCommitGo s
  | .onceGo => Sys2Proof.Machine.execOnceGo s
  | .tbmCommitGo => Sys2Proof.Machine.execTbmCommitGo s
  | .turnLoadApply => Sys2Proof.Machine.execTurnLoadApply s
  | .fiducial input => Sys2Proof.Machine.execFiducial input s
  | .tdcStamp c falling tbs coarse fine => Sys2Proof.Machine.execTdcStamp c falling tbs coarse fine s
  | .tdcPop c => Sys2Proof.Machine.execTdcPop c s
  | .tdcEnable c => Sys2Proof.Machine.execTdcEnable c s
  | .tdcDisable c => Sys2Proof.Machine.execTdcDisable c s
  | .ivalArm u => Sys2Proof.Machine.execIvalArm u s
  | .ivalTimeout u => Sys2Proof.Machine.execIvalTimeout u s
  | .freqStart r => Sys2Proof.Machine.execFreqStart r s
  | .freqStop r => Sys2Proof.Machine.execFreqStop r s
  | .gateEnd r => Sys2Proof.Machine.execGateEnd r s
  | .ppsIn => Sys2Proof.Machine.execPpsIn s
  | .ppsOutPulse => Sys2Proof.Machine.execPpsOutPulse s
  | .ppsOutEnd => Sys2Proof.Machine.execPpsOutEnd s
  | .netRxFrame frame fcsOk => Sys2Proof.Machine.execNetRxFrame frame fcsOk s
  | .netTxFrame frame => Sys2Proof.Machine.execNetTxFrame frame s
  | .txtsPop => Sys2Proof.Machine.execTxtsPop s
  | .netLinkDown => Sys2Proof.Machine.execNetLinkDown s
  | .netLinkUp => Sys2Proof.Machine.execNetLinkUp s
  | .spkEnable p => Sys2Proof.Machine.execSpkEnable p s
  | .spkDisable p => Sys2Proof.Machine.execSpkDisable p s
  | .spkCommit p => Sys2Proof.Machine.execSpkCommit p s
  | .spikeBlockEnd p o => Sys2Proof.Machine.execSpikeBlockEnd p o s
  | .zcEnable z => Sys2Proof.Machine.execZcEnable z s
  | .zcDisable z => Sys2Proof.Machine.execZcDisable z s
  | .zcCommit z => Sys2Proof.Machine.execZcCommit z s
  | .zoomBlockBoundary z => Sys2Proof.Machine.execZoomBlockBoundary z s
  | .fadeEnd z => Sys2Proof.Machine.execFadeEnd z s
  | .zoomOutput z => Sys2Proof.Machine.execZoomOutput z s
  | .xfEnable u => Sys2Proof.Machine.execXfEnable u s
  | .alignStart u => Sys2Proof.Machine.execAlignStart u s
  | .xfDisable u => Sys2Proof.Machine.execXfDisable u s
  | .xfCommit u => Sys2Proof.Machine.execXfCommit u s
  | .xfHoldReset u => Sys2Proof.Machine.execXfHoldReset u s
  | .transformFrame u => Sys2Proof.Machine.execTransformFrame u s
  | .winEnable w => Sys2Proof.Machine.execWinEnable w s
  | .winDisable w => Sys2Proof.Machine.execWinDisable w s
  | .maskEnable m => Sys2Proof.Machine.execMaskEnable m s
  | .maskDisable m => Sys2Proof.Machine.execMaskDisable m s
  | .maskCommit m => Sys2Proof.Machine.execMaskCommit m s
  | .mecEnable c => Sys2Proof.Machine.execMecEnable c s
  | .mecDisable c => Sys2Proof.Machine.execMecDisable c s
  | .mecCommit c => Sys2Proof.Machine.execMecCommit c s
  | .mecMatch c turn tbs => Sys2Proof.Machine.execMecMatch c turn tbs s
  | .tmrEnable t => Sys2Proof.Machine.execTmrEnable t s
  | .tmrDisable t => Sys2Proof.Machine.execTmrDisable t s
  | .timerFire t => Sys2Proof.Machine.execTimerFire t s
  | .swFire => Sys2Proof.Machine.execSwFire s
  | .trigOutEnable o => Sys2Proof.Machine.execTrigOutEnable o s
  | .trigOutDisable o => Sys2Proof.Machine.execTrigOutDisable o s
  | .seqEnable q => Sys2Proof.Machine.execSeqEnable q s
  | .seqDisable q => Sys2Proof.Machine.execSeqDisable q s
  | .seqArm q => Sys2Proof.Machine.execSeqArm q s
  | .seqDisarm q => Sys2Proof.Machine.execSeqDisarm q s
  | .seqCommit q => Sys2Proof.Machine.execSeqCommit q s
  | .seqCommitApply q => Sys2Proof.Machine.execSeqCommitApply q s
  | .arcA q => Sys2Proof.Machine.execArcA q s
  | .arcT q => Sys2Proof.Machine.execArcT q s
  | .tadpoleCommit q => Sys2Proof.Machine.execTadpoleCommit q s
  | .qualLimit q => Sys2Proof.Machine.execQualLimit q s
  | .trigOutPulseEnd o => Sys2Proof.Machine.execTrigOutPulseEnd o s
  | .syncTrgDrive line => Sys2Proof.Machine.execSyncTrgDrive line s
  | .syncPulse line cycle len => Sys2Proof.Machine.execSyncPulse line cycle len s
  | .epochGo => Sys2Proof.Machine.execEpochGo s
  | .syncPhaseMeasure tf tr => Sys2Proof.Machine.execSyncPhaseMeasure tf tr s
  | .busPhaseLost => Sys2Proof.Machine.execBusPhaseLost s
  | .rawCellWrite stream => Sys2Proof.Machine.execRawCellWrite stream s
  | .recordAssembly errs => Sys2Proof.Machine.execRecordAssembly errs s
  | .throttleDouble f => Sys2Proof.Machine.execThrottleDouble f s
  | .throttleHalve f => Sys2Proof.Machine.execThrottleHalve f s
  | .tplEnable t => Sys2Proof.Machine.execTplEnable t s
  | .tplDisable t => Sys2Proof.Machine.execTplDisable t s
  | .tplRestart t => Sys2Proof.Machine.execTplRestart t s
  | .lbSubmit j => Sys2Proof.Machine.execLbSubmit j s
  | .lbCancel j => Sys2Proof.Machine.execLbCancel j s
  | .lbDone j errs => Sys2Proof.Machine.execLbDone j errs s
  | .brNop c w => Sys2Proof.Machine.execBrNop c w s
  | .brEnd c w => Sys2Proof.Machine.execBrEnd c w s
  | .brBrz c w => Sys2Proof.Machine.execBrBrz c w s
  | .brBrnz c w => Sys2Proof.Machine.execBrBrnz c w s
  | .brBrlt c w => Sys2Proof.Machine.execBrBrlt c w s
  | .brRep c w => Sys2Proof.Machine.execBrRep c w s
  | .brMfs c w => Sys2Proof.Machine.execBrMfs c w s
  | .brWaitin c w => Sys2Proof.Machine.execBrWaitin c w s
  | .brSadd c w => Sys2Proof.Machine.execBrSadd c w s
  | .brSaddi c w => Sys2Proof.Machine.execBrSaddi c w s
  | .brSsub c w => Sys2Proof.Machine.execBrSsub c w s
  | .brSmul c w => Sys2Proof.Machine.execBrSmul c w s
  | .brSand c w => Sys2Proof.Machine.execBrSand c w s
  | .brSor c w => Sys2Proof.Machine.execBrSor c w s
  | .brSxor c w => Sys2Proof.Machine.execBrSxor c w s
  | .brSsh c w => Sys2Proof.Machine.execBrSsh c w s
  | .brSld c w => Sys2Proof.Machine.execBrSld c w s
  | .brSst c w => Sys2Proof.Machine.execBrSst c w s
  | .brVext c w => Sys2Proof.Machine.execBrVext c w s
  | .brVins c w => Sys2Proof.Machine.execBrVins c w s
  | .brVadd c w => Sys2Proof.Machine.execBrVadd c w s
  | .brVadds c w => Sys2Proof.Machine.execBrVadds c w s
  | .brVsub c w => Sys2Proof.Machine.execBrVsub c w s
  | .brVsubs c w => Sys2Proof.Machine.execBrVsubs c w s
  | .brVmul c w => Sys2Proof.Machine.execBrVmul c w s
  | .brVmax c w => Sys2Proof.Machine.execBrVmax c w s
  | .brVmin c w => Sys2Proof.Machine.execBrVmin c w s
  | .brVabs c w => Sys2Proof.Machine.execBrVabs c w s
  | .brVand c w => Sys2Proof.Machine.execBrVand c w s
  | .brVor c w => Sys2Proof.Machine.execBrVor c w s
  | .brVxor c w => Sys2Proof.Machine.execBrVxor c w s
  | .brVshl c w => Sys2Proof.Machine.execBrVshl c w s
  | .brVsra c w => Sys2Proof.Machine.execBrVsra c w s
  | .brVspl c w => Sys2Proof.Machine.execBrVspl c w s
  | .brVcmplt c w => Sys2Proof.Machine.execBrVcmplt c w s
  | .brVcmpeq c w => Sys2Proof.Machine.execBrVcmpeq c w s
  | .brVsel c w => Sys2Proof.Machine.execBrVsel c w s
  | .brNorm c w => Sys2Proof.Machine.execBrNorm c w s
  | .brExpx c w => Sys2Proof.Machine.execBrExpx c w s
  | .brVshlv c w => Sys2Proof.Machine.execBrVshlv c w s
  | .brVrot c w => Sys2Proof.Machine.execBrVrot c w s
  | .brMsetn c w => Sys2Proof.Machine.execBrMsetn c w s
  | .brAclr c w => Sys2Proof.Machine.execBrAclr c w s
  | .brVmac c w => Sys2Proof.Machine.execBrVmac c w s
  | .brVmsu c w => Sys2Proof.Machine.execBrVmsu c w s
  | .brVdot c w => Sys2Proof.Machine.execBrVdot c w s
  | .brAcadd c w => Sys2Proof.Machine.execBrAcadd c w s
  | .brAcx c w => Sys2Proof.Machine.execBrAcx c w s
  | .brAcred c w => Sys2Proof.Machine.execBrAcred c w s
  | .brAcxf c w => Sys2Proof.Machine.execBrAcxf c w s
  | .brAcxd c w => Sys2Proof.Machine.execBrAcxd c w s
  | .brVcvtf c w => Sys2Proof.Machine.execBrVcvtf c w s
  | .brVfadd c w => Sys2Proof.Machine.execBrVfadd c w s
  | .brVfmul c w => Sys2Proof.Machine.execBrVfmul c w s
  | .brVfmax c w => Sys2Proof.Machine.execBrVfmax c w s
  | .brVfmin c w => Sys2Proof.Machine.execBrVfmin c w s
  | .brVcvtq c w => Sys2Proof.Machine.execBrVcvtq c w s
  | .brAcfadd c w => Sys2Proof.Machine.execBrAcfadd c w s
  | .brVld c w => Sys2Proof.Machine.execBrVld c w s
  | .brVst c w => Sys2Proof.Machine.execBrVst c w s
  | .brVldi c w => Sys2Proof.Machine.execBrVldi c w s
  | .brVsti c w => Sys2Proof.Machine.execBrVsti c w s
  | .brInblk c w => Sys2Proof.Machine.execBrInblk c w s
  | .brOute c w => Sys2Proof.Machine.execBrOute c w s
  | .inblkDone c errs => Sys2Proof.Machine.execInblkDone c errs s
  | .invocationStart kernel => Sys2Proof.Machine.execInvocationStart kernel s
  | .krnTime c => Sys2Proof.Machine.execKrnTime c s
  | .invocationCancel c => Sys2Proof.Machine.execInvocationCancel c s
  | .kernelLoad ring data signatureOk => Sys2Proof.Machine.execKernelLoad ring data signatureOk s
  | .plEnable k => Sys2Proof.Machine.execPlEnable k s
  | .plDisable k => Sys2Proof.Machine.execPlDisable k s
  | .plCommit k => Sys2Proof.Machine.execPlCommit k s
  | .plClear k => Sys2Proof.Machine.execPlClear k s
  | .plSnap k => Sys2Proof.Machine.execPlSnap k s
  | .plRestart k => Sys2Proof.Machine.execPlRestart k s
  | .snapDone k => Sys2Proof.Machine.execSnapDone k s
  | .persistTick k => Sys2Proof.Machine.execPersistTick k s
  | .dispCommit => Sys2Proof.Machine.execDispCommit s
  | .layerRelease => Sys2Proof.Machine.execLayerRelease s
  | .touchGo => Sys2Proof.Machine.execTouchGo s
  | .dpEnable o => Sys2Proof.Machine.execDpEnable o s
  | .dpDisable o => Sys2Proof.Machine.execDpDisable o s
  | .replayHoldGo o => Sys2Proof.Machine.execReplayHoldGo o s
  | .replayExitGo o => Sys2Proof.Machine.execReplayExitGo o s
  | .dispFrameStart o errs => Sys2Proof.Machine.execDispFrameStart o errs s
  | .dpLinkLost o hpd => Sys2Proof.Machine.execDpLinkLost o hpd s
  | .dpLinkRetry o => Sys2Proof.Machine.execDpLinkRetry o s
  | .dpLinkUp o replayCap => Sys2Proof.Machine.execDpLinkUp o replayCap s
  | .inkRead src addr len errs => Sys2Proof.Machine.execInkRead src addr len errs s
  | .inkWrite src addr data errs => Sys2Proof.Machine.execInkWrite src addr data errs s
  | .patrolScrub errs => Sys2Proof.Machine.execPatrolScrub errs s
  | .scrubGo => Sys2Proof.Machine.execScrubGo s
  | .refreshDue c busy paid => Sys2Proof.Machine.execRefreshDue c busy paid s
  | .tempStatusRead c rate => Sys2Proof.Machine.execTempStatusRead c rate s
  | .requestPromote c k => Sys2Proof.Machine.execRequestPromote c k s
  | .driftRead c osc away => Sys2Proof.Machine.execDriftRead c osc away s
  | .rowRemapped c bank row => Sys2Proof.Machine.execRowRemapped c bank row s
  | .bankSpared c bank => Sys2Proof.Machine.execBankSpared c bank s
  | .channelFailed c => Sys2Proof.Machine.execChannelFailed c s
  | .channelRetrained => Sys2Proof.Machine.execChannelRetrained s
  | .inkRetrain => Sys2Proof.Machine.execInkRetrain s
  | .xlateGo => Sys2Proof.Machine.execXlateGo s
  | .elogPop => Sys2Proof.Machine.execElogPop s
  | .trnRun c fail => Sys2Proof.Machine.execTrnRun c fail s
  | .doorbell offset len data entries => Sys2Proof.Machine.execDoorbell offset len data entries s
  | .ringEnable r => Sys2Proof.Machine.execRingEnable r s
  | .ringDisable r => Sys2Proof.Machine.execRingDisable r s
  | .ringResume r => Sys2Proof.Machine.execRingResume r s
  | .ringReset r => Sys2Proof.Machine.execRingReset r s
  | .hqCommit => Sys2Proof.Machine.execHqCommit s
  | .winCommit => Sys2Proof.Machine.execWinCommit s
  | .bar2Access offset len data errs => Sys2Proof.Machine.execBar2Access offset len data errs s
  | .ctrlNop ring data => Sys2Proof.Machine.execCtrlNop ring data s
  | .readRetry r => Sys2Proof.Machine.execReadRetry r s
  | .coalTimer r => Sys2Proof.Machine.execCoalTimer r s
  | .dmaBurst ch bad => Sys2Proof.Machine.execDmaBurst ch bad s
  | .flushTimer ch => Sys2Proof.Machine.execFlushTimer ch s
  | .freelistRetry ch => Sys2Proof.Machine.execFreelistRetry ch s
  | .dmaEnable ch => Sys2Proof.Machine.execDmaEnable ch s
  | .dmaDisable ch => Sys2Proof.Machine.execDmaDisable ch s
  | .dmaPromote ch => Sys2Proof.Machine.execDmaPromote ch s
  | .dmaResume ch => Sys2Proof.Machine.execDmaResume ch s
  | .hostReset kind => Sys2Proof.Machine.execHostReset kind s
  | .linkRate gen width => Sys2Proof.Machine.execLinkRate gen width s
  | .attachGo d labels journal => Sys2Proof.Machine.execAttachGo d labels journal s
  | .formatGo d => Sys2Proof.Machine.execFormatGo d s
  | .measureGo d => Sys2Proof.Machine.execMeasureGo d s
  | .retireGo d => Sys2Proof.Machine.execRetireGo d s
  | .detachGo d => Sys2Proof.Machine.execDetachGo d s
  | .dsEnable n => Sys2Proof.Machine.execDsEnable n s
  | .dsDisable n => Sys2Proof.Machine.execDsDisable n s
  | .dsRestart n => Sys2Proof.Machine.execDsRestart n s
  | .readGo => Sys2Proof.Machine.execReadGo s
  | .readDone data => Sys2Proof.Machine.execReadDone data s
  | .extentWrite n bad => Sys2Proof.Machine.execExtentWrite n bad s
  | .journalFlush d => Sys2Proof.Machine.execJournalFlush d s
  | .journalBlockDone d => Sys2Proof.Machine.execJournalBlockDone d s
  | .drvLost d timeout => Sys2Proof.Machine.execDrvLost d timeout s
  | .driveLinkUp d gen width lbaSize metadata blocks => Sys2Proof.Machine.execDriveLinkUp d gen width lbaSize metadata blocks s
  | .measureEnd d mbs => Sys2Proof.Machine.execMeasureEnd d mbs s
  | .wearRead d used crit => Sys2Proof.Machine.execWearRead d used crit s
  | .drvSlow d => Sys2Proof.Machine.execDrvSlow d s
  | .calGo => Sys2Proof.Machine.execCalGo s
  | .calCommit => Sys2Proof.Machine.execCalCommit s
  | .calRunEnd values1 values2 held q => Sys2Proof.Machine.execCalRunEnd values1 values2 held q s
  | .calRetry => Sys2Proof.Machine.execCalRetry s
  | .calBackground => Sys2Proof.Machine.execCalBackground s
  | .calRun ring data => Sys2Proof.Machine.execCalRun ring data s
  | .handoverStart block kind inst cause => Sys2Proof.Machine.execHandoverStart block kind inst cause s
  | .shadowCompare block gap agree => Sys2Proof.Machine.execShadowCompare block gap agree s
  | .handoverSwitch block => Sys2Proof.Machine.execHandoverSwitch block s
  | .unitFailure block kind inst => Sys2Proof.Machine.execUnitFailure block kind inst s
  | .spareSelftest kind num pass => Sys2Proof.Machine.execSpareSelftest kind num pass s
  | .spareCommit => Sys2Proof.Machine.execSpareCommit s
  | .spareRetest ring data pass => Sys2Proof.Machine.execSpareRetest ring data pass s
  | .paceRead margins => Sys2Proof.Machine.execPaceRead margins s
  | .keepalive => Sys2Proof.Machine.execKeepalive s
  | .keepaliveTimeout => Sys2Proof.Machine.execKeepaliveTimeout s
  | .avsCommit => Sys2Proof.Machine.execAvsCommit s
  | .liveImageUpdate => Sys2Proof.Machine.execLiveImageUpdate s
  | .sessionCommit ring data written => Sys2Proof.Machine.execSessionCommit ring data written s
  | .sessionClear ring data written => Sys2Proof.Machine.execSessionClear ring data written s
  | .keyChange ring data signatureOk => Sys2Proof.Machine.execKeyChange ring data signatureOk s
  | .fwUpdate ring data signatureOk => Sys2Proof.Machine.execFwUpdate ring data signatureOk s
  | .fwSwitch => Sys2Proof.Machine.execFwSwitch s
  | .fwConfirm => Sys2Proof.Machine.execFwConfirm s
  | .serviceBundle ring data maker => Sys2Proof.Machine.execServiceBundle ring data maker s
  | .holdGo => Sys2Proof.Machine.execHoldGo s
  | .resumeGo => Sys2Proof.Machine.execResumeGo s
  | .discardGo => Sys2Proof.Machine.execDiscardGo s
  | .holdWindowEnd => Sys2Proof.Machine.execHoldWindowEnd s
  | .stewardTakeover => Sys2Proof.Machine.execStewardTakeover s
  | .standbyReady => Sys2Proof.Machine.execStandbyReady s
  | .powerUp resumeInh service bad badCal => Sys2Proof.Machine.execPowerUp resumeInh service bad badCal s
  | .perstRelease => Sys2Proof.Machine.execPerstRelease s
  | .perstTimeout => Sys2Proof.Machine.execPerstTimeout s
  | .vinLow vaux => Sys2Proof.Machine.execVinLow vaux s
  | .thermWarn case_ junction optical dram => Sys2Proof.Machine.execThermWarn case_ junction optical dram s
  | .thermalShutdown => Sys2Proof.Machine.execThermalShutdown s
  | .railFault => Sys2Proof.Machine.execRailFault s
  | .phaseCheck bad => Sys2Proof.Machine.execPhaseCheck bad s
  | .smbusRegRead code => Sys2Proof.Machine.execSmbusRegRead code s
  | .smbusIdent => Sys2Proof.Machine.execSmbusIdent s
  | .smbusAra => Sys2Proof.Machine.execSmbusAra s
  | .jtagBypass tdi => Sys2Proof.Machine.execJtagBypass tdi s
  | .jtagIdcode tdi => Sys2Proof.Machine.execJtagIdcode tdi s
  | .jtagSamplePreload pins tdi => Sys2Proof.Machine.execJtagSamplePreload pins tdi s
  | .jtagExtest pins tdi => Sys2Proof.Machine.execJtagExtest pins tdi s
  | .jtagClamp tdi => Sys2Proof.Machine.execJtagClamp tdi s
  | .jtagHighz tdi => Sys2Proof.Machine.execJtagHighz tdi s
  | .hostLinkUp gen width => Sys2Proof.Machine.execHostLinkUp gen width s
  | .vauxWithinRange => Sys2Proof.Machine.execVauxWithinRange s

end Sys2Proof.Machine
end

