-- ==== Sys2Proof/Machine/Tick.lean ====
section
/-! DEFINITION. What an idle step does: one tick of 50 ns passes (R208). -/

namespace Sys2Proof.Machine

/-- A turn load that waits takes effect at the turn boundary just passed (R203, R204). -/
def State.turnPassed (s : State) : State :=
  match s.tim.turnLoad with
  | none => s
  | some l =>
    { s with time := { s.time with turn := l }, tim := { s.tim with turnLoad := none } }.setFld Reg.TIME.TIME_STATE
      Fld.TIME.TIME_STATE.tbm_estimated 0

/-- One tick: the time bases advance (R199 to R205), a turn boundary brings a waiting turn load and the comparators' commits (R300),
and network stamps in progress are delivered (R222). -/
def State.idle (s : State) : State :=
  let turn := s.time.turn
  let s : State := s.advanceTime
  let s : State := if s.time.turn = turn then s else s.turnPassed
  let s : State := (List.range 8).foldl (fun s c => s.mecApply c s.time.turn.toNat) s
  s.netStamps

end Sys2Proof.Machine
end

