-- ==== Sys2Proof/WellFormed.lean ====
section
/-! DEFINITION. Well-formed commands: what an operand must hold beyond its type. Every meaning is total; a sender gives well-formed
commands only. -/

namespace Sys2Proof

open Sys2Proof.Machine

/-- A frame carries 2,160 bits after its sync word (R108, R109). -/
def Machine.FieldFrame.wf (f : FieldFrame) : Bool := decide (f.line.length = 2160)
def Machine.CascFrame.wf (f : CascFrame) : Bool := decide (f.line.length = 2160)

/-- A scope that the block has (R558). -/
def Machine.ScopeId.wf (id : ScopeId) : Bool := (blockScopes id.kind.block).any (fun e => decide (e.1 = id.kind) && decide (id.idx < e.2))

/-- An array error: at least one wrong bit in one of the seven codewords or in the address check (R422). -/
def Machine.InkErr.wf (e : InkErr) : Bool := decide (e.codeword ≤ 7) && decide (0 < e.bits)

/-- A chain gives each link once. -/
def Machine.HostData.wf (d : HostData) : Bool := decide ((d.links.map (fun l => l.1)).Nodup)

/-- Whether a command is well formed. -/
def Instr.wf : Instr → Bool
  | .registerWrite _ addr data => decide (addr.toNat % 4 = 0) && !data.isEmpty
  | .staClear _ addr _ => decide (addr.toNat % 4 = 0)
  | .counterLowRead _ addr => decide (addr.toNat % 4 = 0)
  | .xdomTimeout _ addr _ => decide (addr.toNat % 4 = 0)
  | .unitDrainEnd scope => scope.wf
  | .progLoad _ x1 _ => x1.wf
  | .progUnload _ x1 => x1.wf
  | .sampleFrame x0 => x0.wf
  | .idleFrame x0 => x0.wf
  | .rttMark x0 => x0.wf
  | .trigFrame x0 => x0.wf
  | .densityFrame x0 => x0.wf
  | .nibmsgFrame x0 => x0.wf
  | .headId x0 => x0.wf
  | .headLife x0 => x0.wf
  | .headCfg x0 => x0.wf
  | .headCal x0 => x0.wf
  | .laneMap x0 => x0.wf
  | .rttReply x0 => x0.wf
  | .headImageStatus x0 => x0.wf
  | .alarm x0 => x0.wf
  | .ack x0 => x0.wf
  | .headImage _ x1 _ => x1.wf
  | .netRxFrame f _ => decide (14 ≤ f.length)
  | .netTxFrame f => decide (14 ≤ f.length)
  | .syncPulse _ _ len => decide (0 < len)
  | .recordAssembly x0 => x0.all InkErr.wf
  | .lbDone _ x1 => x1.all InkErr.wf
  | .inblkDone _ x1 => x1.all InkErr.wf
  | .kernelLoad _ x1 _ => x1.wf
  | .dispFrameStart _ errs => errs.all InkErr.wf
  | .inkRead _ _ len errs => decide (0 < len) && errs.all InkErr.wf
  | .inkWrite _ _ data errs => !data.isEmpty && errs.all InkErr.wf
  | .patrolScrub x0 => x0.all InkErr.wf
  | .bar2Access _ len data errs => data.all (fun l => decide (l.length = len)) && errs.all InkErr.wf
  | .ctrlNop _ x1 => x1.wf
  | .attachGo _ labels journal => labels.all (fun l => decide (l.length = 4096)) && journal.all (fun l => decide (l.length = 64))
  | .calRunEnd a b _ _ => decide (a.length = b.length) && !a.isEmpty
  | .calRun _ x1 => x1.wf
  | .spareRetest _ x1 _ => x1.wf
  | .paceRead l => l.all (fun e => decide (e.1 < 25 * 256))
  | .sessionCommit _ x1 _ => x1.wf
  | .sessionClear _ x1 _ => x1.wf
  | .keyChange _ x1 _ => x1.wf
  | .fwUpdate _ x1 _ => x1.wf
  | .serviceBundle _ data maker => data.wf && decide (maker.length ≤ 0x400000)
  | .powerUp _ _ _ l => l.all (fun k => decide (k / 65536 < 6))
  | .jtagBypass x0 => !x0.isEmpty
  | .jtagIdcode x0 => !x0.isEmpty
  | .jtagSamplePreload x0 x1 => !x0.isEmpty && !x1.isEmpty
  | .jtagExtest x0 x1 => !x0.isEmpty && !x1.isEmpty
  | .jtagClamp x0 => !x0.isEmpty
  | .jtagHighz x0 => !x0.isEmpty
  | .blockEnable _ | .blockDisable _ | .blockDrainEnd _ | .crcCommit _ | .rescrubGo _ | .rescrub _ | .compareHoldExpiry _ |
  .driftRepair _ | .evtRouteCommit | .progStop _ | .progRestart _ | .nibAdd _ _ _ _ | .nibSub _ _ _ _ | .nibAnd _ _ _ _ |
  .nibOr _ _ _ _ | .nibXor _ _ _ _ | .nibSll _ _ _ _ | .nibSrl _ _ _ _ | .nibSra _ _ _ _ | .nibMul _ _ _ _ | .nibMulh _ _ _ _ |
  .nibMulhu _ _ _ _ | .nibMin _ _ _ _ | .nibMax _ _ _ _ | .nibMinu _ _ _ _ | .nibMaxu _ _ _ _ | .nibClz _ _ _ _ |
  .nibCmpeq _ _ _ _ | .nibCmpne _ _ _ _ | .nibCmplt _ _ _ _ | .nibCmpltu _ _ _ _ | .nibCmpge _ _ _ _ | .nibCmpgeu _ _ _ _ |
  .nibPand _ _ _ _ | .nibPor _ _ _ _ | .nibPnot _ _ _ _ | .nibJr _ _ | .nibNop _ | .nibHalt _ | .nibMfs _ _ _ | .nibMts _ _ _ |
  .nibSbnd _ | .nibEret _ | .nibTread _ _ _ | .nibTwait _ _ _ _ | .nibAddi _ _ _ _ | .nibAndi _ _ _ _ | .nibOri _ _ _ _ |
  .nibXori _ _ _ _ | .nibLui _ _ _ | .nibShi _ _ _ _ | .nibCmpeqi _ _ _ _ | .nibCmplti _ _ _ _ | .nibCmpltui _ _ _ _ |
  .nibLw _ _ _ _ | .nibLh _ _ _ _ | .nibLhu _ _ _ _ | .nibLb _ _ _ _ | .nibLbu _ _ _ _ | .nibSw _ _ _ _ | .nibSh _ _ _ _ |
  .nibSb _ _ _ _ | .nibBr _ _ _ _ | .nibCall _ _ _ _ | .nibLoop _ _ _ _ | .nibLoopm _ _ _ _ | .ucmdEnable _ _ _ _ |
  .ucmdDisable _ _ _ _ | .ucmdArm _ _ _ _ | .ucmdDisarm _ _ _ _ | .ucmdStart _ _ _ _ | .ucmdStop _ _ _ _ | .ucmdFlush _ _ _ _ |
  .ucmdHoldReset _ _ _ _ | .pop _ _ _ _ | .ustage _ _ _ _ _ | .ucommit _ _ _ _ | .uwait _ _ _ _ _ _ | .uread _ _ _ _ |
  .uwrite _ _ _ _ | .post _ _ _ _ _ | .postCascade _ _ _ _ | .barrier _ _ _ _ | .waitDecision _ _ | .waitTimeout _ _ |
  .frameLock _ _ | .lossOfLock _ _ | .losAssert _ _ | .losDeassert _ _ | .optLow _ _ | .dfeTapStep _ _ | .dfeRail _ |
  .cdrLock _ | .tapsSettled _ | .seqFound _ _ _ | .laneReady _ _ | .portRestore _ | .portRetrain _ | .singleGo _ | .burstGo _ |
  .rateInject _ | .testEnable _ | .testDisable _ | .checkerLock _ | .checkerLoss _ _ _ | .cascSlip _ _ | .linkRetrain _ |
  .trigFrameSend _ | .headIdTimeout _ | .headSilent _ | .headCfgTimeout _ | .rttMeasure _ _ | .rttAbandon _ | .ackSend _ |
  .msgResend _ | .idReqGo _ | .imageActivateGo _ | .takeoverGo _ | .revertGo _ | .rttResetGo _ | .pllEnable _ _ | .pllDisable _ |
  .twinSwapGo | .refRevertGo | .outEnable _ _ | .outDisable _ _ | .delayCommit _ _ | .refLoss _ | .pllLock _ _ | .settleEnd _ |
  .pllLol _ _ | .holdoverExpiry | .refReturn _ | .snapGo | .incrCommitGo | .onceGo | .tbmCommitGo | .turnLoadApply |
  .fiducial _ | .tdcStamp _ _ _ _ _ | .tdcPop _ | .tdcEnable _ | .tdcDisable _ | .ivalArm _ | .ivalTimeout _ | .freqStart _ |
  .freqStop _ | .gateEnd _ | .ppsIn | .ppsOutPulse | .ppsOutEnd | .txtsPop | .netLinkDown | .netLinkUp | .spkEnable _ |
  .spkDisable _ | .spkCommit _ | .spikeBlockEnd _ _ | .zcEnable _ | .zcDisable _ | .zcCommit _ | .zoomBlockBoundary _ |
  .fadeEnd _ | .zoomOutput _ | .xfEnable _ | .alignStart _ | .xfDisable _ | .xfCommit _ | .xfHoldReset _ | .transformFrame _ |
  .winEnable _ | .winDisable _ | .maskEnable _ | .maskDisable _ | .maskCommit _ | .mecEnable _ | .mecDisable _ | .mecCommit _ |
  .mecMatch _ _ _ | .tmrEnable _ | .tmrDisable _ | .timerFire _ | .swFire | .trigOutEnable _ | .trigOutDisable _ | .seqEnable _ |
  .seqDisable _ | .seqArm _ | .seqDisarm _ | .seqCommit _ | .seqCommitApply _ | .arcA _ | .arcT _ | .tadpoleCommit _ |
  .qualLimit _ | .trigOutPulseEnd _ | .syncTrgDrive _ | .epochGo | .syncPhaseMeasure _ _ | .busPhaseLost | .rawCellWrite _ |
  .throttleDouble _ | .throttleHalve _ | .tplEnable _ | .tplDisable _ | .tplRestart _ | .lbSubmit _ | .lbCancel _ | .brNop _ _ |
  .brEnd _ _ | .brBrz _ _ | .brBrnz _ _ | .brBrlt _ _ | .brRep _ _ | .brMfs _ _ | .brWaitin _ _ | .brSadd _ _ | .brSaddi _ _ |
  .brSsub _ _ | .brSmul _ _ | .brSand _ _ | .brSor _ _ | .brSxor _ _ | .brSsh _ _ | .brSld _ _ | .brSst _ _ | .brVext _ _ |
  .brVins _ _ | .brVadd _ _ | .brVadds _ _ | .brVsub _ _ | .brVsubs _ _ | .brVmul _ _ | .brVmax _ _ | .brVmin _ _ | .brVabs _ _ |
  .brVand _ _ | .brVor _ _ | .brVxor _ _ | .brVshl _ _ | .brVsra _ _ | .brVspl _ _ | .brVcmplt _ _ | .brVcmpeq _ _ |
  .brVsel _ _ | .brNorm _ _ | .brExpx _ _ | .brVshlv _ _ | .brVrot _ _ | .brMsetn _ _ | .brAclr _ _ | .brVmac _ _ | .brVmsu _ _ |
  .brVdot _ _ | .brAcadd _ _ | .brAcx _ _ | .brAcred _ _ | .brAcxf _ _ | .brAcxd _ _ | .brVcvtf _ _ | .brVfadd _ _ |
  .brVfmul _ _ | .brVfmax _ _ | .brVfmin _ _ | .brVcvtq _ _ | .brAcfadd _ _ | .brVld _ _ | .brVst _ _ | .brVldi _ _ |
  .brVsti _ _ | .brInblk _ _ | .brOute _ _ | .invocationStart _ | .krnTime _ | .invocationCancel _ | .plEnable _ | .plDisable _ |
  .plCommit _ | .plClear _ | .plSnap _ | .plRestart _ | .snapDone _ | .persistTick _ | .dispCommit | .layerRelease | .touchGo |
  .dpEnable _ | .dpDisable _ | .replayHoldGo _ | .replayExitGo _ | .dpLinkLost _ _ | .dpLinkRetry _ | .dpLinkUp _ _ | .scrubGo |
  .refreshDue _ _ _ | .tempStatusRead _ _ | .requestPromote _ _ | .driftRead _ _ _ | .rowRemapped _ _ _ | .bankSpared _ _ |
  .channelFailed _ | .channelRetrained | .inkRetrain | .xlateGo | .elogPop | .trnRun _ _ | .doorbell _ _ _ _ | .ringEnable _ |
  .ringDisable _ | .ringResume _ | .ringReset _ | .hqCommit | .winCommit | .readRetry _ | .coalTimer _ | .dmaBurst _ _ |
  .flushTimer _ | .freelistRetry _ | .dmaEnable _ | .dmaDisable _ | .dmaPromote _ | .dmaResume _ | .hostReset _ | .linkRate _ _ |
  .formatGo _ | .measureGo _ | .retireGo _ | .detachGo _ | .dsEnable _ | .dsDisable _ | .dsRestart _ | .readGo | .readDone _ |
  .extentWrite _ _ | .journalFlush _ | .journalBlockDone _ | .drvLost _ _ | .driveLinkUp _ _ _ _ _ _ | .measureEnd _ _ |
  .wearRead _ _ _ | .drvSlow _ | .calGo | .calCommit | .calRetry | .calBackground | .handoverStart _ _ _ _ |
  .shadowCompare _ _ _ | .handoverSwitch _ | .unitFailure _ _ _ | .spareSelftest _ _ _ | .spareCommit | .keepalive |
  .keepaliveTimeout | .avsCommit | .liveImageUpdate | .fwSwitch | .fwConfirm | .holdGo | .resumeGo | .discardGo |
  .holdWindowEnd | .stewardTakeover | .standbyReady | .perstRelease | .perstTimeout | .vinLow _ | .thermWarn _ _ _ _ |
  .thermalShutdown | .railFault | .phaseCheck _ | .smbusRegRead _ | .smbusIdent | .smbusAra | .hostLinkUp _ _ |
  .vauxWithinRange => true

end Sys2Proof
end

