-- ==== Sys2Proof/Safety.lean ====
section
/-! DEFINITION. What a safe run of the block is, in the terms the statements use. -/

namespace Sys2Proof.Machine

/-- The canonical form of the Inkwell's contents: addresses strictly rising, no entry equal to the byte 0 that an
unlisted address reads as. -/
def Memory.wf (m : List Host.Cell) : Bool := sparseWf (fun _ => 0) m

/-- The canonical form of the register file: offsets strictly rising, no entry equal to its reset value (R77). -/
def Registers.wf (r : List (Nat × Word)) : Bool := sparseWf resetWord r

/-- Every waiting command is one that the table's operands allow. -/
def State.queueWf (s : State) : Bool := s.pending.all Instr.wf

/-- A State in good form: the register file and the memory canonical, every waiting command well formed. -/
structure State.Good (s : State) : Prop where
  registers : Registers.wf s.regs = true
  memory : Memory.wf s.ink.mem = true
  queue : s.queueWf = true

/-- What a command leaves as it was, whichever it is: the commands still waiting, the time in ticks (a command takes no
time; only an idle step lets time pass), everything that already went out, and the canonical forms. -/
structure Keeps (s t : State) : Prop where
  pending : t.pending = s.pending
  tick : t.time.tick = s.time.tick
  sent : s.out <+: t.out
  registers : Registers.wf s.regs = true → Registers.wf t.regs = true
  memory : Memory.wf s.ink.mem = true → Memory.wf t.ink.mem = true

/-- A meaning that answers a next state, and keeps what every command keeps. -/
def KeepsOn (s : State) (o : Host.Outcome State Fault Refusal) : Prop := ∃ t, o = .next t ∧ Keeps s t

/-- A part of a meaning that may end early: it keeps what every command keeps if it goes on. -/
def KeepsOk {ε : Type} (s : State) (r : Except ε State) : Prop := ∀ t, r = .ok t → Keeps s t

/-- The same for a part that answers a value beside the state. -/
def KeepsPair {ε α : Type} (s : State) (r : Except ε (α × State)) : Prop := ∀ a t, r = .ok (a, t) → Keeps s t

/-- A safe step: it answers a next state, neither a fault nor a refusal. -/
def State.stepSafe (s : State) : Prop := ∃ t, step s = .next t

/-- A program slot that issues its next instruction and does not squash it (R84, R98, R104). -/
def State.nibReady (s : State) (k : Nat) : Prop := (s.nib k).issues = true ∧ (s.nib k).squashed = false

/-- The State once slot k's core has become n by an instruction that completes, which is counted (R105). -/
def State.nibTakes (s : State) (k : Nat) (n : NibSlot) : State := (s.setNib k n).retire k

/-- A Brush core that issues its next instruction, once, on a word whose memory holds no error (R360, R369, R372). -/
def State.brushReady (s : State) (c : Nat) (j : BrushJob) (w : BrushWord) : Prop :=
  s.coreState c = 2 ∧ (s.core c).job = some j ∧ (s.core c).waiting = false ∧ (s.core c).rep = none ∧ w.ecc = .clean

/-- The State once a Brush instruction has given core c its new contents and raised its flags: the next address, and the count
of instructions. -/
def State.brushTakes (s : State) (c : Nat) (j : BrushJob) (r : BrushCore × Nat) : State :=
  let t := (s.setCore c r.1).raiseFlags c r.2
  (t.setCorePc c (s.corePc c + 8)).tadCount64 j (Reg.BRUSH.CORE_ICNT_LO c) 1

/-- A CTRL ring that carries out its oldest entry now, as the call c: the ring runs with no earlier command in hand, its completion
ring can take a completion, and the entry's data are there (R446, R452). -/
def State.ctrlDue (s : State) (ring : Nat) (d : HostData) (c : CtrlCall) : Prop :=
  ∃ e l n, s.crEntries ring = e :: l ∧ s.ringState (cring ring) = 1 ∧ s.ringType (cring ring) = 0 ∧ s.ringBusy (cring ring) = false ∧
    s.canComplete ring = true ∧ dataFind e d = .ok n ∧
    c = ⟨ring, leAt e 16 1, leAt e 24 8, leAt e 20 4, bytesAt d.bytes 0 n⟩

end Sys2Proof.Machine
end

