-- ==== Sys2Proof/Certificates/Slice0/Obligations.lean ====
section
/-! DEFINITION. The statements for the provers. -/

open Sys2Proof Sys2Proof.Machine

/-! ## The block as a whole -/

/-- A step runs the command at the front of the queue on the State with the queue's rest. On an empty queue one tick of 50 ns
passes (the model's choice, log entry 1): TB-S advances by 12 SAMP edges of 2^14 units while SAMP runs (R199) and holds while
it stands still, and nothing that went out is taken back. Where the rules leave something open, this follows the model's
choice: log entry 1. -/
def Obligations.StepRunsFront : Prop :=
  (∀ (c : Instr) (rest : List Instr) (s : State), s.pending = c :: rest → step s = exec c { s with pending := rest }) ∧
  (∀ s : State, s.pending = [] → step s = .next s.idle) ∧
  (∀ s : State, s.idle.pending = s.pending ∧ s.idle.time.tick = s.time.tick + 1 ∧ s.out <+: s.idle.out ∧
    (s.running .samp = true → s.idle.time.tbs = s.time.tbs + 196608) ∧
    (s.running .samp = false → s.idle.time.tbs = s.time.tbs))

/-- The State after reset: it is in good form, no command waits, nothing went out, every register reads its reset value, and
these are the values the register tables give (R48, R139, R195, R196, R225, R228, R255, R290, R324, R413, R437, R464, R484,
R517, R549, R457). Where the rules leave something open, this follows the model's choice: log entries 7, 10. -/
def Obligations.ResetState : Prop :=
  State.reset.Good ∧ State.reset.pending = [] ∧ State.reset.out = [] ∧ (∀ a, State.reset.reg a = resetWord a) ∧
    (∀ a, a % 0x80000 ≠ 0x2C → a % 0x80000 ≠ 0x30 → resetWord a = plainReset a) ∧
    (∀ b : Fin 25, plainReset (Reg.HDR.BLK_STATE b.val) = 0 ∧ plainReset (Reg.HDR.BLK_STA b.val) = 0) ∧
    (∀ p : Fin 8, plainReset (Reg.FLANE.PORT_CFG p.val) = 0xC ∧ plainReset (Reg.FLANE.TX_MAP p.val) = 0x7FFF) ∧
    (∀ y : Fin 4, plainReset (Reg.CLK.PLL_NINT y.val) = 96 ∧ plainReset (Reg.CLK.PLL_SETTLE y.val) = 4096) ∧
    plainReset Reg.CLK.DOMAIN_RUN = 0x1000 ∧ plainReset Reg.TIME.TB_W_INCR_HI = 10 ∧ plainReset Reg.TIME.TB_W_INCR_LO = 0 ∧
    plainReset Reg.NET.NET_RX_COMP = 1888 ∧ plainReset Reg.NET.NET_TX_COMP = 1536 ∧
    (∀ z : Fin 32, plainReset (Reg.COND.ZC_RS_RATIO z.val) = 0x10000000 ∧ plainReset (Reg.COND.TH_UPPER z.val) = 0xFFFF) ∧
    (∀ p : Fin 128, plainReset (Reg.XFORM.XF_BINS p.val) = 0xFFFF0000) ∧
    (∀ v : Fin 256, plainReset (Reg.HOSTQ.MSIX_CTRL v.val) = 1) ∧
    plainReset Reg.HOSTQ.HQ_OUTAGE = 16 ∧ plainReset Reg.STOR.STOR_WEAR = 0x6450 ∧
    plainReset Reg.STEWARD.AVS_STATE = 850 ∧ plainReset Reg.SPARE.SPARE_THR = 0x4006 ∧ plainReset Reg.PWR.PWR_PHASE = 0x3FFF ∧
    plainReset Reg.PWR.PWR_TEMP = 0x80808080

/-- The invariant of the model: every step that answers a next state keeps the register file and the Inkwell's memory in
their canonical form, with every waiting command well formed. -/
def Obligations.StepKeepsGood : Prop := ∀ s t : State, s.Good → step s = .next t → t.Good

/-- No command ends in a fault or a refusal, whatever its operands and the State: each answers a next state that keeps the
queue, the time in ticks, what already went out, and the canonical forms. Where the rules leave something open, this follows
the model's choice: log entry 2. -/
def Obligations.EveryCommandCompletes : Prop := ∀ (c : Instr) (s : State), KeepsOn s (exec c s)

/-! ## Registers, configuration check and event routing (ch. 02) -/

/-- A request of 1 to 16 double words is carried out as separate 32-bit writes in ascending address order; a longer one
writes nothing and is logged; a status clear is one full write; a read of a counter's low half answers the reader. (From R38,
R53 to R55, R60, of which this states what is written here and no more.) Where the rules leave something open, this follows
the model's choice: log entry 19. -/
def Obligations.RegisterAccesses : Prop :=
  ∀ (req : Requester) (addr : BitVec 24) (s : State),
    let a := addr.toNat / 4 * 4
    (∀ (v : Word) (be : BitVec 4), exec (.registerWrite req addr [(v, be)]) s = .next (s.write32 req a v be).2) ∧
    (∀ (v w : Word) (be bf : BitVec 4), exec (.registerWrite req addr [(v, be), (w, bf)]) s =
      .next ((s.write32 req a v be).2.write32 req (a + 4) w bf).2) ∧
    (∀ l : List (Word × BitVec 4), 16 < l.length → a / 0x80000 < 25 → exec (.registerWrite req addr l) s =
      .next (s.accessErr (a / 0x80000) (a % 0x80000) req.code 0xF 6)) ∧
    (∀ v : Word, exec (.staClear req addr v) s = .next (s.write32 req a v 0xF).2) ∧
    exec (.counterLowRead req addr) s = .next ((s.readBy req a).2.emit (.readData req (s.readBy req a).1)) ∧
    (a / 0x80000 < 25 → (∀ k : Fin 12, s.nibReq k.val = req → (s.nib k.val).issues = false) →
      let t := (s.logAccess (a / 0x80000) (a % 0x80000) req.code 0xF 8).setStaEv (Reg.HDR.BLK_STA (a / 0x80000))
        Fld.HDR.BLK_STA.XDOM_TIMEOUT (Ev.xdomTimeout (a / 0x80000)) req.code
      exec (.xdomTimeout req addr false) s = .next (t.emit (.readData req 0xFFFFFFFF)) ∧
      exec (.xdomTimeout req addr true) s = .next t)

/-- A write to CFG fields while their scope is enabled or DRAINING changes no field: it is counted, logged and raised, and
the register keeps its value. RSV bits never change, whatever is written. (From R42; R62, of which this states what is
written here and no more.) -/
def Obligations.ConfigurationWrites : Prop :=
  ∀ (req : Requester) (a : Nat) (v : Word) (r : RegRef) (s : State), s.Good → hasClass .sta r.row = false →
    hasClass .cfg r.row = true →
    (s.scopeOn r = true → s.writeFields req a r v = (.ignoredEn, s.cfgWhileEn r.block (a % 0x80000) req.code)) ∧
    (s.scopeOn r = false →
      (s.writeFields req a r v).1 = .ok ∧
      (∀ i, (rowMask (fun c => c = .cfg) r.row).getLsbD i = true → ((s.writeFields req a r v).2.reg a).getLsbD i = v.getLsbD i) ∧
      (∀ i, (rowMask (fun c => c = .cfg) r.row).getLsbD i = false →
        ((s.writeFields req a r v).2.reg a).getLsbD i = (s.reg a).getLsbD i) ∧
      (∀ b, b ≠ a → (s.writeFields req a r v).2.reg b = s.reg b) ∧
      (s.writeFields req a r v).2.ink = s.ink ∧ (s.writeFields req a r v).2.out = s.out)

/-- R50: hardware sets an STA bit and SEQ advances by 1 modulo 256; the other bits of the register, every other register,
memory and what went out stay. R60: a clear whose SEQ field equals the register's clears exactly the bits written as 1 and
leaves SEQ; one that carries another SEQ clears nothing and raises STALE_CLEAR_CNT by 1, which saturates. -/
def Obligations.StatusBits : Prop :=
  (∀ (s : State) (a : Nat) (n : Nat), s.Good → n < 24 →
     let t := s.setSta a ⟨n, n⟩
     (t.reg a).getLsbD n = true ∧
     (∀ i, i < 24 → i ≠ n → (t.reg a).getLsbD i = (s.reg a).getLsbD i) ∧
     (t.reg a).toNat / 2 ^ 24 = ((s.reg a).toNat / 2 ^ 24 + 1) % 256 ∧
     (∀ b, b ≠ a → t.reg b = s.reg b) ∧ t.ink = s.ink ∧ t.out = s.out) ∧
  (∀ (s : State) (a : Nat) (v : Word) (req : Requester) (r : RegRef), s.Good → hasClass .sta r.row = true →
     Reg.HDR.STALE_CLEAR_CNT r.block ≠ a →
     let cnt := Reg.HDR.STALE_CLEAR_CNT r.block
     let t := (s.writeFields req a r v).2
     (s.writeFields req a r v).1 = .ok ∧
     (v.toNat / 2 ^ 24 = (s.reg a).toNat / 2 ^ 24 →
       (∀ i, i < 24 → (t.reg a).getLsbD i = ((s.reg a).getLsbD i && !v.getLsbD i)) ∧
       (t.reg a).toNat / 2 ^ 24 = (s.reg a).toNat / 2 ^ 24 ∧
       (∀ b, b ≠ a → t.reg b = s.reg b)) ∧
     (v.toNat / 2 ^ 24 ≠ (s.reg a).toNat / 2 ^ 24 →
       t.reg a = s.reg a ∧ (t.reg cnt).toNat = min ((s.reg cnt).toNat + 1) 0xFFFFFFFF ∧
       (∀ b, b ≠ a → b ≠ cnt → t.reg b = s.reg b)))

/-- R40: a 32-bit counter stops at 0xFFFF_FFFF; a 64-bit counter occupies two consecutive registers, low half at the lower
offset, and runs modulo 2^64. -/
def Obligations.CounterRule : Prop :=
  ∀ (s : State) (a lo hi n : Nat), s.Good → lo ≠ hi →
    ((s.count a n).reg a).toNat = min ((s.reg a).toNat + n) 0xFFFFFFFF ∧
    (∀ b, b ≠ a → (s.count a n).reg b = s.reg b) ∧
    (s.count64 lo hi n).reg64 lo hi = (s.reg64 lo hi + n) % 2 ^ 64 ∧
    (∀ b, b ≠ lo → b ≠ hi → (s.count64 lo hi n).reg b = s.reg b) ∧
    (s.reg64 lo hi = (s.reg lo).toNat + 2 ^ 32 * (s.reg hi).toNat) ∧
    (∀ i, Reg.NIB.PROG_ICNT_HI i = Reg.NIB.PROG_ICNT_LO i + 4 ∧ Reg.BLOT.PL_HITS_HI i = Reg.BLOT.PL_HITS_LO i + 4 ∧
      Reg.DMA.DMA_BYTES_HI i = Reg.DMA.DMA_BYTES_LO i + 4 ∧ Reg.STOR.DRV_WRITTEN_HI i = Reg.STOR.DRV_WRITTEN_LO i + 4 ∧
      Reg.XFORM.XF_FRAMES_HI i = Reg.XFORM.XF_FRAMES_LO i + 4 ∧ Reg.BRUSH.CORE_ICNT_HI i = Reg.BRUSH.CORE_ICNT_LO i + 4) ∧
    (∀ p l, Reg.FLANE.TEST_BITS_HI p l = Reg.FLANE.TEST_BITS_LO p l + 4 ∧ Reg.FLANE.TEST_ERR_HI p l = Reg.FLANE.TEST_ERR_LO p l + 4) ∧
    Reg.INK.INK_RMW_CNT_HI = Reg.INK.INK_RMW_CNT_LO + 4

/-- The block-wide enable and disable and the end of a drain. (From R41, R47, R48, R75, of which this states what is written
here and no more.) Where the rules leave something open, this follows the model's choice: log entries 24, 25. -/
def Obligations.BlockScopeCommands : Prop :=
  ∀ (b : Fin 25) (s : State),
    (exec (.blockEnable b) s = .next ((s.setFld (Reg.HDR.BLK_CMD b.val) Fld.HDR.BLK_CMD.enable_go 0).blockEnable b.val)) ∧
    (let t := s.setFld (Reg.HDR.BLK_CMD b.val) Fld.HDR.BLK_CMD.disable_go 0
     (t.blockOn b.val = true → exec (.blockDisable b) s =
       .next ((scopesOfBlock b.val).foldl (fun s id => if s.live id then s.scopeDisable id else s) (t.setBlockState b.val 2))) ∧
     (t.blockOn b.val = false → exec (.blockDisable b) s = .next t)) ∧
    (s.blockState b.val = 2 → (∀ id ∈ scopesOfBlock b.val, s.live id = false) →
      exec (.blockDrainEnd b) s = .next (s.setBlockState b.val 0)) ∧
    (s.blockState b.val = 2 → (∃ id ∈ scopesOfBlock b.val, s.live id = true) → exec (.blockDrainEnd b) s = .next s) ∧
    (∀ id : ScopeId, exec (.unitDrainEnd id) s = .next (s.drainEnd id).freePool)

/-- The configuration check. CRC_COMMIT takes effect only while no stage is pending; a rescrub compares unless its hold
stands, and a difference sets CFG_DRIFT, counts it and raises it; a repair writes the retained image back. (From R64 to R66,
of which this states what is written here and no more.) Where the rules leave something open, this follows the model's
choice: log entry 15. -/
def Obligations.ConfigurationCheck : Prop :=
  ∀ (b : Fin 25) (s : State),
    let drift (t : State) : State := (t.count (Reg.HDR.CFG_DRIFT_CNT b.val) 1).setStaEv (Reg.HDR.BLK_STA b.val)
      Fld.HDR.BLK_STA.CFG_DRIFT (Ev.cfgDrift b.val) 0
    let scrubbed := s.setBlk b.val { s.blk b.val with scrubbing := false, scrubTick := s.time.tick }
    (s.stagePending b.val = false → exec (.crcCommit b) s =
      .next ((s.setFld (Reg.HDR.BLK_CMD b.val) Fld.HDR.BLK_CMD.crc_commit 0).commitCrc b.val)) ∧
    (s.stagePending b.val = true → exec (.crcCommit b) s =
      .next (s.setFld (Reg.HDR.BLK_CMD b.val) Fld.HDR.BLK_CMD.crc_commit 0)) ∧
    (let t := s.setFld (Reg.HDR.BLK_CMD b.val) Fld.HDR.BLK_CMD.rescrub_go 0
     exec (.rescrubGo b) s = .next (t.setBlk b.val { t.blk b.val with scrubbing := true })) ∧
    (s.stagePending b.val = true → (s.blk b.val).holdExpired = false → exec (.rescrub b) s = .next scrubbed) ∧
    (s.stagePending b.val = false ∨ (s.blk b.val).holdExpired = true →
      (scrubbed.crcLive b.val = scrubbed.reg (Reg.HDR.CRC_COMMITTED b.val) → exec (.rescrub b) s = .next scrubbed) ∧
      (scrubbed.crcLive b.val ≠ scrubbed.reg (Reg.HDR.CRC_COMMITTED b.val) → exec (.rescrub b) s = .next (drift scrubbed))) ∧
    (s.stagePending b.val = true → exec (.compareHoldExpiry b) s =
      .next (s.setBlk b.val { s.blk b.val with holdExpired := true })) ∧
    (s.fld (Reg.HDR.BLK_STA b.val) Fld.HDR.BLK_STA.CFG_DRIFT ≠ 0 →
      crcOfBlock s.liveReg b.val = s.reg (Reg.HDR.CRC_COMMITTED b.val) →
      let r := s.restoreBlock s.retained.live b.val
      let t := r.setBlk b.val { r.blk b.val with scrubbing := true }
      t.crcLive b.val = t.reg (Reg.HDR.CRC_COMMITTED b.val) → exec (.driftRepair b) s = .next t)

/-- A route commit makes every staged route active, unless a staged route that writes to a ring names one that is no EVENT
ring: then none becomes active and ROUTE_BAD is set. An event that its route does not write to a ring still reaches the
flight recorder; one routed to a ring that is full, or that does not run as an EVENT ring, is counted in HQ_EVT_DROP_CNT and
the ring's next record will carry DROPPED. (From R71, R72; R70, of which this states what is written here and no more.) Where
the rules leave something open, this follows the model's choice: log entry 23. -/
def Obligations.EventRouting : Prop :=
  (∀ s : State,
     let t := s.setFld Reg.GLOBAL.EVT_ROUTE_CMD Fld.GLOBAL.EVT_ROUTE_CMD.route_commit 0
     ((∀ i, i < 1024 → t.routeOk (t.stagedReg (Reg.GLOBAL.EVT_ROUTE i)) = true) → exec .evtRouteCommit s =
       .next (t.commitWhere 0 (fun a => decide (Reg.GLOBAL.EVT_ROUTE 0 ≤ a) && decide (a < Reg.GLOBAL.EVT_ROUTE 1024)))) ∧
     ((∃ i, i < 1024 ∧ t.routeOk (t.stagedReg (Reg.GLOBAL.EVT_ROUTE i)) = false) → exec .evtRouteCommit s =
       .next (t.setBlkSta 0 8))) ∧
  (∀ (s : State) (e : EventDef) (arg : Nat),
     let t := s.record (s.eventRecord e arg)
     let rt := Reg.GLOBAL.EVT_ROUTE e.id
     let r := t.fld rt Fld.GLOBAL.EVT_ROUTE.ring
     (t.fld rt Fld.GLOBAL.EVT_ROUTE.route_en = 0 → s.raise e arg = t) ∧
     (t.fld rt Fld.GLOBAL.EVT_ROUTE.route_en ≠ 0 →
       3072 ≤ r ∨ t.rringRuns r = false ∨ t.rringType r ≠ 2 ∨ t.rringFull r = true → s.raise e arg = t.dropEvent r) ∧
     (s.retained.flight.length + 2 ≤ flightDepth → ∃ l, t.retained.flight = s.retained.flight ++ l ++ [s.eventRecord e arg]))

/-! ## Nib instructions (ch. 03) -/

/-- Each register operation, on a slot that issues and does not squash it, gives rd the value the table states and goes on to
the next instruction; the operands are read before rd is written. (From R86, of which this states what is written here and no
more.) -/
def Obligations.NibAluResults : Prop :=
  ∀ (k : Fin 12) (rd ra rb : BitVec 5) (s : State), s.nibReady k →
    let n := s.nib k
    let a := n.get ra
    let b := n.get rb
    let r (v : Word) : Host.Outcome State Fault Refusal := .next (s.nibTakes k (n.set rd v).advance)
    exec (.nibAdd k rd ra rb) s = r (BitVec.ofNat 32 (a.toNat + b.toNat)) ∧
    exec (.nibSub k rd ra rb) s = r (BitVec.ofInt 32 (a.toInt - b.toInt)) ∧
    exec (.nibAnd k rd ra rb) s = r (a &&& b) ∧
    exec (.nibOr k rd ra rb) s = r (a ||| b) ∧
    exec (.nibXor k rd ra rb) s = r (a ^^^ b) ∧
    exec (.nibSll k rd ra rb) s = r (BitVec.ofNat 32 (a.toNat * 2 ^ (b.toNat % 32))) ∧
    exec (.nibSrl k rd ra rb) s = r (BitVec.ofNat 32 (a.toNat / 2 ^ (b.toNat % 32))) ∧
    exec (.nibSra k rd ra rb) s = r (BitVec.ofInt 32 (a.toInt / 2 ^ (b.toNat % 32))) ∧
    exec (.nibMul k rd ra rb) s = r (BitVec.ofNat 32 (a.toNat * b.toNat)) ∧
    exec (.nibMulh k rd ra rb) s = r (BitVec.ofInt 32 (a.toInt * b.toInt / 2 ^ 32)) ∧
    exec (.nibMulhu k rd ra rb) s = r (BitVec.ofNat 32 (a.toNat * b.toNat / 2 ^ 32)) ∧
    exec (.nibMin k rd ra rb) s = r (BitVec.ofInt 32 (min a.toInt b.toInt)) ∧
    exec (.nibMax k rd ra rb) s = r (BitVec.ofInt 32 (max a.toInt b.toInt)) ∧
    exec (.nibMinu k rd ra rb) s = r (BitVec.ofNat 32 (min a.toNat b.toNat)) ∧
    exec (.nibMaxu k rd ra rb) s = r (BitVec.ofNat 32 (max a.toNat b.toNat)) ∧
    (∀ z, z ≤ 32 → a.toNat < 2 ^ (32 - z) → (z = 32 ∨ 2 ^ (31 - z) ≤ a.toNat) →
      exec (.nibClz k rd ra rb) s = r (BitVec.ofNat 32 z))

/-- The compares and the predicate operations. A predicate field above 7 raises ILLEGAL, a write of an active stage predicate
PRED_STAGE (R100); otherwise predicate rd takes the result. The immediate operations, LUI, SHI and the immediate compares.
(From R86, R84; R85, of which this states what is written here and no more.) -/
def Obligations.NibPredicatesAndImmediates : Prop :=
  (∀ (k : Fin 12) (rd ra rb : BitVec 5) (s : State), s.nibReady k →
     let n := s.nib k
     let a := n.get ra
     let b := n.get rb
     let p := n.pred ra.toNat
     let q := n.pred rb.toNat
     let r (v : Bool) : Host.Outcome State Fault Refusal :=
       .next (if 8 ≤ rd.toNat then s.nibExcept k .illegal
         else if n.stageWrite rd.toNat then s.nibExcept k .predStage
         else s.nibTakes k (n.setPred rd.toNat v).advance)
     exec (.nibCmpeq k rd ra rb) s = r (decide (a = b)) ∧
     exec (.nibCmpne k rd ra rb) s = r (decide (a ≠ b)) ∧
     exec (.nibCmplt k rd ra rb) s = r (decide (a.toInt < b.toInt)) ∧
     exec (.nibCmpltu k rd ra rb) s = r (decide (a.toNat < b.toNat)) ∧
     exec (.nibCmpge k rd ra rb) s = r (decide (b.toInt ≤ a.toInt)) ∧
     exec (.nibCmpgeu k rd ra rb) s = r (decide (b.toNat ≤ a.toNat)) ∧
     (ra.toNat < 8 → rb.toNat < 8 → exec (.nibPand k rd ra rb) s = r (p && q)) ∧
     (ra.toNat < 8 → rb.toNat < 8 → exec (.nibPor k rd ra rb) s = r (p || q)) ∧
     (ra.toNat < 8 → exec (.nibPnot k rd ra rb) s = r (!p)) ∧
     (8 ≤ ra.toNat ∨ 8 ≤ rb.toNat → exec (.nibPand k rd ra rb) s = .next (s.nibExcept k .illegal)) ∧
     (8 ≤ ra.toNat ∨ 8 ≤ rb.toNat → exec (.nibPor k rd ra rb) s = .next (s.nibExcept k .illegal)) ∧
     (8 ≤ ra.toNat → exec (.nibPnot k rd ra rb) s = .next (s.nibExcept k .illegal))) ∧
  (∀ (k : Fin 12) (rd ra : BitVec 5) (imm : BitVec 16) (s : State), s.nibReady k →
     let n := s.nib k
     let a := n.get ra
     let r (v : Word) : Host.Outcome State Fault Refusal := .next (s.nibTakes k (n.set rd v).advance)
     let pr (v : Bool) : Host.Outcome State Fault Refusal :=
       .next (if 8 ≤ rd.toNat then s.nibExcept k .illegal
         else if n.stageWrite rd.toNat then s.nibExcept k .predStage
         else s.nibTakes k (n.setPred rd.toNat v).advance)
     let sh := imm.toNat % 32
     exec (.nibAddi k rd ra imm) s = r (BitVec.ofInt 32 (a.toInt + imm.toInt)) ∧
     exec (.nibAndi k rd ra imm) s = r (a &&& BitVec.ofNat 32 imm.toNat) ∧
     exec (.nibOri k rd ra imm) s = r (a ||| BitVec.ofNat 32 imm.toNat) ∧
     exec (.nibXori k rd ra imm) s = r (a ^^^ BitVec.ofNat 32 imm.toNat) ∧
     exec (.nibLui k rd imm) s = r (BitVec.ofNat 32 (imm.toNat * 65536)) ∧
     (imm.toNat < 32 → exec (.nibShi k rd ra imm) s = r (BitVec.ofNat 32 (a.toNat * 2 ^ sh))) ∧
     (32 ≤ imm.toNat → imm.toNat < 64 → exec (.nibShi k rd ra imm) s = r (BitVec.ofNat 32 (a.toNat / 2 ^ sh))) ∧
     (64 ≤ imm.toNat → imm.toNat < 96 → exec (.nibShi k rd ra imm) s = r (BitVec.ofInt 32 (a.toInt / 2 ^ sh))) ∧
     (96 ≤ imm.toNat → exec (.nibShi k rd ra imm) s = .next (s.nibExcept k .illegal)) ∧
     exec (.nibCmpeqi k rd ra imm) s = pr (decide (a.toInt = imm.toInt)) ∧
     exec (.nibCmplti k rd ra imm) s = pr (decide (a.toInt < imm.toInt)) ∧
     exec (.nibCmpltui k rd ra imm) s = pr (decide (a.toNat < imm.toNat)))

/-- Loads and stores. A misaligned access raises ALIGN, one that leaves the 64 KiB ADDR_RANGE, one that meets an
uncorrectable error ECC; otherwise a load gives rd the little-endian value, extended as its mnemonic says, a store puts the
low bytes of rd at base + off16, and a corrected error of the range is written back, counted and raised. (From R83, R85, of
which this states what is written here and no more.) -/
def Obligations.NibLoadStore : Prop :=
  ∀ (k : Fin 12) (rd base : BitVec 5) (off : BitVec 16) (s : State), s.nibReady k →
    let n := s.nib k
    let a := (BitVec.ofInt 32 ((n.get base).toInt + off.toInt)).toNat
    let hard (w : Nat) : Prop := ∃ i, i < w ∧ a + i ∈ n.eccHard
    let ok (w : Nat) : Prop := a % w = 0 ∧ a + w ≤ 65536 ∧ ¬ hard w
    let done (w : Nat) (m : NibSlot) : Host.Outcome State Fault Refusal := .next
      (if (List.range w).any (fun i => n.eccSoft.contains (a + i)) then
        (((s.setNib k { m with eccSoft := n.eccSoft.filter (fun x => !(decide (a ≤ x) && decide (x < a + w))) }).count
          Reg.NIB.ECC_CORR_CNT 1).raise Ev.NIB.ECC_CORR k).retire k
      else s.nibTakes k m)
    let ld (w : Nat) (v : Word) : Host.Outcome State Fault Refusal := done w (n.set rd v).advance
    let st (w : Nat) : Host.Outcome State Fault Refusal :=
      done w ({ n with dmem := sparsePutN (fun _ => 0) n.dmem a (leBytes w (n.get rd).toNat) } : NibSlot).advance
    let b (i : Nat) : Nat := (sparseGet (fun _ => (0 : Byte)) n.dmem (a + i)).toNat
    let half := b 0 + 256 * b 1
    let words : List Instr := [.nibLw k rd base off, .nibSw k rd base off]
    let halves : List Instr := [.nibLh k rd base off, .nibLhu k rd base off, .nibSh k rd base off]
    let bytes : List Instr := [.nibLb k rd base off, .nibLbu k rd base off, .nibSb k rd base off]
    (ok 4 → exec (.nibLw k rd base off) s = ld 4 (BitVec.ofNat 32 (b 0 + 256 * b 1 + 65536 * b 2 + 16777216 * b 3))) ∧
    (ok 2 → exec (.nibLh k rd base off) s = ld 2 (BitVec.ofInt 32 (if half < 32768 then half else (half : Int) - 65536))) ∧
    (ok 2 → exec (.nibLhu k rd base off) s = ld 2 (BitVec.ofNat 32 half)) ∧
    (ok 1 → exec (.nibLb k rd base off) s = ld 1 (BitVec.ofInt 32 (if b 0 < 128 then b 0 else (b 0 : Int) - 256))) ∧
    (ok 1 → exec (.nibLbu k rd base off) s = ld 1 (BitVec.ofNat 32 (b 0))) ∧
    (ok 4 → exec (.nibSw k rd base off) s = st 4) ∧
    (ok 2 → exec (.nibSh k rd base off) s = st 2) ∧
    (ok 1 → exec (.nibSb k rd base off) s = st 1) ∧
    (∀ e ∈ [(4, words), (2, halves), (1, bytes)], ∀ c ∈ e.2,
      (a % e.1 ≠ 0 → exec c s = .next (s.nibExcept k .align)) ∧
      (a % e.1 = 0 → 65536 < a + e.1 → exec c s = .next (s.nibExcept k .addrRange)) ∧
      (a % e.1 = 0 → a + e.1 ≤ 65536 → hard e.1 → exec c s = .next (s.nibExcept k .ecc)))

/-- Branches, calls, jumps and loop entries. A taken branch goes to PC + 4 × offset and ends the loops it leaves; CALL also
gives n15 the address after it. (From R85, R98, of which this states what is written here and no more.) -/
def Obligations.NibControlFlow : Prop :=
  ∀ (k : Fin 12) (p : BitVec 3) (sense : Bool) (off : BitVec 22) (ra : BitVec 5) (s : State), s.nibReady k →
    let n := s.nib k
    let goes (m : NibSlot) : Host.Outcome State Fault Refusal := .next (s.nibTakes k m)
    let target : Int := n.pc.toNat + 4 * off.toInt
    let jr := (n.get ra).toNat
    (n.pred p.toNat ≠ sense → exec (.nibBr k p sense off) s = goes n.advance ∧ exec (.nibCall k p sense off) s = goes n.advance) ∧
    (∀ t : Nat, n.pred p.toNat = sense → (t : Int) = target → t < 65536 →
      exec (.nibBr k p sense off) s = goes (n.jump t) ∧
      exec (.nibCall k p sense off) s = goes ((n.set 15 (BitVec.ofNat 32 (n.pc.toNat + 4))).jump t)) ∧
    (n.pred p.toNat = sense → target < 0 ∨ 65536 ≤ target →
      exec (.nibBr k p sense off) s = .next (s.nibExcept k .addrRange) ∧
      exec (.nibCall k p sense off) s = .next (s.nibExcept k .addrRange)) ∧
    (jr % 4 = 0 → jr < 65536 → exec (.nibJr k ra) s = goes (n.jump jr)) ∧
    (jr % 4 ≠ 0 → exec (.nibJr k ra) s = .next (s.nibExcept k .align)) ∧
    exec (.nibNop k) s = goes n.advance ∧
    exec (.nibSbnd k) s = goes n.advance ∧
    (∀ (c : BitVec 5) (len : BitVec 12), len ≠ 0 → n.loops.length < 4 → n.pc.toNat + 4 + 4 * len.toNat ≤ 65536 →
      (n.get c = 0 → exec (.nibLoop k c len 0) s = goes (arriveAt n n.loops (n.pc.toNat + 4 + 4 * len.toNat))) ∧
      (n.get c ≠ 0 → exec (.nibLoop k c len 0) s = goes { n with
        loops := ⟨0, (n.get c).toNat, n.pc.toNat + 4, n.pc.toNat + 4 + 4 * len.toNat, 0, (n.get c).toNat - 1⟩ :: n.loops,
        pc := BitVec.ofNat 16 (n.pc.toNat + 4) })) ∧
    (∀ (c : BitVec 5) (len : BitVec 12) (st : BitVec 2), len ≠ 0 → n.loops.length < 4 →
      n.loops.all (fun f => decide (f.stages = 0)) = true → n.pc.toNat + 4 + 4 * len.toNat ≤ 65536 →
      n.sbndCount (n.pc.toNat + 4) len.toNat = st.toNat → n.get c ≠ 0 →
      let f : LoopFrame := ⟨st.toNat + 1, (n.get c).toNat, n.pc.toNat + 4, n.pc.toNat + 4 + 4 * len.toNat, 0,
        (n.get c).toNat + st.toNat - 1⟩
      exec (.nibLoopm k c len st) s = goes { n.stagePreds f (st.toNat + 1) with
        loops := f :: n.loops, pc := BitVec.ofNat 16 (n.pc.toNat + 4) }) ∧
    (4 ≤ n.loops.length → ∀ (c : BitVec 5) (len : BitVec 12) (st : BitVec 2), len ≠ 0 →
      exec (.nibLoop k c len 0) s = .next (s.nibExcept k .loopNest) ∧
      exec (.nibLoopm k c len st) s = .next (s.nibExcept k .loopNest))

/-- The system instructions. TWAIT ends at once, with OK when its time base has reached the value and with TIMEOUT when the
count is 0; else the program waits. A decision step of a waiting program ends the wait when what it waits for has arrived, or
the count has run out, and arrival wins. (From R87; R87, R95, R96, of which this states what is written here and no more.)
Where the rules leave something open, this follows the model's choice: log entry 28. -/
def Obligations.NibSystemAndWaits : Prop :=
  (∀ (k : Fin 12) (rd ra rb : BitVec 5) (s : State), s.nibReady k →
     let n := s.nib k
     let r (v : Word) : Host.Outcome State Fault Refusal := .next (s.nibTakes k (n.set rd v).advance)
     let illegal : Host.Outcome State Fault Refusal := .next (s.nibExcept k .illegal)
     exec (.nibHalt k) s =
       .next (((s.setNib k { n.advance with state := .halted, wait := none }).nibHalted k).retire k) ∧
     exec (.nibMfs k rd 0) s = r (BitVec.ofNat 32 n.ucc.toNat) ∧
     exec (.nibMfs k rd 1) s = r (BitVec.ofNat 32 n.rrb.toNat) ∧
     exec (.nibMfs k rd 2) s = r (BitVec.ofNat 32 n.lc) ∧
     exec (.nibMfs k rd 3) s = r (BitVec.ofNat 32 k.val) ∧
     exec (.nibMfs k rd 4) s = r (BitVec.ofNat 32 n.cause.toNat) ∧
     exec (.nibMfs k rd 5) s = r (BitVec.ofNat 32 n.epc.toNat) ∧
     (5 < ra.toNat → exec (.nibMfs k rd ra) s = illegal) ∧
     exec (.nibMts k 1 ra) s =
       .next (s.nibTakes k { n with rrb := BitVec.ofNat 4 ((n.get ra).toNat % 16) }.advance) ∧
     (rd ≠ 1 → exec (.nibMts k rd ra) s = illegal) ∧
     (n.state = .inHandler → exec (.nibEret k) s = .next (s.nibTakes k
       ({ n with state := .running, loops := leaveLoops n.pc.toNat n.epc.toNat n.loops }.advanceFrom n.epc.toNat))) ∧
     (n.state ≠ .inHandler → exec (.nibEret k) s = illegal) ∧
     (0 < rd.toNat → rd.toNat < 31 → rb.toNat < 3 → (rb = 1 → s.running .mach = true) →
       exec (.nibTread k rd rb) s = .next (s.nibTakes k
         { (n.set rd (BitVec.ofNat 32 (s.timeBase rb.toNat).toNat)).set (rd + 1)
             (BitVec.ofNat 32 ((s.timeBase rb.toNat).toNat / 2 ^ 32)) with
           ucc := if rb = 1 ∧ s.flag Reg.TIME.TIME_STATE Fld.TIME.TIME_STATE.tbm_holdover = true then 6 else 0 }.advance)) ∧
     (rd.toNat = 0 ∨ rd.toNat = 31 ∨ 3 ≤ rb.toNat → exec (.nibTread k rd rb) s = illegal)) ∧
  (∀ (k : Fin 12) (rd ra rb : BitVec 5) (s : State) (arrived : Bool),
     let n := s.nib k
     let w : NibWait := ⟨.time rd.toNat (n.get (ra + 1) ++ n.get ra), (n.get rb).toNat, 0, decide (n.state = .inHandler)⟩
     (s.nibReady k → 0 < ra.toNat → ra.toNat < 31 → rd.toNat < 3 →
       exec (.nibTwait k rd ra rb) s = .next ((s.decideWait k w false).retire k)) ∧
     (∀ v : NibWait, n.state = .waiting → n.wait = some v →
       let ends (u : Nat) : State := s.endWait k v u
       (s.arrived k v arrived = true → exec (.waitDecision k arrived) s = .next (ends 0)) ∧
       (s.arrived k v arrived = false → v.left = 0 → exec (.waitDecision k arrived) s = .next (ends 2)) ∧
       (s.arrived k v arrived = false → 0 < v.left → v.left ≠ 0xFFFFFFFF →
         exec (.waitDecision k arrived) s = .next (s.setNib k { n with wait := some { v with left := v.left - 1 } })) ∧
       (s.arrived k v arrived = true → v.left = 0 → exec (.waitTimeout k arrived) s = .next (ends 0)) ∧
       (s.arrived k v arrived = false → v.left = 0 → exec (.waitTimeout k arrived) s = .next (ends 2))))

/-- A unit instruction on a handle that names a unit does its work and writes UCC and the status predicate, and the program
goes on. POST of an entry to a running ring with room and of a message to a cascade link that is up, and BARRIER. A full ring
gives UCC = FULL and an EVENT ring REFUSED, and neither writes anything. (From R84, R88, R94; R92, R93, R137, of which this
states what is written here and no more.) Where the rules leave something open, this follows the model's choice: log entries
30, 31, 32, 33, 34. -/
def Obligations.NibUnitsRingsAndBarriers : Prop :=
  (∀ (k : Fin 12) (h : BitVec 10) (a : BitVec 5) (sp : BitVec 3) (s : State) (b : Binding), s.nibReady k →
     let n := s.nib k
     n.bound h.toNat = some b → b.isUnitItem = true → n.stageWrite sp.toNat = false →
     let ends (u : Nat) (t : State) : Host.Outcome State Fault Refusal :=
       .next (t.nibTakes k ((t.nib k).conclude sp.toNat u).advance)
     let cmd (m : Nat) : Host.Outcome State Fault Refusal := ends (s.unitCmd b m).1 ((s.unitCmd b m).2.keepCrc b)
     exec (.ucmdEnable k h a sp) s = cmd 0 ∧
     exec (.ucmdDisable k h a sp) s = cmd 1 ∧
     exec (.ucmdArm k h a sp) s = cmd 2 ∧
     exec (.ucmdDisarm k h a sp) s = cmd 3 ∧
     exec (.ucmdStart k h a sp) s = cmd 4 ∧
     exec (.ucmdStop k h a sp) s = cmd 5 ∧
     exec (.ucmdFlush k h a sp) s = cmd 6 ∧
     exec (.ucmdHoldReset k h a sp) s = cmd 7 ∧
     exec (.pop k h a sp) s = cmd 7 ∧
     (let r := b.commits.foldl (fun (e : Bool × State) id => (e.1 || (e.2.unitCommit id).1, (e.2.unitCommit id).2)) (false, s)
      exec (.ucommit k h a sp) s = ends (if r.1 || b.scopes.isEmpty then 7 else 0) r.2) ∧
     (0 < a.toNat → a.toNat < 31 → b.window.isSome = true →
       let r := s.unitRead k b (n.get a).toNat
       exec (.uread k h a sp) s = ends 0 (r.2.setNib k ((r.2.nib k).set (a + 1) r.1)) ∧
       (let w := s.unitWrite k b (n.get a).toNat (n.get (a + 1))
        exec (.uwrite k h a sp) s = ends w.1 w.2)) ∧
     (∀ (c : BitVec 4) (arrived : Bool), c.toNat ≤ 2 →
       exec (.uwait k h a c sp arrived) s = .next ((s.decideWait k
         ⟨.unit h.toNat c.toNat, (n.get a).toNat, sp.toNat, decide (n.state = .inHandler)⟩ arrived).retire k)) ∧
     (∀ (area : BitVec 4) (i w : Nat), 0 < a.toNat → a.toNat < 31 → b = .unit 9 i false → unitScope 9 i = some ⟨.win, w⟩ →
       area = 0 → n.rangeTrap (n.get a).toNat (n.get (a + 1)).toNat 4 = none → n.eccSoft = [] →
       let r := s.stageWindow w ((List.range ((n.get (a + 1)).toNat / 4)).map (fun i => n.loadLe ((n.get a).toNat + 4 * i) 4))
       exec (.ustage k h a area sp) s = ends r.1 r.2)) ∧
  (∀ (k : Fin 12) (h : BitVec 10) (a : BitVec 5) (sp : BitVec 3) (s : State), s.nibReady k →
     let n := s.nib k
     n.stageWrite sp.toNat = false → n.eccSoft = [] →
     let m := (n.get a).toNat
     let ends (u : Nat) (t : State) : Host.Outcome State Fault Refusal :=
       .next (t.nibTakes k ((t.nib k).conclude sp.toNat u).advance)
     (∀ r, n.bound h.toNat = some (.resultRing r false) → n.rangeTrap m 32 32 = none →
       (s.rringRuns r = true → s.rringFull r = false →
         exec (.post k h a 0 sp) s = ends 0 (s.rringWrite r (.posted (sparseGetN (fun _ => 0) n.dmem m 32)))) ∧
       (s.rringRuns r = false ∨ s.rringFull r = true → exec (.post k h a 0 sp) s = ends 3 s)) ∧
     (∀ r, n.bound h.toNat = some (.resultRing r true) → n.rangeTrap m 32 32 = none →
       exec (.post k h a 0 sp) s = ends 7 s) ∧
     (∀ link only, n.bound h.toNat = some (.unit 18 link only) → link < 2 → n.rangeTrap m 8 8 = none →
       let len := n.loadLe m 2
       0 < len → len ≤ 248 → n.rangeTrap m (8 + len) 8 = none → s.linkUp link = true → (s.cascade link).msgs.length < 8 →
       exec (.postCascade k h a sp) s = ends 0 (s.setCascade link { s.cascade link with
         msgs := (s.cascade link).msgs ++ [beBytes 2 len ++ beBytes 1 (n.loadLe (m + 2) 1 % 16) ++ beBytes 1 (n.loadLe (m + 3) 1) ++
           beBytes 2 (n.loadLe (m + 4) 2) ++ beBytes 1 (s.fld Reg.SYNC.SYNC_CFG Fld.SYNC.SYNC_CFG.module) ++ beBytes 1 k ++
           sparseGetN (fun _ => 0) n.dmem (m + 8) len] })) ∧
     (∀ p, n.bound h.toNat = some (.barrier p) →
       let l := s.barrierWaiters k h.toNat
       let w (now : Bool) : NibWait := ⟨.barrier h.toNat now, (n.get a).toNat, sp.toNat, decide (n.state = .inHandler)⟩
       (p ≤ l.length + 1 → exec (.barrier k h a sp) s =
         .next (((s.barrierRelease h.toNat l).decideWait k (w true) false).retire k)) ∧
       (l.length + 1 < p → exec (.barrier k h a sp) s = .next ((s.decideWait k (w false) false).retire k))))

/-- Taking an exception records the cause and the address and enters the handler where the image has one and the exception
did not arise inside it; otherwise the program halts with state EXCEPTION_HALT. The registers, the predicates and the data
memory of the slot stand as they were. (From R103, of which this states what is written here and no more.) -/
def Obligations.NibExceptionEntry : Prop :=
  ∀ (s : State) (k : Nat) (e : NibExc),
    let n := s.nib k
    let c : NibExc := if n.state = .inHandler then .double else e
    let ev (t : State) : State :=
      (t.setSta (Reg.NIB.PROG_STA k) Fld.NIB.PROG_STA.EXC).raise Ev.NIB.PROG_EXC (k * 256 + c.code)
    (∀ h, n.state ≠ .inHandler → n.handler = some h → s.nibExcept k e =
      ev (s.setNib k { n with cause := BitVec.ofNat 8 e.code, epc := n.pc, state := .inHandler, pc := BitVec.ofNat 16 h })) ∧
    (n.state = .inHandler ∨ n.handler = none → s.nibExcept k e =
      (ev (s.setNib k { n with cause := BitVec.ofNat 8 c.code, epc := n.pc, state := .exceptionHalt, wait := none })).nibHalted k)

/-- R82 and the register table before it: nk, k from 16 to 31, reaches physical register 16 + ((k - 16 + RRB) mod 16), so a
value written to it reads as n(k+1), and n31's as n16, after RRB has fallen by 1; n0 reads 0, p0 reads 1, and a write of
either has no effect; a write of another register is read back under its name. -/
def Obligations.NibRegisterFile : Prop :=
  ∀ (n : NibSlot) (k j : BitVec 5) (v : Word), keysRise n.regs = true →
    (16 ≤ k.toNat → n.get k = sparseGet (fun _ => 0) n.regs (16 + (k.toNat - 16 + n.rrb.toNat) % 16)) ∧
    (16 ≤ k.toNat → (n.set k v).regs = sparsePut (fun _ => 0) (16 + (k.toNat - 16 + n.rrb.toNat) % 16) v n.regs) ∧
    keysRise (n.set k v).regs = true ∧ n.get 0 = 0 ∧ n.set 0 v = n ∧ n.pred 0 = true ∧ (∀ b, n.setPred 0 b = n) ∧
    (k ≠ 0 → (n.set k v).get k = v) ∧
    (j ≠ k → (n.set k v).get j = n.get j) ∧
    (16 ≤ k.toNat → k.toNat < 31 → ({ n.set k v with rrb := n.rrb - 1 } : NibSlot).get (k + 1) = v) ∧
    ({ n.set 31 v with rrb := n.rrb - 1 } : NibSlot).get 16 = v

/-- A Nib instruction that completes and changes only its own core: every other slot, the Inkwell, what was sent, the time
bases, and every register but the slot's instruction count are as before. (From R80, R105, of which this states what is
written here and no more.) -/
def Obligations.NibFrame : Prop :=
  ∀ (k : Fin 12) (j : Nat) (n : NibSlot) (s : State), j ≠ k.val →
    (s.nibTakes k n).nib j = s.nib j ∧
    (s.nibTakes k n).ink = s.ink ∧
    (s.nibTakes k n).out = s.out ∧
    (s.nibTakes k n).time = s.time ∧
    (∀ a, a ≠ Reg.NIB.PROG_ICNT_LO k.val → a ≠ Reg.NIB.PROG_ICNT_HI k.val → (s.nibTakes k n).reg a = s.reg a)

/-! ## Field lanes and cascade lanes (ch. 04) -/

/-- A lane's bring-up, step by step, and what ends it. Each command acts in the state its step belongs to. Each tap of the
equaliser moves by one step, up where its bit of `up` is set, unless the taps are held; a tap at an end of its range sets
DFE_RAIL. (From R117 to R124; R119, of which this states what is written here and no more.) Where the rules leave something
open, this follows the model's choice: log entry 2. -/
def Obligations.LaneBringUp : Prop :=
  (∀ (lane : Lane) (p : Fin 8) (l : Fin 5) (s : State),
     let st := lane.reg Reg.FLANE.LANE_STATE
     let sta := lane.reg Reg.FLANE.LANE_STA
     (∀ inv : Bool, s.laneState lane = 3 →
       let t := ((s.setLaneState lane .seq).setFld st Fld.FLANE.LANE_STATE.lock 1).setFld st Fld.FLANE.LANE_STATE.inverted
         (if inv then 1 else 0)
       exec (.frameLock lane inv) s = .next (if inv then t.setSta sta Fld.FLANE.LANE_STA.POL_FLIP else t)) ∧
     (∀ lost, s.fld st Fld.FLANE.LANE_STATE.lock ≠ 0 → s.laneState lane ≠ 7 → exec (.lossOfLock lane lost) s =
       .next ((s.setSta sta Fld.FLANE.LANE_STA.LOL).loseLock lane .sync lost)) ∧
     (let t := (s.setFld (Reg.FLANE.LANE_STATE p l) Fld.FLANE.LANE_STATE.los 1).setSta (Reg.FLANE.LANE_STA p l) Fld.FLANE.LANE_STA.LOS
      (t.laneState (.field p l) ≠ 7 → exec (.losAssert p l) s = .next (t.loseLock (.field p l) .dark 0)) ∧
      (t.laneState (.field p l) = 7 → exec (.losAssert p l) s = .next t)) ∧
     (let t := s.setFld (Reg.FLANE.LANE_STATE p l) Fld.FLANE.LANE_STATE.los 0
      (t.laneState (.field p l) = 0 → t.portState p ≠ 0 →
        exec (.losDeassert p l) s = .next (t.setLaneState (.field p l) .cdr)) ∧
      (t.laneState (.field p l) ≠ 0 → exec (.losDeassert p l) s = .next t)) ∧
     (s.flag (Reg.FLANE.LANE_STATE p l) Fld.FLANE.LANE_STATE.los = false →
       exec (.optLow p l) s = .next (s.raise Ev.FLANE.OPT_LOW (laneArg p l))) ∧
     (s.laneState lane = 1 → exec (.cdrLock lane) s = .next (s.setLaneState lane .adapt)) ∧
     (s.laneState lane = 2 → exec (.tapsSettled lane) s = .next (s.setLaneState lane .sync)) ∧
     (∀ (seq : BitVec 8) (far : BitVec 3), s.laneState (.field p l) = 4 →
       let t := s.setFld (Reg.FLANE.LANE_STATE p l) Fld.FLANE.LANE_STATE.far_index far.toNat
       (t.port p).next = none → exec (.seqFound (.field p l) seq far) s =
         .next (t.setPort p { t.port p with next := some seq.toNat })) ∧
     (∀ (k : Fin 2) (i : Fin 2) (n : Nat), s.laneState (.casc k i) = 4 →
       s.fld (Reg.CASC.LANE_STATE k i) Fld.CASC.LANE_STATE.far_index ≠ 7 →
       exec (.laneReady (.casc k i) n) s = .next ((s.setLaneState (.casc k i) .ready).cascReady k)) ∧
     (∀ n, 170 < n → s.laneState (.field p l) = 4 → s.fld (Reg.FLANE.LANE_STATE p l) Fld.FLANE.LANE_STATE.far_index ≠ 7 →
       exec (.laneReady (.field p l) n) s = .next ((s.setFld (Reg.FLANE.PORT_STATE p) Fld.FLANE.PORT_STATE.skew
         (max n (s.fld (Reg.FLANE.PORT_STATE p) Fld.FLANE.PORT_STATE.skew))).setSta (Reg.FLANE.PORT_STA p) Fld.FLANE.PORT_STA.SKEW))) ∧
  (∀ (lane : Lane) (up : BitVec 6) (s : State),
     let a := lane.reg Reg.FLANE.DFE_TAPS_A
     let b := lane.reg Reg.FLANE.DFE_TAPS_B
     (s.flag (lane.reg Reg.FLANE.LANE_ADAPT) Fld.FLANE.LANE_ADAPT.hold = false → exec (.dfeTapStep lane up) s =
       let t := s.setFld a Fld.FLANE.DFE_TAPS_A.taps1_4 (tapsStep (s.fld a Fld.FLANE.DFE_TAPS_A.taps1_4) 4 0 up)
       .next (t.setFld b Fld.FLANE.DFE_TAPS_B.taps5_6 (tapsStep (t.fld b Fld.FLANE.DFE_TAPS_B.taps5_6) 2 4 up))) ∧
     (s.flag (lane.reg Reg.FLANE.LANE_ADAPT) Fld.FLANE.LANE_ADAPT.hold = true → exec (.dfeTapStep lane up) s = .next s) ∧
     (∀ i, i < 4 → (s.fld a Fld.FLANE.DFE_TAPS_A.taps1_4 / 128 ^ i % 128 = 63 ∨ s.fld a Fld.FLANE.DFE_TAPS_A.taps1_4 / 128 ^ i % 128 = 64) →
       exec (.dfeRail lane) s = .next (s.setSta (lane.reg Reg.FLANE.LANE_STA) Fld.FLANE.LANE_STA.DFE_RAIL)))

/-- The port and link commands that start over. (From R129, R139, R141, of which this states what is written here and no
more.) Where the rules leave something open, this follows the model's choice: log entry 2. -/
def Obligations.PortAndLinkRetraining : Prop :=
  ∀ (p : Fin 8) (k : Fin 2) (s : State),
    (let t := s.setFld (Reg.FLANE.PORT_CMD p) Fld.FLANE.PORT_CMD.retrain_go 0
     (t.portState p = 0 → exec (.portRetrain p) s = .next t) ∧
     (t.portState p ≠ 0 →
       let u := ((t.restartLanes p).setPortState p 1).setFld (Reg.FLINK.HEAD_STATE p) Fld.FLINK.HEAD_STATE.state 0
       exec (.portRetrain p) s = .next (((u.setPort p PortHidden.fresh).setLink p (u.link p).restart).portTdc p false))) ∧
    (let t := s.setFld (Reg.CASC.LINK_CMD k) Fld.CASC.LINK_CMD.retrain_go 0
     (t.linkState k = 0 → exec (.linkRetrain k) s = .next t) ∧
     (t.linkState k ≠ 0 → t.linkUp k = false → exec (.linkRetrain k) s = .next ((t.restartCasc k).setLinkState k 1)) ∧
     (t.linkState k ≠ 0 → t.linkUp k = true →
       exec (.linkRetrain k) s = .next (((t.restartCasc k).setLinkState k 1).cascLeave k))) ∧
    (let t := s.setFld (Reg.FLANE.PORT_CMD p) Fld.FLANE.PORT_CMD.restore_go 0
     let good (i : Nat) : Bool := decide (t.fld (Reg.FLANE.LANE_STATE p i) Fld.FLANE.LANE_STATE.state = 5) ||
       decide (t.fld (Reg.FLANE.LANE_STATE p i) Fld.FLANE.LANE_STATE.state = 6)
     let fill (cur ok : List Nat) : List Nat × Nat :=
       let rest := ok.filter (fun l => !cur.contains l)
       (cur ++ rest.take (4 - cur.length), (rest.drop (4 - cur.length)).getD 0 7)
     let rx := (List.range 5).filter good
     let tx := (List.range 5).filter (fun l => (t.port p).txOk.getD l true)
     t.portState p = 3 → 4 ≤ rx.length → 4 ≤ tx.length →
     let r := fill (usedSlots (t.rxSlots p)) rx
     let w := fill (usedSlots (t.txSlots p)) tx
     let u := t.setTxMap p w.1 w.2
     exec (.portRestore p) s = .next (((u.setPort p { u.port p with mapsw := true, pend := some ⟨r.1, r.2, false⟩ }).setPortState
       p 2).sendLaneMap p 4 r.1 r.2)) ∧
    (∀ l : Fin 2, s.linkUp k = true → exec (.cascSlip k l) s =
      .next (((((s.count (Reg.CASC.FRAME_DROP_CNT k) 1).count (Reg.CASC.SLIP_CNT k) 1).setSta (Reg.CASC.LINK_STA k)
        Fld.CASC.LINK_STA.SLIP).raise Ev.CASC.CASC_SLIP (cascArg k l))))

/-- Pattern tests and error injection on a lane. (From R130 to R133, R140, of which this states what is written here and no
more.) -/
def Obligations.LaneTests : Prop :=
  ∀ (lane : Lane) (s : State),
    let cmd := lane.reg Reg.FLANE.TEST_CMD
    let stt := lane.reg Reg.FLANE.TEST_STATE
    exec (.singleGo lane) s = .next ((s.setFld cmd Fld.FLANE.TEST_CMD.single_go 0).inject lane 1) ∧
    (let t := s.setFld cmd Fld.FLANE.TEST_CMD.burst_go 0
     exec (.burstGo lane) s = .next (t.inject lane (t.fld (lane.reg Reg.FLANE.TEST_INJ) Fld.FLANE.TEST_INJ.burst))) ∧
    (s.flag (lane.reg Reg.FLANE.TEST_INJ) Fld.FLANE.TEST_INJ.rate_en = true → exec (.rateInject lane) s = .next (s.inject lane 1)) ∧
    (let t := s.setFld cmd Fld.FLANE.TEST_CMD.test_enable_go 0
     t.blockOn lane.testScope.kind.block = true → t.testOn lane = false →
       (t.testable lane = true → exec (.testEnable lane) s = .next ((t.setScope lane.testScope .run).setLaneState lane .test)) ∧
       (t.testable lane = false → exec (.testEnable lane) s =
         .next (t.setSta (lane.reg Reg.FLANE.LANE_STA) Fld.FLANE.LANE_STA.TEST_REFUSED))) ∧
    (let t := s.setFld cmd Fld.FLANE.TEST_CMD.test_disable_go 0
     t.testOn lane = true → exec (.testDisable lane) s = .next (t.endTest lane)) ∧
    (s.testOn lane = true → s.flag (lane.reg Reg.FLANE.TEST_CFG) Fld.FLANE.TEST_CFG.chk_en = true →
      exec (.checkerLock lane) s = .next (s.setFld stt Fld.FLANE.TEST_STATE.chk_lock 1)) ∧
    (∀ bits errors, s.fld stt Fld.FLANE.TEST_STATE.chk_lock ≠ 0 → exec (.checkerLoss lane bits errors) s =
      .next (((s.setFld stt Fld.FLANE.TEST_STATE.chk_lock 0).count64 (lane.reg Reg.FLANE.TEST_BITS_LO) (lane.reg Reg.FLANE.TEST_BITS_HI)
        bits).count64 (lane.reg Reg.FLANE.TEST_ERR_LO) (lane.reg Reg.FLANE.TEST_ERR_HI) errors))

/-- Frames of a cascade link. A frame is taken only on a locked lane of a link that is up, with its sync word, its sequence
number, its checks and its header parity right; it is then handled as its type says. (From R135 to R138, R321, R322, R397, of
which this states what is written here and no more.) -/
def Obligations.CascadeFrames : Prop :=
  ∀ (f : CascFrame) (k : Fin 2) (s : State),
    let lane := Lane.casc f.link f.lane
    let st := lane.reg Reg.FLANE.LANE_STATE
    let inv := s.flag st Fld.FLANE.LANE_STATE.inverted
    let d := decodeFrame inv f.seq (s.fld st Fld.FLANE.LANE_STATE.far_index) f.line
    (s.fld st Fld.FLANE.LANE_STATE.lock ≠ 0 → s.linkUp f.link = true → (if inv then ~~~ f.sync else f.sync) = syncWord →
      d.2.2 = true → headerParity d.1 = true → headerType d.1 < 4 →
      (headerType d.1 = 3 → exec (.nibmsgFrame f) s = .next (s.nibMessage f.link d.2.1)) ∧
      (headerType d.1 = 2 → exec (.densityFrame f) s = .next ((List.range 16).foldl (fun s k =>
        if s.planeSecond k || s.planeState k = 0 || !s.flag (Reg.BLOT.PL_CFG k) Fld.BLOT.PL_CFG.merge_en ||
            decide (s.planeLink k ≠ f.link.val) || decide (s.planeCh k ≠ beAt d.2.1 1 1 % 4) then s
        else s.planeMerge k d.2.1) s)) ∧
      (headerType d.1 = 1 → exec (.trigFrame f) s =
        let t := (List.range (beAt d.2.1 0 1 % 16)).foldl (fun s i => s.takeTrig f.link ((d.2.1.drop (16 + 16 * i)).take 16)) s
        .next ([0, 1, 2, 3].foldl (fun u c => u.setSource (64 + 4 * f.link.val + c)
          { u.source (64 + 4 * f.link.val + c) with through := t.busToTbs (beAt d.2.1 8 8) }) t))) ∧
    (s.fld st Fld.FLANE.LANE_STATE.lock = 0 ∨ s.linkUp f.link = false →
      exec (.nibmsgFrame f) s = .next s ∧ exec (.densityFrame f) s = .next s) ∧
    (s.linkUp k = true → exec (.trigFrameSend k) s =
      let h := s.cascade k
      let ms := h.trig.take 15
      let through := (List.range 16).foldl (fun m q => min m (s.seqThrough q k)) s.stampTbs
      let t := (s.setCascade k { h with trig := h.trig.drop 15, msgs := [], density := [] }).sendCasc k 1
        (beBytes 1 ms.length ++ List.replicate 7 0 ++ beBytes 8 ((s.setCascade k { h with
          trig := h.trig.drop 15, msgs := [],
          density := [] }).tbsToBusFloor through) ++ ms.flatten ++ List.replicate ((15 - ms.length) * 16) 0)
      .next (h.density.foldl (fun s m => s.sendCasc k 2 m) (h.msgs.foldl (fun s m => s.sendCasc k 3 m) t)))

/-! ## Field link and heads (ch. 05) -/

/-- A frame that arrives on a field lane. A lane out of lock or FAILED finds none; a sync miss, a stuffing violation and bad
parity discard it, with their counts and status bits; an undefined type is discarded and counted; a late one is counted; a
frame that is none of these joins the port's re-ordering, whichever of the rows its type and message type name it by. (From
R111, R112, R115, R117, R124, of which this states what is written here and no more.) -/
def Obligations.FieldFrames : Prop :=
  ∀ (f : FieldFrame) (s : State),
    let p := f.port.val
    let lane := Lane.field f.port f.lane
    let st := lane.reg Reg.FLANE.LANE_STATE
    let sta := lane.reg Reg.FLANE.LANE_STA
    let inv := s.flag st Fld.FLANE.LANE_STATE.inverted
    let syncOk := (if inv then ~~~ f.sync else f.sync) = syncWord
    let d := decodeFrame inv f.seq (s.farIndex p f.lane.val) f.line
    let h := d.1
    let kinds : List Instr := [.sampleFrame f, .idleFrame f, .rttMark f, .headId f, .headLife f, .headCfg f, .headCal f, .laneMap f,
      .rttReply f, .headImageStatus f, .alarm f, .ack f]
    let ph := s.port p
    let n := ph.next.getD (headerSeq h)
    let drop (t : State) : Host.Outcome State Fault Refusal := .next (t.count (Reg.FLANE.FRAME_DROP_CNT p) 1)
    let placed : Host.Outcome State Fault Refusal := .next ((s.setPort p { ph with
      next := some n, held := ph.held ++
      [⟨headerType h, headerSeq h, headerHalf h, headerMapsw h, d.2.1, f.arrival.toNat⟩] }).release p 512)
    let late := 128 ≤ (headerSeq h + 256 - n) % 256
    (s.fld st Fld.FLANE.LANE_STATE.lock = 0 ∨ s.laneState lane = 7 → ∀ c ∈ kinds, exec c s = .next s) ∧
    (s.fld st Fld.FLANE.LANE_STATE.lock ≠ 0 → s.laneState lane ≠ 7 →
      (¬ syncOk → exec (.sampleFrame f) s = drop (s.count (lane.reg Reg.FLANE.SYNC_MISS_CNT) 1)) ∧
      (syncOk → d.2.2 = false → exec (.sampleFrame f) s = drop (s.setSta sta Fld.FLANE.LANE_STA.STUFF_ERR)) ∧
      (syncOk → d.2.2 = true → headerParity h = false → exec (.sampleFrame f) s =
        drop (s.setSta sta Fld.FLANE.LANE_STA.HDR_ERR)) ∧
      (syncOk → d.2.2 = true → headerParity h = true →
        (4 ≤ headerType h → exec (.sampleFrame f) s = .next (s.count (Reg.FLANE.TYPE_DROP_CNT p) 1)) ∧
        (late → headerType h = 1 → exec (.sampleFrame f) s = .next (s.count (Reg.FLANE.LATE_DROP_CNT p) 1)) ∧
        (¬ late →
          (headerType h = 0 → exec (.idleFrame f) s = placed) ∧
          (headerType h = 1 → exec (.sampleFrame f) s = placed) ∧
          (headerType h = 3 → exec (.rttMark f) s = placed) ∧
          (headerType h = 2 → (beAt d.2.1 1 1).testBit 0 = false →
            ∀ e ∈ [(1, Instr.headId f), (2, .headLife f), (3, .headCfg f), (4, .headCal f), (5, .laneMap f), (6, .rttReply f),
              (7, .headImageStatus f), (8, .alarm f)], beAt d.2.1 0 1 = e.1 → exec e.2 s = placed) ∧
          (headerType h = 2 → (beAt d.2.1 1 1).testBit 0 = true → exec (.ack f) s = placed))))

/-- A message received. A type outside the set is dropped and counted; so is one whose length or crc is wrong; else its ack
value is taken, and a sequenced message is accepted only in order. (From R144, R145, of which this states what is written
here and no more.) -/
def Obligations.FieldMessages : Prop :=
  ∀ (p : Nat) (type flags seq ack : Nat) (body : List Byte) (crc : BitVec 32) (s : State), type < 256 → flags < 4 →
    seq < 32768 → ack < 32768 → body.length ≤ 244 →
    let head := beBytes 1 type ++ beBytes 1 flags ++ beBytes 2 body.length ++ beBytes 2 seq ++ beBytes 2 ack ++ body
    let m := head ++ beBytes 4 crc.toNat
    let t := s.onAck p ack
    (type = 0 ∨ 8 < type → s.rxMessage p m = s.count (Reg.FLINK.MSG_DROP_CNT p) 1) ∧
    (0 < type → type ≤ 8 → crc ≠ crc32c head → s.rxMessage p m = s.count (Reg.FLINK.MSG_BAD_CNT p) 1) ∧
    (0 < type → type ≤ 8 → crc = crc32c head →
      (flags % 2 = 1 → body = [] → s.rxMessage p m = t) ∧
      (flags % 2 = 0 → headBodyOk type body.length = false → s.rxMessage p m = s.count (Reg.FLINK.MSG_BAD_CNT p) 1) ∧
      (flags % 2 = 0 → headBodyOk type body.length = true →
        (type = 2 ∨ type = 6 → s.rxMessage p m = t.onMessage p type body) ∧
        (type ≠ 2 → type ≠ 6 → seq = (t.link p).rxNext → s.rxMessage p m = (t.setLink p { t.link p with
          rxNext := (seq + 1) % 32768, rxAny := true, ackDue := true }).onMessage p type body) ∧
        (type ≠ 2 → type ≠ 6 → seq ≠ (t.link p).rxNext →
          s.rxMessage p m = t.setLink p { t.link p with ackDue := true })))

/-- A measurement with its two stamps and its turnaround gives RTT = (t4 - t1) - turnaround, and D_raw lies within half a
unit of RTT / 2 + A. A D_raw at most 1 ns from D is accepted, and D becomes the mean of the last 16 accepted values to within
one unit (its rounding is not stated); one farther off is counted in RTT_OUTLIER_CNT, and the sixteenth in a row starts the
history again with DELAY_STEP. (From R150, R151, of which this states what is written here and no more.) Where the rules
leave something open, this follows the model's choice: log entry 6. -/
def Obligations.RoundTripDelay : Prop :=
  ∀ (s : State) (p t1 t4 turn : Nat),
    let k := s.link p
    k.t1 = some t1 → k.t4 = some t4 → k.turn = some turn →
    let rtt : Int := (t4 : Int) - t1 - turn
    let a := signedOf 24 (s.fld (Reg.FLINK.LINK_ASYM p) Fld.FLINK.LINK_ASYM.asym)
    let measured := s.setReg (Reg.FLINK.RTT_LAST p) (BitVec.ofInt 32 rtt)
    ∃ d : Int, rtt - 1 ≤ 2 * (d - a) ∧ 2 * (d - a) ≤ rtt + 1 ∧
      (k.history ≠ [] → 393216 < 100 * (d - s.delay p).natAbs → k.rejects + 1 < 16 → s.tryRtt p =
        (measured.count (Reg.FLINK.RTT_OUTLIER_CNT p) 1).setLink p { k with
          t1 := none, t4 := none, turn := none,
          rejects := k.rejects + 1 }) ∧
      (k.history ≠ [] → 393216 < 100 * (d - s.delay p).natAbs → 16 ≤ k.rejects + 1 → s.tryRtt p =
        (((measured.count (Reg.FLINK.RTT_OUTLIER_CNT p) 1).setLink p { k with
          t1 := none, t4 := none, turn := none,
          rejects := 0, history := [] }).setSta (Reg.FLINK.LINK_STA p) Fld.FLINK.LINK_STA.DELAY_STEP).raise
          Ev.FLINK.DELAY_STEP (p * 256)) ∧
      (k.history = [] ∨ 100 * (d - s.delay p).natAbs ≤ 393216 →
        let h := (k.history ++ [d]).drop (k.history.length + 1 - 16)
        ∃ m : Int, (m * h.length - h.sum).natAbs < h.length ∧ s.tryRtt p =
          ((measured.setReg (Reg.FLINK.DELAY p) (BitVec.ofInt 32 m)).setLink p { k with
            t1 := none, t4 := none, turn := none,
            rejects := 0, history := h, accepted := k.accepted + 1 }).tryStart p)

/-- A HEAD_LIFE sets every ledger counter of its head to the larger of the ledger's value and the head's, so none decreases;
the limits stay. (From R156, of which this states what is written here and no more.) -/
def Obligations.HeadLedger : Prop :=
  ∀ (s : State) (p : Nat) (b : List Byte) (e : LedgerEntry), (s.link p).uid = some (beAt b 0 8) →
    s.ledgerGet (beAt b 0 8) = some e → e.counters.length = 4 →
    ∃ e', (s.onHeadLife p b).ledgerGet (beAt b 0 8) = some e' ∧ e'.limits = e.limits ∧
      ∀ i, i < 4 → e'.counters.getD i 0 = max (e.counters.getD i 0) (beAt b (8 + 4 * i) 4)

/-- What a port does of its own accord or at a command, while it is up. (From R145, R150 to R155, R161, R165, R168, of which
this states what is written here and no more.) Where the rules leave something open, this follows the model's choice: log
entry 46. -/
def Obligations.HeadCommands : Prop :=
  ∀ (p : Fin 8) (s : State),
    let k := s.link p
    let go (f : Bits) : State := s.setFld (Reg.FLINK.LINK_CMD p) f 0
    (s.portUp p = true →
      (k.known = false → exec (.headIdTimeout p) s = .next (s.refuseHead p 3 3)) ∧
      exec (.headSilent p) s = .next (((s.setLink p { k with silent := true }).setSta (Reg.FLINK.LINK_STA p)
        Fld.FLINK.LINK_STA.HEAD_SILENT).raise Ev.FLINK.HEAD_SILENT (p * 256)) ∧
      (∀ t1, exec (.rttMeasure p t1) s = .next ((s.setLink p { k with
        mark := (k.mark + 1) % 65536, t1 := some t1.toNat,
        t4 := none, turn := none }).sendFrame p 3 (beBytes 2 ((k.mark + 1) % 65536) ++ [0])))) ∧
    ((go Fld.FLINK.LINK_CMD.id_req_go).portUp p = true →
      exec (.idReqGo p) s = .next ((go Fld.FLINK.LINK_CMD.id_req_go).sendHeadCfg p 3 0)) ∧
    ((go Fld.FLINK.LINK_CMD.image_activate_go).portUp p = true →
      exec (.imageActivateGo p) s = .next ((go Fld.FLINK.LINK_CMD.image_activate_go).sendHeadCfg p 4 0)) ∧
    (∀ cmd tries, k.cmd = some (cmd, tries) → (∀ m ∈ k.unacked, m.type ≠ 3) →
      (tries = 0 → exec (.headCfgTimeout p) s = .next (s.sendHeadCfg p cmd 1)) ∧
      (tries ≠ 0 → exec (.headCfgTimeout p) s = .next (s.msgFail p 3))) ∧
    exec (.rttAbandon p) s = .next (s.setLink p { k with t1 := none, t4 := none, turn := none }) ∧
    (k.ackDue = true → exec (.ackSend p) s = .next ((s.setLink p { k with ackDue := false }).sendFrame p 2
      (messageBytes 3 1 0 (if k.rxAny then (k.rxNext + 32767) % 32768 else 32767) []))) ∧
    (∀ m l, k.unacked = m :: l →
      (8 ≤ m.resends → exec (.msgResend p) s = .next (s.msgFail p m.type)) ∧
      (m.resends < 8 →
        let sent := (k.unacked.take 16).map (fun m => { m with resends := m.resends + 1 })
        exec (.msgResend p) s = .next (sent.foldl (fun t m => t.transmit p m) ((s.setLink p { k with
          unacked := sent ++ k.unacked.drop 16 }).count (Reg.FLINK.RETX_CNT p) sent.length)))) ∧
    (let t := go Fld.FLINK.LINK_CMD.takeover_go
     (t.flag (Reg.FLINK.LINK_CFG p) Fld.FLINK.LINK_CFG.standby_en = true →
       exec (.takeoverGo p) s = .next (t.takeover p (t.fld (Reg.FLINK.LINK_CFG p) Fld.FLINK.LINK_CFG.standby_for))) ∧
     (t.flag (Reg.FLINK.LINK_CFG p) Fld.FLINK.LINK_CFG.standby_en = false → exec (.takeoverGo p) s = .next t)) ∧
    (let t := go Fld.FLINK.LINK_CMD.revert_go
     let q := t.fld (Reg.FLINK.LINK_CFG p) Fld.FLINK.LINK_CFG.standby_for
     let back := (t.portStreams p).zipIdx.foldl (fun (u : State) e => match e.1 with
       | none => u
       | some id => u.setStream id { u.stream id with source := some (.head q e.2), index := 0, fcount := none }) t
     let u := ((back.setLink q { back.link q with takenBy := none }).setFld (Reg.FLINK.HEAD_STATE q)
       Fld.FLINK.HEAD_STATE.state 3).setFld (Reg.FLINK.HEAD_STATE p) Fld.FLINK.HEAD_STATE.state 5
     ((t.link q).takenBy = some p.val → (t.link q).started = true → t.portUp q = true → exec (.revertGo p) s =
       .next ((u.setSta (Reg.FLINK.LINK_STA p) Fld.FLINK.LINK_STA.TAKEOVER).raise Ev.FLINK.STANDBY_TAKEOVER
         (p * 256 + 0x80 + q))) ∧
     ((t.link q).started = false → exec (.revertGo p) s = .next t)) ∧
    (let t := go Fld.FLINK.LINK_CMD.rtt_reset_go
     exec (.rttResetGo p) s = .next (t.setLink p { t.link p with history := [], rejects := 0 }))

/-! ## Clocks (ch. 06) -/

/-- The synthesisers and their outputs. Enable acquires when a band is found; a lock while acquiring settles; the end of
settling runs; a loss of lock, a loss of the reference and the end of holdover act as their rules say; an output opens at its
enable, and a delay that would lower the delay of a running fast output is refused. (From R171 to R192, of which this states
what is written here and no more.) Where the rules leave something open, this follows the model's choice: log entries 51, 55.
-/
def Obligations.ClockCommands : Prop :=
  ∀ (y : Fin 4) (o : Fin 8) (s : State),
    let cmd (f : Bits) : State := s.setFld (Reg.CLK.PLL_CMD y) f 0
    let use := s.fld (Reg.CLK.PLL_CFG 0) Fld.CLK.PLL_CFG.ref_sel
    (∀ mclk, let t := cmd Fld.CLK.PLL_CMD.enable_go
      ((2 ≤ y.val → t.pll y = 0 → t.blockOn 6 = true → t.pfdOk y 0 = true → ∀ b, t.findBand y 0 = some b →
        exec (.pllEnable y mclk) s = .next (((t.setFld (Reg.CLK.PLL_STATE y) Fld.CLK.PLL_STATE.band b).setFld
          (Reg.CLK.PLL_STATE y) Fld.CLK.PLL_STATE.ref_in_use 0).acquire y)) ∧
      (2 ≤ y.val → t.pll y = 0 → t.blockOn 6 = true → t.pfdOk y 0 = false → exec (.pllEnable y mclk) s = .next (t.bandNone y)) ∧
      (2 ≤ y.val → t.pll y ≠ 0 ∨ t.blockOn 6 = false → exec (.pllEnable y mclk) s = .next t))) ∧
    (let t := cmd Fld.CLK.PLL_CMD.disable_go
     (t.pll y = 0 → exec (.pllDisable y) s = .next t) ∧
     (y ≠ 0 → t.pll y ≠ 0 → t.pll y ≠ 4 → exec (.pllDisable y) s =
       .next ((t.setFld (Reg.CLK.PLL_STATE y) Fld.CLK.PLL_STATE.state 0).settleOutputs y))) ∧
    (let t := s.setFld (Reg.CLK.PLL_CMD 0) Fld.CLK.PLL_CMD.twin_swap_go 0
     let ready := t.pll 0 = 3 ∧ t.flag (Reg.CLK.PLL_STATE 0) Fld.CLK.PLL_STATE.twin_locked = true
     (ready → exec .twinSwapGo s = .next t.twinSwap) ∧
     (¬ ready → exec .twinSwapGo s = .next (t.busyDrop 6 (t.issuer (Reg.CLK.PLL_CMD 0))))) ∧
    (let t := s.setFld (Reg.CLK.PLL_CMD 0) Fld.CLK.PLL_CMD.ref_revert_go 0
     let sel := t.fld (Reg.CLK.PLL_CFG 0) Fld.CLK.PLL_CFG.ref_sel
     t.pll 0 ≠ 0 → t.fld (Reg.CLK.PLL_STATE 0) Fld.CLK.PLL_STATE.ref_in_use ≠ sel →
     (sel = 0 ∧ t.clk.refclkLost = false) ∨ (sel = 2 ∧ t.clk.syncLost = false) → exec .refRevertGo s =
       .next (((t.setFld (Reg.CLK.PLL_STATE 0) Fld.CLK.PLL_STATE.ref_in_use sel).setSta (Reg.CLK.PLL_STA 0)
         Fld.CLK.PLL_STA.REF_SWITCH).raise Ev.CLK.REF_SWITCH 0)) ∧
    (s.pairOut y o = o.val →
      (let t := s.setFld (Reg.CLK.OUT_CMD y o) Fld.CLK.OUT_CMD.enable_go 0
       outUsed y o = true → t.blockOn 6 = true → t.live (outScope y o) = false →
       (y.val = 0 → o.val = 6 → t.pll 0 ≠ 0 → t.fld (Reg.CLK.PLL_CFG 0) Fld.CLK.PLL_CFG.ref_sel = 2 →
         exec (.outEnable y o) s = .next (t.setSta (Reg.CLK.PLL_STA 0) Fld.CLK.PLL_STA.REF_LOOP)) ∧
       (¬ (y.val = 0 ∧ o.val = 6) → ¬ (y.val = 2 ∧ o.val = 0) →
         exec (.outEnable y o) s = .next ((t.setScope (outScope y o) .run).settleOutputs y).phyBack)) ∧
      (let t := s.setFld (Reg.CLK.OUT_CMD y o) Fld.CLK.OUT_CMD.disable_go 0
       ¬ (y.val = 2 ∧ o.val = 0) → exec (.outDisable y o) s = .next ((t.setScope (outScope y o) .off).settleOutputs y).phyLost)) ∧
    (let q := s.pairOut y o
     let refused := s.outRuns y q = true ∧ s.fld (Reg.CLK.OUT_CFG y q) Fld.CLK.OUT_CFG.div + 1 < 7 ∧
       s.stagedFld (Reg.CLK.OUT_DELAY y q) Fld.CLK.OUT_DELAY.delay < s.fld (Reg.CLK.OUT_DELAY y q) Fld.CLK.OUT_DELAY.delay
     (refused → exec (.delayCommit y o) s = .next (s.setSta (Reg.CLK.PLL_STA y) Fld.CLK.PLL_STA.DELAY_REFUSED)) ∧
     (¬ refused → exec (.delayCommit y o) s = .next (s.commitScope (outScope y q)))) ∧
    (s.clk.refclkLost = false → s.pll 0 ≠ 0 → use = 0 →
      exec (.refLoss .refclk) s = .next ({ s with clk := { s.clk with refclkLost := true } } : State).pllrRefLost) ∧
    (s.clk.mclkLost = false → s.pll 1 ≠ 0 → exec (.refLoss .mclk) s =
      .next ((({ s with clk := { s.clk with mclkLost := true } } : State).refLossEvent 1).loseActive 1)) ∧
    (s.refPresent y = true → (s.measurePll y).pll y = 1 → exec (.pllLock y false) s =
      .next ((s.measurePll y).setFld (Reg.CLK.PLL_STATE y) Fld.CLK.PLL_STATE.state 2)) ∧
    (s.refPresent 0 = true → (s.measurePll 0).pll 0 = 3 → exec (.pllLock 0 true) s =
      .next ((s.measurePll 0).setFld (Reg.CLK.PLL_STATE 0) Fld.CLK.PLL_STATE.twin_locked 1)) ∧
    (s.pll y = 2 → exec (.settleEnd y) s = .next ((((((s.setFld (Reg.CLK.PLL_STATE y) Fld.CLK.PLL_STATE.state 3).settleOutputs
      y).setSta (Reg.CLK.PLL_STA y) Fld.CLK.PLL_STA.LOCKED).raise Ev.CLK.PLL_LOCKED (256 * y))).phyBack)) ∧
    exec (.pllLol y false) s = .next (s.loseActive y) ∧
    exec (.pllLol 0 true) s = .next (s.setFld (Reg.CLK.PLL_STATE 0) Fld.CLK.PLL_STATE.twin_locked 0) ∧
    (s.pll 1 = 4 → exec .holdoverExpiry s =
      .next ((s.setFld Reg.TIME.TIME_STATE Fld.TIME.TIME_STATE.tbm_holdover 0).stopPll 1)) ∧
    exec (.refReturn .refclk) s = .next { s with clk := { s.clk with refclkLost := false } } ∧
    exec (.refReturn .syncClk) s = .next { s with clk := { s.clk with syncLost := false } } ∧
    (s.pll 1 = 5 → exec (.refReturn .mclk) s = .next (({ s with clk := { s.clk with mclkLost := false } } : State).acquire 1))

/-! ## Time bases, TDC and network port (ch. 07) -/

/-- The commands that read and set the time bases. A snapshot latches the three at one instant; an increment out of range is
refused and raised; a one-time step is added exactly, modulo 2^96; without REF none of them happens. The machine's turn. A
staged turn waits for the next turn boundary; there the turn takes it and bucket counting starts again. A fiducial at its
bucket confirms the count; at another it is a slip, counted and raised, and re-aligns the count where fid_realign is set.
(From R205, R206, R208; R201 to R204, of which this states what is written here and no more.) Where the rules leave something
open, this follows the model's choice: log entry 52. -/
def Obligations.TimeBaseCommands : Prop :=
  (∀ s : State,
     let cmd (f : Bits) : State := s.setFld Reg.TIME.TIME_CMD f 0
     (s.running .ref = true → s.running .samp = true →
       let t := cmd Fld.TIME.TIME_CMD.snap_go
       let m := if t.running .mach then t.tbm.toNat else 2 ^ 64 - 1
       let u := ((t.setReg64 Reg.TIME.SNAP_TBS_LO Reg.TIME.SNAP_TBS_HI t.time.tbs.toNat).setReg64 Reg.TIME.SNAP_TBM_LO
         Reg.TIME.SNAP_TBM_HI m).setReg64 Reg.TIME.SNAP_TBW_LO Reg.TIME.SNAP_TBW_HI t.time.tbwNs.toNat
       let v := u.setReg Reg.TIME.SNAP_FLAGS (putField Fld.TIME.SNAP_FLAGS.frac (t.time.tbwFrac.toNat / 2 ^ 16)
         (putField Fld.TIME.SNAP_FLAGS.holdover (u.fld Reg.TIME.TIME_STATE Fld.TIME.TIME_STATE.tbm_holdover)
           (putField Fld.TIME.SNAP_FLAGS.estimated (u.fld Reg.TIME.TIME_STATE Fld.TIME.TIME_STATE.tbm_estimated) 0)))
       exec .snapGo s = .next (v.setReg Reg.TIME.SNAP_SEQ (v.reg Reg.TIME.SNAP_SEQ + 1))) ∧
     (s.running .ref = true →
       let t := cmd Fld.TIME.TIME_CMD.incr_commit_go
       let i := (t.stagedReg Reg.TIME.TB_W_INCR_LO).toNat + 2 ^ 32 * (t.stagedReg Reg.TIME.TB_W_INCR_HI).toNat
       (incrOk i = true → exec .incrCommitGo s = .next (t.commitRegs 7 [Reg.TIME.TB_W_INCR_LO, Reg.TIME.TB_W_INCR_HI])) ∧
       (incrOk i = false → exec .incrCommitGo s = .next (t.blkEvent 7 9 Ev.TIME.INCR_RANGE 0))) ∧
     (s.running .ref = true →
       let t := (cmd Fld.TIME.TIME_CMD.once_go).commitRegs 7 [Reg.TIME.TB_W_ONCE_LO, Reg.TIME.TB_W_ONCE_HI, Reg.TIME.TB_W_ONCE_FRAC]
       let ns := signedOf 64 (t.reg64 Reg.TIME.TB_W_ONCE_LO Reg.TIME.TB_W_ONCE_HI)
       let d := ns * 2 ^ 32 + (t.reg Reg.TIME.TB_W_ONCE_FRAC).toNat
       exec .onceGo s = .next (((t.addTbw d).setFld Reg.TIME.TIME_STATE Fld.TIME.TIME_STATE.tbw_set 1).blkEvent 7 8
         Ev.TIME.TBW_STEP (if ns < 0 then 1 else 0))) ∧
     (∀ d : Int, let w (t : State) : Int := t.time.tbwNs.toNat * 2 ^ 32 + t.time.tbwFrac.toNat
       w (s.addTbw d) % 2 ^ 96 = (w s + d) % 2 ^ 96) ∧
     (s.running .ref = false → exec .snapGo s = .next s ∧ exec .incrCommitGo s = .next s ∧ exec .onceGo s = .next s)) ∧
  (∀ (input : BitVec 5) (s : State),
     (let t := (s.setFld Reg.TIME.TIME_CMD Fld.TIME.TIME_CMD.tbm_commit_go 0).commitRegs 7
        [Reg.TIME.TBM_TURN_LOAD_LO, Reg.TIME.TBM_TURN_LOAD_HI]
      exec .tbmCommitGo s = .next { t with
        tim := { t.tim with
        turnLoad := some (BitVec.ofNat 48 (t.reg64 Reg.TIME.TBM_TURN_LOAD_LO Reg.TIME.TBM_TURN_LOAD_HI)) } }) ∧
     (∀ l, s.tim.turnLoad = some l → s.running .mach = true → exec .turnLoadApply s =
       .next (({ s with
         time := { s.time with bucket := 0, cycle := 0, turn := l },
         tim := { s.tim with turnLoad := none } } : State).setFld Reg.TIME.TIME_STATE Fld.TIME.TIME_STATE.tbm_estimated 0)) ∧
     (input ≠ 0 → s.fld Reg.TIME.TBM_CFG Fld.TIME.TBM_CFG.fid_sel = input.toNat → s.running .mach = true → s.blockOn 7 = true →
       let fb := s.fld Reg.TIME.TBM_HARM Fld.TIME.TBM_HARM.fid_bucket
       let slip := (s.count Reg.TIME.TBM_SLIP_CNT 1).blkEvent 7 10 Ev.TIME.TBM_SLIP 0
       (s.time.bucket.toNat = fb ∧ s.time.cycle = 0 → exec (.fiducial input) s =
         .next (s.setFld Reg.TIME.TIME_STATE Fld.TIME.TIME_STATE.tbm_estimated 0)) ∧
       (¬ (s.time.bucket.toNat = fb ∧ s.time.cycle = 0) →
         (slip.flag Reg.TIME.TBM_CFG Fld.TIME.TBM_CFG.fid_realign = false → exec (.fiducial input) s = .next slip) ∧
         (slip.flag Reg.TIME.TBM_CFG Fld.TIME.TBM_CFG.fid_realign = true → exec (.fiducial input) s =
           .next (({ slip with time := { slip.time with bucket := BitVec.ofNat 16 fb, cycle := 0 } } : State).setFld
             Reg.TIME.TIME_STATE Fld.TIME.TIME_STATE.tbm_estimated 0)))) ∧
     (input = 0 ∨ s.fld Reg.TIME.TBM_CFG Fld.TIME.TBM_CFG.fid_sel ≠ input.toNat → exec (.fiducial input) s = .next s))

/-- TDC channels, interval units, regression units and the PPS pins. (From R210 to R219, R227, R557, of which this states
what is written here and no more.) Where the rules leave something open, this follows the model's choice: log entries 26, 56,
57. -/
def Obligations.TdcCommands : Prop :=
  ∀ (c : Fin 20) (i r : Fin 4) (s : State),
    (let t := s.setFld (Reg.TIME.TDC_CMD c) Fld.TIME.TDC_CMD.pop_go 0
     exec (.tdcPop c) s = .next ((t.setTdc c { t.tdc c with fifo := (t.tdc c).fifo.tail }).tdcHead c)) ∧
    (let t := s.setFld (Reg.TIME.TDC_CMD c) Fld.TIME.TDC_CMD.enable_go 0
     (t.blockOn 7 = true → exec (.tdcEnable c) s = .next (t.setScope ⟨.tdc, c⟩ .run)) ∧
     (t.blockOn 7 = false → exec (.tdcEnable c) s = .next t)) ∧
    exec (.tdcDisable c) s = .next ((s.setFld (Reg.TIME.TDC_CMD c) Fld.TIME.TDC_CMD.disable_go 0).setScope ⟨.tdc, c⟩ .off) ∧
    (∀ (falling : Bool) (tbs : DWord) (coarse : BitVec 40) (fine : BitVec 10),
      let d := s.tdcStamped c falling tbs coarse fine
      (8 ≤ c.val → exec (.tdcStamp c falling tbs coarse fine) s = .next d.2) ∧
      (c.val < 8 → d.1 = true → exec (.tdcStamp c falling tbs coarse fine) s = .next (d.2.activate (48 + c) tbs.toNat
        (!(decide (d.2.fld (Reg.TIME.TDC_CFG c) Fld.TIME.TDC_CFG.edge = 2) && falling)) 0))) ∧
    (let t := s.setFld (Reg.TIME.IVAL_CMD i) Fld.TIME.IVAL_CMD.arm_go 0
     (t.blockOn 7 = true → exec (.ivalArm i) s = .next (((t.setIval i ⟨none, none⟩).setScope ⟨.ival, i⟩ .run).setFld
       (Reg.TIME.IVAL_FLAGS i) Fld.TIME.IVAL_FLAGS.flags 0)) ∧
     (t.blockOn 7 = false → exec (.ivalArm i) s = .next t)) ∧
    (s.hiddenScope ⟨.ival, i⟩ = .run → s.fld (Reg.TIME.IVAL_CFG i) Fld.TIME.IVAL_CFG.timeout ≠ 0 →
      exec (.ivalTimeout i) s = .next (s.ivalReport i 0 17)) ∧
    (s.fld (Reg.TIME.IVAL_CFG i) Fld.TIME.IVAL_CFG.timeout = 0 → exec (.ivalTimeout i) s = .next s) ∧
    (let t := s.setFld (Reg.TIME.FREQ_CMD r) Fld.TIME.FREQ_CMD.start_go 0
     t.blockOn 7 = true → t.hiddenScope ⟨.regr, r⟩ ≠ .run → exec (.freqStart r) s = .next (t.freqBegin r)) ∧
    (let t := s.setFld (Reg.TIME.FREQ_CMD r) Fld.TIME.FREQ_CMD.stop_go 0
     t.hiddenScope ⟨.regr, r⟩ = .run → exec (.freqStop r) s = .next (t.setFreq r { t.freq r with stopAfter := true })) ∧
    (s.hiddenScope ⟨.regr, r⟩ = .run → r ≠ 0 → exec (.gateEnd r) s = .next (s.gateEnd r)) ∧
    (s.flag Reg.TIME.PPS_CFG Fld.TIME.PPS_CFG.in_en = true → s.running .ref = true → s.blockOn 7 = true →
      (∀ t, s.tim.ppsLast = some t → s.time.tick < t + 10000000 → exec .ppsIn s =
        .next (s.count Reg.TIME.PPS_IN_EARLY_CNT 1)) ∧
      ((∀ t, s.tim.ppsLast = some t → t + 10000000 ≤ s.time.tick) →
        let t := (s.setReg64 Reg.TIME.PPS_IN_TBW_LO Reg.TIME.PPS_IN_TBW_HI s.time.tbwNs.toNat).setReg64 Reg.TIME.PPS_IN_TBS_LO
          Reg.TIME.PPS_IN_TBS_HI s.time.tbs.toNat
        exec .ppsIn s = .next (({ t with tim := { t.tim with ppsLast := some t.time.tick } } : State).blkEvent 7 14
          Ev.TIME.PPS_IN 0))) ∧
    (s.tim.ppsCross = true → s.tim.ppsOut = false → s.flag Reg.TIME.PPS_CFG Fld.TIME.PPS_CFG.out_en = true →
      s.flag Reg.TIME.TIME_STATE Fld.TIME.TIME_STATE.tbw_set = true → s.blockOn 7 = true → exec .ppsOutPulse s =
        .next (({ s with tim := { s.tim with ppsCross := false, ppsOut := true } } : State).emit (.pin "PPS_OUT" true))) ∧
    (s.tim.ppsOut = true → exec .ppsOutEnd s =
      .next (({ s with tim := { s.tim with ppsOut := false } } : State).emit (.pin "PPS_OUT" false))) ∧
    (s.tim.ppsOut = false → exec .ppsOutEnd s = .next s)

/-- The network port. A frame that fails its check or is not addressed to the port is dropped and counted; one that is no PTP
event frame goes on without a stamp; a PTP event frame takes the stamp unit, or is delivered with the missed-stamp code where
the unit is busy. (From R220 to R223, R228, R229, of which this states what is written here and no more.) Where the rules
leave something open, this follows the model's choice: log entries 58, 59. -/
def Obligations.NetworkPort : Prop :=
  ∀ (frame : List Byte) (s : State),
    let st := Reg.NET.NET_STATE
    let ring := s.fld Reg.NET.NET_CFG Fld.NET.NET_CFG.tx_ring
    (s.netUp = true →
      (exec (.netRxFrame frame false) s = .next (s.count Reg.NET.RX_DROP_CNT 1)) ∧
      (s.netAddressed frame = false → exec (.netRxFrame frame true) s = .next (s.count Reg.NET.RX_DROP_CNT 1)) ∧
      (s.netAddressed frame = true →
        (ptpEvent frame = none → exec (.netRxFrame frame true) s = .next (s.rxDeliver frame 0 none)) ∧
        (∀ e, ptpEvent frame = some e → s.tim.netRx.isSome = true →
          exec (.netRxFrame frame true) s = .next (s.stampMiss.rxDeliver frame 5 none)) ∧
        (∀ e, ptpEvent frame = some e → s.tim.netRx = none →
          let d := s.ptpStamp (s.fld Reg.NET.NET_RX_COMP Fld.NET.NET_RX_COMP.comp)
          exec (.netRxFrame frame true) s =
            .next { d.2 with tim := { d.2.tim with netRx := some ⟨frame, d.1, 0⟩ } }))) ∧
    (s.netUp = false → ∀ ok, exec (.netRxFrame frame ok) s = .next s) ∧
    (∀ e l, s.crEntries ring = e :: l → s.netUp = true → s.ringState (cring ring) = 1 → s.ringType (cring ring) = 3 →
      let f := bytesAt frame 0 (leAt e 8 4)
      let t := (s.crConsume ring).emit (.netFrame f)
      (ptpEvent f = none → exec (.netTxFrame frame) s = .next t) ∧
      (∀ x, ptpEvent f = some x → t.tim.netTx.isSome = true → exec (.netTxFrame frame) s = .next t.stampMiss)) ∧
    (let t := s.setFld Reg.NET.NET_TXTS_CMD Fld.NET.NET_TXTS_CMD.pop_go 0
     exec .txtsPop s = .next ({ t with tim := { t.tim with txts := t.tim.txts.tail } } : State).txtsHead) ∧
    (s.flag st Fld.NET.NET_STATE.link_up = true → exec .netLinkDown s =
      .next (((s.setFld st Fld.NET.NET_STATE.link_up 0).setFld st Fld.NET.NET_STATE.fec_lock 0).blkEvent 23 8 Ev.NET.LINK_DOWN 0)) ∧
    (s.blockOn 23 = true → s.running .net = true → s.flag st Fld.NET.NET_STATE.link_up = false → exec .netLinkUp s =
      .next (((s.setFld st Fld.NET.NET_STATE.link_up 1).setFld st Fld.NET.NET_STATE.fec_lock
        (s.fld Reg.NET.NET_CFG Fld.NET.NET_CFG.fec)).raise Ev.NET.LINK_UP 0))

/-! ## Conditioning (ch. 08) -/

/-- The spike filter of a port. Enable starts a run on each stream of the port with the threshold then in force; disable
drains it, or ends it at once where the port has no stream; a commit waits for the next spike block, or takes effect at once
while the filter is off; a block end writes the block's count, adds it to SPK_REPL_CNT, raises SPIKE_BURST above a limit that
is not 0, and starts the next block. A sample near a gap or within the first window passes unchanged and is marked UNSETTLED.
Any other keeps its marks and its stamp, and each part of it is replaced by the k-th smallest value of its window exactly
when it lies more than the threshold from that value. (From R230 to R232, R254; R230, R232, R233, of which this states what
is written here and no more.) Where the rules leave something open, this follows the model's choice: log entry 60. -/
def Obligations.SpikeFilter : Prop :=
  (∀ (p : Fin 8) (o : Fin 4) (s : State),
     let cmd (f : Bits) : State := s.setFld (Reg.COND.SPK_CMD p) f 0
     let st := Reg.COND.SPK_STATE p
     let on (t : State) : Bool := t.flag st Fld.COND.SPK_STATE.enabled
     (let t := cmd Fld.COND.SPK_CMD.enable_go
      t.blockOn 8 = true → on t = false → exec (.spkEnable p) s = .next ((((t.setSpike p ⟨false,
        (t.portStreams p).zipIdx.filterMap (fun e => e.1.map (fun id => (e.2, ⟨(t.stream id).delivered, (t.stream id).delivered, none,
          [((t.stream id).delivered, t.fld (Reg.COND.SPK_THR p) Fld.COND.SPK_THR.thr)]⟩)))⟩).setFld st
            Fld.COND.SPK_STATE.enabled 1)).setScope ⟨.spk, p⟩ .run)) ∧
     (let t := cmd Fld.COND.SPK_CMD.disable_go
      on t = true →
        ((∃ id, some id ∈ t.portStreams p) → exec (.spkDisable p) s = .next (t.setScope ⟨.spk, p⟩ .draining)) ∧
        ((∀ id, some id ∉ t.portStreams p) → exec (.spkDisable p) s = .next (((t.setSpike p ⟨false, []⟩).setFld st
          Fld.COND.SPK_STATE.enabled 0).setScope ⟨.spk, p⟩ .off))) ∧
     (let t := cmd Fld.COND.SPK_CMD.commit_go
      (on t = true → exec (.spkCommit p) s = .next (t.setSpike p { t.spike p with commit := true })) ∧
      (on t = false → exec (.spkCommit p) s = .next (t.commitScope ⟨.spk, p⟩))) ∧
     (∀ id, (s.portStreams p).getD o none = some id → on s = true → (s.spikeRun p o).last = none →
       (s.spike p).commit = false → s.hiddenScope ⟨.spk, p⟩ ≠ .draining →
       let r := s.spikeRun p o
       let out := (s.filtered p o (s.stream id) r.start).take 8192
       let n := out.countP (·.2)
       let t := (s.setSpkLast p o n).count (Reg.COND.SPK_REPL_CNT p) n
       let lim := t.fld (Reg.COND.SPK_BURST p) Fld.COND.SPK_BURST.limit
       let nextBlock (u : State) : State := u.setSpike p { u.spike p with
         runs := (o.val, { r with
         start := r.start + 8192,
         last := none, thrs := (r.start + 8192, u.fld (Reg.COND.SPK_THR p) Fld.COND.SPK_THR.thr) :: r.thrs }) ::
         (u.spike p).runs.filter (fun e => e.1 ≠ o.val) }
       (out.length < 8192 → exec (.spikeBlockEnd p o) s = .next s) ∧
       (8192 ≤ out.length → lim = 0 ∨ n ≤ lim → (t.spike p).commit = false → t.hiddenScope ⟨.spk, p⟩ ≠ .draining →
         exec (.spikeBlockEnd p o) s = .next (nextBlock t)) ∧
       (8192 ≤ out.length → lim ≠ 0 → lim < n →
         let u := t.blkEvent 8 8 Ev.COND.SPIKE_BURST (p * 256 + o)
         (u.spike p).commit = false → u.hiddenScope ⟨.spk, p⟩ ≠ .draining →
           exec (.spikeBlockEnd p o) s = .next (nextBlock u)))) ∧
  (∀ (w k : Nat) (r : SpikeRun) (i : Nat) (before win : List Sample) (c : Sample),
     (i < r.first + w ∨ (∃ x ∈ before, x.marks.gap = true) ∨ (∃ x ∈ win, x.marks.gap = true) →
       (spikeOut w k r i before win c).2 = false ∧ (spikeOut w k r i before win c).1.i = c.i ∧
       (spikeOut w k r i before win c).1.q = c.q ∧
       (c.marks.gap = false → (spikeOut w k r i before win c).1.marks.unsettled = true)) ∧
     (r.first + w ≤ i → (∀ x ∈ before, x.marks.gap = false) → (∀ x ∈ win, x.marks.gap = false) →
       (spikeOut w k r i before win c).1.marks = c.marks ∧ (spikeOut w k r i before win c).1.tbs = c.tbs ∧
       (let a := rankValue k (win.map (·.i))
        let b := rankValue k (win.map (·.q))
        (spikeOut w k r i before win c).1.i = (if r.thr i < (c.i - a).natAbs then a else c.i) ∧
        (spikeOut w k r i before win c).1.q = (if r.thr i < (c.q - b).natAbs then b else c.q) ∧
        ((spikeOut w k r i before win c).2 = true ↔ r.thr i < (c.i - a).natAbs ∨ r.thr i < (c.q - b).natAbs))))

/-- The zoom channels. A refused enable or commit reports itself; a commit of a channel that is OFF takes effect at once, of
a running one at its next block boundary; disable drains; the block boundary, the end of a fade and the next output act as
their rules say. (From R234 to R255, of which this states what is written here and no more.) Where the rules leave something
open, this follows the model's choice: log entries 63, 65. -/
def Obligations.ZoomCommands : Prop :=
  ∀ (z : Fin 32) (s : State),
    let cmd (f : Bits) : State := s.setFld (Reg.COND.ZC_CMD z) f 0
    let st := Reg.COND.ZC_STATE z
    (let t := cmd Fld.COND.ZC_CMD.enable_go
     t.blockOn 8 = true → t.zoomState z = 0 →
       (t.zoomRefused z = true → exec (.zcEnable z) s = .next ((t.setSta (Reg.COND.ZC_STA z)
         Fld.COND.ZC_STA.CFG_REFUSED).blkEvent 8 14 Ev.COND.ZC_REFUSED z)) ∧
       (t.zoomRefused z = false → t.zoomMachine z = false →
         let inp := t.stream (t.zoomIn z)
         let a := t.setZoom z { Zoom.fresh with
           path := { ZoomPath.fresh with taken := inp.delivered, num := t.bucketPeriod },
           period := inp.period }
         let b := (a.setZoom z { a.zoom z with path := { (a.zoom z).path with num := a.zoomStep z } }).zoomReport z
         let c := b.setZoom z { b.zoom z with unsettled := b.zoomSettle z }
         let d := (c.setStream (c.zoomOut z) { Stream.vacant with
           source := some (.zoom z), cplx := true,
           period := c.zoomD28 z * inp.period / 2 ^ 28 }).setReg (Reg.COND.TH_STATE z) 0
         exec (.zcEnable z) s = .next (d.setReg st (putField Fld.COND.ZC_STATE.unsettled 1 (putField Fld.COND.ZC_STATE.state 1
           (d.reg st)))))) ∧
    (let t := cmd Fld.COND.ZC_CMD.disable_go
     (t.zoomState z ≠ 0 → exec (.zcDisable z) s = .next (t.setFld st Fld.COND.ZC_STATE.state 3)) ∧
     (t.zoomState z = 0 → exec (.zcDisable z) s = .next t)) ∧
    (let t := cmd Fld.COND.ZC_CMD.commit_go
     (t.coefOk z = false → exec (.zcCommit z) s = .next ((t.setSta (Reg.COND.ZC_STA z) Fld.COND.ZC_STA.COEF_REFUSED).blkEvent
       8 10 Ev.COND.COEF_REFUSED z)) ∧
     (t.coefOk z = true → t.ratioOk z = false → exec (.zcCommit z) s = .next (t.rsRange z)) ∧
     (t.coefOk z = true → t.ratioOk z = true →
       (t.zoomState z = 0 → exec (.zcCommit z) s = .next (t.commitScope ⟨.zoom, z⟩)) ∧
       (t.zoomState z ≠ 0 → exec (.zcCommit z) s = .next (t.setZoom z { t.zoom z with commit := true })))) ∧
    ((s.zoom z).outs = 256 →
      (s.zoomState z = 3 → exec (.zoomBlockBoundary z) s = .next (s.zoomOff z)) ∧
      (s.zoomState z = 1 → let t := s.setZoom z { s.zoom z with outs := 0, satSeen := false }
        (t.zoom z).commit = false → (t.zoom z).path.bNext = none → exec (.zoomBlockBoundary z) s = .next t) ∧
      (s.zoomState z = 1 → let t := s.setZoom z { s.zoom z with outs := 0, satSeen := false }
        (t.zoom z).commit = true → t.zoomState z ≠ 2 → ((t.zoomApply z).zoom z).path.bNext = none →
          exec (.zoomBlockBoundary z) s = .next (t.zoomApply z))) ∧
    (∀ n, (s.zoom z).fade = some n → s.zoomF z ≤ n →
      let t := s.setZoom z { s.zoom z with fade := none, oldTaps := [] }
      (t.zoomState z = 2 → exec (.fadeEnd z) s = .next (t.setFld st Fld.COND.ZC_STATE.state 1)) ∧
      (t.zoomState z ≠ 2 → exec (.fadeEnd z) s = .next t)) ∧
    (s.zoomState z ≠ 0 → s.running .dram = true → s.fadeDone z = false → (s.zoom z).outs ≠ 256 →
      exec (.zoomOutput z) s = .next (s.zoomOutput z)) ∧
    (s.zoomState z = 0 ∨ s.running .dram = false → exec (.zoomOutput z) s = .next s)

/-! ## Transforms (ch. 09) -/

/-- The transform pairs and the window slots. A refused enable or commit sets REFUSED with its reason and raises XF_REFUSED;
an accepted enable starts at the next tile boundary, or waits for its alignment instant; a commit takes effect at the next
frame boundary, at once while the pair is OFF; disable drains. A window slot whose entries are all 0 is refused; one that an
enabled pair selects is not disabled. (From R261, R265, R273, R274, R282 to R284, of which this states what is written here
and no more.) Where the rules leave something open, this follows the model's choice: log entries 69, 70. -/
def Obligations.TransformCommands : Prop :=
  ∀ (i : Fin 128) (w : Fin 8) (s : State),
    let cmd (f : Bits) : State := s.setFld (Reg.XFORM.XF_CMD i) f 0
    let st := Reg.XFORM.XF_STATE i
    let refused (t : State) : Host.Outcome State Fault Refusal := .next (((t.setFld (Reg.XFORM.XF_REFUSE i)
      Fld.XFORM.XF_REFUSE.reason (t.pairRefusal i)).setSta (Reg.XFORM.XF_STA i) Fld.XFORM.XF_STA.REFUSED).blkEvent 9 8
      Ev.XFORM.XF_REFUSED (i + t.pairRefusal i * 256))
    (let t := cmd Fld.XFORM.XF_CMD.enable_go
     t.blockOn 9 = true → t.pairState i = 0 →
       (t.pairRefusal i ≠ 0 → exec (.xfEnable i) s = refused t) ∧
       (t.pairRefusal i = 0 →
         let c := t.pairCfg i
         let align := t.reg64 (Reg.XFORM.XF_ALIGN_LO i) (Reg.XFORM.XF_ALIGN_HI i)
         let en := t.flag (Reg.XFORM.XF_CFG i) Fld.XFORM.XF_CFG.align_en
         let a := ((t.setPair i { PairRun.fresh with
           n0 := some (t.nextAtTile c.stream), period := (t.stream c.stream).period
           }).pairReport i).setFld st Fld.XFORM.XF_STATE.avg_unsettled (if c.mode = 1 then 1 else 0)
         let starts (v : Nat) : State := (a.setFld st Fld.XFORM.XF_STATE.state v).setReg (Reg.XFORM.XF_SG_WPTR i) 0
         (en = false → exec (.xfEnable i) s = .next (starts 2)) ∧
         (en = true → t.time.tbs.toNat < align → exec (.xfEnable i) s = .next (starts 1)) ∧
         (en = true → align ≤ t.time.tbs.toNat → exec (.xfEnable i) s = .next (((starts 2).setSta (Reg.XFORM.XF_STA i)
           Fld.XFORM.XF_STA.ALIGN_LATE).blkEvent 9 11 Ev.XFORM.ALIGN_LATE i)))) ∧
    (s.pairState i = 1 →
      let st := s.stream (s.pairCfg i).stream
      let a := (s.pair i).n0.getD 0
      ∀ d, (st.hist.drop (a - st.first)).findIdx? (fun x =>
          decide (s.reg64 (Reg.XFORM.XF_ALIGN_LO i) (Reg.XFORM.XF_ALIGN_HI i) ≤ x.tbs)) = some d →
        exec (.alignStart i) s = .next ((s.setPair i { s.pair i with n0 := some (max a st.first + d) }).setFld
          (Reg.XFORM.XF_STATE i) Fld.XFORM.XF_STATE.state 2)) ∧
    (s.pairState i ≠ 1 → exec (.alignStart i) s = .next s) ∧
    (let t := cmd Fld.XFORM.XF_CMD.commit_go
     (t.pairRefusal i ≠ 0 → exec (.xfCommit i) s = refused t) ∧
     (t.pairRefusal i = 0 → t.pairState i = 0 → exec (.xfCommit i) s = .next (t.commitScope ⟨.pair, i⟩)) ∧
     (t.pairRefusal i = 0 → t.pairState i ≠ 0 → exec (.xfCommit i) s =
       .next (t.setPair i { t.pair i with commitAt := some (t.framesStarted i) }))) ∧
    (let t := cmd Fld.XFORM.XF_CMD.hold_reset_go
     (t.pairState i ≠ 0 → exec (.xfHoldReset i) s = .next (t.setPair i { t.pair i with resetAt := some (t.framesStarted i) })) ∧
     (t.pairState i = 0 → exec (.xfHoldReset i) s = .next t)) ∧
    (let t := cmd Fld.XFORM.XF_CMD.disable_go
     (t.pairState i ≠ 0 → t.pairState i ≠ 3 →
       let d := ((t.setPair i { t.pair i with stop := some (t.framesStarted i) }).setFld st Fld.XFORM.XF_STATE.state 3).drainPair i
       exec (.xfDisable i) s = .next ((d.2.deliverFrames i (t.pairCfg i) d.1).stopPlanes i))) ∧
    (s.pairState i = 2 ∨ s.pairState i = 3 → (s.pairCfg i).size ≤
        (s.inputs (s.pairCfg i).stream true ((s.pair i).n0.getD 0 + (s.pair i).m * (s.pairCfg i).hop)).length →
      exec (.transformFrame i) s =
        .next (((s.nextFrame i).2.deliverFrames i ((s.nextFrame i).2.pairCfg i) (s.nextFrame i).1).stopPlanes i)) ∧
    (let t := s.setFld (Reg.XFORM.WIN_CMD w) Fld.XFORM.WIN_CMD.enable_go 0
     let n := t.slotSize w
     let e := (List.range (n / 2 + 1)).map (t.windowEntry w)
     t.blockOn 9 = true → t.slotOn w = false →
       ((∀ x ∈ e, x = 0) → exec (.winEnable w) s = .next (t.blkEvent 9 9 Ev.XFORM.WIN_REFUSED w)) ∧
       ((∃ x ∈ e, x ≠ 0) →
         let g := windowGain (windowTable 6 0 (t.windowEntry w) n)
         exec (.winEnable w) s = .next ((((t.setFld (Reg.XFORM.WIN_CG w) Fld.XFORM.WIN_CG.cg g.1).setFld (Reg.XFORM.WIN_ENBW w)
           Fld.XFORM.WIN_ENBW.enbw g.2).setReg (Reg.XFORM.WIN_CRC w) (crc32c (e.flatMap (leBytes 4)))).setFld
           (Reg.XFORM.WIN_STATE w) Fld.XFORM.WIN_STATE.enabled 1))) ∧
    (let t := s.setFld (Reg.XFORM.WIN_CMD w) Fld.XFORM.WIN_CMD.disable_go 0
     (t.slotUsers w = 0 → exec (.winDisable w) s = .next (t.setFld (Reg.XFORM.WIN_STATE w) Fld.XFORM.WIN_STATE.enabled 0)) ∧
     (t.slotUsers w ≠ 0 → exec (.winDisable w) s = .next (t.busyDrop 9 (t.issuer (Reg.XFORM.WIN_CMD w)))))

/-! ## Triggers (ch. 10) -/

/-- Masks, machine-event comparators, timers, software sources and trigger outputs. (From R295, R299 to R302, R316, R324,
R325, of which this states what is written here and no more.) Where the rules leave something open, this follows the model's
choice: log entry 72. -/
def Obligations.TriggerSources : Prop :=
  ∀ (m : Fin 16) (c : Fin 8) (o : Fin 4) (s : State),
    (let mask (f : Bits) : State := s.setFld (Reg.TRIG.MASK_CMD m) f 0
     let st := Reg.TRIG.MASK_STATE m
     let refused (t : State) (r : Nat) : Host.Outcome State Fault Refusal := .next (((t.setFld st Fld.TRIG.MASK_STATE.reason
       r).setSta (Reg.TRIG.MASK_STA m) Fld.TRIG.MASK_STA.REFUSED).blkEvent 10 11 Ev.TRIG.MASK_REFUSED (m + r * 256))
     (let t := mask Fld.TRIG.MASK_CMD.enable_go
      let r := t.maskRefusal m (t.reg (Reg.TRIG.MASK_CTL m))
      t.blockOn 10 = true → t.maskOn m = false →
        (r ≠ 0 → exec (.maskEnable m) s = refused t r) ∧
        (r = 0 → exec (.maskEnable m) s = .next ((t.setMask m { t.mask m with win := [], commit := false }).setFld st
          Fld.TRIG.MASK_STATE.enabled 1))) ∧
     (let t := mask Fld.TRIG.MASK_CMD.disable_go
      (t.maskOn m = true → exec (.maskDisable m) s = .next ((t.setMask m ⟨[], false, t.flag st
        Fld.TRIG.MASK_STATE.active⟩).setFld st Fld.TRIG.MASK_STATE.enabled 0)) ∧
      (t.maskOn m = false → exec (.maskDisable m) s = .next t)) ∧
     (let t := mask Fld.TRIG.MASK_CMD.commit_go
      let r := t.maskRefusal m (t.stagedReg (Reg.TRIG.MASK_CTL m))
      (r ≠ 0 → exec (.maskCommit m) s = refused t r) ∧
      (r = 0 → t.maskOn m = true → exec (.maskCommit m) s = .next (t.setMask m { t.mask m with commit := true })) ∧
      (r = 0 → t.maskOn m = false → exec (.maskCommit m) s = .next ((t.commitScope ⟨.mask, m⟩).maskChange m)))) ∧
    (let cmd (n : Nat) : State := s.setFld (Reg.TRIG.MEC_CMD c) ⟨n, n⟩ 0
     ((cmd 0).blockOn 10 = true → (cmd 0).hiddenScope ⟨.mec, c⟩ = .off →
       exec (.mecEnable c) s = .next (((cmd 0).setMec c ⟨none, none⟩).setScope ⟨.mec, c⟩ .run)) ∧
     exec (.mecDisable c) s = .next (((cmd 1).setMec c ⟨none, none⟩).setScope ⟨.mec, c⟩ .off) ∧
     ((cmd 2).hiddenScope ⟨.mec, c⟩ = .off → exec (.mecCommit c) s = .next ((cmd 2).commitScope ⟨.mec, c⟩)) ∧
     ((cmd 2).hiddenScope ⟨.mec, c⟩ ≠ .off → exec (.mecCommit c) s =
       .next ((cmd 2).setMec c { (cmd 2).mec c with commit := some (cmd 2).time.turn.toNat })) ∧
     (∀ (turn : BitVec 48) (tbs : DWord), (s.mec c).commit = none →
       let bucket := s.fld (Reg.TRIG.MEC_BUCKET c) Fld.TRIG.MEC_BUCKET.bucket
       let per := (s.reg (Reg.TRIG.MEC_PERIOD c)).toNat
       let due := per = 0 ∨ turn.toNat % per = (s.reg (Reg.TRIG.MEC_PHASE c)).toNat
       (s.hiddenScope ⟨.mec, c⟩ = .run → s.running .mach = true → (s.mec c).last ≠ some turn.toNat → due →
         turn.toNat * 65536 + bucket ≤ s.time.turn.toNat * 65536 + s.time.bucket.toNat →
         let t := (s.setMec c { s.mec c with last := some turn.toNat }).count (Reg.TRIG.MEC_CNT c) 1
         exec (.mecMatch c turn tbs) s = .next (t.activate (56 + c) (t.matchInstant tbs.toNat) true
           (256 * t.fld Reg.TIME.TIME_STATE Fld.TIME.TIME_STATE.tbm_holdover))) ∧
       (s.hiddenScope ⟨.mec, c⟩ ≠ .run ∨ s.running .mach = false ∨ (s.mec c).last = some turn.toNat ∨ ¬ due →
         exec (.mecMatch c turn tbs) s = .next s))) ∧
    (let cmd (n : Nat) : State := s.setFld (Reg.TRIG.TMR_CMD c) ⟨n, n⟩ 0
     let per := (cmd 0).timerPer c
     let late := (cmd 0).stampTbs - (cmd 0).timerStart c
     ((cmd 0).blockOn 10 = true → (cmd 0).hiddenScope ⟨.timer, c⟩ = .off →
       (per = 0 → exec (.tmrEnable c) s = .next (((cmd 0).setTimer c ⟨if late = 0 then 0 else 1, 0⟩).setScope ⟨.timer, c⟩ .run)) ∧
       (16384 ≤ per → exec (.tmrEnable c) s =
         .next (((cmd 0).setTimer c ⟨(late + per - 1) / per, 0⟩).setScope ⟨.timer, c⟩ .run)) ∧
       (0 < per → per < 16384 → exec (.tmrEnable c) s = .next (cmd 0))) ∧
     exec (.tmrDisable c) s = .next ((cmd 1).setScope ⟨.timer, c⟩ .off) ∧
     (∀ x, s.timerNext c = some x →
       (x ≤ s.stampTbs → exec (.timerFire c) s = .next (((s.setTimer c ⟨(s.timer c).next + 1, (s.timer c).fired + 1⟩).count
         (Reg.TRIG.TMR_FIRED c) 1).activate (80 + c) x true 0)) ∧
       (s.stampTbs < x → exec (.timerFire c) s = .next s))) ∧
    (let w := s.fld Reg.TRIG.SW_FIRE Fld.TRIG.SW_FIRE.fire
     exec .swFire s = .next ((List.range 8).foldl (fun t n => if w.testBit n then t.swFire n else t)
       (s.setFld Reg.TRIG.SW_FIRE Fld.TRIG.SW_FIRE.fire 0))) ∧
    (∀ n, (s.source (88 + n)).items.getLast?.map (·.time) ≠ some s.stampTbs →
      s.swFire n = s.setSource (88 + n) { s.source (88 + n) with items := (s.source (88 + n)).items ++ [⟨s.stampTbs, true, 0⟩] }) ∧
    (let t := s.setFld (Reg.TRIG.OUT_CMD o) ⟨0, 0⟩ 0
     t.blockOn 10 = true → exec (.trigOutEnable o) s = .next (t.setScope ⟨.trigOut, o⟩ .run)) ∧
    (let t := s.setFld (Reg.TRIG.OUT_CMD o) ⟨1, 1⟩ 0
     (t.outHigh o = false → exec (.trigOutDisable o) s = .next (t.setScope ⟨.trigOut, o⟩ .off)) ∧
     (t.outHigh o = true → exec (.trigOutDisable o) s = .next ((t.driveOut o false).setScope ⟨.trigOut, o⟩ .off))) ∧
    (s.outHigh o = true → exec (.trigOutPulseEnd o) s = .next ((s.setOutHigh o false).emit
      (.trigOut o (Bool.xor false ((s.setOutHigh o false).flag (Reg.TRIG.OUT_CFG o) Fld.TRIG.OUT_CFG.invert))))) ∧
    (s.outHigh o = false → exec (.trigOutPulseEnd o) s = .next s)

/-- The sequencers. An arming that the checks refuse says why; an armed sequencer fires the first arc that is ready; a
deadline passes once every source has reported past its step; a tadpole commits in order, its number the template's next; one
still undecided at its limit rolls back. (From R303 to R308, R312 to R314, R342, of which this states what is written here
and no more.) Where the rules leave something open, this follows the model's choice: log entries 75, 76, 77, 78, 79. -/
def Obligations.Sequencers : Prop :=
  ∀ (q : Fin 16) (s : State),
    let cmd (f : Bits) : State := s.setFld (Reg.TRIG.SEQ_CMD q) f 0
    let st := Reg.TRIG.SEQ_STATE q
    let id : ScopeId := ⟨.seq, q⟩
    (let t := cmd Fld.TRIG.SEQ_CMD.enable_go
     t.blockOn 10 = true → t.hiddenScope id = .off → ((t.tplSecs (t.seqTpl q)).any (fun c => decide (c.type = 3))) = false →
       exec (.seqEnable q) s = .next (t.setScope id .run)) ∧
    (let t := cmd Fld.TRIG.SEQ_CMD.arm_go
     t.hiddenScope id = .run →
       (t.seqRefusal t.reg q ≠ 0 → exec (.seqArm q) s = .next (t.seqRefused q (t.seqRefusal t.reg q))) ∧
       (t.seqRefusal t.reg q = 0 → exec (.seqArm q) s = .next (((t.setSeqr q { t.seqr q with
         armAt := t.stampTbs,
         entry := t.stampTbs, reached := (t.stampTbs, 0), early := false }).setFld st Fld.TRIG.SEQ_STATE.armed 1).setFld st
         Fld.TRIG.SEQ_STATE.state 0))) ∧
    (exec (.seqDisarm q) s = .next (((((cmd Fld.TRIG.SEQ_CMD.disarm_go).rollbackWhere q 4 (fun t => t.passed.isNone)).setFld st
      Fld.TRIG.SEQ_STATE.armed 0)).setFld st Fld.TRIG.SEQ_STATE.state 0)) ∧
    (let t := cmd Fld.TRIG.SEQ_CMD.disable_go
     (t.hiddenScope id ≠ .off → exec (.seqDisable q) s = .next (((t.seqDisarm q).setScope id .draining).seqDrained q)) ∧
     (t.hiddenScope id = .off → exec (.seqDisable q) s = .next t)) ∧
    (let t := cmd Fld.TRIG.SEQ_CMD.commit_go
     (t.seqRefusal t.stagedReg q ≠ 0 → exec (.seqCommit q) s = .next (t.seqRefused q (t.seqRefusal t.stagedReg q))) ∧
     (t.seqRefusal t.stagedReg q = 0 →
       (t.hiddenScope id = .off → exec (.seqCommit q) s = .next (((t.commitScope id).setFld st
         Fld.TRIG.SEQ_STATE.stage_wait 0).setSta (Reg.TRIG.SEQ_STA q) Fld.TRIG.SEQ_STA.COMMITTED)) ∧
       (t.hiddenScope id ≠ .off → exec (.seqCommit q) s = .next (t.setFld st Fld.TRIG.SEQ_STATE.stage_wait 1)))) ∧
    (let due := s.flag st Fld.TRIG.SEQ_STATE.stage_wait = true ∧ s.seqState q = 0 ∧
       ∀ t ∈ (s.seqr q).tadpoles, t.passed.isSome = true
     (due → exec (.seqCommitApply q) s = .next (((s.commitScope id).setFld st Fld.TRIG.SEQ_STATE.stage_wait 0).setSta
       (Reg.TRIG.SEQ_STA q) Fld.TRIG.SEQ_STA.COMMITTED)) ∧
     (¬ due → exec (.seqCommitApply q) s = .next s)) ∧
    (s.armed q = true → ∀ e, s.arcReady q = some e → exec (.arcA q) s = .next (s.fireArc q e.time e.rank e.source 1 e.marks
      (actsOf (s.stCtl q Fld.TRIG.ST_CTRL.act_a)) (s.stCtl q Fld.TRIG.ST_CTRL.next_a))) ∧
    (s.armed q = false ∨ s.arcReady q = none → exec (.arcA q) s = .next s) ∧
    (∀ d, s.arcDeadline q = some d → s.armed q = true → (stepOf d + 1) * sampUnits ≤ s.seqMark q → s.arcReady q = none →
      ∃ src, src < 128 ∧ exec (.arcT q) s = .next (s.draw.2.fireArc q d 128 src 2 0
        (actsOf (s.draw.2.stCtl q Fld.TRIG.ST_CTRL.act_t)) (s.draw.2.stCtl q Fld.TRIG.ST_CTRL.next_t))) ∧
    (∀ t rest, (s.seqr q).tadpoles = t :: rest →
      (s.overrun t = true → exec (.tadpoleCommit q) s = .next ((s.rollback q t.uid 3).seqDrained q)) ∧
      (s.overrun t = false → s.canCommit t = false → exec (.tadpoleCommit q) s = .next s) ∧
      (s.overrun t = false → s.canCommit t = true →
        let lo := Reg.REC.REC_SEQ_LO t.tpl
        let num := s.reg64 lo (lo + 4)
        let x : PendingRecord := ⟨t, q, num, stepOf s.stampTbs,
          (s.streamPort ((s.tplStreams t.tpl).headD (0, 0, 0)).1).getD 8, s.tplHandle t.tpl⟩
        let u := s.setReg64 lo (lo + 4) (num + 1)
        let v : State := { u with records := insertRecord x u.records }
        exec (.tadpoleCommit q) s = .next ((((v.setSeqr q { v.seqr q with tadpoles := rest }).count (Reg.TRIG.TP_COMMIT_CNT q)
          1).seqDrained q).tplDrained t.tpl))) ∧
    (∀ t, (s.seqr q).tadpoles.find? (fun t => t.passed.isNone) = some t → s.armed q = false →
      (stepOf (t.cand + (s.reg (Reg.TRIG.SEQ_QLIM q)).toNat * sampUnits) + 1) * sampUnits ≤ s.seqMark q →
        exec (.qualLimit q) s = .next ((s.rollback q t.uid 2).tplDrained t.tpl)) ∧
    ((∀ t ∈ (s.seqr q).tadpoles, t.passed.isSome = true) → exec (.qualLimit q) s = .next s)

/-- The sync bus. A pending pulse is driven for one cycle; a pulse of one cycle is a trigger of the line, one of four on the
epoch line an epoch, any other a glitch; the master's epoch drives four cycles; a phase measurement is taken unless it
departs by more than 100 ps from the mean of those held. (From R317 to R320, of which this states what is written here and no
more.) Where the rules leave something open, this follows the model's choice: log entries 73, 74. -/
def Obligations.SyncBus : Prop :=
  ∀ (line : Fin 8) (cycle : BitVec 48) (len : Nat) (s : State),
    (s.line line = 1 → s.busReady = true → s.trg.epoch = false ∨ line.val ≠ s.epochLine →
      exec (.syncTrgDrive line) s = .next ((s.setLine line 2).emit (.syncLine line 1))) ∧
    (s.line line ≠ 1 → exec (.syncTrgDrive line) s = .next s) ∧
    (s.blockOn 19 = true →
      let t := if s.line line = 2 then s.setLine line 0 else s
      (len = 4 → line.val = s.epochLine → exec (.syncPulse line cycle len) s = .next (s.busEpoch line cycle.toNat)) ∧
      (len = 1 → s.busReady = true → exec (.syncPulse line cycle len) s =
        .next (t.activate (72 + line) (t.busToTbs (cycle.toNat * 65536)) true 0)) ∧
      (len = 1 → s.busReady = false → exec (.syncPulse line cycle len) s = .next t) ∧
      (1 < len → ¬ (len = 4 ∧ line.val = s.epochLine) → exec (.syncPulse line cycle len) s =
        .next ((t.count Reg.SYNC.SYNC_GLITCH_CNT 1).blkEvent 19 10 Ev.SYNC.SYNC_GLITCH 0))) ∧
    (let t := s.setFld Reg.SYNC.SYNC_CMD Fld.SYNC.SYNC_CMD.epoch_go 0
     (t.flag Reg.SYNC.SYNC_CFG Fld.SYNC.SYNC_CFG.master = true → t.blockOn 19 = true → t.trg.epoch = false → exec .epochGo s =
       .next (({ t with trg := { t.trg with epoch := true } } : State).emit (.syncLine t.epochLine 4))) ∧
     (t.flag Reg.SYNC.SYNC_CFG Fld.SYNC.SYNC_CFG.master = false → exec .epochGo s = .next t)) ∧
    (∀ tf tr : DWord, s.blockOn 19 = true →
      let d := (tr - tf).toInt
      let l := s.trg.halves
      let far := l ≠ [] ∧ 786432 * l.length < (d * l.length - l.sum).natAbs * 1000
      (far → s.trg.rejects + 1 = 16 → exec (.syncPhaseMeasure tf tr) s =
        .next (({ s with trg := { s.trg with halves := [], rejects := 0 } } : State).blkEvent 19 11 Ev.SYNC.BUS_PHASE_STEP 0)) ∧
      (far → s.trg.rejects + 1 ≠ 16 → exec (.syncPhaseMeasure tf tr) s =
        .next { s with trg := { s.trg with rejects := s.trg.rejects + 1 } }) ∧
      (¬ far → ∃ t, exec (.syncPhaseMeasure tf tr) s = .next t ∧ t.trg.rejects = 0 ∧
        t.trg.halves = (l ++ [d]).drop (l.length + 1 - 16))) ∧
    (s.flag Reg.SYNC.SYNC_STATE Fld.SYNC.SYNC_STATE.phase_valid = true → exec .busPhaseLost s =
      .next ((s.setFld Reg.SYNC.SYNC_STATE Fld.SYNC.SYNC_STATE.phase_valid 0).blkEvent 19 9 Ev.SYNC.BUS_PHASE_LOST 0))

/-! ## Records (ch. 11) -/

/-- The next raw cell of a stream takes its 37 oldest values, with the marks of all of them, to the stream's ring; RAW_WCELL
counts it; nothing is written while the stream has fewer values or no ring. Templates, the assembly of the oldest record, and
throttling. (From R330, R331, R335; R336, R341 to R343, R348, R349, R356, of which this states what is written here and no
more.) Where the rules leave something open, this follows the model's choice: log entries 83, 86, 87, 88. -/
def Obligations.RawCellsAndRecords : Prop :=
  (∀ (stream : BitVec 8) (s : State),
     let id := stream.toNat
     let st := s.stream id
     let w := if st.cplx then 2 else 1
     let c := s.reg64 (Reg.REC.RAW_WCELL_LO id) (Reg.REC.RAW_WCELL_HI id)
     let a := 37 * c / w
     let n := (37 * c + 36) / w + 1 - a
     let outs := (s.inputs id true a).take n
     (st.values.length < 37 ∨ s.rawLen id = 0 ∨ s.running .dram = false ∨ outs.length < n → exec (.rawCellWrite stream) s = .next s) ∧
     (37 ≤ st.values.length → s.rawLen id ≠ 0 → s.running .dram = true → n ≤ outs.length →
       let vs := st.values.take 37
       let m := vs.foldl (fun m e => m.or e.2) Marks.none
       let m : Marks := { m with unsettled := m.unsettled || outs.any (fun x => x.marks.unsettled) }
       let t := ((s.inkStore 0 (s.rawAddr id c) (cellOf (vs.map (·.1)) m)).setStream id { st with
         values := st.values.drop 37
         }).setReg64 (Reg.REC.RAW_WCELL_LO id) (Reg.REC.RAW_WCELL_HI id) (c + 1)
       exec (.rawCellWrite stream) s = .next (((List.range n).filter (fun i => decide (37 * c ≤ (a + i) * w))).foldl (fun u i =>
         match st.hist[a + i - st.first]? with
         | some x => u.indexEntry id (a + i) x
         | none => u) t))) ∧
  (∀ (t : Fin 64) (f : FlowId) (errs : List InkErr) (s : State),
     let cmd (b : Bits) : State := s.setFld (Reg.REC.TPL_CMD t) b 0
     let st := Reg.REC.TPL_STATE t
     (let u := cmd Fld.REC.TPL_CMD.enable_go
      let r := u.tplRefusal t
      u.blockOn 11 = true → u.tplState t = 0 →
        (r ≠ 0 → exec (.tplEnable t) s = .next (((u.setFld st Fld.REC.TPL_STATE.reason r).setSta (Reg.REC.TPL_STA t)
          Fld.REC.TPL_STA.REFUSED).blkEvent 11 8 Ev.REC.TPL_REFUSED (t + r * 256))) ∧
        (r = 0 → exec (.tplEnable t) s = .next ((u.setReg (Reg.REC.TPL_MAXLEN t) (BitVec.ofNat 32 (u.tplMost t))).setFld st
          Fld.REC.TPL_STATE.state 1))) ∧
     (let u := cmd Fld.REC.TPL_CMD.disable_go
      (u.tplState t ≠ 0 → exec (.tplDisable t) s = .next ((u.setFld st Fld.REC.TPL_STATE.state 3).tplDrained t)) ∧
      (u.tplState t = 0 → exec (.tplDisable t) s = .next u)) ∧
     (let u := cmd Fld.REC.TPL_CMD.restart_go
      (u.flow (.template t)).stopped = true →
        let v := u.setFlow (.template t) { u.flow (.template t) with stopped := false }
        (v.fld st Fld.REC.TPL_STATE.state = 2 → exec (.tplRestart t) s = .next (v.setFld st Fld.REC.TPL_STATE.state 1)) ∧
        (v.fld st Fld.REC.TPL_STATE.state ≠ 2 → exec (.tplRestart t) s = .next v)) ∧
     (s.records = [] → exec (.recordAssembly errs) s = .next s) ∧
     (∀ x rest, s.records = x :: rest →
       (s.recordReady x.tad = false → exec (.recordAssembly errs) s = .next s) ∧
       (s.recordReady x.tad = true → x.tad.tpl = t.val →
         let r := (s.tplSecs t).foldl (fun (e : List Section × State) c => (e.1 ++ [(e.2.section_ errs x.tad c).1],
           (e.2.section_ errs x.tad c).2)) ([], { s with records := rest })
         (r.1.map (·.poison)).sum = 0 → r.2.tplDisk t = none → ∃ q : Nat,
           let item : FlowItem := ⟨0, 1, x.num, ((s.tplStreams t).headD (0, 0, 0)).1, x.tad.cand, x.tad.tbw, [], false, false⟩
           let p := r.2.flowPush (.template t) x.num item (recordBytes ((s.tplStreams t).headD (0, 0, 0)).1 x q r.1)
           (x.tad.passed.getD x.tad.cand - x.tad.cand) < (q + 1) * sampUnits ∧
           q * sampUnits < (x.tad.passed.getD x.tad.cand - x.tad.cand) + sampUnits ∧
           exec (.recordAssembly errs) s = .next ((if p.1 then p.2.count (Reg.REC.REC_OUT_CNT t) 1 else p.2).releaseHeld
             x.tad.held (if p.1 then none else some x.num)))) ∧
     (let u := (s.sinkFill (s.flowSink f)).1
      let c := (s.sinkFill (s.flowSink f)).2
      let j := (s.flow f).j
      (s.flowThrottles f = true → 3 * c ≤ 4 * u → j < 15 → exec (.throttleDouble f) s = .next (s.setThrottle f (j + 1))) ∧
      (s.flowThrottles f = false ∨ 4 * u < 3 * c ∨ 15 ≤ j → exec (.throttleDouble f) s = .next s) ∧
      (s.flowThrottles f = true → 4 * u < c → j ≠ 0 → exec (.throttleHalve f) s = .next (s.setThrottle f (j - 1))) ∧
      (s.flowThrottles f = false ∨ c ≤ 4 * u ∨ j = 0 → exec (.throttleHalve f) s = .next s)))

/-- Look-back jobs. A refused submission says why; an accepted one runs; its completion writes the outputs that the ring
still held, a cancellation the first of them; a job that does not run completes and cancels nothing. (From R351 to R354, of
which this states what is written here and no more.) Where the rules leave something open, this follows the model's choice:
log entry 89. -/
def Obligations.LookBackJobs : Prop :=
  ∀ (j : Fin 8) (errs : List InkErr) (s : State),
    let cmd (f : Bits) : State := s.setFld (Reg.REC.LB_CMD j) f 0
    let st := Reg.REC.LB_STATE j
    (let t := cmd Fld.REC.LB_CMD.submit_go
     t.blockOn 11 = true → t.lbState j ≠ 1 →
       let u := (t.setJob j ⟨t.bucketPeriod⟩).draw.2
       let started := (u.setFld st Fld.REC.LB_STATE.state 1).setFld st Fld.REC.LB_STATE.slots
         ((u.setFld st Fld.REC.LB_STATE.state 1).slotsOf j)
       1 ≤ u.jobRate j → u.jobRate j ≤ 15360 →
         (u.jobRefusal j ≠ 0 → exec (.lbSubmit j) s = .next ((((u.setFld st Fld.REC.LB_STATE.reason (u.jobRefusal j)).setFld st
           Fld.REC.LB_STATE.state 3).setSta (Reg.REC.LB_STA j) Fld.REC.LB_STA.REFUSED).blkEvent 11 11 Ev.REC.LB_REFUSED
           (j + u.jobRefusal j * 256))) ∧
         (u.jobRefusal j = 0 → exec (.lbSubmit j) s = .next ((((started.setReg (Reg.REC.LB_BOUND j)
           (BitVec.ofNat 32 (started.jobBound j))).setReg (Reg.REC.LB_WRITTEN j) 0).setReg (Reg.REC.LB_FRAMES j) 0).reportBudget))) ∧
    (s.lbState j = 1 →
      let r := s.jobOutputs j errs
      exec (.lbDone j errs) s = .next ((((r.2.2.jobWrite j r.1).jobEnd j 2 r.2.1).setSta (Reg.REC.LB_STA j)
        Fld.REC.LB_STA.DONE).blkEvent 11 12 Ev.REC.LB_DONE j)) ∧
    (s.lbState j ≠ 1 → exec (.lbDone j errs) s = .next s) ∧
    (let t := cmd Fld.REC.LB_CMD.cancel_go
     (t.lbState j = 1 →
       let r := t.draw.2.jobOutputs j []
       ∃ k, k ≤ r.1.length ∧ exec (.lbCancel j) s = .next (((r.2.2.jobWrite j (r.1.take k)).jobEnd j 4 r.2.1).setSta
         (Reg.REC.LB_STA j) Fld.REC.LB_STA.CANCELLED)) ∧
     (t.lbState j ≠ 1 → exec (.lbCancel j) s = .next t))

/-! ## Brush (ch. 12) -/

/-- The scalar, branch and control instructions of a core that issues, on a word whose unused fields are 0. (From R366, R369,
of which this states what is written here and no more.) Where the rules leave something open, this follows the model's
choice: log entries 91, 95. -/
def Obligations.BrushScalars : Prop :=
  ∀ (c : Fin 40) (w : BrushWord) (j : BrushJob) (s : State), s.brushReady c j w →
    let k := s.core c
    let takes (k' : BrushCore) : Host.Outcome State Fault Refusal := .next (s.brushTakes c j (k', 0))
    let legal (d a b : Nat) (mask aux imm : Bool) : Prop := w.legal ⟨d, a, b, mask, false, aux, imm⟩ = true
    let x := k.scalar w.a.toNat
    let y := k.scalar w.b.toNat
    let d (v : Word) : Host.Outcome State Fault Refusal := takes (k.setScalar w.d.toNat v)
    let fault (n : Nat) : Host.Outcome State Fault Refusal := .next (s.brushFault c n)
    let at_ := (x.toNat + w.imm.toNat) % 2 ^ 32
    let retired := s.tadCount64 j (Reg.BRUSH.CORE_ICNT_LO c) 1
    let goes (pc : Nat) : Host.Outcome State Fault Refusal := .next (retired.setCorePc c pc)
    let pc := s.corePc c
    let branch (taken : Prop) (i : Instr) : Prop :=
      (¬ taken → exec i s = goes (pc + 8)) ∧
      (taken → ∀ t : Nat, (t : Int) = pc + 8 * w.imm.toInt → t < s.codeLen j.kernel → exec i s = goes t) ∧
      (taken → (pc : Int) + 8 * w.imm.toInt < 0 ∨ (s.codeLen j.kernel : Int) ≤ pc + 8 * w.imm.toInt → exec i s = fault 3)
    (legal 0 0 0 false false false → exec (.brNop c w) s = takes k) ∧
    (legal 4 4 4 false false false →
      exec (.brSadd c w) s = d (BitVec.ofNat 32 (x.toNat + y.toNat)) ∧
      exec (.brSsub c w) s = d (BitVec.ofInt 32 (x.toInt - y.toInt)) ∧
      exec (.brSmul c w) s = d (BitVec.ofNat 32 (x.toNat * y.toNat)) ∧
      exec (.brSand c w) s = d (x &&& y) ∧
      exec (.brSor c w) s = d (x ||| y) ∧
      exec (.brSxor c w) s = d (x ^^^ y)) ∧
    (legal 4 4 4 false true false →
      (w.aux = 0 → exec (.brSsh c w) s = d (BitVec.ofNat 32 (x.toNat * 2 ^ (y.toNat % 32)))) ∧
      (w.aux = 1 → exec (.brSsh c w) s = d (BitVec.ofNat 32 (x.toNat / 2 ^ (y.toNat % 32)))) ∧
      (w.aux = 2 → exec (.brSsh c w) s = d (BitVec.ofInt 32 (x.toInt / 2 ^ (y.toNat % 32)))) ∧
      (∃ v, exec (.brSsh c w) s = d v)) ∧
    (legal 4 4 0 false false true →
      exec (.brSaddi c w) s = d (BitVec.ofInt 32 (x.toInt + w.imm.toInt)) ∧
      (at_ % 4 = 0 → at_ + 4 ≤ 131072 →
        exec (.brSld c w) s = d (BitVec.ofNat 32 (leNat (sparseGetN (fun _ => 0) k.vmem at_ 4))) ∧
        exec (.brSst c w) s = takes { k with vmem := sparsePutN (fun _ => 0) k.vmem at_ (leBytes 4 (k.scalar w.d.toNat).toNat) }) ∧
      (at_ % 4 ≠ 0 → exec (.brSld c w) s = fault 2 ∧ exec (.brSst c w) s = fault 2) ∧
      (at_ % 4 = 0 → 131072 < at_ + 4 → exec (.brSld c w) s = fault 3 ∧ exec (.brSst c w) s = fault 3)) ∧
    (legal 4 5 0 false false true → exec (.brVext c w) s = d (k.vec w.a.toNat (w.imm.toNat % 16))) ∧
    (legal 5 4 0 true false true →
      ((k.mask w.mask.toNat).testBit (w.imm.toNat % 16) = true →
        exec (.brVins c w) s = takes (k.setVec w.d.toNat (w.imm.toNat % 16) x)) ∧
      ((k.mask w.mask.toNat).testBit (w.imm.toNat % 16) = false → exec (.brVins c w) s = takes k)) ∧
    (legal 0 4 0 false false true → branch (x = 0) (.brBrz c w) ∧ branch (x ≠ 0) (.brBrnz c w) ∧
      (let n := if w.imm = 0 then x.toNat else w.imm.toNat
       (w.imm ≠ 0 → w.a ≠ 0 → exec (.brRep c w) s = fault 1) ∧
       (w.imm = 0 ∨ w.a = 0 → 4096 < n ∨ s.repAllowed c j.kernel = false → exec (.brRep c w) s = fault 5) ∧
       (w.imm = 0 ∨ w.a = 0 → n = 0 → s.repAllowed c j.kernel = true → exec (.brRep c w) s = goes (pc + 16)) ∧
       (w.imm = 0 ∨ w.a = 0 → 0 < n → n ≤ 4096 → s.repAllowed c j.kernel = true → exec (.brRep c w) s =
         .next (((s.setCore c { k with rep := some n }).tadCount64 j (Reg.BRUSH.CORE_ICNT_LO c) 1).setCorePc c (pc + 8))))) ∧
    (legal 0 4 4 false false true → branch (x.toInt < y.toInt) (.brBrlt c w)) ∧
    (legal 4 5 0 false false false → exec (.brMfs c w) s = .next (((s.setCore c (k.setScalar w.d.toNat
      (BitVec.ofNat 32 (s.brushSpecial c j w.a.toNat)))).tadCount64 j (Reg.BRUSH.CORE_ICNT_LO c) 1).setCorePc c (pc + 8))) ∧
    (legal 0 0 0 false false false → exec (.brWaitin c w) s = .next (((s.setCore c { k with
      waiting := k.input.isSome }).tadCount64 j (Reg.BRUSH.CORE_ICNT_LO c) 1).setCorePc c (pc + 8)))

/-- The vector integer instructions, the lane masks and the vector loads and stores of a core that issues, on a word whose
unused fields are 0; `lanes` writes the lanes that the mask has (BrushRules). (From R366, R368, of which this states what is
written here and no more.) Where the rules leave something open, this follows the model's choice: log entries 91, 92, 97. -/
def Obligations.BrushVectors : Prop :=
  ∀ (c : Fin 40) (w : BrushWord) (j : BrushJob) (s : State), s.brushReady c j w →
    let k := s.core c
    let takes (r : BrushCore × Nat) : Host.Outcome State Fault Refusal := .next (s.brushTakes c j r)
    let legal (d a b : Nat) (mask trunc aux imm : Bool) : Prop := w.legal ⟨d, a, b, mask, trunc, aux, imm⟩ = true
    let x (l : Nat) : Word := k.vec w.a.toNat l
    let y (l : Nat) : Word := k.vec w.b.toNat l
    let v (f : Nat → Word × Nat) : Host.Outcome State Fault Refusal := takes (k.lanes w.d.toNat w.mask.toNat f)
    let cmp (p : Nat → Bool) : Host.Outcome State Fault Refusal := takes (k.setMask w.d.toNat ((List.range 16).map (fun l =>
      (if (k.mask w.mask.toNat).testBit l then p l else (k.mask w.d.toNat).testBit l).toNat * 2 ^ l)).sum, 0)
    let put (a : Nat) : BrushCore := (List.range 16).foldl (fun k l => if (k.mask w.mask.toNat).testBit l then
      k.store (a + 4 * l) 4 (k.vec w.d.toNat l).toNat else k) k
    let ld (a l : Nat) : Word × Nat := (BitVec.ofNat 32 (leNat (sparseGetN (fun _ => 0) k.vmem (a + 4 * l) 4)), 0)
    let fault (n : Nat) : Host.Outcome State Fault Refusal := .next (s.brushFault c n)
    let sa := k.scalar w.a.toNat
    let at_ := (sa.toNat + w.imm.toNat) % 2 ^ 32
    let step (r : BrushCore × Nat) : BrushCore × Nat :=
      (r.1.setScalar w.a.toNat (r.1.scalar w.a.toNat + w.imm), r.2)
    (legal 5 5 5 true false false false →
      exec (.brVadd c w) s = v (fun l => (BitVec.ofNat 32 ((x l).toNat + (y l).toNat), 0)) ∧
      exec (.brVadds c w) s = v (fun l => q31 ((x l).toInt + (y l).toInt)) ∧
      exec (.brVsub c w) s = v (fun l => (BitVec.ofInt 32 ((x l).toInt - (y l).toInt), 0)) ∧
      exec (.brVsubs c w) s = v (fun l => q31 ((x l).toInt - (y l).toInt)) ∧
      exec (.brVmax c w) s = v (fun l => (BitVec.ofInt 32 (max (x l).toInt (y l).toInt), 0)) ∧
      exec (.brVmin c w) s = v (fun l => (BitVec.ofInt 32 (min (x l).toInt (y l).toInt), 0)) ∧
      exec (.brVand c w) s = v (fun l => (x l &&& y l, 0)) ∧
      exec (.brVor c w) s = v (fun l => (x l ||| y l, 0)) ∧
      exec (.brVxor c w) s = v (fun l => (x l ^^^ y l, 0)) ∧
      exec (.brVsel c w) s = takes (k.lanes w.d.toNat 0 (fun l => (if (k.mask w.mask.toNat).testBit l then x l else y l, 0))) ∧
      exec (.brNorm c w) s = takes ((k.lanes w.d.toNat w.mask.toNat (fun l => (x l <<< redundant (x l), 0))).1.lanes w.b.toNat
        w.mask.toNat (fun l => (BitVec.ofNat 32 (redundant (x l)), 0)))) ∧
    (legal 5 5 5 true true false false →
      exec (.brVmul c w) s = v (fun l => q31Round w.trunc ((x l).toInt * (y l).toInt) (2 ^ 31)) ∧
      exec (.brVshlv c w) s = v (fun l => if (y l).toInt < -31 ∨ 31 < (y l).toInt then brushFree 0x33 (x l) (y l).toNat
        else if 0 ≤ (y l).toInt then q31 ((x l).toInt * 2 ^ (y l).toInt.toNat)
        else q31Round w.trunc (x l).toInt (2 ^ (-(y l).toInt).toNat))) ∧
    (legal 5 5 0 true false false false → exec (.brVabs c w) s = v (fun l => q31 (x l).toInt.natAbs)) ∧
    (legal 5 5 0 true false true false →
      (w.aux.toNat < 16 → exec (.brVshl c w) s = v (fun l => q31 ((x l).toInt * 2 ^ w.aux.toNat))) ∧
      (∃ f, exec (.brVshl c w) s = v f)) ∧
    (legal 5 5 0 true true true false →
      (w.aux.toNat < 16 → exec (.brVsra c w) s = v (fun l => q31Round w.trunc (x l).toInt (2 ^ w.aux.toNat))) ∧
      (∃ f, exec (.brVsra c w) s = v f)) ∧
    (legal 5 4 0 true false false false → exec (.brVspl c w) s = v (fun _ => (sa, 0))) ∧
    (legal 3 5 5 true false false false →
      exec (.brVcmplt c w) s = cmp (fun l => decide ((x l).toInt < (y l).toInt)) ∧
      exec (.brVcmpeq c w) s = cmp (fun l => decide (x l = y l))) ∧
    (legal 4 5 0 true false false false → ∃ n, exec (.brExpx c w) s = takes (k.setScalar w.d.toNat (BitVec.ofNat 32 n), 0) ∧
      (∀ l, l < 16 → (k.mask w.mask.toNat).testBit l = true → n ≤ redundant (x l)) ∧
      ((∃ l, l < 16 ∧ (k.mask w.mask.toNat).testBit l = true) →
        ∃ l, l < 16 ∧ (k.mask w.mask.toNat).testBit l = true ∧ redundant (x l) = n)) ∧
    (legal 5 5 0 true false false true → exec (.brVrot c w) s = v (fun l => (x ((l + w.imm.toNat) % 16), 0))) ∧
    (legal 3 4 0 false false false false →
      exec (.brMsetn c w) s = takes (k.setMask w.d.toNat (2 ^ min 16 sa.toNat - 1), 0)) ∧
    (legal 5 4 0 true false false true →
      (at_ % 64 = 0 → at_ + 64 ≤ 131072 → exec (.brVld c w) s = v (ld at_) ∧ exec (.brVst c w) s = takes (put at_, 0)) ∧
      (at_ % 64 ≠ 0 → exec (.brVld c w) s = fault 2 ∧ exec (.brVst c w) s = fault 2) ∧
      (at_ % 64 = 0 → 131072 < at_ + 64 → exec (.brVld c w) s = fault 3 ∧ exec (.brVst c w) s = fault 3) ∧
      (w.imm.toNat % 64 = 0 → sa.toNat % 64 = 0 → sa.toNat + 64 ≤ 131072 →
        exec (.brVldi c w) s = takes (step (k.lanes w.d.toNat w.mask.toNat (ld sa.toNat))) ∧
        exec (.brVsti c w) s = takes (step (put sa.toNat, 0))) ∧
      (w.imm.toNat % 64 ≠ 0 ∨ sa.toNat % 64 ≠ 0 → exec (.brVldi c w) s = fault 2 ∧ exec (.brVsti c w) s = fault 2))

/-- The accumulators, the extractions and the floating-point instructions of a core that issues, on a word whose unused
fields are 0; `accLanes` writes the masked lanes of an accumulator (BrushRules). (From R362, R363, R366, R368, of which this
states what is written here and no more.) Where the rules leave something open, this follows the model's choice: log entries
91, 92. -/
def Obligations.BrushAccumulators : Prop :=
  ∀ (c : Fin 40) (w : BrushWord) (j : BrushJob) (s : State), s.brushReady c j w →
    let k := s.core c
    let takes (r : BrushCore × Nat) : Host.Outcome State Fault Refusal := .next (s.brushTakes c j r)
    let legal (d a b : Nat) (mask trunc aux imm : Bool) : Prop := w.legal ⟨d, a, b, mask, trunc, aux, imm⟩ = true
    let x (l : Nat) : Word := k.vec w.a.toNat l
    let y (l : Nat) : Word := k.vec w.b.toNat l
    let v (f : Nat → Word × Nat) : Host.Outcome State Fault Refusal := takes (k.lanes w.d.toNat w.mask.toNat f)
    let a (f : Nat → Int) : Host.Outcome State Fault Refusal := takes (k.accLanes w.d.toNat w.mask.toNat f)
    let shr (z : Int) : Int := z.fdiv (2 ^ w.aux.toNat : Nat)
    let dot (l : Nat) : Int := 2 * ((x l).toInt * (y l).toInt)
    let acc (l : Nat) : Int := k.acc w.d.toNat l
    (legal 2 0 0 true false false false → exec (.brAclr c w) s = a (fun _ => 0) ∧
      exec (.brAcred c w) s = takes (k.accLanes w.d.toNat 0 (fun l => if l = 0 then
        (((List.range 16).map (fun i => if (k.mask w.mask.toNat).testBit i then acc i else 0)).sum).fdiv 16 else 0))) ∧
    (legal 2 5 5 true false true false →
      exec (.brVmac c w) s = a (fun l => acc l + shr (dot l)) ∧
      exec (.brVmsu c w) s = a (fun l => acc l - shr (dot l))) ∧
    (legal 2 4 4 true false true false →
      let p := (k.scalar w.a.toNat).toNat
      let q := (k.scalar w.b.toNat).toNat
      let at_ (b l : Nat) : Int := (BitVec.ofNat 32 (leNat (sparseGetN (fun _ => 0) k.vmem (b + 4 * l) 4)) : Word).toInt
      (p % 64 = 0 → p + 64 ≤ 131072 → q % 64 = 0 → q + 64 ≤ 131072 →
        let r := k.accLanes w.d.toNat w.mask.toNat (fun l => acc l + shr (2 * (at_ p l * at_ q l)))
        let k' := r.1.setScalar w.a.toNat (BitVec.ofNat 32 (p + 64))
        exec (.brVdot c w) s = takes (if w.a = w.b then k' else k'.setScalar w.b.toNat (BitVec.ofNat 32 (q + 64)), r.2)) ∧
      (p % 64 ≠ 0 → exec (.brVdot c w) s = .next (s.brushFault c 2)) ∧
      (p % 64 = 0 → 131072 < p + 64 → exec (.brVdot c w) s = .next (s.brushFault c 3))) ∧
    (legal 2 5 0 true false true false →
      exec (.brAcadd c w) s = a (fun l => acc l + shr ((x l).toInt * 2 ^ 32)) ∧
      exec (.brAcfadd c w) s = a (fun l =>
        let u := f32Units (x l).toNat w.aux.toNat 63
        acc l + u.1.fdiv u.2)) ∧
    (legal 5 2 0 true true true false →
      exec (.brAcx c w) s = v (fun l =>
        let u := scaled (k.acc w.a.toNat l) 1 (w.aux.toInt - 32)
        q31Round w.trunc u.1 u.2) ∧
      exec (.brAcxf c w) s = v (fun l => (BitVec.ofNat 32 (floatScaled binary32 w.rounding (k.acc w.a.toNat l) (w.aux.toInt - 63)), 0))) ∧
    (legal 4 2 0 false true true true →
      let f := floatScaled binary64 w.rounding (k.acc w.a.toNat (w.imm.toNat % 16)) (w.aux.toInt - 63)
      (w.d.toNat % 2 = 0 → exec (.brAcxd c w) s = takes ((k.setScalar w.d.toNat (BitVec.ofNat 32 f)).setScalar (w.d.toNat + 1)
        (BitVec.ofNat 32 (f / 2 ^ 32)), 0)) ∧
      (w.d.toNat % 2 = 1 → exec (.brAcxd c w) s = .next (s.brushFault c 1))) ∧
    (legal 5 5 0 true false true false →
      exec (.brVcvtf c w) s = v (fun l => (BitVec.ofNat 32 (floatScaled binary32 .halfUp (x l).toInt (w.aux.toInt - 31)), 0))) ∧
    (legal 5 5 0 true true true false →
      exec (.brVcvtq c w) s = v (fun l =>
        let u := f32Units (x l).toNat w.aux.toInt 31
        q31Round w.trunc u.1 u.2)) ∧
    (legal 5 5 5 true false false false →
      exec (.brVfadd c w) s = v (fun l => (BitVec.ofNat 32 (f32Add (x l).toNat (y l).toNat), 0)) ∧
      exec (.brVfmul c w) s = v (fun l => (BitVec.ofNat 32 (f32Mul (x l).toNat (y l).toNat), 0)) ∧
      exec (.brVfmax c w) s = v (fun l => (BitVec.ofNat 32 (f32Pick true (x l).toNat (y l).toNat), 0)) ∧
      exec (.brVfmin c w) s = v (fun l => (BitVec.ofNat 32 (f32Pick false (x l).toNat (y l).toNat), 0)))

/-- What the vector and accumulator results mean, and what ends an instruction. A lane that the mask leaves out keeps its
value; a result that Q1.31 or 72 bits cannot hold saturates and raises SAT or AOV; a REP before an instruction carries it out
that often; an unused field that is not 0 is an illegal instruction, an uncorrectable memory error a memory fault, and a core
that does not run, waits, or has no invocation issues nothing. (From R360, R362 to R365, R369, R376, of which this states
what is written here and no more.) Where the rules leave something open, this follows the model's choice: log entries 95, 96.
-/
def Obligations.BrushRules : Prop :=
  (∀ (k : BrushCore) (d m : Nat) (f : Nat → Word × Nat), keysRise k.v = true →
    keysRise (k.lanes d m f).1.v = true ∧
    (∀ l, l < 16 → (k.lanes d m f).1.vec d l = if (k.mask m).testBit l then (f l).1 else k.vec d l) ∧
    (∀ r l, l < 16 → r ≠ d → (k.lanes d m f).1.vec r l = k.vec r l) ∧
    (k.lanes d m f).1.s = k.s ∧ (k.lanes d m f).1.a = k.a ∧ (k.lanes d m f).1.m = k.m ∧ (k.lanes d m f).1.vmem = k.vmem ∧
    (∀ i, (k.lanes d m f).2.testBit i = true ↔ ∃ l, l < 16 ∧ (k.mask m).testBit l = true ∧ (f l).2.testBit i = true)) ∧
  (∀ (k : BrushCore) (d m : Nat) (f : Nat → Int), keysRise k.a = true →
    keysRise (k.accLanes d m f).1.a = true ∧
    (∀ l, l < 16 → (k.accLanes d m f).1.acc d l = if (k.mask m).testBit l then max (-(2 ^ 71)) (min (2 ^ 71 - 1) (f l)) else k.acc d l) ∧
    ((k.accLanes d m f).2 ≠ 0 ↔ ∃ l, l < 16 ∧ (k.mask m).testBit l = true ∧ (f l < -(2 ^ 71) ∨ 2 ^ 71 ≤ f l)) ∧
    (k.accLanes d m f).1.s = k.s ∧ (k.accLanes d m f).1.v = k.v ∧ (k.accLanes d m f).1.m = k.m) ∧
  (∀ v : Int, (-(2 ^ 31) ≤ v → v < 2 ^ 31 → q31 v = (BitVec.ofInt 32 v, 0)) ∧ (2 ^ 31 ≤ v → q31 v = (0x7FFFFFFF, 1)) ∧
    (v < -(2 ^ 31) → q31 v = (0x80000000, 1))) ∧
  (∀ (c : Fin 40) (w : BrushWord) (j : BrushJob) (s : State),
    let regs : List Instr := [.brNop c w, .brSadd c w, .brSsub c w, .brSmul c w, .brSand c w, .brSor c w, .brSxor c w, .brSsh c w, .brVadd c w, .brVadds c w,
      .brVsub c w, .brVsubs c w, .brVmul c w, .brVmax c w, .brVmin c w, .brVabs c w, .brVand c w, .brVor c w, .brVxor c w,
      .brVshl c w, .brVsra c w, .brVspl c w, .brVcmplt c w, .brVcmpeq c w, .brVsel c w, .brNorm c w, .brExpx c w, .brVshlv c w,
      .brMsetn c w, .brAclr c w, .brVmac c w, .brVmsu c w, .brVdot c w, .brAcadd c w, .brAcx c w, .brAcred c w, .brAcxf c w,
      .brVcvtf c w, .brVfadd c w, .brVfmul c w, .brVfmax c w, .brVfmin c w, .brVcvtq c w, .brAcfadd c w]
    (s.brushReady c j w → w.imm ≠ 0 → ∀ i ∈ regs, exec i s = .next (s.brushFault c 1)) ∧
    (s.coreState c = 2 → (s.core c).job = some j → (s.core c).waiting = false → w.ecc = .uncorrectable →
      w.legal ⟨4, 4, 4, false, false, false, false⟩ = true → ∀ i ∈ [Instr.brSadd c w, .brSsub c w, .brSmul c w, .brSand c w,
        .brSor c w, .brSxor c w], exec i s = .next (s.brushFault c 4)) ∧
    (s.coreState c ≠ 2 ∨ (s.core c).job = none ∨ (s.core c).waiting = true → ∀ i ∈ regs, exec i s = .next s) ∧
    (∀ n, s.coreState c = 2 → (s.core c).job = some j → (s.core c).waiting = false → w.ecc = .clean →
      (s.core c).rep = some n → w.legal ⟨4, 4, 0, false, false, false, true⟩ = true →
      let k : BrushCore := { s.core c with rep := none }
      let t := (s.setCore c ((List.range n).foldl (fun r _ => r.setScalar w.d.toNat (r.scalar w.a.toNat + w.imm)) k)).raiseFlags c 0
      exec (.brSaddi c w) s = .next ((t.setCorePc c (s.corePc c + 8)).tadCount64 j (Reg.BRUSH.CORE_ICNT_LO c) n)))

/-- Invocations. The first waiting invocation of a kernel starts on the lowest idle core that its program holds; a core's
transfer, entries and end act as their rules say; a core over its time, or cancelled, ends its invocation. (From R372 to
R376, R379, R380, of which this states what is written here and no more.) -/
def Obligations.BrushInvocations : Prop :=
  ∀ (c : Fin 40) (w : BrushWord) (j : BrushJob) (s : State),
    let k := s.core c
    let at_ := (k.scalar w.a.toNat).toNat
    let retired (t : State) : State := t.tadCount64 j (Reg.BRUSH.CORE_ICNT_LO c) 1
    let goes (t : State) : Host.Outcome State Fault Refusal := .next ((retired t).setCorePc c (s.corePc c + 8))
    (s.brushReady c j w →
      (w.legal ⟨0, 4, 4, false, false, true, false⟩ = true →
        let n := (k.scalar w.b.toNat).toNat
        (∀ i, k.input = some i → exec (.brInblk c w) s = .next (s.setCore c { k with waiting := true })) ∧
        (k.input = none → at_ % 64 = 0 → at_ + 64 * n ≤ 131072 →
          exec (.brInblk c w) s = goes (s.setCore c { k with input := some ⟨w.aux.toNat, at_, n⟩ })) ∧
        (k.input = none → at_ % 64 ≠ 0 → exec (.brInblk c w) s = .next (s.brushFault c 2)) ∧
        (k.input = none → at_ % 64 = 0 → 131072 < at_ + 64 * n → exec (.brInblk c w) s = .next (s.brushFault c 3))) ∧
      (w.legal ⟨0, 4, 0, false, false, false, false⟩ = true →
        (at_ % 32 = 0 → at_ + 32 ≤ 131072 → builtin j.kernel = false → exec (.brOute c w) s =
          goes (s.brushOut c j (s.entryHead c j (k.load (at_ + 2) 1) ++ leBytes 28 (k.load (at_ + 4) 28)))) ∧
        (at_ % 32 ≠ 0 → exec (.brOute c w) s = .next (s.brushFault c 2)) ∧
        (at_ % 32 = 0 → 131072 < at_ + 32 → exec (.brOute c w) s = .next (s.brushFault c 3))) ∧
      (w.legal ⟨0, 0, 0, false, false, false, true⟩ = true →
        let t := retired s
        let outs := (t.core c).outs
        (outs ≠ [] → exec (.brEnd c w) s = .next (t.finishJob c outs)) ∧
        (outs = [] → builtin j.kernel = false → exec (.brEnd c w) s = .next (t.finishJob c
          [t.entryHead c j (w.imm.toNat % 256) ++ List.replicate 28 0])))) ∧
    (∀ (errs : List InkErr) (i : BrushInput), k.job = some j → k.input = some i → s.coreState c = 2 → i.sel = 1 →
      let pos := sparseGet (fun _ => 0) k.pos 1
      s.inputReady j i pos = true →
        let r := s.validVectors j pos i.count
        exec (.inblkDone c errs) s = .next ((s.setCore c { k with
          vmem := sparsePutN (fun _ => 0) k.vmem i.addr r.1.flatten,
          input := none, waiting := false, pos := sparsePut (fun _ => 0) 1 (pos + i.count) k.pos }).raiseFlags c r.2)) ∧
    (k.job = some j → s.coreState c = 2 → exec (.krnTime c) s =
      .next (((s.tadCount j (Reg.BRUSH.KRN_TIME_CNT j.kernel) 1).tadHold j Ev.BRUSH.KRN_TIME 3 9 (j.kernel + 6 * 256)).finishJob c
        [s.entryHead c j 6 ++ List.replicate 28 0])) ∧
    (k.job = some j → s.coreState c = 3 →
      let t := s.count (Reg.BRUSH.KRN_CANCEL_CNT j.kernel) 1
      exec (.invocationCancel c) s = .next ((t.setCore c { t.core c with
        job := none, outs := [], input := none, rep := none,
        waiting := false }).setFld (Reg.BRUSH.CORE_STATE c) Fld.BRUSH.CORE_STATE.state 1)) ∧
    (k.job = none → exec (.krnTime c) s = .next s ∧ exec (.invocationCancel c) s = .next s) ∧
    (∀ kernel : BitVec 8,
      ((∀ x ∈ s.brushQueue, x.kernel ≠ kernel.toNat) → exec (.invocationStart kernel) s = .next s) ∧
      (s.brushQueue.find? (fun x => x.kernel = kernel.toNat) = some j →
        let cores := (s.coresFor (s.tplHolder j.tpl) j.kernel).filter (fun c => decide (s.coreState c = 1) &&
          decide (s.hiddenScope ⟨.core, c⟩ ≠ .draining))
        (cores = [] → exec (.invocationStart kernel) s = .next s) ∧
        (∀ b, b ∈ cores → (∀ x ∈ cores, b ≤ x) → ∃ t, exec (.invocationStart kernel) s = .next t ∧
          t.brushQueue = s.brushQueue.erase j ∧ ((t.core b).job = some j))))

/-! ## Density planes and display (ch. 13) -/

/-- The density planes. A plane enables from zero counts unless its checks refuse it; disable stops it after the frame under
way; commits, clears, snapshots and restarts act as their rules say; a persistence tick multiplies every count by 1 - 2^-d,
rounded, and at least by one step; the commands of the second plane of a ganged pair are ignored. (From R386 to R397, R413,
of which this states what is written here and no more.) Where the rules leave something open, this follows the model's
choice: log entries 98, 99, 100. -/
def Obligations.DensityPlanes : Prop :=
  ∀ (k : Fin 16) (s : State),
    let cmd (f : Bits) : State := s.setFld (Reg.BLOT.PL_CMD k) f 0
    let st := Reg.BLOT.PL_STATE k
    (s.planeSecond k = true → ∀ i ∈ [Instr.plEnable k, .plDisable k, .plCommit k, .plClear k, .plSnap k, .plRestart k,
      .persistTick k, .snapDone k], exec i s = .next s) ∧
    (s.planeSecond k = false →
      (let t := cmd Fld.BLOT.PL_CMD.enable_go
       let r := t.planeRefusal k
       t.blockOn 12 = true → t.planeState k = 0 →
         (r ≠ 0 → exec (.plEnable k) s = .next (((t.setFld st Fld.BLOT.PL_STATE.reason r).setSta (Reg.BLOT.PL_STA k)
           Fld.BLOT.PL_STA.REFUSED).blkEvent 12 8 Ev.BLOT.PL_REFUSED (k + 256 * r))) ∧
         (r = 0 → exec (.plEnable k) s = .next (((t.setPlane k { t.plane k with
           seq := 0, stopping := false, commit := false
           }).setReg (Reg.BLOT.PL_SNAP_SEQ k) 0).setFld st Fld.BLOT.PL_STATE.state 1))) ∧
      (let t := cmd Fld.BLOT.PL_CMD.disable_go
       (t.planeState k ≠ 1 → exec (.plDisable k) s = .next t) ∧
       (t.planeState k = 1 → t.pairState (t.planePair k) = 0 → exec (.plDisable k) s = .next (t.planeOff k)) ∧
       (t.planeState k = 1 → t.pairState (t.planePair k) ≠ 0 → exec (.plDisable k) s =
         .next ((t.setPlane k { t.plane k with stopping := true }).setFld st Fld.BLOT.PL_STATE.state 2))) ∧
      (let t := cmd Fld.BLOT.PL_CMD.commit_go
       (t.planeState k = 0 → exec (.plCommit k) s = .next (t.commitScope ⟨.plane, k⟩)) ∧
       (t.planeState k ≠ 0 → exec (.plCommit k) s = .next (t.setPlane k { t.plane k with commit := true }))) ∧
      (let t := cmd Fld.BLOT.PL_CMD.clear_go
       exec (.plClear k) s = .next ((((t.planeMembers k).foldl (fun u j => u.setPlane j { u.plane j with counts := [] }) t).setFld
         st Fld.BLOT.PL_STATE.marks 0).planeChange k)) ∧
      (let t := cmd Fld.BLOT.PL_CMD.snap_go
       (t.flag st Fld.BLOT.PL_STATE.snapping = false → exec (.plSnap k) s = .next (t.setFld st Fld.BLOT.PL_STATE.snapping 1)) ∧
       (t.flag st Fld.BLOT.PL_STATE.snapping = true →
         exec (.plSnap k) s = .next (t.busyDrop 12 (t.issuer (Reg.BLOT.PL_CMD k))))) ∧
      (let t := cmd Fld.BLOT.PL_CMD.restart_go
       ((t.flow (.snapshot k)).stopped = true → exec (.plRestart k) s =
         .next (t.setFlow (.snapshot k) { t.flow (.snapshot k) with stopped := false })) ∧
       ((t.flow (.snapshot k)).stopped = false → exec (.plRestart k) s = .next t)) ∧
      (s.planeState k ≠ 0 →
        let t := s.setPlane k { s.plane k with satSeen := false }
        let d := s.fld (Reg.BLOT.PL_PERSIST k) Fld.BLOT.PL_PERSIST.d
        let u := (t.planeMembers k).foldl (fun u j => u.setPlane j { u.plane j with
          counts := ((u.plane j).counts.map (fun e => (e.1, decay d e.2))).filter (fun e => decide (e.2 ≠ 0)) }) t
        (d = 0 → exec (.persistTick k) s = .next t) ∧
        (d ≠ 0 → (∀ j ∈ t.planeMembers k, (t.plane j).counts = []) → exec (.persistTick k) s = .next u) ∧
        (d ≠ 0 → (∃ j ∈ t.planeMembers k, (t.plane j).counts ≠ []) → exec (.persistTick k) s = .next (u.planeChange k))) ∧
      (s.flag st Fld.BLOT.PL_STATE.snapping = true →
        let dest := Reg.BLOT.PL_SNAP_DEST k
        let p := s.plane k
        let mk := s.snapshotBytes k
        let l := mk 0 0
        let a : State := if s.flag dest Fld.BLOT.PL_SNAP_DEST.area_en then
          (s.inkStore 2 (s.snapBase k + 64) (l.drop 64)).inkStore 2 (s.snapBase k) (l.take 64) else s
        let b : State := if a.flag dest Fld.BLOT.PL_SNAP_DEST.exportEn then
          (a.flowPush (.snapshot k) p.seq ⟨0, 3, p.seq, (s.pairCfg (s.planePair k)).stream, p.first.getD p.last, a.stampTbw, [],
            false, false⟩ mk).2 else a
        let c : State := if b.flag (Reg.BLOT.PL_CFG k) Fld.BLOT.PL_CFG.snap_clear then
          (b.planeMembers k).foldl (fun u j => u.setPlane j { u.plane j with counts := [] }) b else b
        let d := ((c.setPlane k { c.plane k with
          first := none, frames := 0, skipped := 0, lost := 0, mergeLoss := false,
          sat := false, seq := p.seq + 1 }).setFld st Fld.BLOT.PL_STATE.snapping 0).setFld st Fld.BLOT.PL_STATE.marks 0
        exec (.snapDone k) s = .next (((d.setReg (Reg.BLOT.PL_SNAP_SEQ k) (BitVec.ofNat 32 (p.seq + 1))).setSta
          (Reg.BLOT.PL_STA k) Fld.BLOT.PL_STA.SNAP_DONE).blkEvent 12 10 Ev.BLOT.SNAP_DONE k)) ∧
      (s.flag st Fld.BLOT.PL_STATE.snapping = false → exec (.snapDone k) s = .next s)) ∧
    (∀ d c : Nat, 0 < d → 0 < c →
      let x := (c * (2 ^ d - 1) + 2 ^ (d - 1)) / 2 ^ d
      decay d c < c ∧ (x ≠ c → decay d c = x) ∧ (x = c → decay d c + 1 = c))

/-- The compositor and the display outputs. (From R403 to R412, R414, of which this states what is written here and no more.)
Where the rules leave something open, this follows the model's choice: log entries 101, 102. -/
def Obligations.DisplayCommands : Prop :=
  ∀ (o : Fin 2) (errs : List InkErr) (s : State),
    let st := Reg.DISP.DP_STATE o
    let cmd (f : Bits) : State := s.setFld Reg.DISP.DISP_CMD f 0
    let out (f : Bits) : State := s.setFld (Reg.DISP.DP_CMD o) f 0
    (let t := cmd Fld.DISP.DISP_CMD.commit_go
     (t.dispRefusal ≠ 0 → exec .dispCommit s = .next ((t.setFld Reg.DISP.DISP_STATE Fld.DISP.DISP_STATE.reason
       t.dispRefusal).blkEvent 13 14 Ev.DISP.COMMIT_REFUSED 0)) ∧
     (t.dispRefusal = 0 → exec .dispCommit s = .next ((t.commitWhere 13 (fun a => decide (a / 0x80000 = 13) &&
       decide (a ≠ Reg.DISP.REL_BASE) && decide (a ≠ Reg.DISP.REL_LEN) && decide (a ≠ Reg.DISP.REL_TAG))).displayChange))) ∧
    exec .touchGo s = .next (cmd Fld.DISP.DISP_CMD.touch_go).displayChange ∧
    (let t := (cmd Fld.DISP.DISP_CMD.release_go).commitRegs 13 [Reg.DISP.REL_BASE, Reg.DISP.REL_LEN, Reg.DISP.REL_TAG]
     let r := (t.fld Reg.DISP.REL_BASE Fld.DISP.REL_BASE.base * 4096, t.fld Reg.DISP.REL_LEN Fld.DISP.REL_LEN.len * 4096)
     let tag := t.fld Reg.DISP.REL_TAG Fld.DISP.REL_TAG.tag
     let used := ∃ x ∈ t.fetchAreas t.reg ++ t.fetchAreas t.stagedReg, rangesMeet r x = true
     let shown := ∃ q ∈ [0, 1], ∃ x ∈ (t.panel q).areas, rangesMeet r x = true
     (used → exec .layerRelease s = .next (t.blkEvent 13 13 Ev.DISP.RELEASE_BUSY tag)) ∧
     (¬ used → shown → exec .layerRelease s =
       .next (({ t with releases := t.releases ++ [(r.1, r.2, tag)] } : State).setBlkSta 13 12)) ∧
     (¬ used → ¬ shown → exec .layerRelease s = .next (t.raise Ev.DISP.LAYER_RELEASED tag))) ∧
    (s.dpIgnored o = true → ∀ i ∈ [Instr.dpEnable o, .dpDisable o, .replayHoldGo o, .replayExitGo o], exec i s = .next s) ∧
    (s.dpIgnored o = false →
      (let t := out Fld.DISP.DP_CMD.enable_go
       t.blockOn 13 = true → o = 0 → t.dpState 0 = 0 →
         let r := t.dpRefusal 0
         (r.1 ≠ 0 → exec (.dpEnable o) s = .next ((t.setFld st Fld.DISP.DP_STATE.reason r.1).blkEvent 13 11
           Ev.DISP.TIMING_REFUSED 0)) ∧
         (r.1 = 0 → exec (.dpEnable o) s = .next ((t.dpGroup 0).foldl (fun u q => (u.setDpState q 1).setPanel q { u.panel q with
           unchanged := 0, changed := true }) r.2))) ∧
      (let t := out Fld.DISP.DP_CMD.disable_go
       (t.dpState o = 0 → exec (.dpDisable o) s = .next t) ∧
       (t.dpState o ≠ 0 → t.running .disp = true → exec (.dpDisable o) s =
         .next ((t.dpGroup o).foldl (fun u q => u.setPanel q { u.panel q with stopGo := true }) t)) ∧
       (t.dpState o ≠ 0 → t.running .disp = false → exec (.dpDisable o) s =
         .next ((t.dpGroup o).foldl (fun u q => u.panelOff q) t))) ∧
      (let t := out Fld.DISP.DP_CMD.replay_hold_go
       let capable := ∀ q ∈ t.dpGroup o, t.flag (Reg.DISP.DP_STATE q) Fld.DISP.DP_STATE.replay_cap = true
       (capable → t.dpState o ≠ 0 → exec (.replayHoldGo o) s =
         .next ((t.dpGroup o).foldl (fun u q => u.setPanel q { u.panel q with holdGo := true }) t)) ∧
       (¬ capable → exec (.replayHoldGo o) s = .next (t.busyDrop 13 (t.issuer (Reg.DISP.DP_CMD o))))) ∧
      (let t := out Fld.DISP.DP_CMD.replay_exit_go
       exec (.replayExitGo o) s = .next ((t.dpGroup o).foldl (fun u q => if u.dpState q = 3 || (u.panel q).held then
         u.setPanel q { u.panel q with exitGo := true } else u) t))) ∧
    (s.dpState o ≠ 0 →
      ((s.panel ((s.dpGroup o).headD 0)).stopGo = true → exec (.dispFrameStart o errs) s =
        .next ((s.dpGroup o).foldl (fun u q => u.panelOff q) s)) ∧
      ((s.panel ((s.dpGroup o).headD 0)).stopGo = false →
        let t := if s.dpIgnored o then s else s.replayStep (s.dpGroup o)
        (t.dpState o = 2 → exec (.dispFrameStart o errs) s = .next (t.sendPanel o errs)) ∧
        (t.dpState o ≠ 2 → exec (.dispFrameStart o errs) s = .next t))) ∧
    (s.dpState o = 0 → exec (.dispFrameStart o errs) s = .next s) ∧
    (∀ hpd : Bool, s.dpState o ≠ 0 → s.dpState o ≠ 4 →
      let t := (s.setFld st Fld.DISP.DP_STATE.state 4).setFld st Fld.DISP.DP_STATE.hpd (if hpd then 1 else 0)
      exec (.dpLinkLost o hpd) s = .next (((t.setPanel o { t.panel o with areas := [] }).freeReleases).blkEvent 13 9
        Ev.DISP.DP_LINK_LOST o)) ∧
    (s.dpState o = 4 → exec (.dpLinkRetry o) s = .next (s.setFld st Fld.DISP.DP_STATE.state 1)) ∧
    (∀ cap : Bool, s.dpState o = 1 → s.pll 2 = 3 → exec (.dpLinkUp o cap) s =
      .next ((((s.setFld st Fld.DISP.DP_STATE.state (if (s.panel o).held then 3 else 2)).setFld st Fld.DISP.DP_STATE.replay_cap
        (if cap then 1 else 0)).setFld st Fld.DISP.DP_STATE.hpd 1).raise Ev.DISP.DP_LINK_UP o))

/-! ## Inkwell (ch. 14) -/

/-- A write puts its bytes at its addresses and changes no other byte; a read changes none; an access beyond the end of the
Inkwell does nothing. (From R418, R421 to R423, of which this states what is written here and no more.) Where the rules leave
something open, this follows the model's choice: log entries 11, 103. -/
def Obligations.InkwellBytes : Prop :=
  ∀ (src : Fin 14) (addr : BitVec 40) (data : List Byte) (len : Nat) (errs : List InkErr) (s : State), s.Good →
    let byte (t : State) (a : Nat) : Byte := sparseGet (fun _ => 0) t.ink.mem a
    (addr.toNat + data.length ≤ inkSize → ∃ t, exec (.inkWrite src addr data errs) s = .next t ∧
      (∀ i, i < data.length → byte t (addr.toNat + i) = data.getD i 0) ∧
      (∀ a, a < addr.toNat ∨ addr.toNat + data.length ≤ a → byte t a = byte s a)) ∧
    (inkSize < addr.toNat + data.length → exec (.inkWrite src addr data errs) s = .next s) ∧
    (addr.toNat + len ≤ inkSize → ∃ t, exec (.inkRead src addr len errs) s = .next t ∧ t.ink.mem = s.ink.mem ∧
      ∀ i, i < len → let r := (s.inkRead src addr.toNat len errs).1.getD i (0, true)
        (r.2 = false → r.1 = byte s (addr.toNat + i)) ∧ (r.2 = true → r.1 = 0)) ∧
    (inkSize < addr.toNat + len → exec (.inkRead src addr len errs) s = .next s)

/-- Address translation, the error log, scrubbing, refresh, temperature, sparing, channels and training. (From R417, R424 to
R438, of which this states what is written here and no more.) Where the rules leave something open, this follows the model's
choice: log entries 104, 105. -/
def Obligations.InkwellUpkeep : Prop :=
  ∀ (c : Fin 16) (bank : BitVec 5) (row : BitVec 16) (errs : List InkErr) (s : State),
    let st := Reg.INK.CH_STATE c
    (exec .scrubGo s = .next (let t := s.setFld Reg.INK.INK_CMD Fld.INK.INK_CMD.scrub_go 0
      { t with ink := { t.ink with patrol := true } })) ∧
    (let t : State := { s with ink := { s.ink with patrol := false } }
     exec (.patrolScrub errs) s = .next ((cellSet (errs.map (·.cell) ++ s.ink.poison.map (·.1 / 7) ++ s.ink.bad.map (·.1))).foldl
       (fun u x => (u.readCell 12 3 x errs).2) t)) ∧
    (s.chServes c = true → ∀ (busy : Bool) (paid : Nat),
      let d := s.fld st Fld.INK.CH_STATE.debt
      (8 < d ∨ (busy = true ∧ d < 8) → exec (.refreshDue c busy paid) s =
        .next (s.setFld st Fld.INK.CH_STATE.debt (min 31 (d + 1 - paid)))) ∧
      (d ≤ 8 → busy = false ∨ d = 8 → exec (.refreshDue c busy paid) s =
        .next (s.setFld st Fld.INK.CH_STATE.debt (min 31 (d - paid))))) ∧
    (s.chServes c = true → ∀ rate : Fin 3,
      let old := s.fld st Fld.INK.CH_STATE.rate
      let d := s.fld st Fld.INK.CH_STATE.debt
      let put (v : Nat) : State := (s.setFld st Fld.INK.CH_STATE.rate rate).setFld st Fld.INK.CH_STATE.debt (min 31 v)
      (rate.val ≤ old → exec (.tempStatusRead c rate) s = .next (put ((d + 2 ^ (old - rate) - 1) / 2 ^ (old - rate)))) ∧
      (old < rate.val → rate.val = 1 → d * 2 ^ (rate.val - old) ≤ 8 → exec (.tempStatusRead c rate) s =
        .next (put (d * 2 ^ (rate.val - old)))) ∧
      (old < rate.val → rate.val = 2 → 8 < d * 2 ^ (rate.val - old) → exec (.tempStatusRead c rate) s =
        .next ((((put (d * 2 ^ (rate.val - old))).count (Reg.INK.CH_REFRESH_FORCED_CNT c) 1).blkEvent 14 10 Ev.INK.REFRESH_FORCED
          (c * 256)).blkEvent 14 13 Ev.INK.INK_HOT (c * 256)))) ∧
    (s.chServes c = true → ∀ k : Fin 4, exec (.requestPromote c k) s = .next (s.count (Reg.INK.PROMOTE_CNT k) 1)) ∧
    (s.chServes c = false → exec (.refreshDue c true 0) s = .next s) ∧
    (let k := rowKey c bank.toNat row.toNat
     (s.rowNeeds k = true → s.rowPool k = none → s.chServes c = true → ∀ r, s.freePoolRow c = some r →
       let t := s.setRows c (s.ink.rows ++ [(k, r)])
       exec (.rowRemapped c bank row) s = .next ((({ t with
         ink := { t.ink with rowErr := sparsePut (fun _ => []) k [] t.ink.rowErr } } : State).raise Ev.INK.ROW_REMAPPED (c * 256)).spareAlarm s 8)) ∧
     (s.rowNeeds k = false → exec (.rowRemapped c bank row) s = .next s)) ∧
    (s.flag st Fld.INK.CH_STATE.spare_used = false → s.chServes c = true → bank.toNat ≠ 31 →
      256 ≤ (s.bankRows c bank.toNat).length ∨ s.bankStruck c bank.toNat = true →
        let t := s.setRows c (s.ink.rows.filter (fun e => decide (e.1 / 2 ^ 16 ≠ rowKey c bank.toNat 0 / 2 ^ 16)))
        exec (.bankSpared c bank) s = .next ((((t.setFld st Fld.INK.CH_STATE.spare_used 1).setFld st Fld.INK.CH_STATE.spared_bank
          bank.toNat).raise Ev.INK.BANK_SPARED (c * 256)).spareAlarm s 9)) ∧
    (s.chState c ≠ 0 → s.chState c ≠ 6 → exec (.channelFailed c) s = .next (s.failChannel c)) ∧
    (s.chState c = 0 ∨ s.chState c = 6 → exec (.channelFailed c) s = .next s) ∧
    (∀ k, s.ink.retrain = some k → s.chState k ≠ 6 → exec .channelRetrained s =
      .next ((((({ s with ink := { s.ink with retrain := none } } : State).returnPool).trained k).raise Ev.INK.CHANNEL_RETRAINED
        (k * 256)))) ∧
    (s.ink.retrain = none → exec .channelRetrained s = .next s) ∧
    (let t := s.setFld Reg.INK.INK_CMD Fld.INK.INK_CMD.retrain_go 0
     (t.ink.redirect.isSome = true → exec .inkRetrain s = .next (t.busyDrop 14 (t.issuer Reg.INK.INK_CMD))) ∧
     (t.ink.redirect = none →
       let u := t.commitRegs 14 [Reg.INK.INK_SEL]
       let k := u.fld Reg.INK.INK_SEL Fld.INK.INK_SEL.channel
       (u.chState k = 2 → exec .inkRetrain s = .next (u.startRetrain k)) ∧
       (u.chState k ≠ 2 → exec .inkRetrain s = .next u))) ∧
    (∀ osc : BitVec 16, s.chState c = 2 →
      let t := s.setFld (Reg.INK.CH_DRIFT c) Fld.INK.CH_DRIFT.osc osc.toNat
      let o := signedOf 6 (t.fld (Reg.INK.CH_DRIFT c) Fld.INK.CH_DRIFT.offset)
      exec (.driftRead c osc none) s = .next t ∧
      (-16 ≤ o → o < 16 → exec (.driftRead c osc (some true)) s =
        .next (t.setFld (Reg.INK.CH_DRIFT c) Fld.INK.CH_DRIFT.offset ((o + 1) % 64).toNat)) ∧
      (-16 < o → o ≤ 16 → exec (.driftRead c osc (some false)) s =
        .next (t.setFld (Reg.INK.CH_DRIFT c) Fld.INK.CH_DRIFT.offset ((o - 1) % 64).toNat)) ∧
      (o = 16 → let u := t.blkEvent 14 14 Ev.INK.DRIFT_LIMIT (c * 256)
        u.ink.redirect = none → exec (.driftRead c osc (some true)) s = .next (u.startRetrain c))) ∧
    (let t := (s.setFld Reg.INK.INK_CMD Fld.INK.INK_CMD.xlate_go 0).commitRegs 14 [Reg.INK.INK_XLATE_LO, Reg.INK.INK_XLATE_HI]
     let a := (t.reg Reg.INK.INK_XLATE_LO).toNat + 2 ^ 32 * t.fld Reg.INK.INK_XLATE_HI Fld.INK.INK_XLATE_HI.addr
     (inkSize ≤ a → exec .xlateGo s = .next ((t.setReg Reg.INK.INK_XLATE_RES 0).setFld Reg.INK.INK_XLATE_FLAGS
       Fld.INK.INK_XLATE_FLAGS.flags 0)) ∧
     (a < inkSize →
       let l := t.location (a / 56)
       exec .xlateGo s = .next ((t.setReg Reg.INK.INK_XLATE_RES (BitVec.ofNat 32 (l.1.1 + l.1.2.1 * 2 ^ 4 + l.1.2.2.1 * 2 ^ 9 +
         l.1.2.2.2 * 2 ^ 25))).setFld Reg.INK.INK_XLATE_FLAGS Fld.INK.INK_XLATE_FLAGS.flags l.2))) ∧
    (let t := s.setFld Reg.INK.INK_CMD Fld.INK.INK_CMD.elog_pop_go 0
     exec .elogPop s = .next ({ t with ink := { t.ink with elog := t.ink.elog.tail } } : State).elogHead) ∧
    (∀ fail : BitVec 24,
      let t := s.setFld (Reg.INK.TRN_CMD c) Fld.INK.TRN_CMD.run_go 0
      (t.chState c ≠ 2 → exec (.trnRun c fail) s = .next (t.setFld (Reg.INK.TRN_RESULT c) Fld.INK.TRN_RESULT.fail fail.toNat)) ∧
      (t.chState c = 2 → exec (.trnRun c fail) s = .next t))

/-! ## Host port (ch. 15) -/

/-- The rings and their doorbells, the accesses of the host, and its resets. (From R441 to R451, R462 to R465, of which this
states what is written here and no more.) Where the rules leave something open, this follows the model's choice: log entries
106, 109, 112. -/
def Obligations.HostRings : Prop :=
  ∀ (r : RingId) (s : State),
    let cmd (f : Bits) : State := s.setFld r.cmd f 0
    let state (t : State) (v : Nat) : State := t.setFld r.stateReg Fld.HOSTQ.CRING_STATE.state v
    (let t := cmd Fld.HOSTQ.CRING_CMD.enable_go
     t.blockOn 15 = true → t.ringState r = 0 →
       (t.ringRefused r = true → exec (.ringEnable r) s = .next ((t.setFld r.stateReg Fld.HOSTQ.CRING_STATE.reason 3).setSta r.sta
         Fld.HOSTQ.CRING_STA.REFUSED)) ∧
       (t.ringRefused r = false → exec (.ringEnable r) s = .next (state (t.ringEmpty r) 1).endOutage)) ∧
    (let t := cmd Fld.HOSTQ.CRING_CMD.disable_go
     (t.ringState r = 0 ∨ t.ringState r = 3 → exec (.ringDisable r) s = .next t) ∧
     (t.ringState r ≠ 0 → t.ringState r ≠ 3 →
       (t.ringBusy r = true → exec (.ringDisable r) s = .next ((state t 3).haltChannels r)) ∧
       (t.ringBusy r = false → exec (.ringDisable r) s = .next ((t.ringOff r).haltChannels r)))) ∧
    (let t := cmd Fld.HOSTQ.CRING_CMD.resume_go
     (t.ringState r ≠ 2 → exec (.ringResume r) s = .next t) ∧
     (t.ringState r = 2 → (∀ c, r = .command c → exec (.ringResume r) s = .next (state (t.crConsume c) 1)) ∧
       (∀ q, r = .result q → exec (.ringResume r) s = .next (state t 1)))) ∧
    exec (.ringReset r) s = .next ((((cmd Fld.HOSTQ.CRING_CMD.reset_go).ringOff r).ringEmpty r).haltChannels r) ∧
    exec .hqCommit s = .next ((s.setFld Reg.HOSTQ.HQ_CMD Fld.HOSTQ.HQ_CMD.commit_go 0).commitRegs 15 [Reg.HOSTQ.HQ_CFG]) ∧
    exec .winCommit s = .next ((s.setFld Reg.HOSTQ.HQ_CMD Fld.HOSTQ.HQ_CMD.win_commit_go 0).commitRegs 15
      [Reg.HOSTQ.HQ_WIN_BASE]) ∧
    (∀ (c : Fin 1024) (e : CommandEntry) (l : List CommandEntry), s.crEntries c = e :: l → s.ringState (.command c) = 1 →
      s.ringType (.command c) ≠ 1 → s.ringType (.command c) ≤ 3 →
      let most := s.fld Reg.HOSTQ.HQ_CFG Fld.HOSTQ.HQ_CFG.retry_max
      (s.ringRetries c < most → exec (.readRetry (.command c)) s = .next ((s.count (Reg.HOSTQ.CRING_RETRY_CNT c) 1).setRetries c
        (s.ringRetries c + 1))) ∧
      (most ≤ s.ringRetries c → ∃ cookie op, exec (.readRetry (.command c)) s = .next (s.draw.2.ringHalt c 2 cookie op) ∧
        ((leAt e 12 2).testBit 0 = true → cookie = leAt e 24 8 ∧ op = leAt e 16 1))) ∧
    (∀ q : Fin 3072, sparseGet (fun _ => 0) s.rings.unsignalled q ≠ 0 → s.rringType q ≠ 2 → s.rringRuns q = true →
      s.fld (Reg.HOSTQ.RRING_CFG q) Fld.HOSTQ.RRING_CFG.irq_en ≠ 0 →
      let t : State := { s with rings := { s.rings with unsignalled := sparsePut (fun _ => 0) q 0 s.rings.unsignalled } }
      exec (.coalTimer q) s = .next (t.signal (t.fld (Reg.HOSTQ.RRING_CFG q) Fld.HOSTQ.RRING_CFG.vector))) ∧
    (∀ (off : BitVec 20) (v : Word) (entries : List (List Byte)),
      let bad : Host.Outcome State Fault Refusal := .next (s.accessErr 15 (off.toNat % 2 ^ 19) Requester.hostBar4.code 0xF 4)
      (doorbellRing off.toNat = none → ∀ len data, exec (.doorbell off len data entries) s = bad) ∧
      (doorbellRing off.toNat = some r →
        (s.doorbellOk r v = true → exec (.doorbell off 4 (some v) entries) s = .next (s.ringDoorbell r v entries)) ∧
        (s.doorbellOk r v = false → exec (.doorbell off 4 (some v) entries) s = .next (((s.count Reg.HOSTQ.DB_BAD_CNT 1).setSta
          r.sta Fld.HOSTQ.CRING_STA.DB_BAD).blkEvent 15 10 Ev.HOSTQ.DB_BAD r.arg)) ∧
        (∀ len data, len ≠ 4 → exec (.doorbell off len data entries) s = bad) ∧
        (∀ q, r = .result q → exec (.doorbell off 4 none entries) s = .next (s.emit (.readData .hostBar4 (s.reg r.head)))) ∧
        (∀ c, r = .command c → exec (.doorbell off 4 none entries) s = .next (s.emit (.readData .hostBar4 (s.reg r.tail)))))) ∧
    (∀ (off : BitVec 36) (len : Nat) (l : List (Byte × Bool)) (errs : List InkErr),
      let a := s.fld Reg.HOSTQ.HQ_WIN_BASE Fld.HOSTQ.HQ_WIN_BASE.gib * 2 ^ 30 + off.toNat
      let bad : Host.Outcome State Fault Refusal := .next (s.accessErr 15 (off.toNat % 2 ^ 19) Requester.hostBar2.code 0xF 4)
      let rd := s.inkRead 10 a len errs
      (a + len ≤ inkUser ∨ inHeadTables a len = true → exec (.bar2Access off len none errs) s =
        .next (rd.2.emit (.readBytes .hostBar2 (rd.1.map (·.1))))) ∧
      (inkUser < a + len → inHeadTables a len = false → exec (.bar2Access off len none errs) s = bad) ∧
      (a + l.length ≤ inkUser → exec (.bar2Access off len (some l) errs) s =
        .next ((enabledRuns l 0 []).foldl (fun u e => u.inkWrite 10 (a + e.1) e.2 errs) s)) ∧
      (inkUser < a + l.length → exec (.bar2Access off len (some l) errs) s = bad)) ∧
    (∀ (gen : BitVec 2) (width : BitVec 5), s.fld Reg.HOSTQ.HQ_LINK Fld.HOSTQ.HQ_LINK.up ≠ 0 →
      linkOk gen.toNat width.toNat = true →
      let old := s.fld Reg.HOSTQ.HQ_LINK Fld.HOSTQ.HQ_LINK.rate
      let t := s.setHostLink true gen.toNat width.toNat
      (linkRateOf gen.toNat width.toNat < old → exec (.linkRate gen width) s = .next (t.raise Ev.HOSTQ.LINK_RATE 0)) ∧
      (old ≤ linkRateOf gen.toNat width.toNat → exec (.linkRate gen width) s = .next t)) ∧
    (∀ kind : HostResetKind,
      let a := (s.outageChannels.resetRings).dropInHand
      let b := (List.range 256).foldl (fun u v => [Reg.HOSTQ.MSIX_ADDR_LO v, Reg.HOSTQ.MSIX_ADDR_HI v, Reg.HOSTQ.MSIX_DATA v,
        Reg.HOSTQ.MSIX_CTRL v].foldl (fun u x => u.setReg x (resetWord x)) u) a
      let c := (List.range 8).foldl (fun u i => u.setReg (Reg.HOSTQ.MSIX_PBA i) 0) b
      let d := if kind = .flr then c else c.setHostLink false 0 0
      let e : State := if kind = .perst then { d with mod := { d.mod with perst := true } } else d
      exec (.hostReset kind) s = .next ((e.count Reg.HOSTQ.HQ_RESET_CNT 1).blkEvent 15 9 Ev.HOSTQ.HOST_RESET 0))

/-- The export channels. (From R453 to R459, R466, of which this states what is written here and no more.) Where the rules
leave something open, this follows the model's choice: log entries 110, 111. -/
def Obligations.ExportChannels : Prop :=
  ∀ (ch : Fin 64) (bad : List Nat) (s : State),
    let cmd (f : Bits) : State := s.setFld (Reg.DMA.DMA_CMD ch) f 0
    let st := Reg.DMA.DMA_STATE ch
    let next (t : State) := itemAt (t.channel ch).items (t.channel ch).next
    (let t := cmd Fld.DMA.DMA_CMD.enable_go
     t.blockOn 16 = true → t.dmaState ch = 0 →
       (t.dmaRefused ch = true → exec (.dmaEnable ch) s = .next (t.setSta (Reg.DMA.DMA_STA ch) Fld.DMA.DMA_STA.REFUSED)) ∧
       (t.dmaRefused ch = false →
         let u := [(0 : Fin 4), 1, 2, 3].foldl (fun u k => u.setFlow (.spectral ch k) Flow.fresh)
           ((t.dmaOff ch).commitScope ⟨.exportCh, ch⟩)
         exec (.dmaEnable ch) s = .next (((((u.setReg (Reg.DMA.DMA_ACTIVE ch) (u.reg (Reg.DMA.DMA_SHADOW ch))).setFld st
           Fld.DMA.DMA_STATE.state 1)).setFld st Fld.DMA.DMA_STATE.reason 0).tryPromote ch))) ∧
    (let t := cmd Fld.DMA.DMA_CMD.disable_go
     let u := t.setFld st Fld.DMA.DMA_STATE.state 5
     (t.dmaState ch = 0 → exec (.dmaDisable ch) s = .next t) ∧
     (t.dmaState ch ≠ 0 → (u.channel ch).items = [] → exec (.dmaDisable ch) s = .next (u.dmaOff ch)) ∧
     (t.dmaState ch ≠ 0 → (u.channel ch).items ≠ [] → (next u).isSome = true → exec (.dmaDisable ch) s = .next u)) ∧
    (exec (.dmaPromote ch) s =
      .next (((cmd Fld.DMA.DMA_CMD.promote_go).setFld st Fld.DMA.DMA_STATE.shadow_valid 1).tryPromote ch)) ∧
    (let t := cmd Fld.DMA.DMA_CMD.resume_go
     (t.dmaState ch = 4 → exec (.dmaResume ch) s = .next ((t.setFld st Fld.DMA.DMA_STATE.state 1).tryPromote ch)) ∧
     (t.dmaState ch ≠ 4 → exec (.dmaResume ch) s = .next t)) ∧
    (∀ b, s.dmaState ch = 1 → s.rringRuns (s.dmaRing ch) = true → s.rringFull (s.dmaRing ch) = false → (next s).isSome = true →
      s.flag st Fld.DMA.DMA_STATE.shadow_valid = false → (s.channel ch).packEnds = false → (s.channel ch).buf = some b →
      exec (.dmaBurst ch bad) s = .next (s.moveBurst ch b bad)) ∧
    (s.dmaState ch ≠ 1 → s.dmaState ch ≠ 5 → exec (.dmaBurst ch bad) s = .next s ∧ exec (.flushTimer ch) s = .next s ∧
      exec (.freelistRetry ch) s = .next s) ∧
    (∀ b, (s.channel ch).buf = some b → b.used ≠ 0 → s.dmaPack ch = true → s.dmaState ch = 1 ∨ s.dmaState ch = 5 →
      exec (.flushTimer ch) s = .next (s.bufFlush ch)) ∧
    (s.dmaState ch = 1 ∨ s.dmaState ch = 5 → (s.channel ch).buf = none → s.ringState (cring (s.dmaList ch)) = 1 →
      s.crEntries (s.dmaList ch) ≠ [] → (next s).isSome = true →
      let c := s.channel ch
      let most := s.fld Reg.HOSTQ.HQ_CFG Fld.HOSTQ.HQ_CFG.retry_max
      (c.retries < most → exec (.freelistRetry ch) s = .next ((s.count (Reg.DMA.DMA_RETRY_CNT ch) 1).setChannel ch { c with
        retries := c.retries + 1 })) ∧
      (most ≤ c.retries → exec (.freelistRetry ch) s = .next (s.chHalt ch 1)))

/-! ## Disk streaming (ch. 16) -/

/-- The drives. A drive that comes up is refused for its block format, its metadata or its size, or is READY; attach needs a
good label of this set; format writes both labels and clears the journal; a loss raises DRV_LOST and its extents are written
again. (From R468 to R470, R473, R477 to R482, R485, of which this states what is written here and no more.) Where the rules
leave something open, this follows the model's choice: log entries 116, 117, 119, 120. -/
def Obligations.Drives : Prop :=
  ∀ (d : Fin 8) (s : State),
    let st := Reg.STOR.DRV_STATE d
    let cmd (f : Bits) : State := s.setFld (Reg.STOR.DRV_CMD d) f 0
    let state (t : State) (v : Nat) : State := t.setFld st Fld.STOR.DRV_STATE.state v
    (∀ (gen : BitVec 2) (width : BitVec 5) (lba blocks : Nat) (meta_ : Bool), s.blockOn 17 = true →
      s.drvState d = 0 ∨ s.drvState d = 6 → 2 ≤ gen.toNat → width.toNat ∈ [1, 2, 4, 8, 16] → width.toNat ≤ s.slotLanes d →
      let t := state ((((s.setFld st Fld.STOR.DRV_STATE.gen gen.toNat).setFld st Fld.STOR.DRV_STATE.width width.toNat).setFld st
        Fld.STOR.DRV_STATE.reason 0).setDrive d { Drive.blank with blocks := blocks }) 1
      (lba ≠ 4096 → exec (.driveLinkUp d gen width lba meta_ blocks) s = .next (t.drvRefuse d 1)) ∧
      (lba = 4096 → meta_ = true → exec (.driveLinkUp d gen width lba meta_ blocks) s = .next (t.drvRefuse d 2)) ∧
      (lba = 4096 → meta_ = false → slotsOf blocks < 64 → exec (.driveLinkUp d gen width lba meta_ blocks) s = .next (t.drvRefuse d 3)) ∧
      (lba = 4096 → meta_ = false → 64 ≤ slotsOf blocks → exec (.driveLinkUp d gen width lba meta_ blocks) s =
        .next (state (t.setReg (Reg.STOR.DRV_SLOTS d) (BitVec.ofNat 32 (slotsOf blocks))) 3))) ∧
    (∀ labels journal : List (List Byte),
      let t := cmd Fld.STOR.DRV_CMD.attach_go
      let good := labels.filter labelWhole
      (t.drvState d ≠ 3 → exec (.attachGo d labels journal) s = .next t) ∧
      (t.drvState d = 3 → good = [] → exec (.attachGo d labels journal) s = .next (t.drvRefuse d 4)) ∧
      (t.drvState d = 3 → good ≠ [] → (∀ l ∈ good, leAt l 8 8 ≠ t.setId) →
        exec (.attachGo d labels journal) s = .next (t.drvRefuse d 5)) ∧
      (∀ l, t.drvState d = 3 → good.find? (fun l => leAt l 8 8 = t.setId) = some l →
        let es := (journal.filter (fun e => journalWhole e && decide (leAt e 16 8 = t.setId))).foldl (fun a e => insertEntry e a) []
        let u := (t.setDrive d { t.drive d with
          parts := (List.range 16).map (fun i => (leAt l (20 + 8 * i) 4, leAt l (24 + 8 * i) 4)),
          count := (es.getLast?.map (fun e => leAt e 48 8 + 1)).getD 0, valid := es.foldl replayEntry [] }).setReg
          (Reg.STOR.DRV_SLOTS d) (BitVec.ofNat 32 (leAt l 16 4))
        let v := es.foldl (fun u e => u.resumeRotation d e) u
        exec (.attachGo d labels journal) s =
          .next ((state (v.setFld st Fld.STOR.DRV_STATE.reason 0) 2).raise Ev.STOR.DRV_ATTACHED d))) ∧
    (let t := cmd Fld.STOR.DRV_CMD.format_go
     (t.drvState d = 4 → exec (.formatGo d) s = .next (t.setSta (Reg.STOR.DRV_STA d) Fld.STOR.DRV_STA.REFUSED)) ∧
     (t.drvState d = 3 →
       let b := t.labelBody d
       let u := ((b.2.emit (.driveWrite d 0 (sealBlock b.1))).emit (.driveWrite d 1 (sealBlock b.1))).emit
         (.driveWrite d 2 (List.replicate 0x4000000 0))
       exec (.formatGo d) s = .next ((List.range 16).foldl (fun u n =>
         if u.dsState n = 0 && (u.fld (Reg.STOR.DS_CFG n) Fld.STOR.DS_CFG.drives).testBit d then
           (u.setReg64 (Reg.STOR.DS_SEQ_LO n) (Reg.STOR.DS_SEQ_HI n) 0).setDisk n { u.disk n with last := none }
         else u) u)) ∧
     (t.drvState d ≠ 3 → t.drvState d ≠ 4 → exec (.formatGo d) s = .next t)) ∧
    (let t := cmd Fld.STOR.DRV_CMD.measure_go
     (t.drvState d = 3 → exec (.measureGo d) s = .next (state t 2)) ∧ (t.drvState d ≠ 3 → exec (.measureGo d) s = .next t)) ∧
    (∀ mbs : Word, s.drvState d = 2 →
      let t := s.setReg (Reg.STOR.DRV_RATE d) mbs
      ((t.drive d).parts = [] → exec (.measureEnd d mbs) s = .next (state t 3)) ∧
      ((t.drive d).parts ≠ [] → exec (.measureEnd d mbs) s = .next (state t 4))) ∧
    (let t := cmd Fld.STOR.DRV_CMD.retire_go
     (t.drvState d = 3 ∨ t.drvState d = 4 → exec (.retireGo d) s = .next (t.drvRetire d)) ∧
     (t.drvState d ≠ 3 → t.drvState d ≠ 4 → exec (.retireGo d) s = .next t)) ∧
    (let t := cmd Fld.STOR.DRV_CMD.detach_go
     let named := ∃ n, n < 16 ∧ t.dsState n ≠ 0 ∧ (t.fld (Reg.STOR.DS_CFG n) Fld.STOR.DS_CFG.drives).testBit d = true
     (named → exec (.detachGo d) s = .next (t.setSta (Reg.STOR.DRV_STA d) Fld.STOR.DRV_STA.REFUSED)) ∧
     (¬ named → t.drvState d = 4 → exec (.detachGo d) s =
       .next (state (t.setDrive d { t.drive d with parts := [], valid := [], block := [], flight := [] }) 3)) ∧
     (¬ named → t.drvState d ≠ 4 → exec (.detachGo d) s = .next t)) ∧
    (∀ timeout : Bool, s.drvState d ≠ 0 → s.drvState d ≠ 6 →
      let t := if timeout then s.count (Reg.STOR.DRV_TIMEOUT_CNT d) 1 else s
      let u := ((state (t.setDrive d Drive.blank) 6).setFld st Fld.STOR.DRV_STATE.gen 0).setFld st Fld.STOR.DRV_STATE.width 0
      let v := (u.setSta (Reg.STOR.DRV_STA d) Fld.STOR.DRV_STA.LOST).blkEvent 17 8 Ev.STOR.DRV_LOST d
      exec (.drvLost d timeout) s = .next ((List.range 16).foldl (fun u n => (u.stranded n).foldl (fun u e => u.rewriteExtent e) u) v)) ∧
    (∀ used crit : Byte, 3 ≤ s.drvState d → s.drvState d ≤ 5 →
      let w := Reg.STOR.DRV_WEAR d
      let t := (s.setFld w Fld.STOR.DRV_WEAR.used used.toNat).setFld w Fld.STOR.DRV_WEAR.crit crit.toNat
      let warn := s.fld Reg.STOR.STOR_WEAR Fld.STOR.STOR_WEAR.warn
      let retire (u : State) : Host.Outcome State Fault Refusal := .next
        (if u.drvState d ≠ 5 ∧ u.fld Reg.STOR.STOR_WEAR Fld.STOR.STOR_WEAR.retire ≤ used.toNat then u.drvRetire d else u)
      (crit = 0 → used.toNat < warn → exec (.wearRead d used crit) s = retire t) ∧
      ((s.drive d).warned = false → warn ≤ used.toNat → exec (.wearRead d used crit) s = retire (((t.setDrive d { t.drive d with
        warned := true }).setSta (Reg.STOR.DRV_STA d) Fld.STOR.DRV_STA.WEAR_WARN).raise Ev.STOR.DRV_WEAR_WARN (d + 256 * crit.toNat)))) ∧
    (s.drvState d = 4 → exec (.drvSlow d) s = .next ((s.setSta (Reg.STOR.DRV_STA d) Fld.STOR.DRV_STA.SLOW).blkEvent 17 12
      Ev.STOR.DRV_SLOW d))

/-- The disk streams, the journal and the read-back. (From R472, R474 to R476, R483, R486, of which this states what is
written here and no more.) Where the rules leave something open, this follows the model's choice: log entries 116, 118, 119.
-/
def Obligations.DiskStreams : Prop :=
  ∀ (n : Fin 16) (d : Fin 8) (bad : List Nat) (s : State),
    let cmd (f : Bits) : State := s.setFld (Reg.STOR.DS_CMD n) f 0
    let st := Reg.STOR.DS_STATE n
    (let t := cmd Fld.STOR.DS_CMD.enable_go
     let size := t.fld (Reg.STOR.DS_CFG n) Fld.STOR.DS_CFG.buf_mib * 2 ^ 20
     let refused := (t.flag (Reg.STOR.DS_SRC n) Fld.STOR.DS_SRC.pair_en = true ∧ t.diskTemplates n = true) ∨
       t.ink.outage.2 < t.buffersTaken (.disk n) + size
     t.blockOn 17 = true → t.dsState n = 0 →
       (refused → exec (.dsEnable n) s = .next (t.setSta (Reg.STOR.DS_STA n) Fld.STOR.DS_STA.REFUSED)) ∧
       (¬ refused →
         let u := (t.commitScope ⟨.diskStream, n⟩).setFlow (.disk n) Flow.fresh
         exec (.dsEnable n) s = .next (((u.setDisk n { DiskRun.idle with last := (u.disk n).last }).setFld st
           Fld.STOR.DS_STATE.throttle 0).setFld st Fld.STOR.DS_STATE.state 1))) ∧
    (let t := cmd Fld.STOR.DS_CMD.disable_go
     (t.dsState n = 0 → exec (.dsDisable n) s = .next t) ∧
     (t.dsState n ≠ 0 → exec (.dsDisable n) s = .next ((t.setFld st Fld.STOR.DS_STATE.state 4).diskDrained n))) ∧
    (let t := cmd Fld.STOR.DS_CMD.restart_go
     (t.dsState n ≠ 2 → exec (.dsRestart n) s = .next t) ∧
     (t.dsState n = 2 →
       let u := t.setFlow (.disk n) { t.flow (.disk n) with stopped := false }
       exec (.dsRestart n) s = .next ((u.setDisk n { u.disk n with loss := true }).setFld st Fld.STOR.DS_STATE.state 1))) ∧
    (∀ e l, s.stranded n = e :: l → exec (.extentWrite n bad) s = .next ((s.rewriteExtent e).reportFill (.disk n))) ∧
    (s.stranded n = [] → s.extentDue n = false → exec (.extentWrite n bad) s = .next s) ∧
    (s.stranded n = [] → s.extentDue n = true → ∀ k, s.nextDrive n = some k →
      (∀ slot t, s.takeSlot k n = (some slot, t) → exec (.extentWrite n bad) s =
        .next ((t.newExtent n k slot bad).reportFill (.disk n))) ∧
      (∀ t, s.takeSlot k n = (none, t) → t.flag (Reg.STOR.DS_CFG n) Fld.STOR.DS_CFG.mode = true → t.dsState n ≠ 4 →
        exec (.extentWrite n bad) s = .next ((t.diskFull n).reportFill (.disk n)))) ∧
    (s.drvState d = 4 → exec (.journalFlush d) s = .next (s.flushJournal d)) ∧
    (s.drvState d ≠ 4 → exec (.journalFlush d) s = .next s) ∧
    (∀ b l, (s.drive d).flight = b :: l → s.drvState d = 4 →
      let t := b.foldl (fun u e => u.entryDone d e) (s.setDrive d { s.drive d with flight := l })
      let u := (List.range 16).foldl (fun u i => if u.dsState i = 0 then u else (u.reportFill (.disk i)).diskDrained i) t
      ((u.drive d).retiring = true → exec (.journalBlockDone d) s = .next (u.drvRetire d)) ∧
      ((u.drive d).retiring = false → exec (.journalBlockDone d) s = .next u)) ∧
    (let rd := Reg.STOR.RD_STATE
     let t := s.setFld Reg.STOR.STOR_CMD Fld.STOR.STOR_CMD.read_go 0
     (t.flag rd Fld.STOR.RD_STATE.busy = true → exec .readGo s = .next (t.busyDrop 17 (t.issuer Reg.STOR.STOR_CMD))) ∧
     (t.flag rd Fld.STOR.RD_STATE.busy = false →
       let u := t.commitRegs 17 [Reg.STOR.RD_LBA_LO, Reg.STOR.RD_LBA_HI, Reg.STOR.RD_CFG, Reg.STOR.RD_DST]
       let no := if u.readRefused then 1 else 0
       exec .readGo s = .next (((u.setFld rd Fld.STOR.RD_STATE.refused no).setFld rd Fld.STOR.RD_STATE.busy (1 - no)).setFld rd
         Fld.STOR.RD_STATE.error 0)) ∧
     (s.flag rd Fld.STOR.RD_STATE.busy = true →
       let ends (u : State) (e : Nat) : Host.Outcome State Fault Refusal :=
         let v := (u.setFld rd Fld.STOR.RD_STATE.busy 0).setFld rd Fld.STOR.RD_STATE.error e
         .next (v.raise Ev.STOR.READ_DONE (v.fld Reg.STOR.RD_CFG Fld.STOR.RD_CFG.drive))
       (∀ l : List Byte, exec (.readDone (some l)) s = ends (s.inkStore 9 s.readTarget.1 (bytesAt l 0 s.readTarget.2)) 0) ∧
       exec (.readDone none) s = ends s 1) ∧
     (s.flag rd Fld.STOR.RD_STATE.busy = false → ∀ data, exec (.readDone data) s = .next s))

/-! ## Control commands, calibration, sparing and stewardship (ch. 03, 12, 15, 17) -/

/-- The commands of a CTRL ring, each with its completion code and argument. A command whose buffer is bad completes with
0x1B and has no other effect. (From R75, R79, R167, R379, R452, R491, R498, R505, R508, R510, R514, R516, of which this
states what is written here and no more.) Where the rules leave something open, this follows the model's choice: log entries
107, 108, 137. -/
def Obligations.ControlCommands : Prop :=
  ∀ (ring : Fin 1024) (data : HostData) (ok : Bool) (maker : List Byte) (s : State),
    let t := s.crConsume ring
    let done (c : CtrlCall) (u : State) (code arg : Nat) : Host.Outcome State Fault Refusal :=
      .next (u.complete ring c.cookie code c.op arg)
    (∀ c, s.ctrlDue ring data c →
      (c.op = 0 → exec (.ctrlNop ring data) s = done c t 0 0) ∧
      (knownOp c.op = false → exec (.ctrlNop ring data) s = done c t 0x1A 0) ∧
      (c.op = 1 →
        let r := t.loadProgram c.data ok (List.range 12)
        exec (.progLoad ring data ok) s = done c r.2 r.1.1 r.1.2) ∧
      (c.op = 2 →
        let loaded := c.arg < 12 ∧ (t.nib c.arg).state ≠ .empty ∧ (t.nib c.arg).unloading = false
        (loaded → exec (.progUnload ring data) s = done c (t.unloadProgram c.arg) 0 0) ∧
        (¬ loaded → exec (.progUnload ring data) s = done c t 0x18 0)) ∧
      (c.op = 3 →
        let id := leAt c.data 5 1
        (t.kernelRefusal c.data ok = none → exec (.kernelLoad ring data ok) s =
          done c ((t.loadKernel c.data).raise Ev.BRUSH.KRN_LOADED id) 0 id) ∧
        (∀ code arg, t.kernelRefusal c.data ok = some (code, arg) → exec (.kernelLoad ring data ok) s =
          done c (((t.setFld Reg.BRUSH.BR_LOAD_LAST Fld.BRUSH.BR_LOAD_LAST.code code).setFld Reg.BRUSH.BR_LOAD_LAST
            Fld.BRUSH.BR_LOAD_LAST.arg arg).blkEvent 3 10 Ev.BRUSH.KRN_REFUSED (id + 256 * code)) code arg)) ∧
      (c.op = 4 →
        (8 ≤ c.arg → exec (.headImage ring data ok) s = done c t 0x19 0) ∧
        (c.arg < 8 → exec (.headImage ring data ok) s =
          done c (t.headImage c.arg c.data ok).2 (if (t.headImage c.arg c.data ok).1 then 0 else 0x19) 0)) ∧
      (c.op = 0x10 →
        exec (.sessionCommit ring data false) s = done c t 0x26 0 ∧
        exec (.sessionCommit ring data true) s = done c (((t.writeSession (some t.sessionImage)).logEntry 6 0 0 0 0 0).blkEvent 22 8
          Ev.RETAIN.SESSION_COMMITTED 0) 0 0) ∧
      (c.op = 0x11 →
        exec (.sessionClear ring data false) s = done c t 0x26 0 ∧
        exec (.sessionClear ring data true) s = done c (t.writeSession none) 0 0) ∧
      (c.op = 0x12 → s.stw.cal.isSome = true ∨ s.stwHolds = false →
        (t.stw.cal.isSome = true → exec (.calRun ring data) s = done c t 0x23 0) ∧
        (t.stw.cal = none → exec (.calRun ring data) s =
          .next (t.startCal (c.arg % 256) (c.arg / 256 % 65536) false (some (ring.val, c.cookie))))) ∧
      (c.op = 0x13 →
        (t.changeKey c.data ok = none → exec (.keyChange ring data ok) s = done c t 0x24 0) ∧
        (∀ u, t.changeKey c.data ok = some u → exec (.keyChange ring data ok) s = .next ((((u.slotWritten 5).logEntry 7
          (leAt c.data 1 1) 0 (leAt c.data 0 1) (t.reg Reg.RETAIN.KEY_STATE).toNat
          (u.reg Reg.RETAIN.KEY_STATE).toNat).ctrlLate ring c.cookie 0 0x13 0).blkEvent 22 10 Ev.RETAIN.KEY_CHANGED 0))) ∧
      (c.op = 0x14 →
        let version := leAt c.data 4 4
        (envelopeWhole c.data = false ∨ ok = false → exec (.fwUpdate ring data ok) s = done c t 0x22 1) ∧
        (envelopeWhole c.data = true → ok = true →
          (version < t.retained.rollback → exec (.fwUpdate ring data ok) s = done c t 0x22 2) ∧
          (t.retained.rollback ≤ version → t.stwFld Fld.STEWARD.STW_STATE.standby_ready = 0 →
            exec (.fwUpdate ring data ok) s = done c t 0x27 0) ∧
          (t.retained.rollback ≤ version → t.stwFld Fld.STEWARD.STW_STATE.standby_ready ≠ 0 → t.stw.fw.isSome = true →
            exec (.fwUpdate ring data ok) s = done c t 0x23 0) ∧
          (t.retained.rollback ≤ version → t.stwFld Fld.STEWARD.STW_STATE.standby_ready ≠ 0 → t.stw.fw = none →
            exec (.fwUpdate ring data ok) s = .next { t with stw := { t.stw with fw := some ⟨version, false, ring, c.cookie⟩ } }))) ∧
      (c.op = 0x15 →
        let body := t.draw.2.bundleSections t.draw.1 c.arg maker
        (c.data.length < 64 + body.length → exec (.serviceBundle ring data maker) s =
          done c t.draw.2 0x25 ((64 + body.length + 0xFFFFF) / 0x100000)) ∧
        (64 + body.length ≤ c.data.length → ∃ head : List Byte, head.length = 64 ∧ head.take 4 = [0x53, 0x56, 0x42, 0x4E] ∧
          exec (.serviceBundle ring data maker) s = done c (t.draw.2.emit (.bundle (head ++ body))) 0 0)) ∧
      (c.op = 0x16 →
        let kind := c.arg % 256
        let num := c.arg / 256
        let suspect := kind < 12 ∧ num < 65536 ∧ (t.spareState kind num).isSuspect = true
        let u := t.selfTest kind num ok
        (¬ suspect → exec (.spareRetest ring data ok) s = done c t 0x21 0) ∧
        (suspect → u.spareState kind num = .free → exec (.spareRetest ring data ok) s = done c u 0 1) ∧
        (suspect → u.spareState kind num = .failed → exec (.spareRetest ring data ok) s = done c u 0 2) ∧
        (suspect → ∃ code arg v, exec (.spareRetest ring data ok) s = done c v code arg ∧ code = 0 ∧ (v = u ∨ v = u.draw.2) ∧
          (arg = 1 ∨ arg = 2)))) ∧
    (∀ e l, s.crEntries ring = e :: l → s.ringState (cring ring) = 1 → s.ringType (cring ring) = 0 →
      s.ringBusy (cring ring) = false → s.canComplete ring = true → dataFind e data = .badBuffer →
      ∀ i ∈ [(0, Instr.ctrlNop ring data), (1, .progLoad ring data ok), (2, .progUnload ring data), (3, .kernelLoad ring data ok),
        (4, .headImage ring data ok), (0x10, .sessionCommit ring data ok), (0x11, .sessionClear ring data ok),
        (0x13, .keyChange ring data ok), (0x14, .fwUpdate ring data ok), (0x15, .serviceBundle ring data maker),
        (0x16, .spareRetest ring data ok)], leAt e 16 1 = i.1 →
          exec i.2 s = .next (t.complete ring (leAt e 24 8) 0x1B (leAt e 16 1) 0)) ∧
    (∀ k : Fin 12,
      (let u := s.setFld (Reg.NIB.PROG_CTL k) Fld.NIB.PROG_CTL.stop_go 0
       let n := u.nib k
       let runs := n.state = .running ∨ n.state = .inHandler ∨ n.state = .waiting ∨ n.state = .paused
       (runs → exec (.progStop k) s = .next ((u.setNib k { n with state := .halted, wait := none }).nibHalted k)) ∧
       (¬ runs → exec (.progStop k) s = .next u)) ∧
      (let u := s.setFld (Reg.NIB.PROG_CTL k) Fld.NIB.PROG_CTL.restart_go 0
       let n := u.nib k
       let halted := (n.state = .halted ∨ n.state = .exceptionHalt) ∧ n.unloading = false
       (halted → exec (.progRestart k) s = .next (u.setNib k n.start)) ∧ (¬ halted → exec (.progRestart k) s = .next u)))

/-- Calibrations, handovers and spares. (From R22, R23, R489 to R499, R518, R519, of which this states what is written here
and no more.) Where the rules leave something open, this follows the model's choice: log entries 122, 123, 126, 127, 129,
131. -/
def Obligations.CalibrationAndSparing : Prop :=
  ∀ (b : Fin 25) (kind : Fin 12) (inst : BitVec 16) (s : State),
    let unit : Nat := inst.toNat
    (let t := s.setFld Reg.CAL.CAL_CMD Fld.CAL.CAL_CMD.cal_go 0
     (s.stw.cal = none → s.stwHolds = true → exec .calGo s = .next s) ∧
     (s.stw.cal.isSome = true → t.stw.cal.isSome = true → exec .calGo s = .next (t.busyDrop 20 (t.issuer Reg.CAL.CAL_CMD))) ∧
     (s.stw.cal = none → s.stwHolds = false → t.stw.cal = none →
       let u := t.commitRegs 20 [Reg.CAL.CAL_SEL]
       exec .calGo s = .next (u.startCal (u.fld Reg.CAL.CAL_SEL Fld.CAL.CAL_SEL.target) (u.fld Reg.CAL.CAL_SEL
         Fld.CAL.CAL_SEL.inst) false none))) ∧
    exec .calCommit s = .next ((s.setFld Reg.CAL.CAL_CMD Fld.CAL.CAL_CMD.commit_go 0).commitRegs 20 [Reg.CAL.CAL_CFG]) ∧
    (s.flag Reg.CAL.CAL_CFG Fld.CAL.CAL_CFG.bg_en = true → s.stw.cal = none → s.stwHolds = false → exec .calBackground s =
      .next (s.startCal (backgroundItem s.stw.bgNext).1 (backgroundItem s.stw.bgNext).2 true none)) ∧
    (s.stw.retryWait = true → exec .calRetry s = .next s.calAttempt) ∧
    (s.stw.retryWait = false → exec .calRetry s = .next s) ∧
    (∀ (v1 v2 : List Int) (q : Nat × Nat) (c : CalRun), s.stw.cal = some c → c.target ≠ 5 →
      s.fld Reg.CAL.CAL_STATE Fld.CAL.CAL_STATE.state = 1 → s.stw.retryWait = false →
      exec (.calRunEnd v1 v2 false q) s = .next s.precondFail ∧
      (s.calReady c = false → exec (.calRunEnd v1 v2 true q) s = .next s.precondFail) ∧
      (s.calReady c = true →
        (runsAgree c.target v1 v2 = false → exec (.calRunEnd v1 v2 true q) s = .next (((s.count Reg.CAL.CAL_DISAGREE_CNT 1).calEvent 9
          Ev.CAL.CAL_DISAGREE).dropCal 1 0x1F 0)) ∧
        (runsAgree c.target v1 v2 = true → exec (.calRunEnd v1 v2 true q) s = .next (s.calAgreed { c with
          values := (v1.zip v2).map (fun e => meanUp e.1 e.2), quality := q })))) ∧
    (s.stw.cal = none → ∀ v1 v2 held q, exec (.calRunEnd v1 v2 held q) s = .next s) ∧
    (∀ cause : Fin 6,
      let known := ∃ h ∈ s.stw.running ++ s.stw.queued, h.kind = kind.val ∧ h.inst = unit
      (unitOf b kind unit = true → ¬ known → s.handoverDue b unit (cause + 1) = true → exec (.handoverStart b kind inst cause) s =
        .next (s.askHandover ⟨b, kind, unit, 0, cause + 1, 0, false⟩)) ∧
      (unitOf b kind unit = false ∨ known ∨ s.handoverDue b unit (cause + 1) = false →
        exec (.handoverStart b kind inst cause) s = .next s)) ∧
    (∀ h, s.stw.running.find? (fun h => decide (h.block = b.val) && !h.matched) = some h →
      (exec (.shadowCompare b false false) s = .next (s.mismatch h)) ∧
      (7 ≤ h.spans → ∀ agree, exec (.shadowCompare b true agree) s = .next (s.mismatch h)) ∧
      (h.spans < 7 → ∀ agree, exec (.shadowCompare b true agree) s = .next { s with
        stw := { s.stw with
        running := s.stw.running.map (fun x => if x = h then { h with spans := h.spans + 1, matched := false } else x) } }) ∧
      (h.cause = 5 → exec (.shadowCompare b false true) s = .next (({ s with
        stw := { s.stw with running := s.stw.running.map (fun x => if x = h then { h with spans := h.spans + 1, matched := true }
          else x) } } : State).setFld Reg.CAL.CAL_STATE Fld.CAL.CAL_STATE.state 3)) ∧
      (h.cause ≠ 5 → exec (.shadowCompare b false true) s = .next { s with
        stw := { s.stw with
        running := s.stw.running.map (fun x => if x = h then { h with spans := h.spans + 1, matched := true } else x) } })) ∧
    (∀ h, s.stw.running.find? (fun h => decide (h.block = b.val) && h.matched) = some h →
      ¬ (h.kind = 4 ∧ 2 ≤ s.coreState h.inst) →
      let t := ({ s with stw := { s.stw with running := s.stw.running.erase h } } : State).setHandover h.block false
      (h.cause ≠ 5 → exec (.handoverSwitch b) s = .next ((t.switchUnit h.kind h.inst h.spare h.cause).nextHandover h.block)) ∧
      (h.cause = 5 → exec (.handoverSwitch b) s = .next ((t.switchCal h).nextHandover h.block))) ∧
    (unitOf b kind unit = true → (b.val, unitKey kind unit) ∉ s.stw.failedUnits → kind.val ≠ 0 → kind.val ≠ 7 → s.stw.cal = none →
      let t := s.preempt b kind unit
      (∀ n, t.spareNow kind unit = some n → exec (.unitFailure b kind inst) s =
        .next (((t.dropItems kind unit).switchUnit kind unit n 1).nextHandover b)) ∧
      (t.spareNow kind unit = none → exec (.unitFailure b kind inst) s =
        .next (((t.dropItems kind unit).unitFailed b kind unit).nextHandover b))) ∧
    (unitOf b kind unit = false → exec (.unitFailure b kind inst) s = .next s) ∧
    (∀ n, s.spareState kind unit = .suspect n →
      exec (.spareSelftest kind inst false) s = .next (s.poolState kind unit .failed) ∧
      (1 ≤ n → exec (.spareSelftest kind inst true) s = .next (s.poolState kind unit .free)) ∧
      (n = 0 → exec (.spareSelftest kind inst true) s = .next ((s.setSpare kind unit (.suspect 1)).slotWritten 4))) ∧
    exec .spareCommit s = .next ((s.setFld Reg.SPARE.SPARE_CMD Fld.SPARE.SPARE_CMD.commit_go 0).commitRegs 21 [Reg.SPARE.SPARE_THR])

/-- The supply, the standby, the firmware and the resume. (From R500 to R511, of which this states what is written here and
no more.) Where the rules leave something open, this follows the model's choice: log entries 134, 135, 137, 138, 139, 143. -/
def Obligations.Stewardship : Prop :=
  ∀ s : State,
    let cmd (f : Bits) : State := s.setFld Reg.STEWARD.STW_CMD f 0
    (∀ margins : List (Nat × Int), leastMargin margins = none → exec (.paceRead margins) s = .next s) ∧
    (∀ (margins : List (Nat × Int)) (u : Nat) (least : Int), leastMargin margins = some (u, least) → s.vcore ≠ s.vCeiling →
      let t := ((s.setFld Reg.STEWARD.AVS_STATE Fld.STEWARD.AVS_STATE.margin (min 255 least.toNat)).setFld Reg.STEWARD.AVS_MIN_UNIT
        Fld.STEWARD.AVS_MIN_UNIT.block (u / 256)).setFld Reg.STEWARD.AVS_MIN_UNIT Fld.STEWARD.AVS_MIN_UNIT.inst (u % 256)
      let v : State := { t with
        stw := { t.stw with
        margins := margins, highSince := if least < 15 then 0 else
        if t.stw.highSince = 0 then t.time.tick + 1 else t.stw.highSince } }
      v.vcore ≠ v.vCeiling → exec (.paceRead margins) s = .next (v.vcoreStep least)) ∧
    (∀ least : Int, least < 14 → s.flag Reg.STEWARD.AVS_CFG Fld.STEWARD.AVS_CFG.avs_en = true →
      s.vcoreStep least = s.setVcore (min s.vCeiling (s.vcore + 5))) ∧
    exec .keepalive s = .next { s with stw := { s.stw with alive := s.time.tick } } ∧
    (s.stw.alive + 2000000 ≤ s.time.tick → exec .keepaliveTimeout s = .next (s.setVcore s.vCeiling)) ∧
    (s.time.tick < s.stw.alive + 2000000 → exec .keepaliveTimeout s = .next s) ∧
    (let t := cmd Fld.STEWARD.STW_CMD.avs_commit_go
     let a := Reg.STEWARD.AVS_CFG
     let floor := t.stagedFld a Fld.STEWARD.AVS_CFG.floor
     let ceiling := t.stagedFld a Fld.STEWARD.AVS_CFG.ceiling
     let bad := floor < 700 ∨ 850 < ceiling ∨ ceiling < floor
     (bad → exec .avsCommit s = .next (t.busyDrop 1 (t.issuer Reg.STEWARD.STW_CMD))) ∧
     (¬ bad →
       let u := t.commitRegs 1 [a]
       (u.flag a Fld.STEWARD.AVS_CFG.avs_en = true → exec .avsCommit s = .next (u.setVcore (max floor (min u.vcore ceiling)))) ∧
       (u.flag a Fld.STEWARD.AVS_CFG.avs_en = false → exec .avsCommit s = .next (u.setVcore ceiling)))) ∧
    exec .liveImageUpdate s = .next (({ s with retained := { s.retained with live := s.liveWords } } : State).slotWritten 1) ∧
    (∀ f, s.stw.fw = some f → f.switched = false → s.stwFld Fld.STEWARD.STW_STATE.standby_ready ≠ 0 → s.stw.cal = none →
      s.stw.running = [] →
      let t := s.writeImage f.version
      let u := t.setFld Reg.STEWARD.STW_STATE Fld.STEWARD.STW_STATE.active (1 - t.stwFld Fld.STEWARD.STW_STATE.active)
      let v := (u.setFld Reg.STEWARD.STW_STATE Fld.STEWARD.STW_STATE.image (if u.mod.bootB then 0 else 1)).setFld
        Reg.STEWARD.STW_STATE Fld.STEWARD.STW_STATE.confirmed 0
      let w : State := { v with stw := { v.stw with fw := some { f with switched := true } } }
      exec .fwSwitch s = .next ((List.range 25).foldl State.nextHandover (((w.logEntry 5 0 0 0 s.runningVersion f.version).blkEvent
        1 8 Ev.STEWARD.FW_SWITCHED 0).ctrlLate f.ring f.cookie 0 0x14 0))) ∧
    (s.stw.fw = none → exec .fwSwitch s = .next s ∧ exec .fwConfirm s = .next s) ∧
    (∀ f, s.stw.fw = some f → f.switched = true →
      let t : State := { s with
        stw := { s.stw with fw := none },
        mod := { s.mod with bootB := decide (s.stwFld Fld.STEWARD.STW_STATE.image = 1) } }
      exec .fwConfirm s = .next (t.setFld Reg.STEWARD.STW_STATE Fld.STEWARD.STW_STATE.confirmed 1)) ∧
    (let t := cmd Fld.STEWARD.STW_CMD.hold_go
     (t.stw.holdWindow = false → exec .holdGo s = .next (t.busyDrop 1 (t.issuer Reg.STEWARD.STW_CMD))) ∧
     (t.stw.holdWindow = true →
       let u := (List.range 8).foldl State.portDisable t
       let v : State := { u with stw := { u.stw with holdWindow := false, held := true } }
       exec .holdGo s = .next ((v.setFld Reg.STEWARD.STW_STATE Fld.STEWARD.STW_STATE.resume 2).raise Ev.STEWARD.RESUME_HELD 0))) ∧
    (let t := cmd Fld.STEWARD.STW_CMD.resume_go
     (∀ i, t.stw.held = true → t.retained.session = some i → exec .resumeGo s = .next ((t.resumePorts i).resumeRest i)) ∧
     (t.stw.held = false → exec .resumeGo s = .next t)) ∧
    (let t := cmd Fld.STEWARD.STW_CMD.discard_go
     (t.stw.held = true → exec .discardGo s = .next (t.resetConfig.idleStart 0)) ∧
     (t.stw.held = false → exec .discardGo s = .next t)) ∧
    (∀ i, s.stw.holdWindow = true → s.retained.session = some i → exec .holdWindowEnd s = .next (s.resumeRest i)) ∧
    (s.stw.holdWindow = false → exec .holdWindowEnd s = .next s) ∧
    (s.stwFld Fld.STEWARD.STW_STATE.standby_ready = 0 → exec .stewardTakeover s = .next s) ∧
    (s.stwFld Fld.STEWARD.STW_STATE.standby_ready ≠ 0 →
      let t := (s.setFld Reg.STEWARD.STW_STATE Fld.STEWARD.STW_STATE.active (1 - s.stwFld Fld.STEWARD.STW_STATE.active)).setFld
        Reg.STEWARD.STW_STATE Fld.STEWARD.STW_STATE.standby_ready 0
      let u := (t.count Reg.STEWARD.TAKEOVER_CNT 1).blkEvent 1 10 Ev.STEWARD.STEWARD_TAKEOVER 0
      u.stw.cal = none → (u.stw.fw = none → exec .stewardTakeover s = .next u) ∧
        (∀ f, u.stw.fw = some f → f.switched = true → exec .stewardTakeover s = .next u.revertFw)) ∧
    (s.stwFld Fld.STEWARD.STW_STATE.standby_ready ≠ 1 → s.mod.started = true →
      let unit := 12 + (1 - s.stwFld Fld.STEWARD.STW_STATE.active)
      (∀ n, s.spareNow 3 unit = some n → exec .standbyReady s = .next ((s.switchUnit 3 unit n 1).setFld Reg.STEWARD.STW_STATE
        Fld.STEWARD.STW_STATE.standby_ready 1)) ∧
      (s.spareNow 3 unit = none → exec .standbyReady s = .next s))

/-! ## Module (ch. 18) -/

/-- Power, reset, temperature and the host link. (From R441, R531 to R543, of which this states what is written here and no
more.) Where the rules leave something open, this follows the model's choice: log entries 145, 147, 148. -/
def Obligations.ModulePower : Prop :=
  ∀ s : State,
    (∀ inh service : Bool, s.mod.vaux = false ∨ s.mod.started = true ∨ s.mod.fault = true → ∀ bad cal,
      exec (.powerUp inh service bad cal) s = .next s) ∧
    (∀ inh service : Bool, s.mod.vaux = true → s.mod.started = false → s.mod.fault = false →
      let first := !s.mod.powered
      let t := s.unpowered
      let u := (({ t with mod := { t.mod with started := true, pwrgd := true, powered := true, since := t.time.tick } } : State).emit
        (.pin "PWRGD" true))
      let v := if first then u.setFld Reg.RETAIN.RT_STATE Fld.RETAIN.RT_STATE.valid 0x3F else u
      let w := v.setFld Reg.RETAIN.RT_STATE Fld.RETAIN.RT_STATE.factory (if first then 1 else 0)
      let st (x : State) (f : Bits) (n : Nat) : State := x.setFld Reg.STEWARD.STW_STATE f n
      let a := st (st w Fld.STEWARD.STW_STATE.resume_inh (if inh then 1 else 0)) Fld.STEWARD.STW_STATE.standby_ready 1
      let b := st (st a Fld.STEWARD.STW_STATE.image (if a.mod.bootB then 1 else 0)) Fld.STEWARD.STW_STATE.confirmed 1
      let c := b.reportVersions.setFld Reg.PWR.PWR_STATE Fld.PWR.PWR_STATE.service (if service then 1 else 0)
      let d := if service then c.pwrEvent 12 Ev.PWR.SERVICE_MODE 0 else c
      (d.mod.perst = true → exec (.powerUp inh service 0 []) s = .next d) ∧
      (d.mod.perst = false → exec (.powerUp inh service 0 []) s = .next d.access)) ∧
    (s.mod.perst = false → exec .perstRelease s = .next s) ∧
    (s.mod.perst = true →
      let t : State := { s with mod := { s.mod with perst := false } }
      (s.mod.started = true → s.mod.accessible = false → exec .perstRelease s = .next t.access) ∧
      (s.mod.started = false ∨ s.mod.accessible = true → exec .perstRelease s = .next t)) ∧
    (s.mod.started = true → s.mod.perst = true → s.mod.accessible = false → exec .perstTimeout s = .next s.access) ∧
    (s.mod.accessible = true → exec .perstTimeout s = .next s) ∧
    (s.mod.started = true → exec (.vinLow true) s = .next ((((s.count Reg.PWR.VIN_LOW_CNT 1).setFld Reg.PWR.PWR_STATE
      Fld.PWR.PWR_STATE.vin_low 1).pwrEvent 11 Ev.PWR.VIN_LOW 0).stop)) ∧
    (s.mod.started = false → s.mod.fault = true → exec (.vinLow true) s =
      .next (({ s with mod := { s.mod with fault := false } } : State).emit (.pin "FAULT_N" true))) ∧
    (s.mod.started = false → s.mod.vaux = true → exec (.vinLow false) s = .next s.vauxLost) ∧
    (s.mod.started = true →
      let t := s.setFld Reg.PWR.PWR_STATE Fld.PWR.PWR_STATE.vin_low 0
      let down := (({ t with mod := { t.mod with fault := true } } : State).stop).emit (.pin "FAULT_N" false)
      exec .thermalShutdown s = .next down ∧ exec .railFault s = .next down) ∧
    (s.mod.started = false → exec .thermalShutdown s = .next s ∧ exec .railFault s = .next s) ∧
    (∀ case_ junction optical dram : Byte, s.mod.started = true →
      let t := Reg.PWR.PWR_TEMP
      let u := (((s.setFld t Fld.PWR.PWR_TEMP.case case_.toNat).setFld t Fld.PWR.PWR_TEMP.junction junction.toNat).setFld t
        Fld.PWR.PWR_TEMP.optical optical.toNat).setFld t Fld.PWR.PWR_TEMP.dram dram.toNat
      let on := u.flag Reg.PWR.PWR_STATE Fld.PWR.PWR_STATE.therm
      let warn := ((u.setFld Reg.PWR.PWR_STATE Fld.PWR.PWR_STATE.therm 1).count Reg.PWR.THERM_CNT 1).emit (.pin "THERM_N" false)
      (on = false → 85 ≤ case_.toInt → exec (.thermWarn case_ junction optical dram) s =
        .next (warn.pwrEvent 10 Ev.PWR.THERM_WARN case_.toNat)) ∧
      (on = false → case_.toInt < 85 → 100 ≤ junction.toInt → exec (.thermWarn case_ junction optical dram) s =
        .next (warn.pwrEvent 10 Ev.PWR.THERM_WARN (junction.toNat + 256))) ∧
      (on = true → case_.toInt ≤ 82 → junction.toInt ≤ 97 → exec (.thermWarn case_ junction optical dram) s =
        .next ((u.setFld Reg.PWR.PWR_STATE Fld.PWR.PWR_STATE.therm 0).emit (.pin "THERM_N" true))) ∧
      (on = false → case_.toInt < 85 → junction.toInt < 100 → exec (.thermWarn case_ junction optical dram) s = .next u) ∧
      (on = true → 82 < case_.toInt ∨ 97 < junction.toInt → exec (.thermWarn case_ junction optical dram) s = .next u)) ∧
    (∀ bad : BitVec 14, s.mod.started = true →
      let l := (List.range 14).filter (fun i => bad.getLsbD i && (s.fld Reg.PWR.PWR_PHASE Fld.PWR.PWR_PHASE.ok).testBit i)
      let t := l.foldl State.shedPhase s
      (12 ≤ t.phasesOk → exec (.phaseCheck bad) s = .next t) ∧
      (t.phasesOk < 12 → t.flag Reg.PWR.PWR_STATE Fld.PWR.PWR_STATE.phase_short = false → exec (.phaseCheck bad) s =
        .next ((t.setFld Reg.PWR.PWR_STATE Fld.PWR.PWR_STATE.phase_short 1).pwrEvent 9 Ev.PWR.PHASE_SHORT (l.getLastD 0)))) ∧
    (∀ (gen : BitVec 2) (width : BitVec 5), linkOk gen.toNat width.toNat = true →
      (s.mod.perst = false → s.mod.accessible = true → s.fld Reg.HOSTQ.HQ_LINK Fld.HOSTQ.HQ_LINK.up ≠ 1 →
        exec (.hostLinkUp gen width) s = .next (s.setHostLink true gen.toNat width.toNat)) ∧
      (s.mod.perst = true ∨ s.mod.accessible = false → exec (.hostLinkUp gen width) s = .next s)) ∧
    exec .vauxWithinRange s = .next { s with mod := { s.mod with vaux := true } }

/-- The SMBus target and the test access port. (From R540 to R542, of which this states what is written here and no more.)
Where the rules leave something open, this follows the model's choice: log entries 149, 150, 151. -/
def Obligations.ModulePorts : Prop :=
  ∀ (code : Byte) (pins tdi : List Bool) (s : State),
    let a := 24 * 0x80000 + 0x1000 + 4 * code.toNat
    let shift (t : State) (ir : Nat) : State := (t.setJtag ir t.mod.bsr).emit (.tdo ((false :: tdi).take tdi.length))
    let bypassed : Host.Outcome State Fault Refusal := .next (shift s 0)
    let shifted := (pins ++ tdi).take tdi.length
    let held := (pins ++ tdi).drop tdi.length
    (s.mod.vaux = true →
      (code.toNat < 0x40 → s.measured a = false → exec (.smbusRegRead code) s =
        .next (s.emit (.smbus (leBytes 4 (s.readReg a).toNat)))) ∧
      (code.toNat < 0x40 → s.measured a = true → exec (.smbusRegRead code) s =
        .next (s.draw.2.emit (.smbus (leBytes 4 (s.readReg a).toNat)))) ∧
      (0x40 ≤ code.toNat → exec (.smbusRegRead code) s = .next (s.emit (.smbus []))) ∧
      exec .smbusIdent s = .next (s.emit (.smbus s.identity)) ∧
      (s.mod.alert = true → ∃ reply, exec .smbusAra s = .next (((({ s with mod := { s.mod with alert := false } } : State).emit
        (.smbus reply)).emit (.pin "SMB_ALERT_N" true)))) ∧
      (s.mod.alert = false → exec .smbusAra s = .next (s.emit (.smbus [])))) ∧
    (s.mod.vaux = false → exec .smbusIdent s = .next s ∧ exec .smbusAra s = .next s) ∧
    (s.mod.started = true →
      exec (.jtagBypass tdi) s = bypassed ∧
      exec (.jtagIdcode tdi) s = .next ((s.setJtag 1 s.mod.bsr).emit (.tdo ((idcode ++ tdi).take tdi.length))) ∧
      exec (.jtagSamplePreload pins tdi) s = .next ((s.setJtag 2 held).emit (.tdo shifted)) ∧
      (s.scanAllowed = true →
        exec (.jtagExtest pins tdi) s = .next (((s.setJtag 3 held).emit (.tdo shifted)).emit (.boundary (some held))) ∧
        exec (.jtagClamp tdi) s = .next ((shift s 4).emit (.boundary (some s.mod.bsr))) ∧
        exec (.jtagHighz tdi) s = .next ((shift s 5).emit (.boundary none))) ∧
      (s.scanAllowed = false →
        exec (.jtagExtest pins tdi) s = bypassed ∧ exec (.jtagClamp tdi) s = bypassed ∧ exec (.jtagHighz tdi) s = bypassed)) ∧
    (s.mod.started = false → ∀ i ∈ [Instr.jtagBypass tdi, .jtagIdcode tdi, .jtagSamplePreload pins tdi, .jtagExtest pins tdi,
      .jtagClamp tdi, .jtagHighz tdi], exec i s = .next s)

/-! ## Programs (ch. 03) -/

/-- R80: an admitted or restarted program starts with its code at instruction-memory address 0 (instruction memory is kept as
words), its data at data-memory address 0 and the rest of data memory zero; n0 to n31 are 0, p0 is 1, p1 to p7 are 0, the
rotating base is 0 and the program counter is entry. -/
def Obligations.ProgramStart : Prop :=
  ∀ n : NibSlot,
    let t := n.start
    (∀ i, i < progCodeLen n.image / 4 →
      sparseGet (fun _ => (0 : Word)) t.imem i = BitVec.ofNat 32 (leAt n.image (progCodeAt n.image + 4 * i) 4)) ∧
    (∀ i, i < progDataLen n.image → sparseGet (fun _ => (0 : Byte)) t.dmem i = n.image.getD (progDataAt n.image + i) 0) ∧
    (∀ i, progDataLen n.image ≤ i → sparseGet (fun _ => (0 : Byte)) t.dmem i = 0) ∧
    (∀ k, t.get k = 0) ∧ t.pred 0 = true ∧ (∀ k, 0 < k → k < 8 → t.pred k = false) ∧ t.rrb = 0 ∧
    t.pc = BitVec.ofNat 16 n.entry ∧ t.state = .running
end

