-- ==== Sys2Proof/Laws/Brush.lean ====
section
/-! SUPPORT. What one Brush instruction does on a core that issues: its body on the core, then the next address and the count. -/

namespace Sys2Proof.Machine

variable {s : State} {c : Fin 40} {j : BrushJob} {w : BrushWord}

/-- A core that is ready issues. -/
theorem issues_of_ready (h : s.brushReady c j w) : s.issues c = true := by
  obtain ⟨h1, h2, h3, -, -⟩ := h
  simp [State.issues, h1, h2, h3]

/-- An instruction of a ready core, on a legal word, gives what its body gives. -/
theorem brush1_ready {u : Uses} {body : BrushCore → BrushRes} (h : s.brushReady c j w) (hl : w.legal u = true) :
    s.brush1 c w u body = match body (s.core c) with
      | .error e => s.brushFault c e
      | .ok r => s.brushTakes c j r := by
  have hi := issues_of_ready h
  obtain ⟨-, h2, -, h4, h5⟩ := h
  have hk : ∀ k : BrushCore, k.rep = none → k.job = some j → { k with rep := none, job := some j } = k := by
    rintro ⟨⟩ rfl rfl; rfl
  simp only [State.brush1, h2, hi, h4, State.brushEcc, h5, hl, Option.getD_none]
  rw [hk _ h4 h2]
  simp only [brushRepeat]
  cases hb : body (s.core c) <;> simp [State.brushTakes]

/-- The same on a word with a field that should be 0. -/
theorem brush1_illegal {u : Uses} {body : BrushCore → BrushRes} (h : s.brushReady c j w) (hl : w.legal u = false) :
    s.brush1 c w u body = s.brushFault c 1 := by
  have hi := issues_of_ready h
  obtain ⟨-, h2, -, -, h5⟩ := h
  simp [State.brush1, h2, hi, State.brushEcc, h5, hl]

/-- An instruction whose effect goes beyond its core. -/
theorem brush2_ready {u : Uses} {body : BrushJob → State → Except Nat State} (h : s.brushReady c j w) (hl : w.legal u = true) :
    s.brush2 c w u body = match body j s with
      | .error e => s.brushFault c e
      | .ok t => t := by
  have hi := issues_of_ready h
  obtain ⟨-, h2, -, -, h5⟩ := h
  simp only [State.brush2, h2, hi, State.brushEcc, h5, hl]
  cases hb : body j s <;> simp

/-- A core that does not issue carries out nothing. -/
theorem brush1_idle {u : Uses} {body : BrushCore → BrushRes} (h : s.issues c = false) : s.brush1 c w u body = s := by
  simp only [State.brush1, h]; split <;> simp

theorem brush2_idle {u : Uses} {body : BrushJob → State → Except Nat State} (h : s.issues c = false) : s.brush2 c w u body = s := by
  simp only [State.brush2, h]; split <;> simp

end Sys2Proof.Machine
end

