-- ==== Sys2Proof/Laws/Sparse.lean ====
section
/-! SUPPORT. The laws of sparse maps: a read after a write, and the canonical form that every write keeps. -/

namespace Sys2Proof.Machine

variable {α : Type} {d : Nat → α}

theorem keysAbove_mono {a b : Nat} (h : a ≤ b) {m : List (Nat × α)} (hm : keysAbove b m = true) : keysAbove a m = true := by
  cases m with
  | nil => rfl
  | cons e t =>
    simp only [keysAbove, Bool.and_eq_true, decide_eq_true_eq] at hm ⊢
    exact ⟨Nat.lt_of_le_of_lt h hm.1, hm.2⟩

theorem keysRise_of_above {b : Nat} {m : List (Nat × α)} (hm : keysAbove b m = true) : keysRise m = true := by
  cases m with
  | nil => rfl
  | cons e t =>
    simp only [keysAbove, Bool.and_eq_true] at hm
    exact hm.2

/-- Nothing is listed at a key that lies below every listed one. -/
theorem sparseGet_above {b k : Nat} (h : k ≤ b) : ∀ {m : List (Nat × α)}, keysAbove b m = true → sparseGet d m k = d k
  | [], _ => rfl
  | (k', _) :: t, hm => by
    simp only [keysAbove, Bool.and_eq_true, decide_eq_true_eq] at hm
    rw [sparseGet, if_neg (by omega), sparseGet_above (by omega) hm.2]

theorem keysAbove_filter (p : Nat × α → Bool) :
    ∀ {b : Nat} {m : List (Nat × α)}, keysAbove b m = true → keysAbove b (m.filter p) = true
  | _, [], _ => rfl
  | b, (k, v) :: t, hm => by
    simp only [keysAbove, Bool.and_eq_true, decide_eq_true_eq] at hm
    rw [List.filter_cons]
    split
    · simp only [keysAbove, Bool.and_eq_true, decide_eq_true_eq]
      exact ⟨hm.1, keysAbove_filter p hm.2⟩
    · exact keysAbove_filter p (keysAbove_mono (Nat.le_of_lt hm.1) hm.2)

variable [DecidableEq α]

theorem keysAbove_put {k : Nat} {v : α} :
    ∀ {b : Nat} {m : List (Nat × α)}, b < k → keysAbove b m = true → keysAbove b (sparsePut d k v m) = true
  | _, [], h, _ => by rw [sparsePut]; split <;> simp [keysAbove, h]
  | b, (k', v') :: t, h, hm => by
    simp only [keysAbove, Bool.and_eq_true, decide_eq_true_eq] at hm
    rw [sparsePut]
    split
    · split <;> simp_all [keysAbove]
    · split
      · split
        · exact keysAbove_mono (Nat.le_of_lt hm.1) hm.2
        · simp_all [keysAbove]
      · simp only [keysAbove, Bool.and_eq_true, decide_eq_true_eq]
        exact ⟨hm.1, keysAbove_put (by omega) hm.2⟩

/-- A write keeps the canonical form. -/
theorem sparsePut_wf {k : Nat} {v : α} : ∀ {m : List (Nat × α)}, sparseWf d m = true → sparseWf d (sparsePut d k v m) = true
  | [], _ => by rw [sparsePut]; split <;> simp_all [sparseWf, keysRise, keysAbove]
  | (k', v') :: t, hm => by
    simp only [sparseWf, keysRise, List.all_cons, Bool.and_eq_true, decide_eq_true_eq] at hm
    obtain ⟨h1, h2, h3⟩ := hm
    rw [sparsePut]
    split
    · split <;> simp_all [sparseWf, keysRise, keysAbove]
    · split
      · split
        · simp only [sparseWf, Bool.and_eq_true]
          exact ⟨keysRise_of_above h1, h3⟩
        · simp_all [sparseWf, keysRise]
      · have ih := sparsePut_wf (k := k) (v := v) (m := t) (by
          simp only [sparseWf, Bool.and_eq_true]; exact ⟨keysRise_of_above h1, h3⟩)
        simp only [sparseWf, keysRise, List.all_cons, Bool.and_eq_true, decide_eq_true_eq] at ih ⊢
        exact ⟨keysAbove_put (by omega) h1, h2, ih.2⟩

/-- Dropping entries keeps the canonical form. -/
theorem sparseFilter_wf (p : Nat → Bool) {m : List (Nat × α)} (h : sparseWf d m = true) : sparseWf d (sparseFilter p m) = true := by
  simp only [sparseWf, Bool.and_eq_true] at h ⊢
  refine ⟨?_, ?_⟩
  · cases m with
    | nil => rfl
    | cons e t =>
      rw [sparseFilter, List.filter_cons]
      split
      · exact keysAbove_filter _ h.1
      · exact keysRise_of_above (keysAbove_filter _ h.1)
  · rw [List.all_eq_true] at h ⊢
    exact fun x hx => h.2 x (List.mem_of_mem_filter hx)

/-- Consecutive writes keep the canonical form. -/
theorem sparsePutN_wf : ∀ {l : List α} {k : Nat} {m : List (Nat × α)},
    sparseWf d m = true → sparseWf d (sparsePutN d m k l) = true
  | [], _, _, h => h
  | _ :: t, _, _, h => by rw [sparsePutN]; exact sparsePutN_wf (l := t) (sparsePut_wf h)

/-- A read after a write: the value written at its key. -/
@[simp] theorem sparseGet_put_same {k : Nat} {v : α} :
    ∀ {m : List (Nat × α)}, keysRise m = true → sparseGet d (sparsePut d k v m) k = v
  | [], _ => by rw [sparsePut]; split <;> simp_all [sparseGet]
  | (k', v') :: t, hm => by
    rw [keysRise] at hm
    rw [sparsePut]
    split
    · next hlt =>
      split
      · next hv =>
        rw [sparseGet, if_neg (by omega), sparseGet_above (by omega) hm, hv]
      · simp [sparseGet]
    · split
      · next he =>
        subst he
        split
        · next hv => rw [sparseGet_above (Nat.le_refl _) hm, hv]
        · simp [sparseGet]
      · rw [sparseGet, if_neg (by omega), sparseGet_put_same (keysRise_of_above hm)]

/-- A read after a write: every other key as before. -/
theorem sparseGet_put_other {k j : Nat} {v : α} (h : j ≠ k) :
    ∀ {m : List (Nat × α)}, sparseGet d (sparsePut d k v m) j = sparseGet d m j
  | [] => by rw [sparsePut]; split <;> simp [sparseGet, Ne.symm h]
  | (k', v') :: t => by
    rw [sparsePut]
    split
    · split
      · rfl
      · rw [sparseGet, if_neg (Ne.symm h)]
    · split
      · next he =>
        subst he
        split
        · conv => rhs; rw [sparseGet, if_neg (Ne.symm h)]
        · rw [sparseGet, sparseGet, if_neg (Ne.symm h), if_neg (Ne.symm h)]
      · rw [sparseGet, sparseGet, sparseGet_put_other h]

/-- Bytes written from k on: every key outside them reads as before. -/
theorem sparseGet_putN_other : ∀ {l : List α} {k j : Nat} {m : List (Nat × α)},
    (j < k ∨ k + l.length ≤ j) → sparseGet d (sparsePutN d m k l) j = sparseGet d m j
  | [], _, _, _, _ => rfl
  | v :: t, k, j, m, h => by
    rw [sparsePutN, sparseGet_putN_other (by simp only [List.length_cons] at h; omega),
      sparseGet_put_other (by simp only [List.length_cons] at h; omega)]

end Sys2Proof.Machine
end

