-- ==== Sys2Proof/Laws/Keeps.lean ====
section
/-! SUPPORT. How `Keeps` is put together: one rule for each way the model builds a state from another. -/

namespace Sys2Proof.Machine

theorem Registers.wf_put {r : List (Nat × Word)} (a : Nat) (v : Word) (h : Registers.wf r = true) :
    Registers.wf (sparsePut resetWord a v r) = true := sparsePut_wf h

theorem Registers.wf_filter {r : List (Nat × Word)} (p : Nat → Bool) (h : Registers.wf r = true) :
    Registers.wf (sparseFilter p r) = true := sparseFilter_wf p h

theorem Memory.wf_put {m : List Host.Cell} (a : Nat) (l : List Byte) (h : Memory.wf m = true) :
    Memory.wf (sparsePutN (fun _ => 0) m a l) = true := sparsePutN_wf h

theorem Keeps.refl (s : State) : Keeps s s := ⟨rfl, rfl, List.prefix_refl _, id, id⟩

theorem Keeps.trans {s t u : State} (h : Keeps s t) (k : Keeps t u) : Keeps s u :=
  ⟨k.pending.trans h.pending, k.tick.trans h.tick, h.sent.trans k.sent, fun r => k.registers (h.registers r),
    fun r => k.memory (h.memory r)⟩

/-- The same, the later change first. -/
theorem Keeps.on {s t u : State} (k : Keeps t u) (h : Keeps s t) : Keeps s u := h.trans k

/-- A state that differs in nothing `Keeps` speaks of. -/
theorem Keeps.of {s t : State} (p : t.pending = s.pending) (c : t.time.tick = s.time.tick) (o : t.out = s.out)
    (r : t.regs = s.regs) (m : t.ink.mem = s.ink.mem) : Keeps s t :=
  ⟨p, c, o ▸ List.prefix_refl _, fun h => r ▸ h, fun h => m ▸ h⟩

/-- A state written out over another that has the same queue, registers, ticks, effects and memory. -/
theorem Keeps.upd {s t : State} {x_staged x_latches x_scopes x_blocks x_rings time x_fresh x_retained x_issuers x_nibs
      x_streams x_ports x_tests x_casc x_links x_clk x_tim x_spikes x_zooms x_pairs x_windows x_sources x_masks x_mecs
      x_timers x_trg x_seqs x_tadpoles x_records x_flows x_jobs x_brush x_brushQueue x_kernels x_planes x_panels
      x_releases ink x_channels x_disks x_nvme x_stw x_mod : _} (ht : time.tick = t.time.tick)
    (hi : ink.mem = t.ink.mem) (h : Keeps s t) :
    Keeps s (State.mk t.pending t.regs x_staged x_latches x_scopes x_blocks x_rings time t.out x_fresh x_retained
      x_issuers x_nibs x_streams x_ports x_tests x_casc x_links x_clk x_tim x_spikes x_zooms x_pairs x_windows x_sources
      x_masks x_mecs x_timers x_trg x_seqs x_tadpoles x_records x_flows x_jobs x_brush x_brushQueue x_kernels x_planes
      x_panels x_releases ink x_channels x_disks x_nvme x_stw x_mod) :=
  h.trans (.of rfl ht rfl rfl hi)

theorem Keeps.ite {c : Prop} [Decidable c] {s t u : State} (h : Keeps s t) (k : Keeps s u) : Keeps s (if c then t else u) := by
  split
  · exact h
  · exact k

theorem Keeps.of_eq {s t : State} {α : Type} {a : α} {p : α × State} (e : p = (a, t)) (h : Keeps s p.2) : Keeps s t := by subst e; exact h

theorem Keeps.of_eq3 {s t : State} {α β : Type} {a : α} {b : β} {p : α × β × State} (e : p = (a, b, t)) (h : Keeps s p.2.2) :
    Keeps s t := by subst e; exact h

theorem Keeps.mkSnd {s t : State} {α : Type} {a : α} (h : Keeps s t) : Keeps s (a, t).2 := h

theorem Keeps.iteSnd {c : Prop} [Decidable c] {s : State} {α : Type} {t u : α × State} (h : Keeps s t.2) (k : Keeps s u.2) :
    Keeps s (if c then t else u).2 := by
  split
  · exact h
  · exact k

theorem Keeps.iteFst {c : Prop} [Decidable c] {s : State} {α : Type} {t u : State × α} (h : Keeps s t.1) (k : Keeps s u.1) :
    Keeps s (if c then t else u).1 := by
  split
  · exact h
  · exact k

theorem Keeps.iteThird {c : Prop} [Decidable c] {s : State} {α β : Type} {t u : α × β × State} (h : Keeps s t.2.2) (k : Keeps s u.2.2) :
    Keeps s (if c then t else u).2.2 := by
  split
  · exact h
  · exact k

theorem Keeps.ticked {s t : State} (h : Keeps s t) : Keeps s.ticked t.ticked :=
  ⟨h.pending, congrArg (· + 1) h.tick, h.sent, h.registers, h.memory⟩

theorem Keeps.when {f : State → State} (h : ∀ s, Keeps s (f s)) (s : State) (c : Bool) : Keeps s (s.when c f) := by
  unfold State.when
  exact .ite (h s) (.refl s)

theorem Keeps.foldl {α : Type} {f : State → α → State} (h : ∀ s x, Keeps s (f s x)) : ∀ (l : List α) (s : State), Keeps s (l.foldl f s)
  | [], s => .refl s
  | x :: t, s => (h s x).trans (Keeps.foldl h t (f s x))

theorem Keeps.foldlSnd {α β : Type} {f : β × State → α → β × State} (h : ∀ p x, Keeps p.2 (f p x).2) :
    ∀ (l : List α) (p : β × State), Keeps p.2 (l.foldl f p).2
  | [], p => .refl p.2
  | x :: t, p => (h p x).trans (Keeps.foldlSnd h t (f p x))

theorem Keeps.foldlFst {α β : Type} {f : State × β → α → State × β} (h : ∀ p x, Keeps p.1 (f p x).1) :
    ∀ (l : List α) (p : State × β), Keeps p.1 (l.foldl f p).1
  | [], p => .refl p.1
  | x :: t, p => (h p x).trans (Keeps.foldlFst h t (f p x))

theorem Keeps.foldlThird {α β γ : Type} {f : β × γ × State → α → β × γ × State} (h : ∀ p x, Keeps p.2.2 (f p x).2.2) :
    ∀ (l : List α) (p : β × γ × State), Keeps p.2.2 (l.foldl f p).2.2
  | [], p => .refl p.2.2
  | x :: t, p => (h p x).trans (Keeps.foldlThird h t (f p x))

theorem KeepsOn.next {s t : State} (h : Keeps s t) : KeepsOn s (.next t) := ⟨t, rfl, h⟩

theorem KeepsOn.ite {c : Prop} [Decidable c] {s : State} {o p : Host.Outcome State Fault Refusal} (h : KeepsOn s o)
    (k : KeepsOn s p) : KeepsOn s (if c then o else p) := by
  split
  · exact h
  · exact k

theorem KeepsOn.from {s t : State} {o : Host.Outcome State Fault Refusal} (h : Keeps s t) : KeepsOn t o → KeepsOn s o
  | ⟨u, ho, k⟩ => ⟨u, ho, h.trans k⟩

theorem Keeps.after {s t : State} {o : Host.Outcome State Fault Refusal} : KeepsOn s o → Keeps s (t.after o)
  | ⟨_, ho, k⟩ => ho ▸ k

theorem KeepsOk.ok {ε : Type} {s t : State} (h : Keeps s t) : KeepsOk (ε := ε) s (.ok t)
  | _, rfl => h

theorem KeepsOk.error {ε : Type} {s : State} (e : ε) : KeepsOk s (.error e : Except ε State)
  | _, h => by cases h

theorem KeepsOk.ite {ε : Type} {c : Prop} [Decidable c] {s : State} {a b : Except ε State} (h : KeepsOk s a) (k : KeepsOk s b) :
    KeepsOk s (if c then a else b) := by
  split
  · exact h
  · exact k

theorem KeepsPair.ite {ε α : Type} {c : Prop} [Decidable c] {s : State} {a b : Except ε (α × State)} (h : KeepsPair s a)
    (k : KeepsPair s b) : KeepsPair s (if c then a else b) := by
  split
  · exact h
  · exact k

theorem KeepsPair.pair {ε α : Type} {s : State} {p : α × State} (h : Keeps s p.2) : KeepsPair (ε := ε) s (.ok p)
  | _, _, rfl => h

theorem KeepsPair.bad {ε α : Type} {s : State} (e : ε) : KeepsPair s (.error e : Except ε (α × State))
  | _, _, h => by cases h

end Sys2Proof.Machine
end

