-- ==== Sys2Proof/Laws/KeepsOps1.lean ====
section
/-! SUPPORT. `Keeps` of the shared operations, part 1 of 4: what each of them leaves as it was. -/

set_option linter.unusedTactic false
set_option linter.unreachableTactic false

namespace Sys2Proof.Machine

theorem State.setReg_keeps : ∀ s a1 a2, Keeps s (State.setReg s a1 a2) :=
  fun _ _ _ => ⟨rfl, rfl, List.prefix_refl _, Registers.wf_put _ _, id⟩

theorem State.setFld_keeps : ∀ s a1 a2 a3, Keeps s (State.setFld s a1 a2 a3) := by
  intro s a1 a2 a3; delta State.setFld
  exact (State.setReg_keeps _ _ _)

theorem State.setLaneState_keeps : ∀ s a1 a2, Keeps s (State.setLaneState s a1 a2) := by
  intro s a1 a2; delta State.setLaneState
  exact (State.setFld_keeps _ _ _ _)

theorem State.setScope_keeps : ∀ s a1 a2, Keeps s (State.setScope s a1 a2) := by
  intro s a1 a2; delta State.setScope
  exact (.of rfl rfl rfl rfl rfl)

theorem State.count_keeps : ∀ s a1 a2, Keeps s (State.count s a1 a2) := by
  intro s a1 a2; delta State.count
  exact (State.setReg_keeps _ _ _)

theorem State.dropEvent_keeps : ∀ s a1, Keeps s (State.dropEvent s a1) := by
  intro s a1; delta State.dropEvent
  exact (.on (State.count_keeps _ _ _) (.of rfl rfl rfl rfl rfl))

theorem State.emit_keeps : ∀ s a1, Keeps s (State.emit s a1) :=
  fun _ _ => ⟨rfl, rfl, List.prefix_append _ _, id, id⟩

theorem State.rringPush_keeps : ∀ s a1 a2, Keeps s (State.rringPush s a1 a2) := by
  intro s a1 a2; delta State.rringPush
  exact (.ite (.on (State.emit_keeps _ _) (.on (State.setReg_keeps _ _ _) (.of rfl rfl rfl rfl rfl))) (.on (State.setReg_keeps
    _ _ _) (.of rfl rfl rfl rfl rfl)))

theorem State.signal_keeps : ∀ s a1, Keeps s (State.signal s a1) := by
  intro s a1; delta State.signal
  exact (.ite (.refl _) (.ite (State.setReg_keeps _ _ _) (State.emit_keeps _ _)))

theorem State.routeEvent_keeps : ∀ s a1 a2, Keeps s (State.routeEvent s a1 a2) := by
  intro s a1 a2; delta State.routeEvent
  exact (.ite (.refl _) (.ite (State.dropEvent_keeps _ _) (.ite (.on (State.dropEvent_keeps _ _) (.ite (.upd rfl rfl
    (State.rringPush_keeps _ _ _)) (.refl _))) (.ite (.on (State.signal_keeps _ _) (.upd rfl rfl (.on (State.rringPush_keeps _
    _ _) (.ite (.upd rfl rfl (State.rringPush_keeps _ _ _)) (.refl _))))) (.upd rfl rfl (.on (State.rringPush_keeps _ _ _)
    (.ite (.upd rfl rfl (State.rringPush_keeps _ _ _)) (.refl _))))))))

theorem State.raise_keeps : ∀ s a1 a2, Keeps s (State.raise s a1 a2) := by
  intro s a1 a2; delta State.raise
  exact (.on (State.routeEvent_keeps _ _ _) (.on (State.setReg_keeps _ _ _) (.of rfl rfl rfl rfl rfl)))

theorem State.setSta_keeps : ∀ s a1 a2, Keeps s (State.setSta s a1 a2) := by
  intro s a1 a2; delta State.setSta
  exact (State.setReg_keeps _ _ _)

theorem State.abortTest_keeps : ∀ s a1 a2, Keeps s (State.abortTest s a1 a2) := by
  intro s a1 a2; delta State.abortTest
  exact (.ite (.on (State.raise_keeps _ _ _) (.on (State.setSta_keeps _ _ _) (.on (State.setLaneState_keeps _ _ _)
    (State.setScope_keeps _ _ _)))) (.refl _))

theorem State.accept_keeps : ∀ s a1 a2, Keeps s (State.accept s a1 a2) := by
  intro s a1 a2; delta State.accept
  exact (State.setFld_keeps _ _ _ _)

theorem State.restoreReg_keeps : ∀ s a1, Keeps s (State.restoreReg s a1) := by
  intro s a1; unfold State.restoreReg; dsimp only
  exact (by split; exacts [(.refl _), (.ite (.refl _) (State.setReg_keeps _ _ _))])

theorem State.restoreWhere_keeps : ∀ s a1 a2, Keeps s (State.restoreWhere s a1 a2) := by
  intro s a1 a2; unfold State.restoreWhere
  exact (.foldl (fun _ _ => by exact (by (try dsimp only); split; exacts [(.ite (State.restoreReg_keeps _ _) (.refl _)), (.refl _)])) _ _)

theorem State.stewardCrc_keeps : ∀ s a1, Keeps s (State.stewardCrc s a1) := by
  intro s a1; delta State.stewardCrc
  exact (.on (State.setReg_keeps _ _ _) (State.setReg_keeps _ _ _))

theorem State.logEntry_keeps : ∀ s a1 a2 a3 a4 a5 a6, Keeps s (State.logEntry s a1 a2 a3 a4 a5 a6) := by
  intro s a1 a2 a3 a4 a5 a6; delta State.logEntry
  exact (.on (State.setReg_keeps _ _ _) (.of rfl rfl rfl rfl rfl))

theorem State.setVcore_keeps : ∀ s a1, Keeps s (State.setVcore s a1) := by
  intro s a1; delta State.setVcore
  exact (.ite (.refl _) (.on (State.logEntry_keeps _ _ _ _ _ _ _) (.on (State.count_keeps _ _ _) (State.setFld_keeps _ _ _ _))))

theorem State.setBlockState_keeps : ∀ s a1 a2, Keeps s (State.setBlockState s a1 a2) := by
  intro s a1 a2; delta State.setBlockState
  exact (State.setFld_keeps _ _ _ _)

theorem State.blockEnable_keeps : ∀ s a1, Keeps s (State.blockEnable s a1) := by
  intro s a1; delta State.blockEnable
  exact (.ite (State.setBlockState_keeps _ _ _) (.refl _))

theorem State.bandNone_keeps : ∀ s a1, Keeps s (State.bandNone s a1) := by
  intro s a1; delta State.bandNone
  exact (.on (State.raise_keeps _ _ _) (State.setSta_keeps _ _ _))

theorem State.draw_keeps : ∀ s, Keeps s (State.draw s).2 := by
  intro s; delta State.draw
  exact (.mkSnd (.of rfl rfl rfl rfl rfl))

theorem State.setPll_keeps : ∀ s a1 a2, Keeps s (State.setPll s a1 a2) := by
  intro s a1 a2; delta State.setPll
  exact (State.setFld_keeps _ _ _ _)

theorem State.acquire_keeps : ∀ s a1, Keeps s (State.acquire s a1) := by
  intro s a1; delta State.acquire
  exact (.on (State.setPll_keeps _ _ _) (.of rfl rfl rfl rfl rfl))

theorem execPllEnable_keeps : ∀ a0 a1 s, KeepsOn s (execPllEnable a0 a1 s) := by
  intro a0 a1 s; unfold execPllEnable
  exact (.ite (.next (.ite (.upd rfl rfl (State.accept_keeps _ _ _)) (State.accept_keeps _ _ _))) (.ite (.next (.on (State.setSta_keeps _ _ _) (.ite (.upd rfl rfl (State.accept_keeps _ _ _)) (State.accept_keeps _ _ _)))) (.ite (.next (.on (State.bandNone_keeps _ _) (.ite (.upd rfl rfl (State.accept_keeps _ _ _)) (State.accept_keeps _ _ _)))) (by (try dsimp only); split; exacts [(.next (.on (State.bandNone_keeps _ _) (.iteSnd (.on (State.draw_keeps _) (.ite (.upd rfl rfl (State.accept_keeps _ _ _)) (State.accept_keeps _ _ _))) (.ite (.upd rfl rfl (State.accept_keeps _ _ _)) (State.accept_keeps _ _ _))))), (.next (.on (State.acquire_keeps _ _) (.on (State.setFld_keeps _ _ _ _) (.on (State.setFld_keeps _ _ _ _) (.ite (.upd rfl rfl (.iteSnd (.on (State.draw_keeps _) (.ite (.upd rfl rfl (State.accept_keeps _ _ _)) (State.accept_keeps _ _ _))) (.ite (.upd rfl rfl (State.accept_keeps _ _ _)) (State.accept_keeps _ _ _)))) (.iteSnd (.on (State.draw_keeps _) (.ite (.upd rfl rfl (State.accept_keeps _ _ _)) (State.accept_keeps _ _ _))) (.ite (.upd rfl rfl (State.accept_keeps _ _ _)) (State.accept_keeps _ _ _))))))))]))))

theorem State.stopCycles_keeps : ∀ s a1 a2, Keeps s (State.stopCycles s a1 a2).2 := by
  intro s a1 a2; unfold State.stopCycles; dsimp only
  exact (by split; exacts [(.refl _), (State.draw_keeps _)])

theorem State.addTbw_keeps : ∀ s a1, Keeps s (State.addTbw s a1) := by
  intro s a1; delta State.addTbw
  exact (.of rfl rfl rfl rfl rfl)

theorem State.advanceBuckets_keeps : ∀ s a1, Keeps s (State.advanceBuckets s a1) := by
  intro s a1; unfold State.advanceBuckets; dsimp only
  exact (by split; exacts [(.of rfl rfl rfl rfl rfl), (.on (State.setFld_keeps _ _ _ _) (.of rfl rfl rfl rfl rfl)), (.of rfl rfl rfl rfl rfl)])

theorem State.domainStart_keeps : ∀ s a1, Keeps s (State.domainStart s a1) := by
  intro s a1; unfold State.domainStart; dsimp only
  exact (by split; exacts [(.upd rfl rfl (State.stopCycles_keeps _ _ _)), (.on (State.addTbw_keeps _ _) (State.stopCycles_keeps _ _ _)), (by split; exacts [(State.setFld_keeps _ _ _ _), (.on (State.setFld_keeps _ _ _ _) (.upd rfl rfl (.on (State.advanceBuckets_keeps _ _) (State.setFld_keeps _ _ _ _))))]), (.refl _)])

theorem State.domainStop_keeps : ∀ s a1, Keeps s (State.domainStop s a1) := by
  intro s a1; unfold State.domainStop; dsimp only
  exact (by split; exacts [(.upd rfl rfl (.of rfl rfl rfl rfl rfl)), (.upd rfl rfl (.of rfl rfl rfl rfl rfl)), (.on (State.setFld_keeps _ _ _ _) (.on (State.setFld_keeps _ _ _ _) (.upd rfl rfl (.of rfl rfl rfl rfl rfl)))), (.of rfl rfl rfl rfl rfl)])

theorem State.setDomain_keeps : ∀ s a1 a2, Keeps s (State.setDomain s a1 a2) := by
  intro s a1 a2; delta State.setDomain
  exact (.ite (.refl _) (.ite (.on (State.raise_keeps _ _ _) (.on (State.domainStart_keeps _ _) (State.setReg_keeps _ _ _)))
    (.on (State.raise_keeps _ _ _) (.on (State.domainStop_keeps _ _) (State.setReg_keeps _ _ _)))))

theorem State.settleOutputs_keeps : ∀ s a1, Keeps s (State.settleOutputs s a1) := by
  intro s a1; delta State.settleOutputs
  exact (.on (.foldl (fun _ _ => (State.setDomain_keeps _ _ _)) _ _) (.foldl (fun _ _ => (State.setFld_keeps _ _ _ _)) _ _))

theorem State.phyBack_keeps : ∀ s, Keeps s (State.phyBack s) := by
  intro s; delta State.phyBack
  exact (.foldl (fun _ _ => by exact (.ite (State.acquire_keeps _ _) (.refl _))) _ _)

theorem execSettleEnd_keeps : ∀ a0 s, KeepsOn s (execSettleEnd a0 s) := by
  intro a0 s; delta execSettleEnd
  exact (.ite (.next (.refl _)) (.next (.on (State.phyBack_keeps _) (.on (State.raise_keeps _ _ _) (.on (State.setSta_keeps _
    _ _) (.on (State.settleOutputs_keeps _ _) (State.setPll_keeps _ _ _)))))))

theorem State.commitCrc_keeps : ∀ s a1, Keeps s (State.commitCrc s a1) := by
  intro s a1; delta State.commitCrc
  exact (State.setReg_keeps _ _ _)

theorem State.setBlk_keeps : ∀ s a1 a2, Keeps s (State.setBlk s a1 a2) := by
  intro s a1 a2; delta State.setBlk
  exact (.of rfl rfl rfl rfl rfl)

theorem State.commitWhere_keeps : ∀ s a1 a2, Keeps s (State.commitWhere s a1 a2) := by
  intro s a1 a2; delta State.commitWhere
  exact (.ite (.on (State.commitCrc_keeps _ _) (.on (.foldl (fun _ _ => (State.setReg_keeps _ _ _)) _ _) (.of rfl rfl rfl rfl
    rfl))) (.on (State.setBlk_keeps _ _ _) (.on (State.commitCrc_keeps _ _) (.on (.foldl (fun _ _ => (State.setReg_keeps _ _
    _)) _ _) (.of rfl rfl rfl rfl rfl)))))

theorem State.commitRegs_keeps : ∀ s a1 a2, Keeps s (State.commitRegs s a1 a2) := by
  intro s a1 a2; delta State.commitRegs
  exact (State.commitWhere_keeps _ _ _)

theorem State.setDisplayArea_keeps : ∀ s a1, Keeps s (State.setDisplayArea s a1) := by
  intro s a1; delta State.setDisplayArea
  exact (.on (State.setFld_keeps _ _ _ _) (State.setFld_keeps _ _ _ _))

theorem State.placeAreas_keeps : ∀ s a1 a2, Keeps s (State.placeAreas s a1 a2) := by
  intro s a1 a2; delta State.placeAreas
  exact (.upd rfl rfl (.on (State.setDisplayArea_keeps _ _) (State.commitRegs_keeps _ _ _)))

theorem State.setChState_keeps : ∀ s a1 a2, Keeps s (State.setChState s a1 a2) := by
  intro s a1 a2; delta State.setChState
  exact (.on (State.setFld_keeps _ _ _ _) (State.setFld_keeps _ _ _ _))

theorem State.trained_keeps : ∀ s a1, Keeps s (State.trained s a1) := by
  intro s a1; delta State.trained
  exact (.on (State.setChState_keeps _ _ _) (.on (State.setFld_keeps _ _ _ _) (.on (State.setFld_keeps _ _ _ _) (.on
    (State.setFld_keeps _ _ _ _) (.on (State.setFld_keeps _ _ _ _) (State.draw_keeps _))))))

theorem State.trainInk_keeps : ∀ s, Keeps s (State.trainInk s) := by
  intro s; delta State.trainInk
  exact (.on (State.placeAreas_keeps _ _ _) (.foldl (fun _ _ => (State.trained_keeps _ _)) _ _))

theorem State.setStw_keeps : ∀ s a1 a2, Keeps s (State.setStw s a1 a2) := by
  intro s a1 a2; delta State.setStw
  exact (State.setFld_keeps _ _ _ _)

theorem State.idleStart_keeps : ∀ s a1, Keeps s (State.idleStart s a1) := by
  intro s a1; delta State.idleStart
  exact (.on (State.trainInk_keeps _) (.on (State.setStw_keeps _ _ _) (.of rfl rfl rfl rfl rfl)))

theorem State.setPortState_keeps : ∀ s a1 a2, Keeps s (State.setPortState s a1 a2) := by
  intro s a1 a2; delta State.setPortState
  exact (State.setFld_keeps _ _ _ _)

theorem State.setRxMap_keeps : ∀ s a1 a2 a3, Keeps s (State.setRxMap s a1 a2 a3) := by
  intro s a1 a2 a3; delta State.setRxMap
  exact (State.setReg_keeps _ _ _)

theorem State.setTxMap_keeps : ∀ s a1 a2 a3, Keeps s (State.setTxMap s a1 a2 a3) := by
  intro s a1 a2 a3; delta State.setTxMap
  exact (State.setReg_keeps _ _ _)

theorem State.restartLanes_keeps : ∀ s a1, Keeps s (State.restartLanes s a1) := by
  intro s a1; delta State.restartLanes
  exact (.on (State.setTxMap_keeps _ _ _ _) (.on (State.setFld_keeps _ _ _ _) (.on (State.setRxMap_keeps _ _ _ _) (.foldl (fun _ _ => by exact (.ite (.refl _) (.on (State.setFld_keeps _ _ _ _) (State.setFld_keeps _ _ _ _)))) _ _))))

theorem State.setPort_keeps : ∀ s a1 a2, Keeps s (State.setPort s a1 a2) := by
  intro s a1 a2; delta State.setPort
  exact (.of rfl rfl rfl rfl rfl)

theorem State.portEnable_keeps : ∀ s a1, Keeps s (State.portEnable s a1) := by
  intro s a1; delta State.portEnable
  exact (.ite (.on (State.setPortState_keeps _ _ _) (.on (State.restartLanes_keeps _ _) (State.setPort_keeps _ _ _))) (.refl _))

theorem State.resumePorts_keeps : ∀ s a1, Keeps s (State.resumePorts s a1) := by
  intro s a1; delta State.resumePorts
  exact (.upd rfl rfl (.on (.foldl (fun _ _ => (State.portEnable_keeps _ _)) _ _) (State.restoreWhere_keeps _ _ _)))

theorem State.access_keeps : ∀ s, Keeps s (State.access s) := by
  intro s; unfold State.access
  exact (by (try dsimp only); split; exacts [(.on (State.idleStart_keeps _ _) (.upd rfl rfl (.ite (.on (State.setFld_keeps _ _ _ _) (.ite (.after (.from (.on (State.setPll_keeps _ _ _) (.after (.from (.on (.foldl (fun _ _ => (State.setScope_keeps _ _ _)) _ _) (.on (.foldl (fun _ _ => (State.blockEnable_keeps _ _)) _ _) (.on (State.setVcore_keeps _ _) (.on (.foldl (fun _ _ => (State.stewardCrc_keeps _ _)) _ _) (State.restoreWhere_keeps _ _ _))))) (execPllEnable_keeps _ _ _)))) (execSettleEnd_keeps _ _))) (.after (.from (.on (.foldl (fun _ _ => (State.setScope_keeps _ _ _)) _ _) (.on (.foldl (fun _ _ => (State.blockEnable_keeps _ _)) _ _) (.on (State.setVcore_keeps _ _) (.on (.foldl (fun _ _ => (State.stewardCrc_keeps _ _)) _ _) (State.restoreWhere_keeps _ _ _))))) (execPllEnable_keeps _ _ _))))) (.ite (.after (.from (.on (State.setPll_keeps _ _ _) (.after (.from (.on (.foldl (fun _ _ => (State.setScope_keeps _ _ _)) _ _) (.on (.foldl (fun _ _ => (State.blockEnable_keeps _ _)) _ _) (.on (State.setVcore_keeps _ _) (.on (.foldl (fun _ _ => (State.stewardCrc_keeps _ _)) _ _) (State.restoreWhere_keeps _ _ _))))) (execPllEnable_keeps _ _ _)))) (execSettleEnd_keeps _ _))) (.after (.from (.on (.foldl (fun _ _ => (State.setScope_keeps _ _ _)) _ _) (.on (.foldl (fun _ _ => (State.blockEnable_keeps _ _)) _ _) (.on (State.setVcore_keeps _ _) (.on (.foldl (fun _ _ => (State.stewardCrc_keeps _ _)) _ _) (State.restoreWhere_keeps _ _ _))))) (execPllEnable_keeps _ _ _))))))), (.upd rfl rfl (.on (State.setStw_keeps _ _ _) (.on (State.resumePorts_keeps _ _) (.upd rfl rfl (.ite (.on (State.setFld_keeps _ _ _ _) (.ite (.after (.from (.on (State.setPll_keeps _ _ _) (.after (.from (.on (.foldl (fun _ _ => (State.setScope_keeps _ _ _)) _ _) (.on (.foldl (fun _ _ => (State.blockEnable_keeps _ _)) _ _) (.on (State.setVcore_keeps _ _) (.on (.foldl (fun _ _ => (State.stewardCrc_keeps _ _)) _ _) (State.restoreWhere_keeps _ _ _))))) (execPllEnable_keeps _ _ _)))) (execSettleEnd_keeps _ _))) (.after (.from (.on (.foldl (fun _ _ => (State.setScope_keeps _ _ _)) _ _) (.on (.foldl (fun _ _ => (State.blockEnable_keeps _ _)) _ _) (.on (State.setVcore_keeps _ _) (.on (.foldl (fun _ _ => (State.stewardCrc_keeps _ _)) _ _) (State.restoreWhere_keeps _ _ _))))) (execPllEnable_keeps _ _ _))))) (.ite (.after (.from (.on (State.setPll_keeps _ _ _) (.after (.from (.on (.foldl (fun _ _ => (State.setScope_keeps _ _ _)) _ _) (.on (.foldl (fun _ _ => (State.blockEnable_keeps _ _)) _ _) (.on (State.setVcore_keeps _ _) (.on (.foldl (fun _ _ => (State.stewardCrc_keeps _ _)) _ _) (State.restoreWhere_keeps _ _ _))))) (execPllEnable_keeps _ _ _)))) (execSettleEnd_keeps _ _))) (.after (.from (.on (.foldl (fun _ _ => (State.setScope_keeps _ _ _)) _ _) (.on (.foldl (fun _ _ => (State.blockEnable_keeps _ _)) _ _) (.on (State.setVcore_keeps _ _) (.on (.foldl (fun _ _ => (State.stewardCrc_keeps _ _)) _ _) (State.restoreWhere_keeps _ _ _))))) (execPllEnable_keeps _ _ _)))))))))])

theorem State.setStaEv_keeps : ∀ s a1 a2 a3 a4, Keeps s (State.setStaEv s a1 a2 a3 a4) := by
  intro s a1 a2 a3 a4; delta State.setStaEv
  exact (.on (State.raise_keeps _ _ _) (State.setSta_keeps _ _ _))

theorem State.logAccess_keeps : ∀ s a1 a2 a3 a4 a5, Keeps s (State.logAccess s a1 a2 a3 a4 a5) := by
  intro s a1 a2 a3 a4 a5; delta State.logAccess
  exact (.on (State.setReg_keeps _ _ _) (State.setFld_keeps _ _ _ _))

theorem State.accessErr_keeps : ∀ s a1 a2 a3 a4 a5, Keeps s (State.accessErr s a1 a2 a3 a4 a5) := by
  intro s a1 a2 a3 a4 a5; delta State.accessErr
  exact (.on (State.setStaEv_keeps _ _ _ _ _) (.on (State.count_keeps _ _ _) (State.logAccess_keeps _ _ _ _ _ _)))

theorem State.setSource_keeps : ∀ s a1 a2, Keeps s (State.setSource s a1 a2) := by
  intro s a1 a2; delta State.setSource
  exact (.of rfl rfl rfl rfl rfl)

theorem State.activate_keeps : ∀ s a1 a2 a3 a4, Keeps s (State.activate s a1 a2 a3 a4) := by
  intro s a1 a2 a3 a4; delta State.activate
  exact (State.setSource_keeps _ _ _)

theorem State.setPlane_keeps : ∀ s a1 a2, Keeps s (State.setPlane s a1 a2) := by
  intro s a1 a2; delta State.setPlane
  exact (.of rfl rfl rfl rfl rfl)

theorem State.setReg64_keeps : ∀ s a1 a2 a3, Keeps s (State.setReg64 s a1 a2 a3) := by
  intro s a1 a2 a3; delta State.setReg64
  exact (.on (State.setReg_keeps _ _ _) (State.setReg_keeps _ _ _))

theorem State.count64_keeps : ∀ s a1 a2 a3, Keeps s (State.count64 s a1 a2 a3) := by
  intro s a1 a2 a3; delta State.count64
  exact (State.setReg64_keeps _ _ _ _)

theorem State.setBlkSta_keeps : ∀ s a1 a2, Keeps s (State.setBlkSta s a1 a2) := by
  intro s a1 a2; delta State.setBlkSta
  exact (State.setSta_keeps _ _ _)

theorem State.blkEvent_keeps : ∀ s a1 a2 a3 a4, Keeps s (State.blkEvent s a1 a2 a3 a4) := by
  intro s a1 a2 a3 a4; delta State.blkEvent
  exact (.on (State.raise_keeps _ _ _) (State.setBlkSta_keeps _ _ _))

theorem State.displayChange_keeps : ∀ s, Keeps s (State.displayChange s) := by
  intro s; delta State.displayChange
  exact (.foldl (fun _ _ => by exact (.of rfl rfl rfl rfl rfl)) _ _)

theorem State.planeChange_keeps : ∀ s a1, Keeps s (State.planeChange s a1) := by
  intro s a1; delta State.planeChange
  exact (.ite (State.displayChange_keeps _) (.refl _))

theorem State.addHits_keeps : ∀ s a1 a2 a3, Keeps s (State.addHits s a1 a2 a3) := by
  intro s a1 a2 a3; delta State.addHits
  exact (.ite (.ite (.on (State.blkEvent_keeps _ _ _ _ _) (.on (State.setSta_keeps _ _ _) (.on (State.setPlane_keeps _ _ _)
    (.on (State.count64_keeps _ _ _ _) (State.setPlane_keeps _ _ _))))) (.ite (.on (State.setPlane_keeps _ _ _) (.on
    (State.count64_keeps _ _ _ _) (State.setPlane_keeps _ _ _))) (.on (State.count64_keeps _ _ _ _) (State.setPlane_keeps _ _
    _)))) (.on (State.planeChange_keeps _ _) (.ite (.on (State.blkEvent_keeps _ _ _ _ _) (.on (State.setSta_keeps _ _ _) (.on
    (State.setPlane_keeps _ _ _) (.on (State.count64_keeps _ _ _ _) (State.setPlane_keeps _ _ _))))) (.ite (.on
    (State.setPlane_keeps _ _ _) (.on (State.count64_keeps _ _ _ _) (State.setPlane_keeps _ _ _))) (.on (State.count64_keeps _
    _ _ _) (State.setPlane_keeps _ _ _))))))

theorem State.admitRefused_keeps : ∀ s a1 a2, Keeps s (State.admitRefused s a1 a2) := by
  intro s a1 a2; delta State.admitRefused
  exact (.on (State.raise_keeps _ _ _) (.on (State.count_keeps _ _ _) (.on (State.setFld_keeps _ _ _ _) (State.setFld_keeps _
    _ _ _))))

/-- Time passes in an idle step: all else of `Keeps` holds beside the one tick. -/
theorem State.advanceTime_keeps : ∀ s, Keeps s.ticked (State.advanceTime s) := by
  intro s; delta State.advanceTime
  exact .ticked (.ite (.on (State.advanceBuckets_keeps _ _) (.upd rfl rfl (.ite (.on (State.addTbw_keeps _ _)
    (.ite (.of rfl rfl rfl rfl rfl) (.refl _))) (.ite (.of rfl rfl rfl rfl rfl) (.refl _)))))
    (.ite (.on (State.addTbw_keeps _ _) (.ite (.of rfl rfl rfl rfl rfl) (.refl _))) (.ite (.of rfl rfl rfl rfl rfl) (.refl _))))

theorem State.setPair_keeps : ∀ s a1 a2, Keeps s (State.setPair s a1 a2) := by
  intro s a1 a2; delta State.setPair
  exact (.of rfl rfl rfl rfl rfl)

theorem State.announce_keeps : ∀ s a1, Keeps s (State.announce s a1) := by
  intro s a1; delta State.announce
  exact (.ite (.on (State.blkEvent_keeps _ _ _ _ _) (.on (State.setSta_keeps _ _ _) (State.setPair_keeps _ _ _))) (.refl _))

theorem State.applyMap_keeps : ∀ s a1, Keeps s (State.applyMap s a1) := by
  intro s a1; unfold State.applyMap; dsimp only
  exact (by split; exacts [(.refl _), (.ite (.on (State.raise_keeps _ _ _) (.on (State.setSta_keeps _ _ _) (.on (State.setFld_keeps _ _ _ _) (.on (State.setFld_keeps _ _ _ _) (.on (State.setRxMap_keeps _ _ _ _) (.on (.foldl (fun _ _ => by exact (.ite (State.setLaneState_keeps _ _ _) (.refl _))) _ _) (State.setPort_keeps _ _ _))))))) (.on (State.setFld_keeps _ _ _ _) (.on (State.setFld_keeps _ _ _ _) (.on (State.setRxMap_keeps _ _ _ _) (.on (.foldl (fun _ _ => by exact (.ite (State.setLaneState_keeps _ _ _) (.refl _))) _ _) (State.setPort_keeps _ _ _))))))])

theorem State.setZoom_keeps : ∀ s a1 a2, Keeps s (State.setZoom s a1 a2) := by
  intro s a1 a2; delta State.setZoom
  exact (.of rfl rfl rfl rfl rfl)

theorem State.armComparators_keeps : ∀ s a1, Keeps s (State.armComparators s a1) := by
  intro s a1; delta State.armComparators
  exact (.ite (.on (State.activate_keeps _ _ _ _ _) (.on (State.setZoom_keeps _ _ _) (.on (State.setFld_keeps _ _ _ _)
    (State.setFld_keeps _ _ _ _)))) (.on (State.setZoom_keeps _ _ _) (.on (State.setFld_keeps _ _ _ _) (State.setFld_keeps _ _
    _ _))))

theorem State.spareAlarm_keeps : ∀ s a1 a2, Keeps s (State.spareAlarm s a1 a2) := by
  intro s a1 a2; delta State.spareAlarm
  exact (.ite (.on (State.blkEvent_keeps _ _ _ _ _) (.ite (State.blkEvent_keeps _ _ _ _ _) (.refl _))) (.ite
    (State.blkEvent_keeps _ _ _ _ _) (.refl _)))

theorem State.slotWritten_keeps : ∀ s a1, Keeps s (State.slotWritten s a1) := by
  intro s a1; delta State.slotWritten
  exact (.on (State.setFld_keeps _ _ _ _) (State.setFld_keeps _ _ _ _))

theorem State.setSpare_keeps : ∀ s a1 a2 a3, Keeps s (State.setSpare s a1 a2 a3) := by
  intro s a1 a2 a3; delta State.setSpare
  exact (.of rfl rfl rfl rfl rfl)

theorem State.poolState_keeps : ∀ s a1 a2 a3, Keeps s (State.poolState s a1 a2 a3) := by
  intro s a1 a2 a3; delta State.poolState
  exact (.ite (.refl _) (.on (State.spareAlarm_keeps _ _ _) (.on (State.logEntry_keeps _ _ _ _ _ _ _) (.on
    (State.slotWritten_keeps _ _) (State.setSpare_keeps _ _ _ _)))))

theorem State.setHandover_keeps : ∀ s a1 a2, Keeps s (State.setHandover s a1 a2) := by
  intro s a1 a2; delta State.setHandover
  exact (State.setFld_keeps _ _ _ _)

theorem State.beginHandover_keeps : ∀ s a1, Keeps s (State.beginHandover s a1) := by
  intro s a1; unfold State.beginHandover
  exact (by (try dsimp only); split; exacts [(.refl _), (.on (State.setHandover_keeps _ _ _) (.upd rfl rfl (State.poolState_keeps _ _ _ _)))])

theorem State.nextHandover_keeps : ∀ s a1, Keeps s (State.nextHandover s a1) := by
  intro s a1; delta State.nextHandover
  exact (.ite (.refl _) (.foldl (fun _ _ => by exact (.ite (.refl _) (.on (State.beginHandover_keeps _ _) (.of rfl rfl rfl rfl rfl)))) _ _))

theorem State.askHandover_keeps : ∀ s a1, Keeps s (State.askHandover s a1) := by
  intro s a1; delta State.askHandover
  exact (.on (State.nextHandover_keeps _ _) (.of rfl rfl rfl rfl rfl))

theorem State.bandOverride_keeps : ∀ s a1, Keeps s (State.bandOverride s a1) := by
  intro s a1; unfold State.bandOverride
  exact (by (try dsimp only); split; exacts [(State.setFld_keeps _ _ _ _), (.refl _)])

theorem State.setNib_keeps : ∀ s a1 a2, Keeps s (State.setNib s a1 a2) := by
  intro s a1 a2; delta State.setNib
  exact (.of rfl rfl rfl rfl rfl)

theorem State.barrierRelease_keeps : ∀ s a1 a2, Keeps s (State.barrierRelease s a1 a2) := by
  intro s a1 a2; unfold State.barrierRelease; dsimp only
  exact (.foldl (fun _ _ => by exact (by split; exacts [(State.setNib_keeps _ _ _), (.refl _)])) _ _)

theorem State.setBad_keeps : ∀ s a1 a2, Keeps s (State.setBad s a1 a2) := by
  intro s a1 a2; delta State.setBad
  exact (.of rfl rfl rfl rfl rfl)

theorem State.rowNote_keeps : ∀ s a1 a2, Keeps s (State.rowNote s a1 a2) := by
  intro s a1 a2; delta State.rowNote
  exact (.ite (.refl _) (.ite (.on (State.raise_keeps _ _ _) (.on (State.setFld_keeps _ _ _ _) (.of rfl rfl rfl rfl rfl)))
    (.of rfl rfl rfl rfl rfl)))

theorem State.elogHead_keeps : ∀ s, Keeps s (State.elogHead s) := by
  intro s; delta State.elogHead
  exact (.on (State.setReg_keeps _ _ _) (.on (State.setReg_keeps _ _ _) (.on (State.setReg_keeps _ _ _) (.on
    (State.setReg_keeps _ _ _) (State.setFld_keeps _ _ _ _)))))

theorem State.inkLog_keeps : ∀ s a1 a2 a3 a4 a5, Keeps s (State.inkLog s a1 a2 a3 a4 a5) := by
  intro s a1 a2 a3 a4 a5; delta State.inkLog
  exact (.ite (.on (State.blkEvent_keeps _ _ _ _ _) (.ite (.on (State.blkEvent_keeps _ _ _ _ _) (State.count_keeps _ _ _))
    (.on (State.elogHead_keeps _) (.of rfl rfl rfl rfl rfl)))) (.on (State.blkEvent_keeps _ _ _ _ _) (.ite (.on
    (State.blkEvent_keeps _ _ _ _ _) (State.count_keeps _ _ _)) (.on (State.elogHead_keeps _) (.of rfl rfl rfl rfl rfl)))))

theorem State.countCorrected_keeps : ∀ s a1 a2, Keeps s (State.countCorrected s a1 a2) := by
  intro s a1 a2; delta State.countCorrected
  exact (.ite (.refl _) (.on (State.rowNote_keeps _ _ _) (.on (State.count_keeps _ _ _) (State.count_keeps _ _ _))))

theorem State.setPoison_keeps : ∀ s a1 a2, Keeps s (State.setPoison s a1 a2) := by
  intro s a1 a2; delta State.setPoison
  exact (.of rfl rfl rfl rfl rfl)

theorem State.readCodeword_keeps : ∀ s a1 a2 a3 a4 a5, Keeps s (State.readCodeword s a1 a2 a3 a4 a5).2 := by
  intro s a1 a2 a3 a4 a5; delta State.readCodeword
  exact (.iteSnd (.mkSnd (.on (State.rowNote_keeps _ _ _) (.on (State.inkLog_keeps _ _ _ _ _ _) (.on (State.setPoison_keeps _
    _ _) (.on (State.count_keeps _ _ _) (State.count_keeps _ _ _)))))) (.iteSnd (.mkSnd (State.count_keeps _ _ _)) (.refl _)))

theorem State.readCell_keeps : ∀ s a1 a2 a3 a4, Keeps s (State.readCell s a1 a2 a3 a4).2 := by
  intro s a1 a2 a3 a4; delta State.readCell
  exact (.iteSnd (.refl _) (.iteSnd (.mkSnd (.on (State.rowNote_keeps _ _ _) (.on (State.inkLog_keeps _ _ _ _ _ _) (.on (State.setBad_keeps _ _ _) (State.count_keeps _ _ _))))) (.on (.foldlSnd (fun _ _ => by exact (.mkSnd (State.readCodeword_keeps _ _ _ _ _ _))) _ _) (.mkSnd (State.countCorrected_keeps _ _ _)))))

theorem State.writeCell_keeps : ∀ s a1 a2 a3 a4 a5, Keeps s (State.writeCell s a1 a2 a3 a4 a5) := by
  intro s a1 a2 a3 a4 a5; delta State.writeCell
  exact (.ite (.upd rfl rfl (.on (State.setBad_keeps _ _ _) (.on (.foldl (fun _ _ => (State.setPoison_keeps _ _ _)) _ _)
    (.iteSnd (.refl _) (.on (State.readCell_keeps _ _ _ _ _) (State.count64_keeps _ _ _ _)))))) (.on (State.setBad_keeps _ _
    _) (.on (.foldl (fun _ _ => (State.setPoison_keeps _ _ _)) _ _) (.iteSnd (.refl _) (.on (State.readCell_keeps _ _ _ _ _)
    (State.count64_keeps _ _ _ _))))))

theorem State.inkWrite_keeps : ∀ s a1 a2 a3 a4, Keeps s (State.inkWrite s a1 a2 a3 a4) := by
  intro s a1 a2 a3 a4; unfold State.inkWrite
  exact .ite (.refl _) (.trans (.foldl (fun _ _ => State.writeCell_keeps _ _ _ _ _ _) _ _)
    ⟨rfl, rfl, List.prefix_refl _, id, Memory.wf_put _ _⟩)

theorem State.inkStore_keeps : ∀ s a1 a2 a3, Keeps s (State.inkStore s a1 a2 a3) := by
  intro s a1 a2 a3; delta State.inkStore
  exact (State.inkWrite_keeps _ _ _ _ _)

theorem State.writeArea_keeps : ∀ s a1 a2, Keeps s (State.writeArea s a1 a2) := by
  intro s a1 a2; delta State.writeArea
  exact (.ite (.refl _) (.on (State.setReg_keeps _ _ _) (.on (State.inkStore_keeps _ _ _ _) (.on (State.inkStore_keeps _ _ _
    _) (.ite (.on (State.setSta_keeps _ _ _) (State.count_keeps _ _ _)) (.refl _))))))

theorem State.emitFrame_keeps : ∀ s a1 a2, Keeps s (State.emitFrame s a1 a2) := by
  intro s a1 a2; delta State.emitFrame
  exact (.on (State.setPair_keeps _ _ _) (.on (State.writeArea_keeps _ _ _) (.ite (.on (State.count_keeps _ _ _)
    (State.count64_keeps _ _ _ _)) (State.count64_keeps _ _ _ _))))

theorem State.flushBlock_keeps : ∀ s a1, Keeps s (State.flushBlock s a1).2 := by
  intro s a1; delta State.flushBlock
  exact (.iteSnd (.refl _) (.mkSnd (.on (State.emitFrame_keeps _ _ _) (.on (State.setPair_keeps _ _ _) (State.draw_keeps _)))))

theorem State.pairReport_keeps : ∀ s a1, Keeps s (State.pairReport s a1) := by
  intro s a1; delta State.pairReport
  exact (.on (State.setFld_keeps _ _ _ _) (.on (State.setFld_keeps _ _ _ _) (State.setFld_keeps _ _ _ _)))

theorem State.commitScope_keeps : ∀ s a1, Keeps s (State.commitScope s a1) := by
  intro s a1; delta State.commitScope
  exact (State.commitWhere_keeps _ _ _)

theorem State.beforeFrame_keeps : ∀ s a1 a2, Keeps s (State.beforeFrame s a1 a2).2 := by
  intro s a1 a2; delta State.beforeFrame
  exact (.mkSnd (.ite (.on (State.setPair_keeps _ _ _) (.ite (.on (State.setPair_keeps _ _ _) (.iteSnd (.mkSnd (.on
    (State.setPair_keeps _ _ _) (.on (State.pairReport_keeps _ _) (.on (State.commitScope_keeps _ _) (State.flushBlock_keeps _
    _))))) (.refl _))) (.iteSnd (.mkSnd (.on (State.setPair_keeps _ _ _) (.on (State.pairReport_keeps _ _) (.on
    (State.commitScope_keeps _ _) (State.flushBlock_keeps _ _))))) (.refl _)))) (.ite (.on (State.setPair_keeps _ _ _)
    (.iteSnd (.mkSnd (.on (State.setPair_keeps _ _ _) (.on (State.pairReport_keeps _ _) (.on (State.commitScope_keeps _ _)
    (State.flushBlock_keeps _ _))))) (.refl _))) (.iteSnd (.mkSnd (.on (State.setPair_keeps _ _ _) (.on
    (State.pairReport_keeps _ _) (.on (State.commitScope_keeps _ _) (State.flushBlock_keeps _ _))))) (.refl _)))))

theorem State.setStream_keeps : ∀ s a1 a2, Keeps s (State.setStream s a1 a2) := by
  intro s a1 a2; delta State.setStream
  exact (.of rfl rfl rfl rfl rfl)

theorem State.bindStream_keeps : ∀ s a1 a2 a3, Keeps s (State.bindStream s a1 a2 a3) := by
  intro s a1 a2 a3; unfold State.bindStream
  exact (.ite (by (try dsimp only); split; exacts [(.on (State.setStream_keeps _ _ _) (State.setFld_keeps _ _ _ _)), (.refl _)]) (State.setStream_keeps _ _ _))

theorem State.dealPair_keeps : ∀ s a1 a2, Keeps s (State.dealPair s a1 a2) := by
  intro s a1 a2; delta State.dealPair
  exact (.on (State.setFld_keeps _ _ _ _) (.on (State.setFld_keeps _ _ _ _) (State.draw_keeps _)))

theorem State.setCore_keeps : ∀ s a1 a2, Keeps s (State.setCore s a1 a2) := by
  intro s a1 a2; delta State.setCore
  exact (.of rfl rfl rfl rfl rfl)

theorem State.bindEntry_keeps : ∀ s a1 a2 a3 a4, Keeps s (State.bindEntry s a1 a2 a3 a4) := by
  intro s a1 a2 a3 a4; unfold State.bindEntry
  exact (by (try dsimp only); split; exacts [(.ite (.refl _) (.on (State.portEnable_keeps _ _) (State.setFld_keeps _ _ _ _))), (State.bindStream_keeps _ _ _ _), (.on (State.dealPair_keeps _ _ _) (.on (State.setFld_keeps _ _ _ _) (.on (State.setFld_keeps _ _ _ _) (State.setFld_keeps _ _ _ _)))), (.on (State.setFld_keeps _ _ _ _) (State.setFld_keeps _ _ _ _)), (State.setFld_keeps _ _ _ _), (State.setFld_keeps _ _ _ _), (.on (State.setFld_keeps _ _ _ _) (.foldl (fun _ _ => by exact (.on (State.setCore_keeps _ _ _) (State.setReg_keeps _ _ _))) _ _)), (State.setReg_keeps _ _ _), (.refl _)])

theorem State.bindPhysical_keeps : ∀ s a1 a2 a3, Keeps s (State.bindPhysical s a1 a2 a3) := by
  intro s a1 a2 a3; delta State.bindPhysical
  exact (.of rfl rfl rfl rfl rfl)

theorem State.setLink_keeps : ∀ s a1 a2, Keeps s (State.setLink s a1 a2) := by
  intro s a1 a2; delta State.setLink
  exact (.of rfl rfl rfl rfl rfl)

theorem State.sendFrame_keeps : ∀ s a1 a2 a3, Keeps s (State.sendFrame s a1 a2 a3) := by
  intro s a1 a2 a3; delta State.sendFrame
  exact (.on (State.emit_keeps _ _) (State.setPort_keeps _ _ _))

theorem State.transmit_keeps : ∀ s a1 a2, Keeps s (State.transmit s a1 a2) := by
  intro s a1 a2; delta State.transmit
  exact (.on (State.sendFrame_keeps _ _ _ _) (State.setLink_keeps _ _ _))

theorem State.sendMsg_keeps : ∀ s a1 a2 a3, Keeps s (State.sendMsg s a1 a2 a3) := by
  intro s a1 a2 a3; delta State.sendMsg
  exact (.ite (.on (State.transmit_keeps _ _ _) (State.setLink_keeps _ _ _)) (State.setLink_keeps _ _ _))

theorem State.sendLaneMap_keeps : ∀ s a1 a2 a3 a4, Keeps s (State.sendLaneMap s a1 a2 a3 a4) := by
  intro s a1 a2 a3 a4; delta State.sendLaneMap
  exact (State.sendMsg_keeps _ _ _ _)

theorem State.bringMap_keeps : ∀ s a1, Keeps s (State.bringMap s a1) := by
  intro s a1; delta State.bringMap
  exact (.ite (.on (State.sendLaneMap_keeps _ _ _ _ _) (.on (State.setPort_keeps _ _ _) (State.setTxMap_keeps _ _ _ _)))
    (.refl _))

theorem State.setSeqr_keeps : ∀ s a1 a2, Keeps s (State.setSeqr s a1 a2) := by
  intro s a1 a2; delta State.setSeqr
  exact (.on (State.setFld_keeps _ _ _ _) (.on (State.setFld_keeps _ _ _ _) (.of rfl rfl rfl rfl rfl)))

theorem State.tadUpdate_keeps : ∀ s a1 a2 a3, Keeps s (State.tadUpdate s a1 a2 a3) := by
  intro s a1 a2 a3; delta State.tadUpdate
  exact (State.setSeqr_keeps _ _ _)

theorem State.tadCount_keeps : ∀ s a1 a2 a3, Keeps s (State.tadCount s a1 a2 a3) := by
  intro s a1 a2 a3; delta State.tadCount
  exact (.on (State.tadUpdate_keeps _ _ _ _) (State.count_keeps _ _ _))

theorem State.brushEcc_keeps : ∀ s a1 a2 a3, Keeps s (State.brushEcc s a1 a2 a3).2 := by
  intro s a1 a2 a3; unfold State.brushEcc
  exact (by (try dsimp only); split; exacts [(.refl _), (.on (State.raise_keeps _ _ _) (State.tadCount_keeps _ _ _ _)), (.refl _)])

theorem State.tadHold_keeps : ∀ s a1 a2 a3 a4 a5, Keeps s (State.tadHold s a1 a2 a3 a4 a5) := by
  intro s a1 a2 a3 a4 a5; delta State.tadHold
  exact (State.tadUpdate_keeps _ _ _ _)

theorem State.finishJob_keeps : ∀ s a1 a2, Keeps s (State.finishJob s a1 a2) := by
  intro s a1 a2; unfold State.finishJob; dsimp only
  exact (by split; exacts [(.refl _), (.on (State.setFld_keeps _ _ _ _) (.on (State.setCore_keeps _ _ _) (.on (State.tadUpdate_keeps _ _ _ _) (State.tadCount_keeps _ _ _ _))))])

theorem State.brushFault_keeps : ∀ s a1 a2, Keeps s (State.brushFault s a1 a2) := by
  intro s a1 a2; unfold State.brushFault; dsimp only
  exact (by split; exacts [(.refl _), (.on (State.finishJob_keeps _ _ _) (.on (State.tadHold_keeps _ _ _ _ _ _) (.on (State.setFld_keeps _ _ _ _) (.on (State.setFld_keeps _ _ _ _) (State.tadCount_keeps _ _ _ _)))))])

theorem State.setCorePc_keeps : ∀ s a1 a2, Keeps s (State.setCorePc s a1 a2) := by
  intro s a1 a2; delta State.setCorePc
  exact (State.setFld_keeps _ _ _ _)

theorem State.raiseFlags_keeps : ∀ s a1 a2, Keeps s (State.raiseFlags s a1 a2) := by
  intro s a1 a2; delta State.raiseFlags
  exact (State.setFld_keeps _ _ _ _)

theorem State.tadCount64_keeps : ∀ s a1 a2 a3, Keeps s (State.tadCount64 s a1 a2 a3) := by
  intro s a1 a2 a3; delta State.tadCount64
  exact (.on (State.tadUpdate_keeps _ _ _ _) (State.count64_keeps _ _ _ _))

theorem State.brush1_keeps : ∀ s a1 a2 a3 a4, Keeps s (State.brush1 s a1 a2 a3 a4) := by
  intro s a1 a2 a3 a4; unfold State.brush1
  exact (by (try dsimp only); split; exacts [(.refl _), (.ite (.refl _) (.ite (.on (State.brushFault_keeps _ _ _) (State.brushEcc_keeps _ _ _ _)) (.ite (.on (State.brushFault_keeps _ _ _) (State.brushEcc_keeps _ _ _ _)) (by (try dsimp only); split; exacts [(.on (State.brushFault_keeps _ _ _) (State.brushEcc_keeps _ _ _ _)), (.on (State.tadCount64_keeps _ _ _ _) (.on (State.setCorePc_keeps _ _ _) (.on (State.raiseFlags_keeps _ _ _) (.on (State.setCore_keeps _ _ _) (State.brushEcc_keeps _ _ _ _)))))]))))])

theorem State.brush2_keeps : ∀ s a1 a2 a3 {a4}, (∀ j s, KeepsOk s (a4 j s)) → Keeps s (State.brush2 s a1 a2 a3 a4) := by
  intro s a1 a2 a3 a4 h; unfold State.brush2
  dsimp only
  split
  · exact .refl _
  · refine .ite (.refl _) (.ite (.trans (State.brushEcc_keeps _ _ _ _) (State.brushFault_keeps _ _ _))
      (.ite (.trans (State.brushEcc_keeps _ _ _ _) (State.brushFault_keeps _ _ _)) ?_))
    split
    · exact .trans (State.brushEcc_keeps _ _ _ _) (State.brushFault_keeps _ _ _)
    · exact .trans (State.brushEcc_keeps _ _ _ _) (h _ _ _ ‹_›)

theorem State.brushRetire_keeps : ∀ s a1 a2, Keeps s (State.brushRetire s a1 a2) := by
  intro s a1 a2; delta State.brushRetire
  exact (State.tadCount64_keeps _ _ _ _)

theorem State.brushBranch_keeps : ∀ s a1 a2 a3 a4, Keeps s (State.brushBranch s a1 a2 a3 a4) := by
  intro s a1 a2 a3 a4; delta State.brushBranch
  exact (State.brush2_keeps _ _ _ _ (fun _ _ => (.ite (.ok (.on (State.setCorePc_keeps _ _ _) (State.brushRetire_keeps _ _
    _))) (.ite (.error _) (.ok (.on (State.setCorePc_keeps _ _ _) (State.brushRetire_keeps _ _ _)))))))

theorem State.brushOut_keeps : ∀ s a1 a2 a3, Keeps s (State.brushOut s a1 a2 a3) := by
  intro s a1 a2 a3; delta State.brushOut
  exact (.ite (State.setCore_keeps _ _ _) (.on (State.tadHold_keeps _ _ _ _ _ _) (.on (State.tadCount_keeps _ _ _ _)
    (State.raiseFlags_keeps _ _ _))))

theorem State.rsRange_keeps : ∀ s a1, Keeps s (State.rsRange s a1) := by
  intro s a1; delta State.rsRange
  exact (.on (State.blkEvent_keeps _ _ _ _ _) (State.setSta_keeps _ _ _))

theorem State.bucketAccepted_keeps : ∀ s a1, Keeps s (State.bucketAccepted s a1) := by
  intro s a1; delta State.bucketAccepted
  exact (.ite (.refl _) (.ite (State.rsRange_keeps _ _) (State.setZoom_keeps _ _ _)))

theorem State.coalesce_keeps : ∀ s a1, Keeps s (State.coalesce s a1) := by
  intro s a1; delta State.coalesce
  exact (.ite (.refl _) (.ite (.on (State.signal_keeps _ _) (.of rfl rfl rfl rfl rfl)) (.of rfl rfl rfl rfl rfl)))

theorem State.rringWrite_keeps : ∀ s a1 a2, Keeps s (State.rringWrite s a1 a2) := by
  intro s a1 a2; delta State.rringWrite
  exact (.ite (.of rfl rfl rfl rfl rfl) (.on (State.coalesce_keeps _ _) (State.rringPush_keeps _ _ _)))

theorem State.setChannel_keeps : ∀ s a1 a2, Keeps s (State.setChannel s a1 a2) := by
  intro s a1 a2; delta State.setChannel
  exact (.of rfl rfl rfl rfl rfl)

theorem State.reportFill_keeps : ∀ s a1, Keeps s (State.reportFill s a1) := by
  intro s a1; unfold State.reportFill
  exact (by (try dsimp only); split; exacts [(.refl _), (State.setFld_keeps _ _ _ _), (State.setFld_keeps _ _ _ _)])

theorem State.setDmaState_keeps : ∀ s a1 a2, Keeps s (State.setDmaState s a1 a2) := by
  intro s a1 a2; delta State.setDmaState
  exact (State.setFld_keeps _ _ _ _)

end Sys2Proof.Machine
end

