-- ==== Sys2Proof/Laws/KeepsOps2.lean ====
section
/-! SUPPORT. `Keeps` of the shared operations, part 2 of 4: what each of them leaves as it was. -/

set_option linter.unusedTactic false
set_option linter.unreachableTactic false

namespace Sys2Proof.Machine

theorem State.dmaOff_keeps : ∀ s a1, Keeps s (State.dmaOff s a1) := by
  intro s a1; delta State.dmaOff
  exact (.on (State.reportFill_keeps _ _) (.upd rfl rfl (.on (State.setDmaState_keeps _ _ _) (State.setChannel_keeps _ _ _))))

theorem State.bufDone_keeps : ∀ s a1 a2, Keeps s (State.bufDone s a1 a2) := by
  intro s a1 a2; delta State.bufDone
  exact (.ite (.on (State.dmaOff_keeps _ _) (.on (State.reportFill_keeps _ _) (.ite (.on (State.blkEvent_keeps _ _ _ _ _) (.on
    (State.setSta_keeps _ _ _) (.on (State.setChannel_keeps _ _ _) (.on (State.count_keeps _ _ _) (.on (State.count64_keeps _
    _ _ _) (State.rringWrite_keeps _ _ _)))))) (.on (State.setChannel_keeps _ _ _) (.on (State.count_keeps _ _ _) (.on
    (State.count64_keeps _ _ _ _) (State.rringWrite_keeps _ _ _))))))) (.on (State.reportFill_keeps _ _) (.ite (.on
    (State.blkEvent_keeps _ _ _ _ _) (.on (State.setSta_keeps _ _ _) (.on (State.setChannel_keeps _ _ _) (.on
    (State.count_keeps _ _ _) (.on (State.count64_keeps _ _ _ _) (State.rringWrite_keeps _ _ _)))))) (.on
    (State.setChannel_keeps _ _ _) (.on (State.count_keeps _ _ _) (.on (State.count64_keeps _ _ _ _) (State.rringWrite_keeps _
    _ _)))))))

theorem State.bufFlush_keeps : ∀ s a1, Keeps s (State.bufFlush s a1) := by
  intro s a1; unfold State.bufFlush
  exact (by (try dsimp only); split; exacts [(.ite (State.bufDone_keeps _ _ _) (.refl _)), (.refl _)])

theorem State.readEnd_keeps : ∀ s a1, Keeps s (State.readEnd s a1) := by
  intro s a1; delta State.readEnd
  exact (.on (State.raise_keeps _ _ _) (.on (State.setFld_keeps _ _ _ _) (State.setFld_keeps _ _ _ _)))

theorem State.setDisk_keeps : ∀ s a1 a2, Keeps s (State.setDisk s a1 a2) := by
  intro s a1 a2; delta State.setDisk
  exact (.of rfl rfl rfl rfl rfl)

theorem State.setSinkItems_keeps : ∀ s a1 a2, Keeps s (State.setSinkItems s a1 a2) := by
  intro s a1 a2; unfold State.setSinkItems; dsimp only
  exact (by split; exacts [(.refl _), (State.setChannel_keeps _ _ _), (State.setDisk_keeps _ _ _)])

theorem State.setFlow_keeps : ∀ s a1 a2, Keeps s (State.setFlow s a1 a2) := by
  intro s a1 a2; delta State.setFlow
  exact (.of rfl rfl rfl rfl rfl)

theorem State.flowDrop_keeps : ∀ s a1 a2, Keeps s (State.flowDrop s a1 a2) := by
  intro s a1 a2; unfold State.flowDrop
  cases a1 <;> dsimp only <;> refine .on (State.setFlow_keeps _ _ _) ?_
  · exact State.count_keeps _ _ _
  all_goals first | exact .refl _ | exact .on (State.setDisk_keeps _ _ _) (State.count_keeps _ _ _)

theorem State.flowStop_keeps : ∀ s a1, Keeps s (State.flowStop s a1) := by
  intro s a1; unfold State.flowStop; dsimp only
  exact (by split; exacts [(.on (State.blkEvent_keeps _ _ _ _ _) (.on (State.setSta_keeps _ _ _) (.ite (.on (State.setFld_keeps _ _ _ _) (State.setFlow_keeps _ _ _)) (State.setFlow_keeps _ _ _)))), (.on (State.blkEvent_keeps _ _ _ _ _) (State.setFlow_keeps _ _ _)), (.on (State.blkEvent_keeps _ _ _ _ _) (.on (State.setSta_keeps _ _ _) (State.setFlow_keeps _ _ _))), (.on (State.raise_keeps _ _ _) (.on (State.setSta_keeps _ _ _) (.ite (.on (State.setFld_keeps _ _ _ _) (State.setFlow_keeps _ _ _)) (State.setFlow_keeps _ _ _))))])

theorem State.trimSink_keeps : ∀ s a1 a2, Keeps s (State.trimSink s a1 a2) := by
  intro s a1 a2
  induction a2 generalizing s with
  | zero => exact .refl _
  | succ n ih =>
    rw [State.trimSink]
    dsimp only
    split
    · exact .refl _
    · exact .ite (.refl _) (.trans (.trans (.trans (State.setSinkItems_keeps _ _ _) (State.flowDrop_keeps _ _ _))
        (.ite (.refl _) (State.flowStop_keeps _ _))) (ih _))

theorem State.sinkOvf_keeps : ∀ s a1 a2, Keeps s (State.sinkOvf s a1 a2) := by
  intro s a1 a2; unfold State.sinkOvf; dsimp only
  exact (by split; exacts [(.refl _), (State.setChannel_keeps _ _ _), (State.setDisk_keeps _ _ _)])

theorem State.shrinkSinks_keeps : ∀ s a1, Keeps s (State.shrinkSinks s a1) := by
  intro s a1; unfold State.shrinkSinks; dsimp only
  exact (.ite (.refl _) (.on (.foldl (fun _ _ => by exact (.on (State.reportFill_keeps _ _) (.on (.foldl (fun _ _ => by exact (.ite (.refl _) (State.sinkOvf_keeps _ _ _))) _ _) (State.trimSink_keeps _ _ _)))) _ _) (.foldl (fun _ _ => by exact (by split; exacts [(.of rfl rfl rfl rfl rfl), (.of rfl rfl rfl rfl rfl), (.refl _)])) _ _)))

theorem State.setRing_keeps : ∀ s a1 a2 a3 a4 a5, Keeps s (State.setRing s a1 a2 a3 a4 a5) := by
  intro s a1 a2 a3 a4 a5; delta State.setRing
  exact (.ite (.refl _) (.on (State.setStream_keeps _ _ _) (.on (State.setFld_keeps _ _ _ _) (.on (State.setReg_keeps _ _ _)
    (.on (State.setFld_keeps _ _ _ _) (.on (State.setFld_keeps _ _ _ _) (.on (State.setReg_keeps _ _ _) (State.setFld_keeps _
    _ _ _))))))))

theorem State.giveRing_keeps : ∀ s a1 a2, Keeps s (State.giveRing s a1 a2).2 := by
  intro s a1 a2; delta State.giveRing
  exact (.mkSnd (.on (State.blkEvent_keeps _ _ _ _ _) (.on (State.setFld_keeps _ _ _ _) (State.setRing_keeps _ _ _ _ _ _))))

theorem State.buildPool_keeps : ∀ s, Keeps s (State.buildPool s).2 := by
  intro s; unfold State.buildPool; dsimp only
  refine .iteSnd (.upd rfl rfl (.on (State.shrinkSinks_keeps _ _) (.ite (State.readEnd_keeps _ _) (.refl _))))
    (.on (Keeps.foldlThird (fun p x => ?_) _ (_, _, _)) (.upd rfl rfl (.on (State.shrinkSinks_keeps _ _) (.ite (State.readEnd_keeps _ _) (.refl _)))))
  exact .iteThird (.refl _) (State.giveRing_keeps _ _ _)

theorem State.builtinEntry_keeps : ∀ s a1 a2, Keeps s (State.builtinEntry s a1 a2).2 := by
  intro s a1 a2; delta State.builtinEntry
  exact (.mkSnd (State.draw_keeps _))

theorem State.mergeCount_keeps : ∀ s, Keeps s (State.mergeCount s) := by
  intro s; delta State.mergeCount
  exact (.on (State.count_keeps _ _ _) (State.draw_keeps _))

theorem State.setLine_keeps : ∀ s a1 a2, Keeps s (State.setLine s a1 a2) := by
  intro s a1 a2; delta State.setLine
  exact (.of rfl rfl rfl rfl rfl)

theorem State.setRefCyc_keeps : ∀ s a1, Keeps s (State.setRefCyc s a1) := by
  intro s a1; delta State.setRefCyc
  exact (.on (State.setFld_keeps _ _ _ _) (State.setReg_keeps _ _ _))

theorem State.busEpoch_keeps : ∀ s a1 a2, Keeps s (State.busEpoch s a1 a2) := by
  intro s a1 a2; delta State.busEpoch
  exact (.on (State.blkEvent_keeps _ _ _ _ _) (.on (State.setFld_keeps _ _ _ _) (.on (State.setRefCyc_keeps _ _) (.on
    (State.commitRegs_keeps _ _ _) (.upd rfl rfl (.ite (.on (State.mergeCount_keeps _) (State.setLine_keeps _ _ _)) (.refl
    _)))))))

theorem State.busPhaseLost_keeps : ∀ s, Keeps s (State.busPhaseLost s) := by
  intro s; delta State.busPhaseLost
  exact (.ite (.on (State.blkEvent_keeps _ _ _ _ _) (State.setFld_keeps _ _ _ _)) (.refl _))

theorem State.busyDrop_keeps : ∀ s a1 a2, Keeps s (State.busyDrop s a1 a2) := by
  intro s a1 a2; delta State.busyDrop
  exact (.on (State.setStaEv_keeps _ _ _ _ _) (State.count_keeps _ _ _))

theorem State.leaveHandover_keeps : ∀ s a1, Keeps s (State.leaveHandover s a1) := by
  intro s a1; delta State.leaveHandover
  exact (.on (State.setHandover_keeps _ _ _) (.of rfl rfl rfl rfl rfl))

theorem State.complete_keeps : ∀ s a1 a2 a3 a4 a5, Keeps s (State.complete s a1 a2 a3 a4 a5) := by
  intro s a1 a2 a3 a4 a5; delta State.complete
  exact (.ite (State.rringWrite_keeps _ _ _) (State.count_keeps _ _ _))

theorem State.endCal_keeps : ∀ s a1 a2 a3, Keeps s (State.endCal s a1 a2 a3) := by
  intro s a1 a2 a3; unfold State.endCal; dsimp only
  exact (by split; exacts [(.refl _), (by split; exacts [(.on (State.complete_keeps _ _ _ _ _ _) (.on (State.setFld_keeps _ _ _ _) (.on (State.setFld_keeps _ _ _ _) (.upd rfl rfl (.foldl (fun _ _ => (State.leaveHandover_keeps _ _)) _ _))))), (.on (State.setFld_keeps _ _ _ _) (.on (State.setFld_keeps _ _ _ _) (.upd rfl rfl (.foldl (fun _ _ => (State.leaveHandover_keeps _ _)) _ _))))])])

theorem State.dropCal_keeps : ∀ s a1 a2 a3, Keeps s (State.dropCal s a1 a2 a3) := by
  intro s a1 a2 a3; unfold State.dropCal; dsimp only
  exact (by split; exacts [(.refl _), (.on (State.endCal_keeps _ _ _ _) (.foldl (fun _ _ => by exact (.ite (State.poolState_keeps _ _ _ _) (.refl _))) _ _))])

theorem State.calDone_keeps : ∀ s a1, Keeps s (State.calDone s a1) := by
  intro s a1; unfold State.calDone; dsimp only
  exact (by split; exacts [(.refl _), (.on (State.dropCal_keeps _ _ _ _) (.on (State.blkEvent_keeps _ _ _ _ _) (.on (State.count_keeps _ _ _) (.ite (.on (State.setFld_keeps _ _ _ _) (.on (State.setFld_keeps _ _ _ _) (.on (State.setFld_keeps _ _ _ _) (.on (State.logEntry_keeps _ _ _ _ _ _ _) (.on (State.slotWritten_keeps _ _) (.of rfl rfl rfl rfl rfl)))))) (.on (State.setFld_keeps _ _ _ _) (.on (State.setFld_keeps _ _ _ _) (.on (State.logEntry_keeps _ _ _ _ _ _ _) (.on (State.slotWritten_keeps _ _) (.of rfl rfl rfl rfl rfl)))))))))])

theorem State.calAgreed_keeps : ∀ s a1, Keeps s (State.calAgreed s a1) := by
  intro s a1; delta State.calAgreed
  exact (.ite (.on (State.calDone_keeps _ _) (.of rfl rfl rfl rfl rfl)) (.on (State.askHandover_keeps _ _) (.on
    (State.setFld_keeps _ _ _ _) (.of rfl rfl rfl rfl rfl))))

theorem State.calEvent_keeps : ∀ s a1 a2, Keeps s (State.calEvent s a1 a2) := by
  intro s a1 a2; unfold State.calEvent
  exact (by (try dsimp only); split; exacts [(State.blkEvent_keeps _ _ _ _ _), (.refl _)])

theorem State.precondFail_keeps : ∀ s, Keeps s (State.precondFail s) := by
  intro s; unfold State.precondFail; dsimp only
  exact (by split; exacts [(.refl _), (.ite (.upd rfl rfl (.on (State.calEvent_keeps _ _ _) (State.count_keeps _ _ _))) (.on (State.dropCal_keeps _ _ _ _) (.on (State.calEvent_keeps _ _ _) (State.count_keeps _ _ _))))])

theorem State.redirectChannel_keeps : ∀ s a1, Keeps s (State.redirectChannel s a1) := by
  intro s a1; delta State.redirectChannel
  exact (.on (State.setFld_keeps _ _ _ _) (.on (State.setFld_keeps _ _ _ _) (.upd rfl rfl (State.buildPool_keeps _))))

theorem State.startRetrain_keeps : ∀ s a1, Keeps s (State.startRetrain s a1) := by
  intro s a1; delta State.startRetrain
  exact (.on (State.setChState_keeps _ _ _) (.upd rfl rfl (State.redirectChannel_keeps _ _)))

theorem State.calAttempt_keeps : ∀ s, Keeps s (State.calAttempt s) := by
  intro s; unfold State.calAttempt; dsimp only
  exact (by split; exacts [(.refl _), (.ite (State.precondFail_keeps _) (.ite (.on (State.startRetrain_keeps _ _) (.of rfl rfl rfl rfl rfl)) (.of rfl rfl rfl rfl rfl)))])

theorem State.setLinkState_keeps : ∀ s a1 a2, Keeps s (State.setLinkState s a1 a2) := by
  intro s a1 a2; delta State.setLinkState
  exact (State.setFld_keeps _ _ _ _)

theorem State.cascLeave_keeps : ∀ s a1, Keeps s (State.cascLeave s a1) := by
  intro s a1; delta State.cascLeave
  exact (.foldl (fun _ _ => by exact (.ite (.on (State.blkEvent_keeps _ _ _ _ _) (.on (State.setSta_keeps _ _ _) (.of rfl rfl rfl rfl rfl))) (.refl _))) _ _)

theorem State.cascDisable_keeps : ∀ s a1, Keeps s (State.cascDisable s a1) := by
  intro s a1; delta State.cascDisable
  exact (.ite (.refl _) (.ite (.on (State.cascLeave_keeps _ _) (.on (State.setLinkState_keeps _ _ _) (.on
    (State.setLaneState_keeps _ _ _) (State.setLaneState_keeps _ _ _)))) (.on (State.setLinkState_keeps _ _ _) (.on
    (State.setLaneState_keeps _ _ _) (State.setLaneState_keeps _ _ _)))))

theorem State.restartCasc_keeps : ∀ s a1, Keeps s (State.restartCasc s a1) := by
  intro s a1; delta State.restartCasc
  exact (.foldl (fun _ _ => by exact (.ite (.refl _) (.on (State.setFld_keeps _ _ _ _) (State.setLaneState_keeps _ _ _)))) _ _)

theorem State.cascDown_keeps : ∀ s a1, Keeps s (State.cascDown s a1) := by
  intro s a1; delta State.cascDown
  exact (.on (State.cascLeave_keeps _ _) (.on (State.restartCasc_keeps _ _) (.on (State.raise_keeps _ _ _) (.on
    (State.setSta_keeps _ _ _) (State.setLinkState_keeps _ _ _)))))

theorem State.cascEnable_keeps : ∀ s a1, Keeps s (State.cascEnable s a1) := by
  intro s a1; delta State.cascEnable
  exact (.ite (.on (State.setLinkState_keeps _ _ _) (State.restartCasc_keeps _ _)) (.refl _))

theorem State.cascLaneFails_keeps : ∀ s a1 a2 a3, Keeps s (State.cascLaneFails s a1 a2 a3) := by
  intro s a1 a2 a3; delta State.cascLaneFails
  exact (.ite (.on (State.raise_keeps _ _ _) (.on (State.setSta_keeps _ _ _) (.on (State.setLinkState_keeps _ _ _) (.on
    (State.count_keeps _ _ _) (.on (State.raise_keeps _ _ _) (State.setSta_keeps _ _ _)))))) (.on (State.cascDown_keeps _ _)
    (.on (State.count_keeps _ _ _) (.on (State.raise_keeps _ _ _) (State.setSta_keeps _ _ _)))))

theorem State.cascReady_keeps : ∀ s a1, Keeps s (State.cascReady s a1) := by
  intro s a1; delta State.cascReady
  exact (.ite (.on (State.raise_keeps _ _ _) (.on (State.setLinkState_keeps _ _ _) (.on (State.setLaneState_keeps _ _ _)
    (State.setLaneState_keeps _ _ _)))) (.refl _))

theorem State.sendHeadCfg_keeps : ∀ s a1 a2 a3, Keeps s (State.sendHeadCfg s a1 a2 a3) := by
  intro s a1 a2 a3; delta State.sendHeadCfg
  exact (.on (State.sendMsg_keeps _ _ _ _) (State.setLink_keeps _ _ _))

theorem State.refuseHead_keeps : ∀ s a1 a2 a3, Keeps s (State.refuseHead s a1 a2 a3) := by
  intro s a1 a2 a3; delta State.refuseHead
  exact (.on (State.raise_keeps _ _ _) (.on (State.setSta_keeps _ _ _) (.on (State.setLink_keeps _ _ _) (.on
    (State.setFld_keeps _ _ _ _) (State.setFld_keeps _ _ _ _)))))

theorem State.tryStart_keeps : ∀ s a1, Keeps s (State.tryStart s a1) := by
  intro s a1; delta State.tryStart
  exact (.ite (State.sendHeadCfg_keeps _ _ _ _) (.refl _))

theorem State.resumeCheck_keeps : ∀ s, Keeps s (State.resumeCheck s) := by
  intro s; delta State.resumeCheck
  exact (.ite (.refl _) (.ite (.on (State.raise_keeps _ _ _) (.ite (.on (State.setFld_keeps _ _ _ _) (.of rfl rfl rfl rfl
    rfl)) (.of rfl rfl rfl rfl rfl))) (.refl _)))

theorem State.cfgReply_keeps : ∀ s a1 a2, Keeps s (State.cfgReply s a1 a2) := by
  intro s a1 a2; unfold State.cfgReply; dsimp only
  exact (by split; exacts [(.refl _), (.ite (.refl _) (.ite (.ite (.on (State.sendHeadCfg_keeps _ _ _ _) (State.setLink_keeps _ _ _)) (.on (State.refuseHead_keeps _ _ _ _) (State.setLink_keeps _ _ _))) (.ite (.on (State.raise_keeps _ _ _) (.on (State.setSta_keeps _ _ _) (State.setLink_keeps _ _ _))) (by split; exacts [(.on (State.tryStart_keeps _ _) (.on (State.setLink_keeps _ _ _) (State.setLink_keeps _ _ _))), (by split; exacts [(.on (State.sendHeadCfg_keeps _ _ _ _) (State.setLink_keeps _ _ _)), (.on (State.resumeCheck_keeps _) (.on (State.setFld_keeps _ _ _ _) (.on (.foldl (fun _ _ => by exact (by split; exacts [(.refl _), (State.setStream_keeps _ _ _)])) _ _) (.on (State.setLink_keeps _ _ _) (State.setLink_keeps _ _ _)))))]), (.on (State.tryStart_keeps _ _) (.on (State.setLink_keeps _ _ _) (State.setLink_keeps _ _ _))), (State.setLink_keeps _ _ _)]))))])

theorem State.cfgWhileEn_keeps : ∀ s a1 a2 a3, Keeps s (State.cfgWhileEn s a1 a2 a3) := by
  intro s a1 a2 a3; delta State.cfgWhileEn
  exact (.on (State.setStaEv_keeps _ _ _ _ _) (.on (State.count_keeps _ _ _) (State.logAccess_keeps _ _ _ _ _ _)))

theorem State.chHalt_keeps : ∀ s a1 a2, Keeps s (State.chHalt s a1 a2) := by
  intro s a1 a2; delta State.chHalt
  exact (.on (State.blkEvent_keeps _ _ _ _ _) (.on (State.setSta_keeps _ _ _) (.on (State.setFld_keeps _ _ _ _) (.on
    (State.setDmaState_keeps _ _ _) (State.setChannel_keeps _ _ _)))))

theorem State.reportKeys_keeps : ∀ s a1, Keeps s (State.reportKeys s a1) := by
  intro s a1; delta State.reportKeys
  exact (.on (State.setFld_keeps _ _ _ _) (State.setFld_keeps _ _ _ _))

theorem State.changeKey_keeps : ∀ s a1 a2 t, State.changeKey s a1 a2 = some t → Keeps s t := by
  intro s a1 a2 t h
  unfold State.changeKey at h
  have put (ks : List (Nat × List Byte)) (b : Bool) :
      Keeps s (State.reportKeys { s with retained := { s.retained with keys := ks } } b) :=
    (State.reportKeys_keeps _ _).on (.of rfl rfl rfl rfl rfl)
  dsimp only at h
  repeat' split at h
  all_goals first | (cases h; exact put _ _) | cases h

theorem State.ledgerPut_keeps : ∀ s a1, Keeps s (State.ledgerPut s a1) := by
  intro s a1; delta State.ledgerPut
  exact (.on (State.slotWritten_keeps _ _) (.of rfl rfl rfl rfl rfl))

theorem State.takeover_keeps : ∀ s a1 a2, Keeps s (State.takeover s a1 a2) := by
  intro s a1 a2; unfold State.takeover; dsimp only
  exact (.ite (.refl _) (.on (State.raise_keeps _ _ _) (.on (State.setSta_keeps _ _ _) (.on (State.setLink_keeps _ _ _) (.on (State.setFld_keeps _ _ _ _) (.on (State.setFld_keeps _ _ _ _) (.on (State.setReg_keeps _ _ _) (.foldl (fun _ _ => by exact (by split; exacts [(.refl _), (State.setStream_keeps _ _ _)])) _ _))))))))

theorem State.checkLimits_keeps : ∀ s a1 a2, Keeps s (State.checkLimits s a1 a2) := by
  intro s a1 a2; unfold State.checkLimits; dsimp only
  exact (.ite (by split; exacts [(.on (State.takeover_keeps _ _ _) (.ite (.on (State.setLink_keeps _ _ _) (.on (State.setFld_keeps _ _ _ _) (.on (State.setFld_keeps _ _ _ _) (.on (State.setReg_keeps _ _ _) (.on (State.setReg_keeps _ _ _) (.on (State.setReg_keeps _ _ _) (.on (State.setReg_keeps _ _ _) (.on (State.setReg_keeps _ _ _) (.on (State.ledgerPut_keeps _ _) (.foldlFst (fun _ _ => by exact (.iteFst (.on (State.raise_keeps _ _ _) (.on (State.setSta_keeps _ _ _) (.iteFst (.on (State.raise_keeps _ _ _) (State.setSta_keeps _ _ _)) (.refl _)))) (.iteFst (.on (State.raise_keeps _ _ _) (State.setSta_keeps _ _ _)) (.refl _)))) _ (_, _))))))))))) (.on (State.setFld_keeps _ _ _ _) (.on (State.setFld_keeps _ _ _ _) (.on (State.setReg_keeps _ _ _) (.on (State.setReg_keeps _ _ _) (.on (State.setReg_keeps _ _ _) (.on (State.setReg_keeps _ _ _) (.on (State.setReg_keeps _ _ _) (.on (State.ledgerPut_keeps _ _) (.foldlFst (fun _ _ => by exact (.iteFst (.on (State.raise_keeps _ _ _) (.on (State.setSta_keeps _ _ _) (.iteFst (.on (State.raise_keeps _ _ _) (State.setSta_keeps _ _ _)) (.refl _)))) (.iteFst (.on (State.raise_keeps _ _ _) (State.setSta_keeps _ _ _)) (.refl _)))) _ (_, _)))))))))))), (.ite (.on (State.setLink_keeps _ _ _) (.on (State.setFld_keeps _ _ _ _) (.on (State.setFld_keeps _ _ _ _) (.on (State.setReg_keeps _ _ _) (.on (State.setReg_keeps _ _ _) (.on (State.setReg_keeps _ _ _) (.on (State.setReg_keeps _ _ _) (.on (State.setReg_keeps _ _ _) (.on (State.ledgerPut_keeps _ _) (.foldlFst (fun _ _ => by exact (.iteFst (.on (State.raise_keeps _ _ _) (.on (State.setSta_keeps _ _ _) (.iteFst (.on (State.raise_keeps _ _ _) (State.setSta_keeps _ _ _)) (.refl _)))) (.iteFst (.on (State.raise_keeps _ _ _) (State.setSta_keeps _ _ _)) (.refl _)))) _ (_, _))))))))))) (.on (State.setFld_keeps _ _ _ _) (.on (State.setFld_keeps _ _ _ _) (.on (State.setReg_keeps _ _ _) (.on (State.setReg_keeps _ _ _) (.on (State.setReg_keeps _ _ _) (.on (State.setReg_keeps _ _ _) (.on (State.setReg_keeps _ _ _) (.on (State.ledgerPut_keeps _ _) (.foldlFst (fun _ _ => by exact (.iteFst (.on (State.raise_keeps _ _ _) (.on (State.setSta_keeps _ _ _) (.iteFst (.on (State.raise_keeps _ _ _) (State.setSta_keeps _ _ _)) (.refl _)))) (.iteFst (.on (State.raise_keeps _ _ _) (State.setSta_keeps _ _ _)) (.refl _)))) _ (_, _)))))))))))]) (.ite (.on (State.setLink_keeps _ _ _) (.on (State.setFld_keeps _ _ _ _) (.on (State.setFld_keeps _ _ _ _) (.on (State.setReg_keeps _ _ _) (.on (State.setReg_keeps _ _ _) (.on (State.setReg_keeps _ _ _) (.on (State.setReg_keeps _ _ _) (.on (State.setReg_keeps _ _ _) (.on (State.ledgerPut_keeps _ _) (.foldlFst (fun _ _ => by exact (.iteFst (.on (State.raise_keeps _ _ _) (.on (State.setSta_keeps _ _ _) (.iteFst (.on (State.raise_keeps _ _ _) (State.setSta_keeps _ _ _)) (.refl _)))) (.iteFst (.on (State.raise_keeps _ _ _) (State.setSta_keeps _ _ _)) (.refl _)))) _ (_, _))))))))))) (.on (State.setFld_keeps _ _ _ _) (.on (State.setFld_keeps _ _ _ _) (.on (State.setReg_keeps _ _ _) (.on (State.setReg_keeps _ _ _) (.on (State.setReg_keeps _ _ _) (.on (State.setReg_keeps _ _ _) (.on (State.setReg_keeps _ _ _) (.on (State.ledgerPut_keeps _ _) (.foldlFst (fun _ _ => by exact (.iteFst (.on (State.raise_keeps _ _ _) (.on (State.setSta_keeps _ _ _) (.iteFst (.on (State.raise_keeps _ _ _) (State.setSta_keeps _ _ _)) (.refl _)))) (.iteFst (.on (State.raise_keeps _ _ _) (State.setSta_keeps _ _ _)) (.refl _)))) _ (_, _))))))))))))

theorem State.checkRect_keeps : ∀ s a1 a2 a3, Keeps s (State.checkRect s a1 a2 a3) := by
  intro s a1 a2 a3; delta State.checkRect
  exact (.ite (.refl _) (.ite (State.setReg_keeps _ _ _) (.on (State.blkEvent_keeps _ _ _ _ _) (.on (State.count_keeps _ _ _)
    (State.setReg_keeps _ _ _)))))

theorem State.clearSta_keeps : ∀ s a1 a2 a3, Keeps s (State.clearSta s a1 a2 a3) := by
  intro s a1 a2 a3; delta State.clearSta
  exact (.ite (State.setReg_keeps _ _ _) (State.count_keeps _ _ _))

theorem State.coreOff_keeps : ∀ s a1, Keeps s (State.coreOff s a1) := by
  intro s a1; delta State.coreOff
  exact (.on (State.setScope_keeps _ _ _) (State.setFld_keeps _ _ _ _))

theorem State.setRetries_keeps : ∀ s a1 a2, Keeps s (State.setRetries s a1 a2) := by
  intro s a1 a2; delta State.setRetries
  exact (.of rfl rfl rfl rfl rfl)

theorem State.setCrEntries_keeps : ∀ s a1 a2, Keeps s (State.setCrEntries s a1 a2) := by
  intro s a1 a2; delta State.setCrEntries
  exact (.of rfl rfl rfl rfl rfl)

theorem State.crConsume_keeps : ∀ s a1, Keeps s (State.crConsume s a1) := by
  intro s a1; delta State.crConsume
  exact (.ite (.on (State.emit_keeps _ _) (.on (State.setRetries_keeps _ _ _) (.on (State.setReg_keeps _ _ _)
    (State.setCrEntries_keeps _ _ _)))) (.on (State.setRetries_keeps _ _ _) (.on (State.setReg_keeps _ _ _)
    (State.setCrEntries_keeps _ _ _))))

theorem State.setRingState_keeps : ∀ s a1 a2, Keeps s (State.setRingState s a1 a2) := by
  intro s a1 a2; delta State.setRingState
  exact (State.setFld_keeps _ _ _ _)

theorem State.haltChannels_keeps : ∀ s a1, Keeps s (State.haltChannels s a1) := by
  intro s a1; delta State.haltChannels
  exact (.foldl (fun _ _ => by exact (.ite (State.chHalt_keeps _ _ _) (.refl _))) _ _)

theorem State.ringHalt_keeps : ∀ s a1 a2 a3 a4, Keeps s (State.ringHalt s a1 a2 a3 a4) := by
  intro s a1 a2 a3 a4; delta State.ringHalt
  exact (.on (State.haltChannels_keeps _ _) (.ite (.on (State.complete_keeps _ _ _ _ _ _) (.on (State.blkEvent_keeps _ _ _ _
    _) (.on (State.setSta_keeps _ _ _) (.on (State.setFld_keeps _ _ _ _) (State.setRingState_keeps _ _ _))))) (.on
    (State.blkEvent_keeps _ _ _ _ _) (.on (State.setSta_keeps _ _ _) (.on (State.setFld_keeps _ _ _ _)
    (State.setRingState_keeps _ _ _))))))

theorem State.ctrl_keeps : ∀ s a1 a2 a3 {a4}, (∀ c s, Keeps s (a4 c s).2) → Keeps s (State.ctrl s a1 a2 a3 a4) := by
  intro s a1 a2 a3 a4 h; unfold State.ctrl
  split
  · exact .refl _
  · refine .ite (.refl _) ?_
    split
    · exact State.ringHalt_keeps _ _ _ _ _
    · exact .trans (State.crConsume_keeps _ _) (State.complete_keeps _ _ _ _ _ _)
    · dsimp only
      split
      · next heq => exact .trans (.trans (State.crConsume_keeps _ _) ((congrArg (Keeps _ ·.2) heq).mp (h _ _))) (State.complete_keeps _ _ _ _ _ _)
      · next heq => exact .trans (State.crConsume_keeps _ _) ((congrArg (Keeps _ ·.2) heq).mp (h _ _))

theorem State.dropWaiting_keeps : ∀ s a1, Keeps s (State.dropWaiting s a1) := by
  intro s a1; unfold State.dropWaiting; dsimp only
  exact (.ite (.of rfl rfl rfl rfl rfl) (by split; exacts [(.on (State.count_keeps _ _ _) (.of rfl rfl rfl rfl rfl)), (.on (State.count_keeps _ _ _) (.of rfl rfl rfl rfl rfl)), (.on (State.count_keeps _ _ _) (.of rfl rfl rfl rfl rfl)), (.of rfl rfl rfl rfl rfl)]))

theorem State.ringOff_keeps : ∀ s a1, Keeps s (State.ringOff s a1) := by
  intro s a1; unfold State.ringOff; dsimp only
  exact (.on (State.setRingState_keeps _ _ _) (by split; exacts [(.upd rfl rfl (State.dropWaiting_keeps _ _)), (.refl _)]))

theorem State.ctrlEnd_keeps : ∀ s a1, Keeps s (State.ctrlEnd s a1) := by
  intro s a1; delta State.ctrlEnd
  exact (.ite (State.ringOff_keeps _ _) (.refl _))

theorem State.ctrlLate_keeps : ∀ s a1 a2 a3 a4 a5, Keeps s (State.ctrlLate s a1 a2 a3 a4 a5) := by
  intro s a1 a2 a3 a4 a5; delta State.ctrlLate
  exact (.ite (.refl _) (.on (State.ctrlEnd_keeps _ _) (State.complete_keeps _ _ _ _ _ _)))

theorem State.dbBad_keeps : ∀ s a1, Keeps s (State.dbBad s a1) := by
  intro s a1; delta State.dbBad
  exact (.on (State.blkEvent_keeps _ _ _ _ _) (.on (State.setSta_keeps _ _ _) (State.count_keeps _ _ _)))

theorem State.endWait_keeps : ∀ s a1 a2 a3, Keeps s (State.endWait s a1 a2 a3) := by
  intro s a1 a2 a3; delta State.endWait
  exact (.ite (.on (State.count_keeps _ _ _) (State.setNib_keeps _ _ _)) (State.setNib_keeps _ _ _))

theorem State.decideWait_keeps : ∀ s a1 a2 a3, Keeps s (State.decideWait s a1 a2 a3) := by
  intro s a1 a2 a3; delta State.decideWait
  exact (.ite (State.endWait_keeps _ _ _ _) (.ite (State.endWait_keeps _ _ _ _) (State.setNib_keeps _ _ _)))

theorem State.markLaneGap_keeps : ∀ s a1, Keeps s (State.markLaneGap s a1) := by
  intro s a1; delta State.markLaneGap
  exact (.on (State.count_keeps _ _ _) (.foldl (fun _ _ => (State.setStream_keeps _ _ _)) _ _))

theorem State.rateChange_keeps : ∀ s a1 a2, Keeps s (State.rateChange s a1 a2) := by
  intro s a1 a2; unfold State.rateChange; dsimp only
  exact (.on (.foldl (fun _ _ => by exact (by split; exacts [(.refl _), (State.setStream_keeps _ _ _)])) _ _) (.on (State.markLaneGap_keeps _ _) (State.setPort_keeps _ _ _)))

theorem State.deliverSamples_keeps : ∀ s a1 a2, Keeps s (State.deliverSamples s a1 a2) := by
  intro s a1 a2; unfold State.deliverSamples
  exact (.ite (by (try dsimp only); split; exacts [(.refl _), (.ite (State.count_keeps _ _ _) (State.setLink_keeps _ _ _))]) (by (try dsimp only); split; exacts [(.ite (State.count_keeps _ _ _) (.ite (.refl _) (.ite (.refl _) (State.setStream_keeps _ _ _)))), (.ite (State.count_keeps _ _ _) (.refl _)), (State.count_keeps _ _ _)]))

theorem State.onAck_keeps : ∀ s a1 a2, Keeps s (State.onAck s a1 a2) := by
  intro s a1 a2; unfold State.onAck; dsimp only
  exact (by split; exacts [(.refl _), (.ite (.refl _) (.on (.foldl (fun _ _ => (State.transmit_keeps _ _ _)) _ _) (State.setLink_keeps _ _ _)))])

theorem State.tablesDone_keeps : ∀ s a1, Keeps s (State.tablesDone s a1) := by
  intro s a1; delta State.tablesDone
  exact (State.sendHeadCfg_keeps _ _ _ _)

theorem State.requestTable_keeps : ∀ s a1, Keeps s (State.requestTable s a1) := by
  intro s a1; delta State.requestTable
  exact (.ite (State.tablesDone_keeps _ _) (State.sendMsg_keeps _ _ _ _))

theorem State.onHeadId_keeps : ∀ s a1 a2, Keeps s (State.onHeadId s a1 a2) := by
  intro s a1 a2; delta State.onHeadId
  exact (.ite (.on (State.refuseHead_keeps _ _ _ _) (.on (State.setReg_keeps _ _ _) (.on (State.setReg_keeps _ _ _) (.on
    (State.setReg_keeps _ _ _) (.on (State.setReg_keeps _ _ _) (State.setReg_keeps _ _ _)))))) (.ite (.on
    (State.refuseHead_keeps _ _ _ _) (.on (State.setReg_keeps _ _ _) (.on (State.setReg_keeps _ _ _) (.on (State.setReg_keeps
    _ _ _) (.on (State.setReg_keeps _ _ _) (State.setReg_keeps _ _ _)))))) (.ite (.on (State.checkLimits_keeps _ _ _) (.on
    (State.setLink_keeps _ _ _) (.ite (.on (State.raise_keeps _ _ _) (.on (State.setSta_keeps _ _ _) (.on (State.setReg_keeps
    _ _ _) (.on (State.setReg_keeps _ _ _) (.on (State.setReg_keeps _ _ _) (.on (State.setReg_keeps _ _ _) (State.setReg_keeps
    _ _ _))))))) (.on (State.setReg_keeps _ _ _) (.on (State.setReg_keeps _ _ _) (.on (State.setReg_keeps _ _ _) (.on
    (State.setReg_keeps _ _ _) (State.setReg_keeps _ _ _)))))))) (.on (State.requestTable_keeps _ _) (.on (State.setFld_keeps
    _ _ _ _) (.on (State.checkLimits_keeps _ _ _) (.on (State.setLink_keeps _ _ _) (.ite (.on (State.raise_keeps _ _ _) (.on
    (State.setSta_keeps _ _ _) (.on (State.setReg_keeps _ _ _) (.on (State.setReg_keeps _ _ _) (.on (State.setReg_keeps _ _ _)
    (.on (State.setReg_keeps _ _ _) (State.setReg_keeps _ _ _))))))) (.on (State.setReg_keeps _ _ _) (.on (State.setReg_keeps
    _ _ _) (.on (State.setReg_keeps _ _ _) (.on (State.setReg_keeps _ _ _) (State.setReg_keeps _ _ _)))))))))))))

theorem State.onHeadLife_keeps : ∀ s a1 a2, Keeps s (State.onHeadLife s a1 a2) := by
  intro s a1 a2; unfold State.onHeadLife; dsimp only
  exact (.ite (.refl _) (by split; exacts [(State.setLink_keeps _ _ _), (.on (State.checkLimits_keeps _ _ _) (State.setLink_keeps _ _ _))]))

theorem State.onHeadCal_keeps : ∀ s a1 a2, Keeps s (State.onHeadCal s a1 a2) := by
  intro s a1 a2; unfold State.onHeadCal; dsimp only
  exact (.ite (.refl _) (.ite (.refl _) (.ite (.on (State.requestTable_keeps _ _) (State.setLink_keeps _ _ _)) (.ite (.on (State.refuseHead_keeps _ _ _ _) (State.setLink_keeps _ _ _)) (.on (State.tablesDone_keeps _ _) (by split; exacts [(.on (State.ledgerPut_keeps _ _) (.on (State.setReg_keeps _ _ _) (.on (State.inkStore_keeps _ _ _ _) (State.setLink_keeps _ _ _)))), (.on (State.setReg_keeps _ _ _) (.on (State.inkStore_keeps _ _ _ _) (State.setLink_keeps _ _ _)))]))))))

theorem State.portTdc_keeps : ∀ s a1 a2, Keeps s (State.portTdc s a1 a2) := by
  intro s a1 a2; delta State.portTdc
  exact (State.setScope_keeps _ _ _)

theorem State.portDown_keeps : ∀ s a1, Keeps s (State.portDown s a1) := by
  intro s a1; unfold State.portDown; dsimp only
  exact (by split; exacts [(.on (State.takeover_keeps _ _ _) (.on (State.setLink_keeps _ _ _) (.on (State.setPort_keeps _ _ _) (.on (State.restartLanes_keeps _ _) (.on (State.setFld_keeps _ _ _ _) (.on (State.setDomain_keeps _ _ _) (.on (State.portTdc_keeps _ _ _) (.on (State.raise_keeps _ _ _) (.on (State.setSta_keeps _ _ _) (State.setPortState_keeps _ _ _)))))))))), (.on (State.setLink_keeps _ _ _) (.on (State.setPort_keeps _ _ _) (.on (State.restartLanes_keeps _ _) (.on (State.setFld_keeps _ _ _ _) (.on (State.setDomain_keeps _ _ _) (.on (State.portTdc_keeps _ _ _) (.on (State.raise_keeps _ _ _) (.on (State.setSta_keeps _ _ _) (State.setPortState_keeps _ _ _)))))))))])

theorem State.preempt_keeps : ∀ s a1 a2 a3, Keeps s (State.preempt s a1 a2 a3) := by
  intro s a1 a2 a3; unfold State.preempt; dsimp only
  exact (by split; exacts [(.ite (.on (State.dropCal_keeps _ _ _ _) (.foldl (fun _ _ => by exact (.ite (.on (State.dropCal_keeps _ _ _ _) (.on (State.poolState_keeps _ _ _ _) (State.leaveHandover_keeps _ _))) (.on (State.poolState_keeps _ _ _ _) (State.leaveHandover_keeps _ _)))) _ _)) (.foldl (fun _ _ => by exact (.ite (.on (State.dropCal_keeps _ _ _ _) (.on (State.poolState_keeps _ _ _ _) (State.leaveHandover_keeps _ _))) (.on (State.poolState_keeps _ _ _ _) (State.leaveHandover_keeps _ _)))) _ _)), (.foldl (fun _ _ => by exact (.ite (.on (State.dropCal_keeps _ _ _ _) (.on (State.poolState_keeps _ _ _ _) (State.leaveHandover_keeps _ _))) (.on (State.poolState_keeps _ _ _ _) (State.leaveHandover_keeps _ _)))) _ _)])

theorem State.handleFailures_keeps : ∀ s a1, Keeps s (State.handleFailures s a1) := by
  intro s a1; delta State.handleFailures
  exact (.ite (.refl _) (.ite (State.portDown_keeps _ _) (.ite (.refl _) (.on (State.sendLaneMap_keeps _ _ _ _ _) (.on
    (State.setPort_keeps _ _ _) (.ite (.on (State.raise_keeps _ _ _) (.on (State.setSta_keeps _ _ _) (.on
    (State.setPortState_keeps _ _ _) (.ite (.ite (.on (State.raise_keeps _ _ _) (.on (State.setSta_keeps _ _ _) (.on
    (State.setPort_keeps _ _ _) (.on (State.setTxMap_keeps _ _ _ _) (.ite (.on (State.abortTest_keeps _ _ _)
    (State.preempt_keeps _ _ _ _)) (State.preempt_keeps _ _ _ _)))))) (.on (State.setPort_keeps _ _ _) (.on
    (State.setTxMap_keeps _ _ _ _) (.ite (.on (State.abortTest_keeps _ _ _) (State.preempt_keeps _ _ _ _))
    (State.preempt_keeps _ _ _ _))))) (.ite (.on (State.abortTest_keeps _ _ _) (State.preempt_keeps _ _ _ _))
    (State.preempt_keeps _ _ _ _)))))) (.ite (.ite (.on (State.raise_keeps _ _ _) (.on (State.setSta_keeps _ _ _) (.on
    (State.setPort_keeps _ _ _) (.on (State.setTxMap_keeps _ _ _ _) (.ite (.on (State.abortTest_keeps _ _ _)
    (State.preempt_keeps _ _ _ _)) (State.preempt_keeps _ _ _ _)))))) (.on (State.setPort_keeps _ _ _) (.on
    (State.setTxMap_keeps _ _ _ _) (.ite (.on (State.abortTest_keeps _ _ _) (State.preempt_keeps _ _ _ _))
    (State.preempt_keeps _ _ _ _))))) (.ite (.on (State.abortTest_keeps _ _ _) (State.preempt_keeps _ _ _ _))
    (State.preempt_keeps _ _ _ _)))))))))

theorem State.portRun_keeps : ∀ s a1, Keeps s (State.portRun s a1) := by
  intro s a1; delta State.portRun
  exact (.on (State.raise_keeps _ _ _) (.on (State.setFld_keeps _ _ _ _) (.on (State.setDomain_keeps _ _ _) (.on
    (State.portTdc_keeps _ _ _) (.on (State.setPortState_keeps _ _ _) (State.setLink_keeps _ _ _))))))

theorem State.onLaneMap_keeps : ∀ s a1 a2, Keeps s (State.onLaneMap s a1 a2) := by
  intro s a1 a2; unfold State.onLaneMap; dsimp only
  exact (.ite (.ite (.on (State.handleFailures_keeps _ _) (.on (State.portRun_keeps _ _) (.on (State.applyMap_keeps _ _) (.ite (.on (State.handleFailures_keeps _ _) (.ite (by split; exacts [(.on (State.setTxMap_keeps _ _ _ _) (.on (State.setPort_keeps _ _ _) (.foldl (fun _ _ => by exact (.ite (.on (State.raise_keeps _ _ _) (State.setSta_keeps _ _ _)) (.refl _))) _ _))), (.on (State.setPort_keeps _ _ _) (.foldl (fun _ _ => by exact (.ite (.on (State.raise_keeps _ _ _) (State.setSta_keeps _ _ _)) (.refl _))) _ _))]) (.on (State.setPort_keeps _ _ _) (.foldl (fun _ _ => by exact (.ite (.on (State.raise_keeps _ _ _) (State.setSta_keeps _ _ _)) (.refl _))) _ _)))) (.refl _))))) (.on (State.applyMap_keeps _ _) (.ite (.on (State.handleFailures_keeps _ _) (.ite (by split; exacts [(.on (State.setTxMap_keeps _ _ _ _) (.on (State.setPort_keeps _ _ _) (.foldl (fun _ _ => by exact (.ite (.on (State.raise_keeps _ _ _) (State.setSta_keeps _ _ _)) (.refl _))) _ _))), (.on (State.setPort_keeps _ _ _) (.foldl (fun _ _ => by exact (.ite (.on (State.raise_keeps _ _ _) (State.setSta_keeps _ _ _)) (.refl _))) _ _))]) (.on (State.setPort_keeps _ _ _) (.foldl (fun _ _ => by exact (.ite (.on (State.raise_keeps _ _ _) (State.setSta_keeps _ _ _)) (.refl _))) _ _)))) (.refl _)))) (.ite (.on (State.handleFailures_keeps _ _) (.ite (by split; exacts [(.on (State.setTxMap_keeps _ _ _ _) (.on (State.setPort_keeps _ _ _) (.foldl (fun _ _ => by exact (.ite (.on (State.raise_keeps _ _ _) (State.setSta_keeps _ _ _)) (.refl _))) _ _))), (.on (State.setPort_keeps _ _ _) (.foldl (fun _ _ => by exact (.ite (.on (State.raise_keeps _ _ _) (State.setSta_keeps _ _ _)) (.refl _))) _ _))]) (.on (State.setPort_keeps _ _ _) (.foldl (fun _ _ => by exact (.ite (.on (State.raise_keeps _ _ _) (State.setSta_keeps _ _ _)) (.refl _))) _ _)))) (.refl _)))

theorem State.tryRtt_keeps : ∀ s a1, Keeps s (State.tryRtt s a1) := by
  intro s a1; unfold State.tryRtt; dsimp only
  exact (by split; exacts [(.ite (.ite (.on (State.raise_keeps _ _ _) (.on (State.setSta_keeps _ _ _) (.on (State.setLink_keeps _ _ _) (.on (State.count_keeps _ _ _) (State.setReg_keeps _ _ _))))) (.on (State.setLink_keeps _ _ _) (.on (State.count_keeps _ _ _) (State.setReg_keeps _ _ _)))) (.on (State.tryStart_keeps _ _) (.on (State.setLink_keeps _ _ _) (.on (State.setReg_keeps _ _ _) (State.setReg_keeps _ _ _))))), (.refl _)])

theorem State.onRttReply_keeps : ∀ s a1 a2, Keeps s (State.onRttReply s a1 a2) := by
  intro s a1 a2; delta State.onRttReply
  exact (.ite (.on (State.tryRtt_keeps _ _) (State.setLink_keeps _ _ _)) (.refl _))

theorem State.onImageStatus_keeps : ∀ s a1 a2, Keeps s (State.onImageStatus s a1 a2) := by
  intro s a1 a2; delta State.onImageStatus
  exact (.ite (.on (State.raise_keeps _ _ _) (.on (State.setSta_keeps _ _ _) (State.setLink_keeps _ _ _))) (.on
    (State.raise_keeps _ _ _) (.on (State.setSta_keeps _ _ _) (State.setLink_keeps _ _ _))))

theorem State.onAlarm_keeps : ∀ s a1 a2, Keeps s (State.onAlarm s a1 a2) := by
  intro s a1 a2; delta State.onAlarm
  exact (.on (State.raise_keeps _ _ _) (.on (State.setSta_keeps _ _ _) (State.setReg_keeps _ _ _)))

theorem State.onMessage_keeps : ∀ s a1 a2 a3, Keeps s (State.onMessage s a1 a2 a3) := by
  intro s a1 a2 a3; unfold State.onMessage
  exact (by (try dsimp only); split; exacts [(State.onHeadId_keeps _ _ _), (State.onHeadLife_keeps _ _ _), (State.cfgReply_keeps _ _ _), (State.onHeadCal_keeps _ _ _), (State.onLaneMap_keeps _ _ _), (State.onRttReply_keeps _ _ _), (State.onImageStatus_keeps _ _ _), (State.onAlarm_keeps _ _ _), (.refl _)])

theorem State.rxMessage_keeps : ∀ s a1 a2, Keeps s (State.rxMessage s a1 a2) := by
  intro s a1 a2; delta State.rxMessage
  exact (.ite (State.count_keeps _ _ _) (.ite (State.count_keeps _ _ _) (.ite (State.onAck_keeps _ _ _) (.ite (.on
    (State.onMessage_keeps _ _ _ _) (State.onAck_keeps _ _ _)) (.ite (.on (State.setLink_keeps _ _ _) (State.onAck_keeps _ _
    _)) (.on (State.onMessage_keeps _ _ _ _) (.on (State.setLink_keeps _ _ _) (State.onAck_keeps _ _ _))))))))

theorem State.deliver_keeps : ∀ s a1 a2, Keeps s (State.deliver s a1 a2) := by
  intro s a1 a2; unfold State.deliver
  exact (by (try dsimp only); split; exacts [(.on (State.deliverSamples_keeps _ _ _) (.ite (.on (State.rateChange_keeps _ _ _) (.ite (State.applyMap_keeps _ _) (.refl _))) (.ite (State.applyMap_keeps _ _) (.refl _)))), (.on (State.rxMessage_keeps _ _ _) (.ite (.on (State.rateChange_keeps _ _ _) (.ite (State.applyMap_keeps _ _) (.refl _))) (.ite (State.applyMap_keeps _ _) (.refl _)))), (.ite (.on (State.tryRtt_keeps _ _) (.on (State.setLink_keeps _ _ _) (.ite (.on (State.rateChange_keeps _ _ _) (.ite (State.applyMap_keeps _ _) (.refl _))) (.ite (State.applyMap_keeps _ _) (.refl _))))) (.ite (.on (State.rateChange_keeps _ _ _) (.ite (State.applyMap_keeps _ _) (.refl _))) (.ite (State.applyMap_keeps _ _) (.refl _)))), (.ite (.on (State.rateChange_keeps _ _ _) (.ite (State.applyMap_keeps _ _) (.refl _))) (.ite (State.applyMap_keeps _ _) (.refl _)))])

theorem State.sinkAdd_keeps : ∀ s a1 a2, Keeps s (State.sinkAdd s a1 a2) := by
  intro s a1 a2; unfold State.sinkAdd; dsimp only
  exact (.on (State.reportFill_keeps _ _) (by split; exacts [(.refl _), (State.setChannel_keeps _ _ _), (State.setDisk_keeps _ _ _)]))

theorem State.flowPush_keeps : ∀ s a1 a2 a3 a4, Keeps s (State.flowPush s a1 a2 a3 a4).2 := by
  intro s a1 a2 a3 a4; delta State.flowPush
  exact (.iteSnd (.mkSnd (State.flowDrop_keeps _ _ _)) (.iteSnd (.iteSnd (.mkSnd (State.flowDrop_keeps _ _ _)) (.mkSnd (.on
    (State.setFlow_keeps _ _ _) (State.sinkAdd_keeps _ _ _)))) (.iteSnd (.mkSnd (State.flowDrop_keeps _ _ _)) (.iteSnd (.mkSnd
    (.on (State.setFlow_keeps _ _ _) (State.sinkAdd_keeps _ _ _))) (.mkSnd (.on (State.flowDrop_keeps _ _ _) (.on
    (State.flowStop_keeps _ _) (State.sinkOvf_keeps _ _ _))))))))

theorem State.flowFrame_keeps : ∀ s a1 a2 a3 a4, Keeps s (State.flowFrame s a1 a2 a3 a4) := by
  intro s a1 a2 a3 a4; delta State.flowFrame
  exact (.ite (.ite (State.setFlow_keeps _ _ _) (.ite (.on (State.flowPush_keeps _ _ _ _ _) (State.setFlow_keeps _ _ _)) (.on
    (State.flowPush_keeps _ _ _ _ _) (.on (State.draw_keeps _) (State.setFlow_keeps _ _ _))))) (State.flowPush_keeps _ _ _ _
    _))

theorem State.exportFrame_keeps : ∀ s a1 a2 a3, Keeps s (State.exportFrame s a1 a2 a3) := by
  intro s a1 a2 a3; delta State.exportFrame
  exact (.on (.foldl (fun _ _ => by exact (.ite (State.flowFrame_keeps _ _ _ _ _) (.refl _))) _ _) (.foldl (fun _ _ => by exact (.ite (.refl _) (.foldl (fun _ _ => by exact (.ite (State.flowFrame_keeps _ _ _ _ _) (.refl _))) _ _))) _ _))

theorem State.planeApply_keeps : ∀ s a1, Keeps s (State.planeApply s a1) := by
  intro s a1; delta State.planeApply
  exact (.ite (.on (State.setSta_keeps _ _ _) (.on (State.setPlane_keeps _ _ _) (State.commitScope_keeps _ _))) (.refl _))

theorem State.setCascade_keeps : ∀ s a1 a2, Keeps s (State.setCascade s a1 a2) := by
  intro s a1 a2; delta State.setCascade
  exact (.of rfl rfl rfl rfl rfl)

theorem State.sendDensity_keeps : ∀ s a1 a2 a3, Keeps s (State.sendDensity s a1 a2 a3) := by
  intro s a1 a2 a3; delta State.sendDensity
  exact (.ite (.on (State.setPlane_keeps _ _ _) (State.count_keeps _ _ _)) (.on (State.setPlane_keeps _ _ _)
    (State.setCascade_keeps _ _ _)))

theorem State.setPlaneState_keeps : ∀ s a1 a2, Keeps s (State.setPlaneState s a1 a2) := by
  intro s a1 a2; delta State.setPlaneState
  exact (State.setFld_keeps _ _ _ _)

theorem State.planeOff_keeps : ∀ s a1, Keeps s (State.planeOff s a1) := by
  intro s a1; delta State.planeOff
  exact (.on (State.setPlaneState_keeps _ _ _) (State.setPlane_keeps _ _ _))

theorem State.planeTake_keeps : ∀ s a1 a2, Keeps s (State.planeTake s a1 a2) := by
  intro s a1 a2; delta State.planeTake
  exact (.ite (.on (State.planeOff_keeps _ _) (.ite (.on (State.setPlane_keeps _ _ _) (.on (State.count_keeps _ _ _)
    (State.planeApply_keeps _ _))) (.ite (.on (State.sendDensity_keeps _ _ _ _) (.on (State.addHits_keeps _ _ _ _) (.on
    (State.setPlane_keeps _ _ _) (.on (State.setFld_keeps _ _ _ _) (State.planeApply_keeps _ _))))) (.on (State.addHits_keeps
    _ _ _ _) (.on (State.setPlane_keeps _ _ _) (.on (State.setFld_keeps _ _ _ _) (State.planeApply_keeps _ _))))))) (.ite (.on
    (State.setPlane_keeps _ _ _) (.on (State.count_keeps _ _ _) (State.planeApply_keeps _ _))) (.ite (.on
    (State.sendDensity_keeps _ _ _ _) (.on (State.addHits_keeps _ _ _ _) (.on (State.setPlane_keeps _ _ _) (.on
    (State.setFld_keeps _ _ _ _) (State.planeApply_keeps _ _))))) (.on (State.addHits_keeps _ _ _ _) (.on
    (State.setPlane_keeps _ _ _) (.on (State.setFld_keeps _ _ _ _) (State.planeApply_keeps _ _)))))))

theorem State.planesTake_keeps : ∀ s a1 a2, Keeps s (State.planesTake s a1 a2) := by
  intro s a1 a2; delta State.planesTake
  exact (.foldl (fun _ _ => by exact (.ite (.refl _) (State.planeTake_keeps _ _ _))) _ _)

theorem State.setMask_keeps : ∀ s a1 a2, Keeps s (State.setMask s a1 a2) := by
  intro s a1 a2; delta State.setMask
  exact (.of rfl rfl rfl rfl rfl)

theorem State.maskOff_keeps : ∀ s a1 a2, Keeps s (State.maskOff s a1 a2) := by
  intro s a1 a2; delta State.maskOff
  exact (.ite (.on (State.setFld_keeps _ _ _ _) (State.activate_keeps _ _ _ _ _)) (.refl _))

theorem State.maskChange_keeps : ∀ s a1, Keeps s (State.maskChange s a1) := by
  intro s a1; delta State.maskChange
  exact (.ite (State.displayChange_keeps _) (.refl _))

theorem State.maskJudge_keeps : ∀ s a1 a2 a3, Keeps s (State.maskJudge s a1 a2 a3) := by
  intro s a1 a2 a3; delta State.maskJudge
  exact (.ite (.on (State.blkEvent_keeps _ _ _ _ _) (.on (State.setSta_keeps _ _ _) (.ite (.on (State.setSta_keeps _ _ _) (.on
    (State.count_keeps _ _ _) (.on (State.setFld_keeps _ _ _ _) (.on (State.activate_keeps _ _ _ _ _) (.on
    (State.setMask_keeps _ _ _) (.ite (.on (State.count_keeps _ _ _) (.on (State.setFld_keeps _ _ _ _) (.on
    (State.setMask_keeps _ _ _) (.ite (.on (State.setMask_keeps _ _ _) (.on (State.maskChange_keeps _ _)
    (State.commitScope_keeps _ _))) (.refl _))))) (.on (State.maskOff_keeps _ _ _) (.on (State.setFld_keeps _ _ _ _) (.on
    (State.setMask_keeps _ _ _) (.ite (.on (State.setMask_keeps _ _ _) (.on (State.maskChange_keeps _ _)
    (State.commitScope_keeps _ _))) (.refl _))))))))))) (.on (State.setMask_keeps _ _ _) (.ite (.on (State.count_keeps _ _ _)
    (.on (State.setFld_keeps _ _ _ _) (.on (State.setMask_keeps _ _ _) (.ite (.on (State.setMask_keeps _ _ _) (.on
    (State.maskChange_keeps _ _) (State.commitScope_keeps _ _))) (.refl _))))) (.on (State.maskOff_keeps _ _ _) (.on
    (State.setFld_keeps _ _ _ _) (.on (State.setMask_keeps _ _ _) (.ite (.on (State.setMask_keeps _ _ _) (.on
    (State.maskChange_keeps _ _) (State.commitScope_keeps _ _))) (.refl _)))))))))) (.ite (.on (State.setSta_keeps _ _ _) (.on
    (State.count_keeps _ _ _) (.on (State.setFld_keeps _ _ _ _) (.on (State.activate_keeps _ _ _ _ _) (.on
    (State.setMask_keeps _ _ _) (.ite (.on (State.count_keeps _ _ _) (.on (State.setFld_keeps _ _ _ _) (.on
    (State.setMask_keeps _ _ _) (.ite (.on (State.setMask_keeps _ _ _) (.on (State.maskChange_keeps _ _)
    (State.commitScope_keeps _ _))) (.refl _))))) (.on (State.maskOff_keeps _ _ _) (.on (State.setFld_keeps _ _ _ _) (.on
    (State.setMask_keeps _ _ _) (.ite (.on (State.setMask_keeps _ _ _) (.on (State.maskChange_keeps _ _)
    (State.commitScope_keeps _ _))) (.refl _))))))))))) (.on (State.setMask_keeps _ _ _) (.ite (.on (State.count_keeps _ _ _)
    (.on (State.setFld_keeps _ _ _ _) (.on (State.setMask_keeps _ _ _) (.ite (.on (State.setMask_keeps _ _ _) (.on
    (State.maskChange_keeps _ _) (State.commitScope_keeps _ _))) (.refl _))))) (.on (State.maskOff_keeps _ _ _) (.on
    (State.setFld_keeps _ _ _ _) (.on (State.setMask_keeps _ _ _) (.ite (.on (State.setMask_keeps _ _ _) (.on
    (State.maskChange_keeps _ _) (State.commitScope_keeps _ _))) (.refl _)))))))))

theorem State.masksTake_keeps : ∀ s a1 a2 a3, Keeps s (State.masksTake s a1 a2 a3) := by
  intro s a1 a2 a3; delta State.masksTake
  exact (.foldl (fun _ _ => by exact (.ite (.refl _) (.ite (.on (State.maskJudge_keeps _ _ _ _) (.ite (.on (State.setMask_keeps _ _ _) (State.maskOff_keeps _ _ _)) (.refl _))) (.ite (.on (State.setMask_keeps _ _ _) (State.maskOff_keeps _ _ _)) (.refl _))))) _ _)

theorem State.deliverFrames_keeps : ∀ s a1 a2 a3, Keeps s (State.deliverFrames s a1 a2 a3) := by
  intro s a1 a2 a3; delta State.deliverFrames
  exact (.foldl (fun _ _ => by exact (.on (State.exportFrame_keeps _ _ _ _) (.on (State.planesTake_keeps _ _ _) (State.masksTake_keeps _ _ _ _)))) _ _)

theorem State.setPairState_keeps : ∀ s a1 a2, Keeps s (State.setPairState s a1 a2) := by
  intro s a1 a2; delta State.setPairState
  exact (State.setFld_keeps _ _ _ _)

theorem State.pairOff_keeps : ∀ s a1, Keeps s (State.pairOff s a1) := by
  intro s a1; delta State.pairOff
  exact (.on (State.setFld_keeps _ _ _ _) (.on (State.setPairState_keeps _ _ _) (State.setPair_keeps _ _ _)))

theorem State.drainPair_keeps : ∀ s a1, Keeps s (State.drainPair s a1).2 := by
  intro s a1; unfold State.drainPair; dsimp only
  exact (by split; exacts [(.refl _), (.iteSnd (.refl _) (.on (State.pairOff_keeps _ _) (State.flushBlock_keeps _ _)))])

theorem State.xfDisable_keeps : ∀ s a1, Keeps s (State.xfDisable s a1).2 := by
  intro s a1; delta State.xfDisable
  exact (.iteSnd (.refl _) (.on (State.drainPair_keeps _ _) (.on (State.setPairState_keeps _ _ _) (State.setPair_keeps _ _ _))))

theorem State.stopPlanes_keeps : ∀ s a1, Keeps s (State.stopPlanes s a1) := by
  intro s a1; delta State.stopPlanes
  exact (.ite (.refl _) (.foldl (fun _ _ => by exact (.ite (State.planeOff_keeps _ _) (.refl _))) _ _))

theorem State.disablePair_keeps : ∀ s a1, Keeps s (State.disablePair s a1) := by
  intro s a1; delta State.disablePair
  exact (.on (State.stopPlanes_keeps _ _) (.on (State.deliverFrames_keeps _ _ _ _) (State.xfDisable_keeps _ _)))

theorem State.setDsState_keeps : ∀ s a1 a2, Keeps s (State.setDsState s a1 a2) := by
  intro s a1 a2; delta State.setDsState
  exact (State.setFld_keeps _ _ _ _)

theorem State.diskDrained_keeps : ∀ s a1, Keeps s (State.diskDrained s a1) := by
  intro s a1; delta State.diskDrained
  exact (.ite (.on (State.reportFill_keeps _ _) (.on (State.setDsState_keeps _ _ _) (.of rfl rfl rfl rfl rfl))) (.refl _))

theorem State.diskFull_keeps : ∀ s a1, Keeps s (State.diskFull s a1) := by
  intro s a1; delta State.diskFull
  exact (.on (State.blkEvent_keeps _ _ _ _ _) (.on (State.setSta_keeps _ _ _) (.on (State.setDsState_keeps _ _ _) (.ite
    (State.setDisk_keeps _ _ _) (.on (State.flowDrop_keeps _ _ _) (State.setDisk_keeps _ _ _))))))

theorem State.dmaDisable_keeps : ∀ s a1, Keeps s (State.dmaDisable s a1) := by
  intro s a1; delta State.dmaDisable
  exact (.ite (.refl _) (.ite (.on (State.dmaOff_keeps _ _) (State.setDmaState_keeps _ _ _)) (.ite (.on (State.bufFlush_keeps
    _ _) (State.setDmaState_keeps _ _ _)) (State.setDmaState_keeps _ _ _))))

theorem State.tryPromote_keeps : ∀ s a1, Keeps s (State.tryPromote s a1) := by
  intro s a1; delta State.tryPromote
  exact (.ite (.refl _) (.ite (State.bufFlush_keeps _ _) (.on (State.blkEvent_keeps _ _ _ _ _) (.on (State.setSta_keeps _ _ _)
    (.on (State.setFld_keeps _ _ _ _) (.on (State.setReg_keeps _ _ _) (.on (State.commitScope_keeps _ _) (State.bufFlush_keeps
    _ _))))))))

theorem State.dmaEnable_keeps : ∀ s a1, Keeps s (State.dmaEnable s a1).2 := by
  intro s a1; delta State.dmaEnable
  exact (.iteSnd (.refl _) (.iteSnd (.refl _) (.iteSnd (.mkSnd (State.setSta_keeps _ _ _)) (.mkSnd (.on
    (State.tryPromote_keeps _ _) (.on (State.setFld_keeps _ _ _ _) (.on (State.setDmaState_keeps _ _ _) (.on
    (State.setReg_keeps _ _ _) (.on (.foldl (fun _ _ => (State.setFlow_keeps _ _ _)) _ _) (.on (State.commitScope_keeps _ _)
    (State.dmaOff_keeps _ _)))))))))))

theorem State.setPanel_keeps : ∀ s a1 a2, Keeps s (State.setPanel s a1 a2) := by
  intro s a1 a2; delta State.setPanel
  exact (.of rfl rfl rfl rfl rfl)

theorem State.setDpState_keeps : ∀ s a1 a2, Keeps s (State.setDpState s a1 a2) := by
  intro s a1 a2; delta State.setDpState
  exact (State.setFld_keeps _ _ _ _)

theorem State.freeReleases_keeps : ∀ s, Keeps s (State.freeReleases s) := by
  intro s; delta State.freeReleases
  exact (.on (.foldl (fun _ _ => (State.raise_keeps _ _ _)) _ _) (.of rfl rfl rfl rfl rfl))

theorem State.panelOff_keeps : ∀ s a1, Keeps s (State.panelOff s a1) := by
  intro s a1; delta State.panelOff
  exact (.on (State.freeReleases_keeps _) (.on (State.setPanel_keeps _ _ _) (State.setDpState_keeps _ _ _)))

theorem State.dpDisable_keeps : ∀ s a1, Keeps s (State.dpDisable s a1) := by
  intro s a1; delta State.dpDisable
  exact (.ite (.refl _) (.ite (.foldl (fun _ _ => (State.setPanel_keeps _ _ _)) _ _) (.foldl (fun _ _ => (State.panelOff_keeps
    _ _)) _ _)))

theorem State.programPllD_keeps : ∀ s a1 a2, Keeps s (State.programPllD s a1 a2) := by
  intro s a1 a2; delta State.programPllD
  exact (.on (State.stewardCrc_keeps _ _) (.on (State.setFld_keeps _ _ _ _) (.on (State.setReg_keeps _ _ _) (.on
    (State.setFld_keeps _ _ _ _) (.on (State.setFld_keeps _ _ _ _) (.on (State.setFld_keeps _ _ _ _) (.on (State.setFld_keeps
    _ _ _ _) (.on (State.settleOutputs_keeps _ _) (State.setPll_keeps _ _ _)))))))))

theorem State.dpRefusal_keeps : ∀ s a1, Keeps s (State.dpRefusal s a1).2 := by
  intro s a1; unfold State.dpRefusal; dsimp only
  exact (.iteSnd (.refl _) (.iteSnd (.refl _) (.iteSnd (.refl _) (.iteSnd (.refl _) (by split; exacts [(.refl _), (by split; exacts [(.refl _), (.iteSnd (.refl _) (.on (State.settleOutputs_keeps _ _) (.on (State.acquire_keeps _ _) (.on (State.setScope_keeps _ _ _) (.on (State.setScope_keeps _ _ _) (.on (State.setFld_keeps _ _ _ _) (.on (State.setFld_keeps _ _ _ _) (State.programPllD_keeps _ _ _))))))))])])))))

theorem State.dpEnable_keeps : ∀ s a1, Keeps s (State.dpEnable s a1).2 := by
  intro s a1; delta State.dpEnable
  exact (.iteSnd (.refl _) (.iteSnd (.refl _) (.iteSnd (.mkSnd (.on (State.blkEvent_keeps _ _ _ _ _) (State.setFld_keeps _ _ _ _))) (.mkSnd (.on (.foldl (fun _ _ => by exact (.on (State.setPanel_keeps _ _ _) (State.setDpState_keeps _ _ _))) _ _) (State.dpRefusal_keeps _ _))))))

theorem State.setSpike_keeps : ∀ s a1 a2, Keeps s (State.setSpike s a1 a2) := by
  intro s a1 a2; delta State.setSpike
  exact (.of rfl rfl rfl rfl rfl)

theorem State.zoomOff_keeps : ∀ s a1, Keeps s (State.zoomOff s a1) := by
  intro s a1; delta State.zoomOff
  exact (.on (State.setFld_keeps _ _ _ _) (.on (State.setFld_keeps _ _ _ _) (.on (State.setZoom_keeps _ _ _) (.on
    (State.setStream_keeps _ _ _) (State.armComparators_keeps _ _)))))

theorem State.seqDrained_keeps : ∀ s a1, Keeps s (State.seqDrained s a1) := by
  intro s a1; delta State.seqDrained
  exact (.ite (State.setScope_keeps _ _ _) (.refl _))

theorem State.tplDrained_keeps : ∀ s a1, Keeps s (State.tplDrained s a1) := by
  intro s a1; delta State.tplDrained
  exact (.ite (State.setFld_keeps _ _ _ _) (.refl _))

theorem State.setDrvState_keeps : ∀ s a1 a2, Keeps s (State.setDrvState s a1 a2) := by
  intro s a1 a2; delta State.setDrvState
  exact (State.setFld_keeps _ _ _ _)

theorem State.setDrive_keeps : ∀ s a1 a2, Keeps s (State.setDrive s a1 a2) := by
  intro s a1 a2; delta State.setDrive
  exact (.of rfl rfl rfl rfl rfl)

theorem State.driveLeaves_keeps : ∀ s a1, Keeps s (State.driveLeaves s a1) := by
  intro s a1; delta State.driveLeaves
  exact (.on (State.setScope_keeps _ _ _) (.on (State.setDrvState_keeps _ _ _) (State.setDrive_keeps _ _ _)))

end Sys2Proof.Machine
end

