-- ==== Sys2Proof/Laws/KeepsOps3.lean ====
section
/-! SUPPORT. `Keeps` of the shared operations, part 3 of 4: what each of them leaves as it was. -/

set_option linter.unusedTactic false
set_option linter.unreachableTactic false

namespace Sys2Proof.Machine

theorem State.drainEnd_keeps : ∀ s a1, Keeps s (State.drainEnd s a1) := by
  intro s a1; unfold State.drainEnd; dsimp only
  exact (by split; exacts [(.ite (State.coreOff_keeps _ _) (.refl _)), (.ite (.on (State.setScope_keeps _ _ _) (.on (State.setFld_keeps _ _ _ _) (State.setSpike_keeps _ _ _))) (.refl _)), (.ite (State.zoomOff_keeps _ _) (.refl _)), (.ite (.refl _) (.on (State.stopPlanes_keeps _ _) (.on (State.deliverFrames_keeps _ _ _ _) (.on (State.pairOff_keeps _ _) (State.flushBlock_keeps _ _))))), (.ite (.on (State.setScope_keeps _ _ _) (State.setFld_keeps _ _ _ _)) (.refl _)), (State.seqDrained_keeps _ _), (State.tplDrained_keeps _ _), (.ite (State.planeOff_keeps _ _) (.refl _)), (.ite (State.panelOff_keeps _ _) (.refl _)), (.ite (State.ringOff_keeps _ _) (.refl _)), (.ite (State.ringOff_keeps _ _) (.refl _)), (.ite (.refl _) (.ite (State.dmaOff_keeps _ _) (.ite (State.bufFlush_keeps _ _) (.refl _)))), (State.diskDrained_keeps _ _), (.ite (State.driveLeaves_keeps _ _) (.refl _)), (.refl _), (.refl _), (.refl _), (.refl _), (.refl _), (.refl _), (.refl _), (.refl _), (.refl _), (.refl _), (.refl _), (.refl _), (.refl _), (.refl _), (.refl _)])

theorem State.setOutHigh_keeps : ∀ s a1 a2, Keeps s (State.setOutHigh s a1 a2) := by
  intro s a1 a2; delta State.setOutHigh
  exact (.of rfl rfl rfl rfl rfl)

theorem State.driveOut_keeps : ∀ s a1 a2, Keeps s (State.driveOut s a1 a2) := by
  intro s a1 a2; delta State.driveOut
  exact (.on (State.emit_keeps _ _) (State.setOutHigh_keeps _ _ _))

theorem State.outTrig_keeps : ∀ s a1, Keeps s (State.outTrig s a1) := by
  intro s a1; delta State.outTrig
  exact (.ite (.refl _) (.ite (State.count_keeps _ _ _) (.on (State.count_keeps _ _ _) (State.driveOut_keeps _ _ _))))

theorem State.outSync_keeps : ∀ s a1, Keeps s (State.outSync s a1) := by
  intro s a1; delta State.outSync
  exact (.ite (.refl _) (.ite (State.setLine_keeps _ _ _) (State.mergeCount_keeps _)))

theorem State.outCasc_keeps : ∀ s a1 a2 a3 a4, Keeps s (State.outCasc s a1 a2 a3 a4) := by
  intro s a1 a2 a3 a4; delta State.outCasc
  exact (.ite (.refl _) (State.setCascade_keeps _ _ _))

theorem State.driveOutputs_keeps : ∀ s a1 a2 a3, Keeps s (State.driveOutputs s a1 a2 a3) := by
  intro s a1 a2 a3; delta State.driveOutputs
  exact (.on (.foldl (fun _ _ => by exact (.ite (State.outCasc_keeps _ _ _ _ _) (.refl _))) _ _) (.on (.foldl (fun _ _ => by exact (.ite (State.outSync_keeps _ _) (.refl _))) _ _) (.foldl (fun _ _ => by exact (.ite (State.outTrig_keeps _ _) (.refl _))) _ _)))

theorem State.dropInHand_keeps : ∀ s, Keeps s (State.dropInHand s) := by
  intro s; unfold State.dropInHand
  exact (by (try dsimp only); split; exacts [(.ite (.upd rfl rfl (.on (State.count_keeps _ _ _) (by (try dsimp only); split; exacts [(.ite (.upd rfl rfl (State.count_keeps _ _ _)) (.refl _)), (.refl _)]))) (by (try dsimp only); split; exacts [(.ite (.upd rfl rfl (State.count_keeps _ _ _)) (.refl _)), (.refl _)])), (by (try dsimp only); split; exacts [(.ite (.upd rfl rfl (State.count_keeps _ _ _)) (.refl _)), (.refl _)])])

theorem State.tileLost_keeps : ∀ s, Keeps s (State.tileLost s) := by
  intro s; delta State.tileLost
  exact (.foldl (fun _ _ => by exact (.ite (.ite (.on (State.setPair_keeps _ _ _) (State.draw_keeps _)) (State.draw_keeps _)) (.refl _))) _ _)

theorem State.zoomLost_keeps : ∀ s a1, Keeps s (State.zoomLost s a1) := by
  intro s a1; delta State.zoomLost
  exact (.ite (.refl _) (State.setZoom_keeps _ _ _))

theorem State.dropItems_keeps : ∀ s a1 a2, Keeps s (State.dropItems s a1 a2) := by
  intro s a1 a2; unfold State.dropItems; dsimp only
  exact (by split; exacts [(State.tileLost_keeps _), (State.zoomLost_keeps _ _), (State.finishJob_keeps _ _ _), (State.setPlane_keeps _ _ _), (.refl _)])

theorem State.dropRing_keeps : ∀ s a1, Keeps s (State.dropRing s a1) := by
  intro s a1; delta State.dropRing
  exact (.on (State.setReg64_keeps _ _ _ _) (.on (State.setReg_keeps _ _ _) (.on (State.setReg_keeps _ _ _) (.on
    (State.setReg_keeps _ _ _) (.on (State.setReg_keeps _ _ _) (.on (State.setReg_keeps _ _ _) (State.setReg_keeps _ _
    _)))))))

theorem State.dropOldRings_keeps : ∀ s, Keeps s (State.dropOldRings s) := by
  intro s; delta State.dropOldRings
  exact (.foldl (fun _ _ => by exact (.ite (State.dropRing_keeps _ _) (.refl _))) _ _)

theorem State.drvRefuse_keeps : ∀ s a1 a2, Keeps s (State.drvRefuse s a1 a2) := by
  intro s a1 a2; delta State.drvRefuse
  exact (.on (State.raise_keeps _ _ _) (.on (State.setSta_keeps _ _ _) (State.setFld_keeps _ _ _ _)))

theorem State.drvRetire_keeps : ∀ s a1, Keeps s (State.drvRetire s a1) := by
  intro s a1; delta State.drvRetire
  exact (.ite (State.setDrive_keeps _ _ _) (.on (State.blkEvent_keeps _ _ _ _ _) (.on (State.setSta_keeps _ _ _) (.on
    (State.setDrvState_keeps _ _ _) (State.setDrive_keeps _ _ _)))))

theorem State.dsDisable_keeps : ∀ s a1, Keeps s (State.dsDisable s a1) := by
  intro s a1; delta State.dsDisable
  exact (.ite (.refl _) (.on (State.diskDrained_keeps _ _) (State.setDsState_keeps _ _ _)))

theorem State.dsEnable_keeps : ∀ s a1, Keeps s (State.dsEnable s a1).2 := by
  intro s a1; delta State.dsEnable
  exact (.iteSnd (.refl _) (.iteSnd (.refl _) (.iteSnd (.mkSnd (State.setSta_keeps _ _ _)) (.mkSnd (.on
    (State.setDsState_keeps _ _ _) (.on (State.setFld_keeps _ _ _ _) (.on (State.setDisk_keeps _ _ _) (.on
    (State.setFlow_keeps _ _ _) (State.commitScope_keeps _ _)))))))))

theorem State.dsRestart_keeps : ∀ s a1, Keeps s (State.dsRestart s a1) := by
  intro s a1; delta State.dsRestart
  exact (.ite (.refl _) (.on (State.setDsState_keeps _ _ _) (.on (State.setDisk_keeps _ _ _) (State.setFlow_keeps _ _ _))))

theorem State.releaseBinding_keeps : ∀ s a1, Keeps s (State.releaseBinding s a1) := by
  intro s a1; unfold State.releaseBinding; dsimp only
  exact (by split; exacts [(State.setStream_keeps _ _ _), (.on (State.setFld_keeps _ _ _ _) (State.setFld_keeps _ _ _ _)), (.ite (.on (State.setFld_keeps _ _ _ _) (State.setFld_keeps _ _ _ _)) (.refl _)), (State.setFld_keeps _ _ _ _), (State.setFld_keeps _ _ _ _), (.on (State.setFld_keeps _ _ _ _) (.foldl (fun _ _ => by exact (.on (State.setCore_keeps _ _ _) (State.setReg_keeps _ _ _))) _ _)), (State.setReg_keeps _ _ _), (.refl _)])

theorem State.reportBudget_keeps : ∀ s, Keeps s (State.reportBudget s) := by
  intro s; delta State.reportBudget
  exact (.on (State.setFld_keeps _ _ _ _) (State.setFld_keeps _ _ _ _))

theorem State.emptySlot_keeps : ∀ s a1, Keeps s (State.emptySlot s a1) := by
  intro s a1; delta State.emptySlot
  exact (.on (State.reportBudget_keeps _) (.on (State.setReg_keeps _ _ _) (.on (State.setNib_keeps _ _ _) (.foldl (fun _ _ =>
    (State.releaseBinding_keeps _ _)) _ _))))

theorem State.endOutage_keeps : ∀ s, Keeps s (State.endOutage s) := by
  intro s; delta State.endOutage
  exact (.foldl (fun _ _ => by exact (.ite (State.setDmaState_keeps _ _ _) (.refl _))) _ _)

theorem State.endTest_keeps : ∀ s a1, Keeps s (State.endTest s a1) := by
  intro s a1; delta State.endTest
  exact (.on (State.setFld_keeps _ _ _ _) (.on (State.setLaneState_keeps _ _ _) (State.setScope_keeps _ _ _)))

theorem State.enterReplay_keeps : ∀ s a1, Keeps s (State.enterReplay s a1) := by
  intro s a1; delta State.enterReplay
  exact (.on (State.blkEvent_keeps _ _ _ _ _) (.on (State.freeReleases_keeps _) (.on (State.setPanel_keeps _ _ _)
    (State.setDpState_keeps _ _ _))))

theorem State.entryDone_keeps : ∀ s a1 a2, Keeps s (State.entryDone s a1 a2) := by
  intro s a1 a2; delta State.entryDone
  exact (.ite (State.setDrive_keeps _ _ _) (.on (State.setDisk_keeps _ _ _) (State.setDrive_keeps _ _ _)))

theorem State.fadeEnd_keeps : ∀ s a1, Keeps s (State.fadeEnd s a1) := by
  intro s a1; delta State.fadeEnd
  exact (.ite (.on (State.setFld_keeps _ _ _ _) (State.setZoom_keeps _ _ _)) (State.setZoom_keeps _ _ _))

theorem State.uncount_keeps : ∀ s a1, Keeps s (State.uncount s a1) := by
  intro s a1; delta State.uncount
  exact (.ite (State.setReg64_keeps _ _ _ _) (State.setReg_keeps _ _ _))

theorem State.queuedCounts_keeps : ∀ s a1, Keeps s (State.queuedCounts s a1) := by
  intro s a1; delta State.queuedCounts
  exact (.foldl (fun _ _ => (State.setFld_keeps _ _ _ _)) _ _)

theorem State.withdraw_keeps : ∀ s a1, Keeps s (State.withdraw s a1) := by
  intro s a1; delta State.withdraw
  exact (.on (.foldl (fun _ _ => by exact (.ite (State.setFld_keeps _ _ _ _) (.refl _))) _ _) (.on (State.queuedCounts_keeps _ _) (.of rfl rfl rfl rfl rfl)))

theorem State.rollback_keeps : ∀ s a1 a2 a3, Keeps s (State.rollback s a1 a2 a3) := by
  intro s a1 a2 a3; unfold State.rollback; dsimp only
  exact (by split; exacts [(.refl _), (.on (State.setFld_keeps _ _ _ _) (.on (State.count_keeps _ _ _) (.on (State.setSeqr_keeps _ _ _) (.on (State.withdraw_keeps _ _) (.foldl (fun _ _ => (State.uncount_keeps _ _)) _ _)))))])

theorem State.rollbackWhere_keeps : ∀ s a1 a2 a3, Keeps s (State.rollbackWhere s a1 a2 a3) := by
  intro s a1 a2 a3; delta State.rollbackWhere
  exact (.foldl (fun _ _ => (State.rollback_keeps _ _ _ _)) _ _)

theorem State.rollbackLost_keeps : ∀ s, Keeps s (State.rollbackLost s) := by
  intro s; delta State.rollbackLost
  exact (.foldl (fun _ _ => by exact (.on (State.seqDrained_keeps _ _) (State.rollbackWhere_keeps _ _ _ _))) _ _)

theorem State.failChannel_keeps : ∀ s a1, Keeps s (State.failChannel s a1) := by
  intro s a1; unfold State.failChannel; dsimp only
  exact (by split; exacts [(.ite (.on (State.blkEvent_keeps _ _ _ _ _) (State.setChState_keeps _ _ _)) (.on (State.setFld_keeps _ _ _ _) (.on (State.blkEvent_keeps _ _ _ _ _) (State.setChState_keeps _ _ _)))), (.on (State.rollbackLost_keeps _) (.on (State.setFld_keeps _ _ _ _) (.on (State.setFld_keeps _ _ _ _) (.on (State.redirectChannel_keeps _ _) (.on (State.blkEvent_keeps _ _ _ _ _) (State.setChState_keeps _ _ _))))))])

theorem State.fecHook_keeps : ∀ s a1 a2, Keeps s (State.fecHook s a1 a2) := by
  intro s a1 a2; delta State.fecHook
  exact (.ite (.refl _) (.on (State.setFld_keeps _ _ _ _) (State.setFld_keeps _ _ _ _)))

theorem State.inkRead_keeps : ∀ s a1 a2 a3 a4, Keeps s (State.inkRead s a1 a2 a3 a4).2 := by
  intro s a1 a2 a3 a4; unfold State.inkRead; dsimp only
  exact .iteSnd (.refl _) (.foldlSnd (fun _ _ => by exact State.readCell_keeps _ _ _ _ _) _ (_, _))

theorem State.fetchImage_keeps : ∀ s a1 a2 a3 a4 a5 a6, Keeps s (State.fetchImage s a1 a2 a3 a4 a5 a6).2 := by
  intro s a1 a2 a3 a4 a5 a6
  induction a5 generalizing s a6 with
  | zero => exact .refl _
  | succ n ih => rw [State.fetchImage]; exact .trans (State.inkRead_keeps _ _ _ _ _) (ih _ _)

theorem State.fetchFrame_keeps : ∀ s a1, Keeps s (State.fetchFrame s a1).2 := by
  intro s a1; unfold State.fetchFrame
  exact (.iteSnd (.on (State.fetchImage_keeps _ _ _ _ _ _ _) (.iteSnd (.on (State.inkRead_keeps _ _ _ _ _) (.on (.foldlSnd (fun _ _ => by exact (State.inkRead_keeps _ _ _ _ _)) _ _) (.foldlSnd (fun _ _ => by exact (.iteSnd (State.fetchImage_keeps _ _ _ _ _ _ _) (.refl _))) _ (_, _)))) (.on (.foldlSnd (fun _ _ => by exact (State.inkRead_keeps _ _ _ _ _)) _ _) (.foldlSnd (fun _ _ => by exact (.iteSnd (State.fetchImage_keeps _ _ _ _ _ _ _) (.refl _))) _ (_, _))))) (.iteSnd (.on (State.inkRead_keeps _ _ _ _ _) (.on (.foldlSnd (fun _ _ => by exact (State.inkRead_keeps _ _ _ _ _)) _ _) (.foldlSnd (fun _ _ => by exact (.iteSnd (State.fetchImage_keeps _ _ _ _ _ _ _) (.refl _))) _ (_, _)))) (.on (.foldlSnd (fun _ _ => by exact (State.inkRead_keeps _ _ _ _ _)) _ _) (.foldlSnd (fun _ _ => by exact (.iteSnd (State.fetchImage_keeps _ _ _ _ _ _ _) (.refl _))) _ (_, _)))))

theorem State.queueInvocations_keeps : ∀ s a1, Keeps s (State.queueInvocations s a1) := by
  intro s a1; delta State.queueInvocations
  exact (.on (State.queuedCounts_keeps _ _) (.of rfl rfl rfl rfl rfl))

theorem State.openTadpole_keeps : ∀ s a1 a2 a3, Keeps s (State.openTadpole s a1 a2 a3) := by
  intro s a1 a2 a3; delta State.openTadpole
  exact (.ite (.refl _) (.ite (.ite (.on (State.setSta_keeps _ _ _) (State.count_keeps _ _ _)) (.on (State.blkEvent_keeps _ _
    _ _ _) (.on (State.setSeqr_keeps _ _ _) (.on (State.setSta_keeps _ _ _) (State.count_keeps _ _ _))))) (.ite (.on
    (State.blkEvent_keeps _ _ _ _ _) (.on (State.setSta_keeps _ _ _) (State.count_keeps _ _ _))) (.on
    (State.queueInvocations_keeps _ _) (.on (State.count_keeps _ _ _) (.on (State.setSeqr_keeps _ _ _) (.of rfl rfl rfl rfl
    rfl)))))))

theorem State.passAll_keeps : ∀ s a1 a2, Keeps s (State.passAll s a1 a2) := by
  intro s a1 a2; delta State.passAll
  exact (State.setSeqr_keeps _ _ _)

theorem State.fireArc_keeps : ∀ s a1 a2 a3 a4 a5 a6 a7 a8, Keeps s (State.fireArc s a1 a2 a3 a4 a5 a6 a7 a8) := by
  intro s a1 a2 a3 a4 a5 a6 a7 a8; delta State.fireArc
  exact (.on (State.setFld_keeps _ _ _ _) (.on (State.setSeqr_keeps _ _ _) (.ite (.on (State.driveOutputs_keeps _ _ _ _) (.ite
    (.on (State.rollbackWhere_keeps _ _ _ _) (.ite (.on (State.passAll_keeps _ _ _) (.ite (State.openTadpole_keeps _ _ _ _)
    (.refl _))) (.ite (State.openTadpole_keeps _ _ _ _) (.refl _)))) (.ite (.on (State.passAll_keeps _ _ _) (.ite
    (State.openTadpole_keeps _ _ _ _) (.refl _))) (.ite (State.openTadpole_keeps _ _ _ _) (.refl _))))) (.ite (.on
    (State.rollbackWhere_keeps _ _ _ _) (.ite (.on (State.passAll_keeps _ _ _) (.ite (State.openTadpole_keeps _ _ _ _) (.refl
    _))) (.ite (State.openTadpole_keeps _ _ _ _) (.refl _)))) (.ite (.on (State.passAll_keeps _ _ _) (.ite
    (State.openTadpole_keeps _ _ _ _) (.refl _))) (.ite (State.openTadpole_keeps _ _ _ _) (.refl _)))))))

theorem State.flushJournal_keeps : ∀ s a1, Keeps s (State.flushJournal s a1) := by
  intro s a1; delta State.flushJournal
  exact (.ite (.refl _) (.on (State.setDrive_keeps _ _ _) (.on (State.emit_keeps _ _) (State.draw_keeps _))))

theorem State.flushWaiting_keeps : ∀ s a1 a2, Keeps s (State.flushWaiting s a1 a2) := by
  intro s a1 a2
  induction a2 generalizing s with
  | zero => exact .refl _
  | succ n ih =>
    rw [State.flushWaiting]
    split
    · exact .refl _
    · exact .ite (.refl _) (.on (ih _) (.on (State.coalesce_keeps _ _) (.on (State.rringPush_keeps _ _ _) (.of rfl rfl rfl rfl rfl))))

theorem State.freePool_keeps : ∀ s, Keeps s (State.freePool s) := by
  intro s; delta State.freePool
  exact (.foldl (fun _ _ => by exact (.ite (State.emptySlot_keeps _ _) (.refl _))) _ _)

theorem State.setFreq_keeps : ∀ s a1 a2, Keeps s (State.setFreq s a1 a2) := by
  intro s a1 a2; delta State.setFreq
  exact (.of rfl rfl rfl rfl rfl)

theorem State.freqBegin_keeps : ∀ s a1, Keeps s (State.freqBegin s a1) := by
  intro s a1; delta State.freqBegin
  exact (.on (State.setScope_keeps _ _ _) (State.setFreq_keeps _ _ _))

theorem State.freqTake_keeps : ∀ s a1 a2 a3, Keeps s (State.freqTake s a1 a2 a3) := by
  intro s a1 a2 a3; delta State.freqTake
  exact (.ite (State.setFreq_keeps _ _ _) (.refl _))

theorem State.track_keeps : ∀ s a1, Keeps s (State.track s a1) := by
  intro s a1; unfold State.track; dsimp only
  exact (by split; exacts [(.on (State.blkEvent_keeps _ _ _ _ _) (State.setFld_keeps _ _ _ _)), (.ite (.on (State.blkEvent_keeps _ _ _ _ _) (State.setFld_keeps _ _ _ _)) (.on (State.setFld_keeps _ _ _ _) (.on (State.setReg64_keeps _ _ _ _) (.upd rfl rfl (.iteSnd (State.draw_keeps _) (.refl _))))))])

theorem State.gateEnd_keeps : ∀ s a1, Keeps s (State.gateEnd s a1) := by
  intro s a1; delta State.gateEnd
  exact (.ite (.ite (.ite (.on (State.track_keeps _ _) (.on (State.setFreq_keeps _ _ _) (State.setFld_keeps _ _ _ _))) (.on
    (State.setFreq_keeps _ _ _) (State.setFld_keeps _ _ _ _))) (.ite (.on (State.track_keeps _ _) (.on (State.setFreq_keeps _
    _ _) (.on (State.setReg_keeps _ _ _) (.on (State.setReg_keeps _ _ _) (.on (State.setFld_keeps _ _ _ _) (.on
    (State.setReg64_keeps _ _ _ _) (State.setReg64_keeps _ _ _ _))))))) (.on (State.setFreq_keeps _ _ _) (.on
    (State.setReg_keeps _ _ _) (.on (State.setReg_keeps _ _ _) (.on (State.setFld_keeps _ _ _ _) (.on (State.setReg64_keeps _
    _ _ _) (State.setReg64_keeps _ _ _ _)))))))) (.on (State.setScope_keeps _ _ _) (.on (State.setFreq_keeps _ _ _) (.ite
    (.ite (.on (State.track_keeps _ _) (.on (State.setFreq_keeps _ _ _) (State.setFld_keeps _ _ _ _))) (.on
    (State.setFreq_keeps _ _ _) (State.setFld_keeps _ _ _ _))) (.ite (.on (State.track_keeps _ _) (.on (State.setFreq_keeps _
    _ _) (.on (State.setReg_keeps _ _ _) (.on (State.setReg_keeps _ _ _) (.on (State.setFld_keeps _ _ _ _) (.on
    (State.setReg64_keeps _ _ _ _) (State.setReg64_keeps _ _ _ _))))))) (.on (State.setFreq_keeps _ _ _) (.on
    (State.setReg_keeps _ _ _) (.on (State.setReg_keeps _ _ _) (.on (State.setFld_keeps _ _ _ _) (.on (State.setReg64_keeps _
    _ _ _) (State.setReg64_keeps _ _ _ _)))))))))))

theorem State.headImage_keeps : ∀ s a1 a2 a3, Keeps s (State.headImage s a1 a2 a3).2 := by
  intro s a1 a2 a3; delta State.headImage
  exact (.iteSnd (.mkSnd (.on (State.raise_keeps _ _ _) (State.setSta_keeps _ _ _))) (.mkSnd (.on (State.sendMsg_keeps _ _ _
    _) (.on (.foldl (fun _ _ => (State.sendMsg_keeps _ _ _ _)) _ _) (State.setLink_keeps _ _ _)))))

theorem State.turnPassed_keeps : ∀ s, Keeps s (State.turnPassed s) := by
  intro s; unfold State.turnPassed; dsimp only
  exact (by split; exacts [(.refl _), (.on (State.setFld_keeps _ _ _ _) (.of rfl rfl rfl rfl rfl))])

theorem State.setMec_keeps : ∀ s a1 a2, Keeps s (State.setMec s a1 a2) := by
  intro s a1 a2; delta State.setMec
  exact (.of rfl rfl rfl rfl rfl)

theorem State.mecApply_keeps : ∀ s a1 a2, Keeps s (State.mecApply s a1 a2) := by
  intro s a1 a2; unfold State.mecApply; dsimp only
  exact (by split; exacts [(.ite (.refl _) (.on (State.setMec_keeps _ _ _) (State.commitScope_keeps _ _))), (.refl _)])

theorem State.rxBuffer_keeps : ∀ s a1 a2, Keeps s (State.rxBuffer s a1 a2).2 := by
  intro s a1 a2
  induction a2 generalizing s with
  | zero => exact .refl _
  | succ n ih =>
    rw [State.rxBuffer]
    split
    · exact .refl _
    · split
      · exact State.crConsume_keeps _ _
      · exact .trans (.trans (State.crConsume_keeps _ _) (State.count_keeps _ _ _)) (ih _)

theorem State.rxDeliver_keeps : ∀ s a1 a2 a3, Keeps s (State.rxDeliver s a1 a2 a3) := by
  intro s a1 a2 a3; unfold State.rxDeliver
  exact (by (try dsimp only); split; exacts [(.on (State.count_keeps _ _ _) (.iteSnd (State.rxBuffer_keeps _ _ _) (.refl _))), (.on (State.rringWrite_keeps _ _ _) (.on (State.emit_keeps _ _) (.on (State.draw_keeps _) (.iteSnd (State.rxBuffer_keeps _ _ _) (.refl _)))))])

theorem State.txtsHead_keeps : ∀ s, Keeps s (State.txtsHead s) := by
  intro s; delta State.txtsHead
  exact (.on (State.setReg_keeps _ _ _) (.on (State.setReg_keeps _ _ _) (.on (State.setReg64_keeps _ _ _ _)
    (State.setFld_keeps _ _ _ _))))

theorem State.txtsPush_keeps : ∀ s a1, Keeps s (State.txtsPush s a1) := by
  intro s a1; delta State.txtsPush
  exact (.ite (.on (State.blkEvent_keeps _ _ _ _ _) (State.count_keeps _ _ _)) (.on (State.txtsHead_keeps _) (.of rfl rfl rfl
    rfl rfl)))

theorem State.netStamps_keeps : ∀ s, Keeps s (State.netStamps s) := by
  intro s; unfold State.netStamps
  exact (by (try dsimp only); split; exacts [(by (try dsimp only); split; exacts [(.ite (.on (State.txtsPush_keeps _ _) (.upd rfl rfl (by (try dsimp only); split; exacts [(.on (State.rxDeliver_keeps _ _ _ _) (.of rfl rfl rfl rfl rfl)), (.refl _)]))) (.upd rfl rfl (by (try dsimp only); split; exacts [(.on (State.rxDeliver_keeps _ _ _ _) (.of rfl rfl rfl rfl rfl)), (.refl _)]))), (.upd rfl rfl (by (try dsimp only); split; exacts [(.on (State.rxDeliver_keeps _ _ _ _) (.of rfl rfl rfl rfl rfl)), (.refl _)]))]), (by (try dsimp only); split; exacts [(.on (State.rxDeliver_keeps _ _ _ _) (.of rfl rfl rfl rfl rfl)), (.refl _)])])

theorem State.idle_keeps : ∀ s, Keeps s.ticked (State.idle s) := by
  intro s; unfold State.idle
  exact (.trans (.trans (.trans (State.advanceTime_keeps _) (.ite (.refl _) (State.turnPassed_keeps _)))
    (.foldl (fun _ _ => (State.mecApply_keeps _ _ _)) _ _)) (State.netStamps_keeps _))

theorem State.indexEntry_keeps : ∀ s a1 a2 a3, Keeps s (State.indexEntry s a1 a2 a3) := by
  intro s a1 a2 a3; delta State.indexEntry
  exact (.ite (.refl _) (.on (State.setStream_keeps _ _ _) (.on (State.setReg_keeps _ _ _) (State.inkStore_keeps _ _ _ _))))

theorem State.inject_keeps : ∀ s a1 a2, Keeps s (State.inject s a1 a2) := by
  intro s a1 a2; delta State.inject
  exact (.ite (State.emit_keeps _ _) (.refl _))

theorem State.setIval_keeps : ∀ s a1 a2, Keeps s (State.setIval s a1 a2) := by
  intro s a1 a2; delta State.setIval
  exact (.of rfl rfl rfl rfl rfl)

theorem State.ivalReport_keeps : ∀ s a1 a2 a3, Keeps s (State.ivalReport s a1 a2 a3) := by
  intro s a1 a2 a3; delta State.ivalReport
  exact (.on (State.setScope_keeps _ _ _) (.on (State.setIval_keeps _ _ _) (.on (State.setFld_keeps _ _ _ _)
    (State.setReg64_keeps _ _ _ _))))

theorem State.ivalTake_keeps : ∀ s a1 a2 a3, Keeps s (State.ivalTake s a1 a2 a3) := by
  intro s a1 a2 a3; unfold State.ivalTake; dsimp only
  exact (.ite (.refl _) (by split; exacts [(State.ivalReport_keeps _ _ _ _), (State.setIval_keeps _ _ _)]))

theorem State.jobEnd_keeps : ∀ s a1 a2 a3, Keeps s (State.jobEnd s a1 a2 a3) := by
  intro s a1 a2 a3; delta State.jobEnd
  exact (.ite (.on (State.setSta_keeps _ _ _) (.on (State.reportBudget_keeps _) (.on (State.setFld_keeps _ _ _ _)
    (State.setFld_keeps _ _ _ _)))) (.on (State.reportBudget_keeps _) (.on (State.setFld_keeps _ _ _ _) (State.setFld_keeps _
    _ _ _))))

theorem State.readRaw_keeps : ∀ s a1 a2 a3 a4 a5, Keeps s (State.readRaw s a1 a2 a3 a4 a5).2 := by
  intro s a1 a2 a3 a4 a5
  induction a5 generalizing s a4 with
  | zero => exact .refl _
  | succ n ih =>
    rw [State.readRaw]
    split
    · exact .trans (State.inkRead_keeps _ _ _ _ _) (ih _ _)
    · exact ih _ _

theorem State.jobView_keeps : ∀ s a1 a2, Keeps s (State.jobView s a1 a2) := by
  intro s a1 a2; delta State.jobView
  exact (.on (State.setZoom_keeps _ _ _) (.on (State.setZoom_keeps _ _ _) (.on (State.setFld_keeps _ _ _ _)
    (State.setFld_keeps _ _ _ _))))

theorem State.jobOutputs_keeps : ∀ s a1 a2, Keeps s (State.jobOutputs s a1 a2).2.2 := by
  intro s a1 a2; delta State.jobOutputs
  exact (.iteThird (.mkSnd (.on (State.draw_keeps _) (State.readRaw_keeps _ _ _ _ _ _))) (.mkSnd (.on (State.draw_keeps _)
    (State.readRaw_keeps _ _ _ _ _ _))))

theorem State.jobWrite_keeps : ∀ s a1 a2, Keeps s (State.jobWrite s a1 a2) := by
  intro s a1 a2; delta State.jobWrite
  exact (.foldl (fun _ _ => by exact (.ite (.refl _) (.on (State.setReg_keeps _ _ _) (.on (State.setReg_keeps _ _ _) (State.inkStore_keeps _ _ _ _))))) _ _)

theorem State.journal_keeps : ∀ s a1 a2 a3 a4 a5 a6 a7, Keeps s (State.journal s a1 a2 a3 a4 a5 a6 a7) := by
  intro s a1 a2 a3 a4 a5 a6 a7; delta State.journal
  exact (.ite (.on (State.flushJournal_keeps _ _) (State.setDrive_keeps _ _ _)) (State.setDrive_keeps _ _ _))

theorem State.setJtag_keeps : ∀ s a1 a2, Keeps s (State.setJtag s a1 a2) := by
  intro s a1 a2; delta State.setJtag
  exact (.of rfl rfl rfl rfl rfl)

theorem State.jtagShort_keeps : ∀ s a1 a2, Keeps s (State.jtagShort s a1 a2) := by
  intro s a1 a2; delta State.jtagShort
  exact (.on (State.emit_keeps _ _) (State.setJtag_keeps _ _ _))

theorem State.judge_keeps : ∀ s a1 a2, Keeps s (State.judge s a1 a2) := by
  intro s a1 a2; delta State.judge
  exact (.ite (.on (State.activate_keeps _ _ _ _ _) (.ite (.on (State.blkEvent_keeps _ _ _ _ _) (.on (State.setSta_keeps _ _
    _) (.on (State.count_keeps _ _ _) (.ite (.on (State.blkEvent_keeps _ _ _ _ _) (.on (State.setSta_keeps _ _ _) (.on
    (State.count_keeps _ _ _) (.on (State.setZoom_keeps _ _ _) (State.setReg_keeps _ _ _))))) (.on (State.setZoom_keeps _ _ _)
    (State.setReg_keeps _ _ _)))))) (.ite (.on (State.blkEvent_keeps _ _ _ _ _) (.on (State.setSta_keeps _ _ _) (.on
    (State.count_keeps _ _ _) (.on (State.setZoom_keeps _ _ _) (State.setReg_keeps _ _ _))))) (.on (State.setZoom_keeps _ _ _)
    (State.setReg_keeps _ _ _))))) (.ite (.on (State.activate_keeps _ _ _ _ _) (.ite (.on (State.blkEvent_keeps _ _ _ _ _)
    (.on (State.setSta_keeps _ _ _) (.on (State.count_keeps _ _ _) (.ite (.on (State.blkEvent_keeps _ _ _ _ _) (.on
    (State.setSta_keeps _ _ _) (.on (State.count_keeps _ _ _) (.on (State.setZoom_keeps _ _ _) (State.setReg_keeps _ _ _)))))
    (.on (State.setZoom_keeps _ _ _) (State.setReg_keeps _ _ _)))))) (.ite (.on (State.blkEvent_keeps _ _ _ _ _) (.on
    (State.setSta_keeps _ _ _) (.on (State.count_keeps _ _ _) (.on (State.setZoom_keeps _ _ _) (State.setReg_keeps _ _ _)))))
    (.on (State.setZoom_keeps _ _ _) (State.setReg_keeps _ _ _))))) (.ite (.on (State.blkEvent_keeps _ _ _ _ _) (.on
    (State.setSta_keeps _ _ _) (.on (State.count_keeps _ _ _) (.ite (.on (State.blkEvent_keeps _ _ _ _ _) (.on
    (State.setSta_keeps _ _ _) (.on (State.count_keeps _ _ _) (.on (State.setZoom_keeps _ _ _) (State.setReg_keeps _ _ _)))))
    (.on (State.setZoom_keeps _ _ _) (State.setReg_keeps _ _ _)))))) (.ite (.on (State.blkEvent_keeps _ _ _ _ _) (.on
    (State.setSta_keeps _ _ _) (.on (State.count_keeps _ _ _) (.on (State.setZoom_keeps _ _ _) (State.setReg_keeps _ _ _)))))
    (.on (State.setZoom_keeps _ _ _) (State.setReg_keeps _ _ _))))))

theorem State.keepCrc_keeps : ∀ s a1, Keeps s (State.keepCrc s a1) := by
  intro s a1; delta State.keepCrc
  exact (State.stewardCrc_keeps _ _)

theorem State.keepRows_keeps : ∀ s a1, Keeps s (State.keepRows s a1) := by
  intro s a1; unfold State.keepRows
  exact .foldl (fun _ _ => .trans (.trans (.trans (State.setFld_keeps _ _ _ _) (State.setFld_keeps _ _ _ _))
    (State.setFld_keeps _ _ _ _)) (State.setReg_keeps _ _ _)) _ _

theorem State.labelBody_keeps : ∀ s a1, Keeps s (State.labelBody s a1).2 := by
  intro s a1; delta State.labelBody
  exact (.mkSnd (State.draw_keeps _))

theorem State.laneFails_keeps : ∀ s a1 a2, Keeps s (State.laneFails s a1 a2) := by
  intro s a1 a2; delta State.laneFails
  exact (.ite (.on (State.spareAlarm_keeps _ _ _) (.on (State.handleFailures_keeps _ _) (.on (State.markLaneGap_keeps _ _)
    (.on (State.raise_keeps _ _ _) (State.setSta_keeps _ _ _))))) (.ite (.on (State.setFld_keeps _ _ _ _) (State.setFld_keeps
    _ _ _ _)) (.refl _)))

theorem State.lbCancel_keeps : ∀ s a1, Keeps s (State.lbCancel s a1) := by
  intro s a1; delta State.lbCancel
  exact (.ite (.refl _) (.on (State.setSta_keeps _ _ _) (.on (State.jobEnd_keeps _ _ _ _) (.on (State.jobWrite_keeps _ _ _)
    (.on (State.jobOutputs_keeps _ _ _) (State.draw_keeps _))))))

theorem State.setJob_keeps : ∀ s a1 a2, Keeps s (State.setJob s a1 a2) := by
  intro s a1 a2; delta State.setJob
  exact (.of rfl rfl rfl rfl rfl)

theorem State.lbSubmit_keeps : ∀ s a1, Keeps s (State.lbSubmit s a1).2 := by
  intro s a1; delta State.lbSubmit
  exact (.iteSnd (.refl _) (.iteSnd (.refl _) (.iteSnd (.mkSnd (.on (State.blkEvent_keeps _ _ _ _ _) (.on (State.setSta_keeps
    _ _ _) (.on (State.setFld_keeps _ _ _ _) (.on (State.setFld_keeps _ _ _ _) (.on (State.draw_keeps _) (State.setJob_keeps _
    _ _))))))) (.mkSnd (.on (State.reportBudget_keeps _) (.on (State.setReg_keeps _ _ _) (.on (State.setReg_keeps _ _ _) (.on
    (State.setReg_keeps _ _ _) (.on (State.setFld_keeps _ _ _ _) (.on (State.setFld_keeps _ _ _ _) (.on (State.draw_keeps _)
    (State.setJob_keeps _ _ _))))))))))))

theorem State.leaveReplay_keeps : ∀ s a1, Keeps s (State.leaveReplay s a1) := by
  intro s a1; delta State.leaveReplay
  exact (.on (State.blkEvent_keeps _ _ _ _ _) (.on (State.setPanel_keeps _ _ _) (State.setDpState_keeps _ _ _)))

theorem State.loadKernel_keeps : ∀ s a1, Keeps s (State.loadKernel s a1) := by
  intro s a1; delta State.loadKernel
  exact (.on (State.setReg_keeps _ _ _) (.on (State.setFld_keeps _ _ _ _) (.on (State.setFld_keeps _ _ _ _) (.on
    (State.setFld_keeps _ _ _ _) (.on (State.setFld_keeps _ _ _ _) (.on (State.setFld_keeps _ _ _ _) (.of rfl rfl rfl rfl
    rfl)))))))

theorem State.placeRings_keeps : ∀ s, Keeps s (State.placeRings s) := by
  intro s; delta State.placeRings
  exact (.foldlSnd (fun _ _ => by exact (.mkSnd (.on (State.setFld_keeps _ _ _ _) (State.setRing_keeps _ _ _ _ _ _)))) _ (_, _))

theorem State.takeProgram_keeps : ∀ s a1 a2, Keeps s (State.takeProgram s a1 a2) := by
  intro s a1 a2; delta State.takeProgram
  exact (.on (.foldl (fun _ _ => (State.stewardCrc_keeps _ _)) _ _) (.on (State.reportBudget_keeps _) (.on
    (State.placeRings_keeps _) (.on (State.dropOldRings_keeps _) (.on (State.setFld_keeps _ _ _ _) (.on (.foldl (fun _ _ =>
    (State.bindEntry_keeps _ _ _ _ _)) _ _) (.on (State.setNib_keeps _ _ _) (.on (State.shrinkSinks_keeps _ _)
    (State.placeAreas_keeps _ _ _)))))))))

theorem State.loadProgram_keeps : ∀ s a1 a2 a3, Keeps s (State.loadProgram s a1 a2 a3).2 := by
  intro s a1 a2 a3; unfold State.loadProgram
  exact (by (try dsimp only); split; exacts [(State.admitRefused_keeps _ _ _), (State.takeProgram_keeps _ _ _)])

theorem State.lol_keeps : ∀ s a1, Keeps s (State.lol s a1) := by
  intro s a1; delta State.lol
  exact (.on (State.raise_keeps _ _ _) (.on (State.setSta_keeps _ _ _) (State.count_keeps _ _ _)))

theorem State.twinSwap_keeps : ∀ s, Keeps s (State.twinSwap s) := by
  intro s; delta State.twinSwap
  exact (.on (State.raise_keeps _ _ _) (.on (State.setSta_keeps _ _ _) (.on (State.count_keeps _ _ _) (State.setFld_keeps _ _
    _ _))))

theorem State.stopPll_keeps : ∀ s a1, Keeps s (State.stopPll s a1) := by
  intro s a1; delta State.stopPll
  exact (.ite (.on (State.acquire_keeps _ _) (.on (State.raise_keeps _ _ _) (.on (State.setSta_keeps _ _ _) (.on
    (State.settleOutputs_keeps _ _) (State.setPll_keeps _ _ _))))) (.on (State.raise_keeps _ _ _) (.on (State.setSta_keeps _ _
    _) (.on (State.settleOutputs_keeps _ _) (State.setPll_keeps _ _ _)))))

theorem State.loseDN_keeps : ∀ s a1, Keeps s (State.loseDN s a1) := by
  intro s a1; delta State.loseDN
  exact (.ite (.on (State.setPll_keeps _ _ _) (State.lol_keeps _ _)) (.ite (.on (State.stopPll_keeps _ _) (State.lol_keeps _
    _)) (.refl _)))

theorem State.phyLost_keeps : ∀ s, Keeps s (State.phyLost s) := by
  intro s; delta State.phyLost
  exact (.ite (.refl _) (.on (State.loseDN_keeps _ _) (State.loseDN_keeps _ _)))

theorem State.pllrStop_keeps : ∀ s, Keeps s (State.pllrStop s) := by
  intro s; delta State.pllrStop
  exact (.on (State.phyLost_keeps _) (.on (State.stopPll_keeps _ _) (State.setFld_keeps _ _ _ _)))

theorem State.loseActive_keeps : ∀ s a1, Keeps s (State.loseActive s a1) := by
  intro s a1; unfold State.loseActive; dsimp only
  exact (by split; exacts [(.on (State.setPll_keeps _ _ _) (State.lol_keeps _ _)), (.ite (.on (State.setFld_keeps _ _ _ _) (.on (State.twinSwap_keeps _) (State.lol_keeps _ _))) (.on (State.pllrStop_keeps _) (State.lol_keeps _ _))), (.on (State.setPll_keeps _ _ _) (State.lol_keeps _ _)), (.on (State.raise_keeps _ _ _) (.on (State.setFld_keeps _ _ _ _) (.on (State.setFld_keeps _ _ _ _) (.on (State.setSta_keeps _ _ _) (.on (State.setPll_keeps _ _ _) (State.lol_keeps _ _)))))), (State.loseDN_keeps _ _), (State.loseDN_keeps _ _), (.refl _)])

theorem State.loseLock_keeps : ∀ s a1 a2 a3, Keeps s (State.loseLock s a1 a2 a3) := by
  intro s a1 a2 a3; unfold State.loseLock; dsimp only
  exact (by split; exacts [(.ite (.on (State.laneFails_keeps _ _ _) (.on (State.setFld_keeps _ _ _ _) (.on (State.setFld_keeps _ _ _ _) (State.setLaneState_keeps _ _ _)))) (.on (State.setFld_keeps _ _ _ _) (.on (State.setFld_keeps _ _ _ _) (State.setLaneState_keeps _ _ _)))), (.ite (.on (State.cascLaneFails_keeps _ _ _ _) (.on (State.setFld_keeps _ _ _ _) (.on (State.setFld_keeps _ _ _ _) (State.setLaneState_keeps _ _ _)))) (.on (State.setFld_keeps _ _ _ _) (.on (State.setFld_keeps _ _ _ _) (State.setLaneState_keeps _ _ _))))])

theorem State.makeExtent_keeps : ∀ s a1 a2 a3 a4 a5 a6, Keeps s (State.makeExtent s a1 a2 a3 a4 a5 a6).2.2 := by
  intro s a1 a2 a3 a4 a5 a6; delta State.makeExtent
  exact (.mkSnd (State.draw_keeps _))

theorem State.maskRefused_keeps : ∀ s a1 a2, Keeps s (State.maskRefused s a1 a2) := by
  intro s a1 a2; delta State.maskRefused
  exact (.on (State.blkEvent_keeps _ _ _ _ _) (.on (State.setSta_keeps _ _ _) (State.setFld_keeps _ _ _ _)))

theorem State.maskCommit_keeps : ∀ s a1, Keeps s (State.maskCommit s a1).2 := by
  intro s a1; delta State.maskCommit
  exact (.iteSnd (.mkSnd (State.maskRefused_keeps _ _ _)) (.iteSnd (.mkSnd (State.setMask_keeps _ _ _)) (.mkSnd (.on
    (State.maskChange_keeps _ _) (State.commitScope_keeps _ _)))))

theorem State.maskDisable_keeps : ∀ s a1, Keeps s (State.maskDisable s a1) := by
  intro s a1; delta State.maskDisable
  exact (.ite (.refl _) (.on (State.setFld_keeps _ _ _ _) (State.setMask_keeps _ _ _)))

theorem State.maskEnable_keeps : ∀ s a1, Keeps s (State.maskEnable s a1).2 := by
  intro s a1; delta State.maskEnable
  exact (.iteSnd (.refl _) (.iteSnd (.refl _) (.iteSnd (.mkSnd (State.maskRefused_keeps _ _ _)) (.mkSnd (.on
    (State.setFld_keeps _ _ _ _) (State.setMask_keeps _ _ _))))))

theorem State.measurePll_keeps : ∀ s a1, Keeps s (State.measurePll s a1) := by
  intro s a1; delta State.measurePll
  exact (.on (State.setFld_keeps _ _ _ _) (.on (State.setFld_keeps _ _ _ _) (.on (State.draw_keeps _) (State.draw_keeps _))))

theorem State.mecCommit_keeps : ∀ s a1, Keeps s (State.mecCommit s a1) := by
  intro s a1; delta State.mecCommit
  exact (.ite (State.commitScope_keeps _ _) (State.setMec_keeps _ _ _))

theorem State.mecDisable_keeps : ∀ s a1, Keeps s (State.mecDisable s a1) := by
  intro s a1; delta State.mecDisable
  exact (.on (State.setScope_keeps _ _ _) (State.setMec_keeps _ _ _))

theorem State.mecEnable_keeps : ∀ s a1, Keeps s (State.mecEnable s a1) := by
  intro s a1; delta State.mecEnable
  exact (.ite (.on (State.setScope_keeps _ _ _) (State.setMec_keeps _ _ _)) (.refl _))

theorem State.mergeLost_keeps : ∀ s a1 a2, Keeps s (State.mergeLost s a1 a2) := by
  intro s a1 a2; delta State.mergeLost
  exact (.on (State.blkEvent_keeps _ _ _ _ _) (.on (State.setSta_keeps _ _ _) (.on (State.setPlane_keeps _ _ _)
    (State.count_keeps _ _ _))))

theorem State.reportHandover_keeps : ∀ s a1 a2 a3 a4 a5 a6, Keeps s (State.reportHandover s a1 a2 a3 a4 a5 a6) := by
  intro s a1 a2 a3 a4 a5 a6; delta State.reportHandover
  exact (.ite (.on (State.blkEvent_keeps _ _ _ _ _) (.on (State.count_keeps _ _ _) (.on (State.logEntry_keeps _ _ _ _ _ _ _)
    (.on (State.setFld_keeps _ _ _ _) (.on (State.setFld_keeps _ _ _ _) (.on (State.setFld_keeps _ _ _ _) (State.setFld_keeps
    _ _ _ _))))))) (.on (State.blkEvent_keeps _ _ _ _ _) (.on (State.count_keeps _ _ _) (.on (State.logEntry_keeps _ _ _ _ _ _
    _) (.on (State.setFld_keeps _ _ _ _) (.on (State.setFld_keeps _ _ _ _) (.on (State.setFld_keeps _ _ _ _)
    (State.setFld_keeps _ _ _ _))))))))

theorem State.mismatch_keeps : ∀ s a1, Keeps s (State.mismatch s a1) := by
  intro s a1; delta State.mismatch
  exact (.on (State.nextHandover_keeps _ _) (.ite (.on (State.dropCal_keeps _ _ _ _) (.on (State.reportHandover_keeps _ _ _ _
    _ _ _) (.on (.foldl (fun _ _ => (State.poolState_keeps _ _ _ _)) _ _) (State.leaveHandover_keeps _ _)))) (.on
    (State.reportHandover_keeps _ _ _ _ _ _ _) (.on (.foldl (fun _ _ => (State.poolState_keeps _ _ _ _)) _ _)
    (State.leaveHandover_keeps _ _)))))

theorem State.moveBurst_keeps : ∀ s a1 a2 a3, Keeps s (State.moveBurst s a1 a2 a3) := by
  intro s a1 a2 a3; unfold State.moveBurst; dsimp only
  exact (by split; exacts [(.refl _), (.ite (.on (State.tryPromote_keeps _ _) (.ite (.on (State.bufDone_keeps _ _ _) (.ite (.on (State.blkEvent_keeps _ _ _ _ _) (.on (State.setSta_keeps _ _ _) (.on (State.count_keeps _ _ _) (.on (State.setChannel_keeps _ _ _) (State.emit_keeps _ _))))) (.on (State.setChannel_keeps _ _ _) (State.emit_keeps _ _)))) (.ite (.on (State.blkEvent_keeps _ _ _ _ _) (.on (State.setSta_keeps _ _ _) (.on (State.count_keeps _ _ _) (.on (State.setChannel_keeps _ _ _) (State.emit_keeps _ _))))) (.on (State.setChannel_keeps _ _ _) (State.emit_keeps _ _))))) (.ite (.on (State.bufDone_keeps _ _ _) (.ite (.on (State.blkEvent_keeps _ _ _ _ _) (.on (State.setSta_keeps _ _ _) (.on (State.count_keeps _ _ _) (.on (State.setChannel_keeps _ _ _) (State.emit_keeps _ _))))) (.on (State.setChannel_keeps _ _ _) (State.emit_keeps _ _)))) (.ite (.on (State.blkEvent_keeps _ _ _ _ _) (.on (State.setSta_keeps _ _ _) (.on (State.count_keeps _ _ _) (.on (State.setChannel_keeps _ _ _) (State.emit_keeps _ _))))) (.on (State.setChannel_keeps _ _ _) (State.emit_keeps _ _)))))])

theorem State.moveLane_keeps : ∀ s a1 a2 a3, Keeps s (State.moveLane s a1 a2 a3) := by
  intro s a1 a2 a3; delta State.moveLane
  exact (.ite (.on (State.sendLaneMap_keeps _ _ _ _ _) (State.setPort_keeps _ _ _)) (.on (State.sendLaneMap_keeps _ _ _ _ _)
    (.on (State.raise_keeps _ _ _) (.on (State.setSta_keeps _ _ _) (.on (State.setPort_keeps _ _ _) (State.setTxMap_keeps _ _
    _ _))))))

theorem State.moveProgram_keeps : ∀ s a1, Keeps s (State.moveProgram s a1) := by
  intro s a1; delta State.moveProgram
  exact (.ite (.refl _) (.on (State.raise_keeps _ _ _) (State.setSta_keeps _ _ _)))

theorem State.setTdc_keeps : ∀ s a1 a2, Keeps s (State.setTdc s a1 a2) := by
  intro s a1 a2; delta State.setTdc
  exact (.of rfl rfl rfl rfl rfl)

theorem State.moveTdc_keeps : ∀ s a1 a2, Keeps s (State.moveTdc s a1 a2) := by
  intro s a1 a2; delta State.moveTdc
  exact (.on (State.setFld_keeps _ _ _ _) (State.setTdc_keeps _ _ _))

theorem State.msgFail_keeps : ∀ s a1 a2, Keeps s (State.msgFail s a1 a2) := by
  intro s a1 a2; delta State.msgFail
  exact (.on (State.portDown_keeps _ _) (.on (State.raise_keeps _ _ _) (State.setSta_keeps _ _ _)))

theorem State.msixHook_keeps : ∀ s a1, Keeps s (State.msixHook s a1) := by
  intro s a1; unfold State.msixHook; dsimp only
  exact (by split; exacts [(.refl _), (.ite (.refl _) (.on (State.signal_keeps _ _) (State.setReg_keeps _ _ _)))])

theorem State.stampMiss_keeps : ∀ s, Keeps s (State.stampMiss s) := by
  intro s; delta State.stampMiss
  exact (.on (State.blkEvent_keeps _ _ _ _ _) (State.count_keeps _ _ _))

theorem State.netAbort_keeps : ∀ s, Keeps s (State.netAbort s) := by
  intro s; unfold State.netAbort
  exact (by (try dsimp only); split; exacts [(.on (State.stampMiss_keeps _) (.upd rfl rfl (by (try dsimp only); split; exacts [(.on (State.rxDeliver_keeps _ _ _ _) (.on (State.stampMiss_keeps _) (.of rfl rfl rfl rfl rfl))), (.refl _)]))), (by (try dsimp only); split; exacts [(.on (State.rxDeliver_keeps _ _ _ _) (.on (State.stampMiss_keeps _) (.of rfl rfl rfl rfl rfl))), (.refl _)])])

theorem State.putExtent_keeps : ∀ s a1, Keeps s (State.putExtent s a1) := by
  intro s a1; delta State.putExtent
  exact (.on (State.journal_keeps _ _ _ _ _ _ _ _) (.on (State.setDisk_keeps _ _ _) (.on (State.count64_keeps _ _ _ _)
    (State.emit_keeps _ _))))

theorem State.newExtent_keeps : ∀ s a1 a2 a3 a4, Keeps s (State.newExtent s a1 a2 a3 a4) := by
  intro s a1 a2 a3 a4; unfold State.newExtent
  extract_lets _ _ _ full
  split
  next heq =>
  have k := Keeps.of_eq3 heq (State.makeExtent_keeps _ _ _ _ _ _ _)
  exact .ite (.on (State.diskFull_keeps _ _) (.ite (.on (State.blkEvent_keeps _ _ _ _ _) (.on (State.setSta_keeps _ _ _)
      (.on (State.count_keeps _ _ _) (.on (State.setReg64_keeps _ _ _ _) (.on (State.putExtent_keeps _ _)
        (.on (State.setDisk_keeps _ _ _) k)))))) (.on (State.setReg64_keeps _ _ _ _) (.on (State.putExtent_keeps _ _)
        (.on (State.setDisk_keeps _ _ _) k)))))
    (.ite (.on (State.blkEvent_keeps _ _ _ _ _) (.on (State.setSta_keeps _ _ _)
      (.on (State.count_keeps _ _ _) (.on (State.setReg64_keeps _ _ _ _) (.on (State.putExtent_keeps _ _)
        (.on (State.setDisk_keeps _ _ _) k)))))) (.on (State.setReg64_keeps _ _ _ _) (.on (State.putExtent_keeps _ _)
        (.on (State.setDisk_keeps _ _ _) k))))

theorem State.nextFrame_keeps : ∀ s a1, Keeps s (State.nextFrame s a1).2 := by
  intro s a1; unfold State.nextFrame; dsimp only
  exact (.iteSnd (.refl _) (.iteSnd (.refl _) (.on (State.drainPair_keeps _ _) (by split; exacts [(.on (State.announce_keeps _ _) (.on (State.emitFrame_keeps _ _ _) (.on (State.setFld_keeps _ _ _ _) (.on (State.setPair_keeps _ _ _) (.on (State.draw_keeps _) (State.beforeFrame_keeps _ _ _)))))), (.on (State.setFld_keeps _ _ _ _) (.on (State.setPair_keeps _ _ _) (.on (State.draw_keeps _) (State.beforeFrame_keeps _ _ _))))]))))

theorem State.nibHalted_keeps : ∀ s a1, Keeps s (State.nibHalted s a1) := by
  intro s a1; delta State.nibHalted
  exact (.on (State.raise_keeps _ _ _) (State.setSta_keeps _ _ _))

theorem State.nibExcept_keeps : ∀ s a1 a2, Keeps s (State.nibExcept s a1 a2) := by
  intro s a1 a2; unfold State.nibExcept; dsimp only
  exact (by split; exacts [(.on (State.raise_keeps _ _ _) (.on (State.setSta_keeps _ _ _) (State.setNib_keeps _ _ _))), (.on (State.nibHalted_keeps _ _) (.on (State.raise_keeps _ _ _) (.on (State.setSta_keeps _ _ _) (State.setNib_keeps _ _ _))))])

theorem State.nibMessage_keeps : ∀ s a1 a2, Keeps s (State.nibMessage s a1 a2) := by
  intro s a1 a2; unfold State.nibMessage
  exact (.ite (State.count_keeps _ _ _) (by (try dsimp only); split; exacts [(.ite (State.count_keeps _ _ _) (.foldl (fun _ _ => by exact (.on (State.coalesce_keeps _ _) (State.rringPush_keeps _ _ _))) _ _)), (State.count_keeps _ _ _)]))

theorem State.outageChannels_keeps : ∀ s, Keeps s (State.outageChannels s) := by
  intro s; delta State.outageChannels
  exact (.foldl (fun _ _ => by exact (.ite (.on (State.setDmaState_keeps _ _ _) (.ite (.refl _) (State.setChannel_keeps _ _ _))) (.ite (.refl _) (State.setChannel_keeps _ _ _)))) _ _)

theorem State.pairRefused_keeps : ∀ s a1 a2, Keeps s (State.pairRefused s a1 a2) := by
  intro s a1 a2; delta State.pairRefused
  exact (.on (State.blkEvent_keeps _ _ _ _ _) (.on (State.setSta_keeps _ _ _) (State.setFld_keeps _ _ _ _)))

theorem State.pin_keeps : ∀ s a1 a2, Keeps s (State.pin s a1 a2) := by
  intro s a1 a2; delta State.pin
  exact (State.emit_keeps _ _)

theorem State.planeClear_keeps : ∀ s a1, Keeps s (State.planeClear s a1) := by
  intro s a1; delta State.planeClear
  exact (.on (State.planeChange_keeps _ _) (.on (State.setFld_keeps _ _ _ _) (.foldl (fun _ _ => (State.setPlane_keeps _ _ _))
    _ _)))

theorem State.planeCommit_keeps : ∀ s a1, Keeps s (State.planeCommit s a1) := by
  intro s a1; delta State.planeCommit
  exact (.ite (State.commitScope_keeps _ _) (State.setPlane_keeps _ _ _))

theorem State.planeDisable_keeps : ∀ s a1, Keeps s (State.planeDisable s a1) := by
  intro s a1; delta State.planeDisable
  exact (.ite (.refl _) (.ite (State.planeOff_keeps _ _) (.on (State.setPlaneState_keeps _ _ _) (State.setPlane_keeps _ _ _))))

theorem State.planeEnable_keeps : ∀ s a1, Keeps s (State.planeEnable s a1).2 := by
  intro s a1; delta State.planeEnable
  exact (.iteSnd (.refl _) (.iteSnd (.refl _) (.iteSnd (.mkSnd (.on (State.blkEvent_keeps _ _ _ _ _) (.on (State.setSta_keeps
    _ _ _) (State.setFld_keeps _ _ _ _)))) (.mkSnd (.on (State.setPlaneState_keeps _ _ _) (.on (State.setReg_keeps _ _ _)
    (State.setPlane_keeps _ _ _)))))))

theorem State.planeMerge_keeps : ∀ s a1 a2, Keeps s (State.planeMerge s a1 a2) := by
  intro s a1 a2; delta State.planeMerge
  exact (.ite (State.count_keeps _ _ _) (.on (State.addHits_keeps _ _ _ _) (.ite (State.mergeLost_keeps _ _ _) (.refl _))))

theorem State.planeRestart_keeps : ∀ s a1, Keeps s (State.planeRestart s a1) := by
  intro s a1; delta State.planeRestart
  exact (.ite (State.setFlow_keeps _ _ _) (.refl _))

theorem State.planeSnap_keeps : ∀ s a1 a2, Keeps s (State.planeSnap s a1 a2) := by
  intro s a1 a2; delta State.planeSnap
  exact (.ite (State.busyDrop_keeps _ _ _) (State.setFld_keeps _ _ _ _))

theorem State.refLossEvent_keeps : ∀ s a1, Keeps s (State.refLossEvent s a1) := by
  intro s a1; delta State.refLossEvent
  exact (.on (State.raise_keeps _ _ _) (State.setSta_keeps _ _ _))

theorem State.pllrRefLost_keeps : ∀ s, Keeps s (State.pllrRefLost s) := by
  intro s; delta State.pllrRefLost
  exact (.ite (State.refLossEvent_keeps _ _) (.ite (.ite (.on (State.busPhaseLost_keeps _) (.on (State.raise_keeps _ _ _) (.on
    (State.setSta_keeps _ _ _) (.on (State.setFld_keeps _ _ _ _) (State.refLossEvent_keeps _ _))))) (.on (State.raise_keeps _
    _ _) (.on (State.setSta_keeps _ _ _) (.on (State.setFld_keeps _ _ _ _) (State.refLossEvent_keeps _ _))))) (.on
    (State.loseActive_keeps _ _) (.on (State.setFld_keeps _ _ _ _) (State.refLossEvent_keeps _ _)))))

theorem State.portDisable_keeps : ∀ s a1, Keeps s (State.portDisable s a1) := by
  intro s a1; delta State.portDisable
  exact (.ite (.refl _) (.on (State.setDomain_keeps _ _ _) (.on (State.portTdc_keeps _ _ _) (.on (State.setLink_keeps _ _ _)
    (.on (State.setPort_keeps _ _ _) (.on (State.setFld_keeps _ _ _ _) (.on (.foldl (fun _ _ => (State.setLaneState_keeps _ _
    _)) _ _) (.on (State.setPortState_keeps _ _ _) (State.restartLanes_keeps _ _)))))))))

theorem eccScrub_keeps : ∀ a0 a1 a2 s, Keeps s (eccScrub a0 a1 a2 s) := by
  intro a0 a1 a2 s; delta eccScrub
  exact (.ite (.on (State.raise_keeps _ _ _) (.on (State.count_keeps _ _ _) (State.setNib_keeps _ _ _))) (.refl _))

theorem State.postEntry_keeps : ∀ s a1 a2 a3 a4, KeepsPair s (State.postEntry s a1 a2 a3 a4) := by
  intro s a1 a2 a3 a4; unfold State.postEntry
  split
  · split
    · exact .bad _
    · dsimp only; repeat' split
      · exact .pair (eccScrub_keeps _ _ _ _)
      · exact .pair (eccScrub_keeps _ _ _ _)
      · exact .pair (.trans (eccScrub_keeps _ _ _ _) (State.rringWrite_keeps _ _ _))
  · exact .bad _

theorem State.postMessage_keeps : ∀ s a1 a2 a3 a4, KeepsPair s (State.postMessage s a1 a2 a3 a4) := by
  intro s a1 a2 a3 a4; unfold State.postMessage
  split
  · split
    · exact .bad _
    · split
      · exact .bad _
      · dsimp only; split
        · exact .pair (eccScrub_keeps _ _ _ _)
        · split
          · exact .bad _
          · split
            · exact .pair (eccScrub_keeps _ _ _ _)
            · exact .pair (.trans (eccScrub_keeps _ _ _ _) (State.setCascade_keeps _ _ _))
  · exact .bad _

end Sys2Proof.Machine
end

