-- ==== Sys2Proof/Laws/KeepsOps4.lean ====
section
/-! SUPPORT. `Keeps` of the shared operations, part 4 of 4: what each of them leaves as it was. -/

set_option linter.unusedTactic false
set_option linter.unreachableTactic false

namespace Sys2Proof.Machine

theorem State.ptpStamp_keeps : ∀ s a1, Keeps s (State.ptpStamp s a1).2 := by
  intro s a1; delta State.ptpStamp
  exact (.mkSnd (State.draw_keeps _))

theorem State.pwrEvent_keeps : ∀ s a1 a2 a3, Keeps s (State.pwrEvent s a1 a2 a3) := by
  intro s a1 a2 a3; delta State.pwrEvent
  exact (.ite (State.blkEvent_keeps _ _ _ _ _) (.on (State.pin_keeps _ _ _) (.upd rfl rfl (State.blkEvent_keeps _ _ _ _ _))))

theorem State.raiseAll_keeps : ∀ s a1, Keeps s (State.raiseAll s a1) := by
  intro s a1; delta State.raiseAll
  exact (.foldl (fun _ _ => (State.raise_keeps _ _ _)) _ _)

theorem State.rawSection_keeps : ∀ s a1 a2 a3, Keeps s (State.rawSection s a1 a2 a3).2 := by
  intro s a1 a2 a3; delta State.rawSection
  exact (.mkSnd (State.readRaw_keeps _ _ _ _ _ _))

theorem State.rawVectors_keeps : ∀ s a1 a2 a3 a4, Keeps s (State.rawVectors s a1 a2 a3 a4).2.2 := by
  intro s a1 a2 a3 a4; delta State.rawVectors
  exact (.mkSnd (State.readRaw_keeps _ _ _ _ _ _))

theorem State.readBy_keeps : ∀ s a1 a2, Keeps s (State.readBy s a1 a2).2 := by
  intro s a1 a2; unfold State.readBy; dsimp only
  exact (by split; exacts [(.iteSnd (State.draw_keeps _) (.refl _)), (.iteSnd (.of rfl rfl rfl rfl rfl) (.iteSnd (.refl _) (.ite (State.draw_keeps _) (.refl _))))])

theorem State.readmit_keeps : ∀ s a1 a2, Keeps s (State.readmit s a1 a2) := by
  intro s a1 a2; unfold State.readmit; dsimp only
  exact (by split; exacts [(State.takeProgram_keeps _ _ _), (.on (State.setStw_keeps _ _ _) (.on (State.blkEvent_keeps _ _ _ _ _) (State.admitRefused_keeps _ _ _)))])

theorem State.rebind_keeps : ∀ s a1 a2 a3 a4, Keeps s (State.rebind s a1 a2 a3 a4) := by
  intro s a1 a2 a3 a4; unfold State.rebind; dsimp only
  exact (by split; exacts [(.on (State.moveLane_keeps _ _ _ _) (State.setSpare_keeps _ _ _ _)), (.on (State.twinSwap_keeps _) (State.setSpare_keeps _ _ _ _)), (.on (State.moveProgram_keeps _ _) (.on (State.bindPhysical_keeps _ _ _ _) (State.setSpare_keeps _ _ _ _))), (.on (State.moveTdc_keeps _ _ _) (.on (State.bindPhysical_keeps _ _ _ _) (State.setSpare_keeps _ _ _ _))), (.on (State.bindPhysical_keeps _ _ _ _) (State.setSpare_keeps _ _ _ _))])

theorem State.regionLost_keeps : ∀ s a1, Keeps s (State.regionLost s a1) := by
  intro s a1; delta State.regionLost
  exact (.on (State.blkEvent_keeps _ _ _ _ _) (.on (State.count_keeps _ _ _) (.on (State.setFld_keeps _ _ _ _) (.ite (.on
    (State.reportKeys_keeps _ _) (.of rfl rfl rfl rfl rfl)) (.ite (.upd rfl rfl (.of rfl rfl rfl rfl rfl)) (.of rfl rfl rfl
    rfl rfl))))))

theorem State.release_keeps : ∀ s a1 a2, Keeps s (State.release s a1 a2) := by
  intro s a1 a2
  induction a2 generalizing s with
  | zero => exact .refl _
  | succ n ih =>
    rw [State.release]
    dsimp only
    split
    · exact .refl _
    · split
      · exact .trans (.trans (State.setPort_keeps _ _ _) (State.deliver_keeps _ _ _)) (ih _)
      · exact .ite (.trans (.trans (State.setPort_keeps _ _ _) (State.markLaneGap_keeps _ _)) (ih _)) (.refl _)

theorem State.releaseHeld_keeps : ∀ s a1 a2, Keeps s (State.releaseHeld s a1 a2) := by
  intro s a1 a2; delta State.releaseHeld
  exact (.foldl (fun _ _ => by exact (.on (State.raise_keeps _ _ _) (State.setBlkSta_keeps _ _ _))) _ _)

theorem State.replayStep_keeps : ∀ s a1, Keeps s (State.replayStep s a1) := by
  intro s a1; delta State.replayStep
  exact (.ite (.on (.foldl (fun _ _ => (State.enterReplay_keeps _ _)) _ _) (.on (.foldl (fun _ _ => (State.setPanel_keeps _ _
    _)) _ _) (.foldl (fun _ _ => (State.setPanel_keeps _ _ _)) _ _))) (.ite (.ite (.on (.foldl (fun _ _ =>
    (State.enterReplay_keeps _ _)) _ _) (.foldl (fun _ _ => (State.setPanel_keeps _ _ _)) _ _)) (.foldl (fun _ _ =>
    (State.setPanel_keeps _ _ _)) _ _)) (.ite (.on (.foldl (fun _ _ => (State.leaveReplay_keeps _ _)) _ _) (.foldl (fun _ _ =>
    (State.setPanel_keeps _ _ _)) _ _)) (.foldl (fun _ _ => (State.setPanel_keeps _ _ _)) _ _))))

theorem State.reportVersions_keeps : ∀ s, Keeps s (State.reportVersions s) := by
  intro s; delta State.reportVersions
  exact (.on (State.setReg_keeps _ _ _) (State.setReg_keeps _ _ _))

theorem State.resetConfig_keeps : ∀ s, Keeps s (State.resetConfig s) := by
  intro s; delta State.resetConfig
  exact (.on (.foldl (fun _ _ => (State.stewardCrc_keeps _ _)) _ _) (State.restoreWhere_keeps _ _ _))

theorem State.ringEmpty_keeps : ∀ s a1, Keeps s (State.ringEmpty s a1) := by
  intro s a1; unfold State.ringEmpty; dsimp only
  exact (.on (State.setReg_keeps _ _ _) (.on (State.setReg_keeps _ _ _) (by split; exacts [(.on (State.setRetries_keeps _ _ _) (State.setCrEntries_keeps _ _ _)), (.of rfl rfl rfl rfl rfl)])))

theorem State.resetRings_keeps : ∀ s, Keeps s (State.resetRings s) := by
  intro s; delta State.resetRings
  exact (.foldl (fun _ _ => by exact (.ite (.refl _) (.on (State.ringEmpty_keeps _ _) (State.ringOff_keeps _ _)))) _ _)

theorem State.restoreBlock_keeps : ∀ s a1 a2, Keeps s (State.restoreBlock s a1 a2) := by
  intro s a1 a2; unfold State.restoreBlock; dsimp only
  exact (.foldl (fun _ _ => by exact (by split; exacts [(.refl _), (.ite (.refl _) (State.setReg_keeps _ _ _))])) _ _)

theorem execTestEnable_keeps : ∀ a0 s, KeepsOn s (execTestEnable a0 s) := by
  intro a0 s; delta execTestEnable
  exact (.ite (.next (State.accept_keeps _ _ _)) (.ite (.next (.on (State.setLaneState_keeps _ _ _) (.on (State.setScope_keeps
    _ _ _) (State.accept_keeps _ _ _)))) (.next (.on (State.setSta_keeps _ _ _) (State.accept_keeps _ _ _)))))

theorem execOutEnable_keeps : ∀ a0 a1 s, KeepsOn s (execOutEnable a0 a1 s) := by
  intro a0 a1 s; delta execOutEnable
  exact (.ite (.next (.refl _)) (.ite (.next (State.accept_keeps _ _ _)) (.ite (.next (.on (State.setSta_keeps _ _ _)
    (State.accept_keeps _ _ _))) (.next (.on (State.phyBack_keeps _) (.on (State.settleOutputs_keeps _ _) (.ite (.on
    (State.setScope_keeps _ _ _) (.on (State.setScope_keeps _ _ _) (State.accept_keeps _ _ _))) (.on (State.setScope_keeps _ _
    _) (State.accept_keeps _ _ _)))))))))

theorem execIvalArm_keeps : ∀ a0 s, KeepsOn s (execIvalArm a0 s) := by
  intro a0 s; delta execIvalArm
  exact (.ite (.next (State.accept_keeps _ _ _)) (.next (.on (State.setFld_keeps _ _ _ _) (.on (State.setScope_keeps _ _ _)
    (.on (State.setIval_keeps _ _ _) (State.accept_keeps _ _ _))))))

theorem execFreqStart_keeps : ∀ a0 s, KeepsOn s (execFreqStart a0 s) := by
  intro a0 s; delta execFreqStart
  exact (.ite (.next (State.accept_keeps _ _ _)) (.next (.on (State.freqBegin_keeps _ _) (State.accept_keeps _ _ _))))

theorem State.spkEnable_keeps : ∀ s a1, Keeps s (State.spkEnable s a1) := by
  intro s a1; delta State.spkEnable
  exact (.ite (.refl _) (.on (State.setScope_keeps _ _ _) (.on (State.setFld_keeps _ _ _ _) (State.setSpike_keeps _ _ _))))

theorem State.zoomReport_keeps : ∀ s a1, Keeps s (State.zoomReport s a1) := by
  intro s a1; delta State.zoomReport
  exact (.ite (.on (State.setReg_keeps _ _ _) (.on (State.setFld_keeps _ _ _ _) (State.setFld_keeps _ _ _ _))) (.on
    (State.setReg_keeps _ _ _) (.on (State.setFld_keeps _ _ _ _) (State.setFld_keeps _ _ _ _))))

theorem State.zcEnable_keeps : ∀ s a1, Keeps s (State.zcEnable s a1) := by
  intro s a1; delta State.zcEnable
  exact (.ite (.refl _) (.ite (.on (State.blkEvent_keeps _ _ _ _ _) (State.setSta_keeps _ _ _)) (.on (State.setReg_keeps _ _
    _) (.on (State.setReg_keeps _ _ _) (.on (State.setStream_keeps _ _ _) (.on (State.setZoom_keeps _ _ _) (.on
    (State.zoomReport_keeps _ _) (.on (State.setZoom_keeps _ _ _) (.on (State.setZoom_keeps _ _ _) (.iteSnd (.mkSnd (.ite
    (.refl _) (State.rsRange_keeps _ _))) (.on (State.draw_keeps _) (.ite (.refl _) (State.rsRange_keeps _ _)))))))))))))

theorem State.xfEnable_keeps : ∀ s a1, Keeps s (State.xfEnable s a1).2 := by
  intro s a1; delta State.xfEnable
  exact (.iteSnd (.refl _) (.iteSnd (.refl _) (.iteSnd (.mkSnd (State.pairRefused_keeps _ _ _)) (.mkSnd (.ite (.on
    (State.blkEvent_keeps _ _ _ _ _) (.on (State.setSta_keeps _ _ _) (.on (State.setReg_keeps _ _ _) (.on
    (State.setPairState_keeps _ _ _) (.on (State.setFld_keeps _ _ _ _) (.on (State.pairReport_keeps _ _) (State.setPair_keeps
    _ _ _))))))) (.on (State.setReg_keeps _ _ _) (.on (State.setPairState_keeps _ _ _) (.on (State.setFld_keeps _ _ _ _) (.on
    (State.pairReport_keeps _ _) (State.setPair_keeps _ _ _))))))))))

theorem State.winEnable_keeps : ∀ s a1, Keeps s (State.winEnable s a1) := by
  intro s a1; delta State.winEnable
  exact (.ite (.refl _) (.ite (State.blkEvent_keeps _ _ _ _ _) (.on (State.setFld_keeps _ _ _ _) (.on (State.setReg_keeps _ _
    _) (.on (State.setFld_keeps _ _ _ _) (State.setFld_keeps _ _ _ _))))))

theorem State.setTimer_keeps : ∀ s a1 a2, Keeps s (State.setTimer s a1 a2) := by
  intro s a1 a2; delta State.setTimer
  exact (.of rfl rfl rfl rfl rfl)

theorem State.tmrEnable_keeps : ∀ s a1, Keeps s (State.tmrEnable s a1).2 := by
  intro s a1; delta State.tmrEnable
  exact (.iteSnd (.refl _) (.iteSnd (.refl _) (.iteSnd (.refl _) (.mkSnd (.on (State.setScope_keeps _ _ _)
    (State.setTimer_keeps _ _ _))))))

theorem State.seqRefused_keeps : ∀ s a1 a2, Keeps s (State.seqRefused s a1 a2) := by
  intro s a1 a2; delta State.seqRefused
  exact (.on (State.blkEvent_keeps _ _ _ _ _) (.on (State.setSta_keeps _ _ _) (State.setFld_keeps _ _ _ _)))

theorem State.seqEnable_keeps : ∀ s a1, Keeps s (State.seqEnable s a1).2 := by
  intro s a1; delta State.seqEnable
  exact (.iteSnd (.refl _) (.iteSnd (.refl _) (.iteSnd (.mkSnd (State.seqRefused_keeps _ _ _)) (.mkSnd (State.setScope_keeps _
    _ _)))))

theorem State.tplEnable_keeps : ∀ s a1, Keeps s (State.tplEnable s a1).2 := by
  intro s a1; delta State.tplEnable
  exact (.iteSnd (.refl _) (.iteSnd (.refl _) (.iteSnd (.mkSnd (.on (State.blkEvent_keeps _ _ _ _ _) (.on (State.setSta_keeps
    _ _ _) (State.setFld_keeps _ _ _ _)))) (.mkSnd (.on (State.setFld_keeps _ _ _ _) (State.setReg_keeps _ _ _))))))

theorem State.ringEnable_keeps : ∀ s a1, Keeps s (State.ringEnable s a1).2 := by
  intro s a1; delta State.ringEnable
  exact (.iteSnd (.refl _) (.iteSnd (.refl _) (.iteSnd (.mkSnd (.on (State.setSta_keeps _ _ _) (State.setFld_keeps _ _ _ _)))
    (.mkSnd (.on (State.endOutage_keeps _) (.on (State.setRingState_keeps _ _ _) (State.ringEmpty_keeps _ _)))))))

theorem State.scopeEnable_keeps : ∀ s a1, Keeps s (State.scopeEnable s a1) := by
  intro s a1; unfold State.scopeEnable; dsimp only
  exact (by split; exacts [(.ite (State.setFld_keeps _ _ _ _) (.refl _)), (State.portEnable_keeps _ _), (.after (execTestEnable_keeps _ _)), (.after (execPllEnable_keeps _ _ _)), (.after (execOutEnable_keeps _ _ _)), (.when (fun _ => (State.setScope_keeps _ _ _)) _ _), (.after (execIvalArm_keeps _ _)), (.after (execFreqStart_keeps _ _)), (State.spkEnable_keeps _ _), (State.zcEnable_keeps _ _), (State.xfEnable_keeps _ _), (State.winEnable_keeps _ _), (State.maskEnable_keeps _ _), (State.mecEnable_keeps _ _), (State.tmrEnable_keeps _ _), (State.seqEnable_keeps _ _), (.when (fun _ => (State.setScope_keeps _ _ _)) _ _), (State.tplEnable_keeps _ _), (State.lbSubmit_keeps _ _), (.ite (.refl _) (State.planeEnable_keeps _ _)), (.ite (.refl _) (State.dpEnable_keeps _ _)), (.refl _), (State.ringEnable_keeps _ _), (State.ringEnable_keeps _ _), (State.dmaEnable_keeps _ _), (.refl _), (State.dsEnable_keeps _ _), (State.cascEnable_keeps _ _), (.after (execTestEnable_keeps _ _))])

theorem State.resumeRest_keeps : ∀ s a1, Keeps s (State.resumeRest s a1) := by
  intro s a1; delta State.resumeRest
  exact (.on (State.resumeCheck_keeps _) (.on (.foldl (fun _ _ => (State.tryStart_keeps _ _)) _ _) (.on (State.logEntry_keeps _ _ _ _ _ _ _) (.upd rfl rfl (.on (.foldl (fun _ _ => by exact (.foldl (fun _ _ => (State.scopeEnable_keeps _ _)) _ _)) _ _) (.on (.foldl (fun _ _ => (State.stewardCrc_keeps _ _)) _ _) (.on (State.restoreWhere_keeps _ _ _) (.on (.foldl (fun _ _ => (State.readmit_keeps _ _ _)) _ _) (.on (.foldl (fun _ _ => (State.loadKernel_keeps _ _)) _ _) (.on (State.trainInk_keeps _) (.on (State.setStw_keeps _ _ _) (.of rfl rfl rfl rfl rfl))))))))))))

theorem State.resumeRotation_keeps : ∀ s a1 a2, Keeps s (State.resumeRotation s a1 a2) := by
  intro s a1 a2; delta State.resumeRotation
  exact (.ite (.refl _) (.ite (.on (State.setDisk_keeps _ _ _) (State.setReg64_keeps _ _ _ _)) (.refl _)))

theorem State.retire_keeps : ∀ s a1, Keeps s (State.retire s a1) := by
  intro s a1; delta State.retire
  exact (State.count64_keeps _ _ _ _)

theorem State.returnPool_keeps : ∀ s, Keeps s (State.returnPool s) := by
  intro s; delta State.returnPool
  exact (.ite (.on (State.placeRings_keeps _) (.on (.foldl (fun _ _ => by exact (.ite (.refl _) (State.reportFill_keeps _ _))) _ _) (.on (.foldl (fun _ _ => by exact (.ite (.refl _) (State.reportFill_keeps _ _))) _ _) (.on (State.setFld_keeps _ _ _ _) (.on (State.setFld_keeps _ _ _ _) (.of rfl rfl rfl rfl rfl)))))) (.on (.foldl (fun _ _ => by exact (.ite (.refl _) (State.reportFill_keeps _ _))) _ _) (.on (.foldl (fun _ _ => by exact (.ite (.refl _) (State.reportFill_keeps _ _))) _ _) (.on (State.setFld_keeps _ _ _ _) (.on (State.setFld_keeps _ _ _ _) (.of rfl rfl rfl rfl rfl))))))

theorem State.revertFw_keeps : ∀ s, Keeps s (State.revertFw s) := by
  intro s; delta State.revertFw
  exact (.on (State.blkEvent_keeps _ _ _ _ _) (.on (State.logEntry_keeps _ _ _ _ _ _ _) (.on (State.setStw_keeps _ _ _) (.on
    (State.setStw_keeps _ _ _) (.of rfl rfl rfl rfl rfl)))))

theorem State.takeSlot_keeps : ∀ s a1 a2, Keeps s (State.takeSlot s a1 a2).2 := by
  intro s a1 a2; unfold State.takeSlot; dsimp only
  exact (by split; exacts [(.refl _), (.iteSnd (.refl _) (by split; exacts [(.refl _), (.iteSnd (.refl _) (.on (State.journal_keeps _ _ _ _ _ _ _ _) (State.draw_keeps _)))]))])

theorem State.rewriteExtent_keeps : ∀ s a1, Keeps s (State.rewriteExtent s a1) := by
  intro s a1; unfold State.rewriteExtent
  split
  · exact .refl _
  · split
    · next heq => exact (congrArg (Keeps s ·.2) heq).mp (State.takeSlot_keeps _ _ _)
    · next heq => exact .trans (.trans ((congrArg (Keeps s ·.2) heq).mp (State.takeSlot_keeps _ _ _)) (State.count_keeps _ _ _)) (State.putExtent_keeps _ _)

theorem State.ringDisable_keeps : ∀ s a1, Keeps s (State.ringDisable s a1) := by
  intro s a1; delta State.ringDisable
  exact (.ite (.refl _) (.ite (.on (State.haltChannels_keeps _ _) (State.setRingState_keeps _ _ _)) (.on
    (State.haltChannels_keeps _ _) (State.ringOff_keeps _ _))))

theorem State.ringDoorbell_keeps : ∀ s a1 a2 a3, Keeps s (State.ringDoorbell s a1 a2 a3) := by
  intro s a1 a2 a3; unfold State.ringDoorbell; dsimp only
  exact (by split; exacts [(.on (State.setReg_keeps _ _ _) (State.setCrEntries_keeps _ _ _)), (.on (State.flushWaiting_keeps _ _ _) (.on (State.setReg_keeps _ _ _) (.of rfl rfl rfl rfl rfl)))])

theorem State.ringPop_keeps : ∀ s a1, Keeps s (State.ringPop s a1).2 := by
  intro s a1; delta State.ringPop
  exact (.iteSnd (.refl _) (.mkSnd (State.crConsume_keeps _ _)))

theorem State.ringReset_keeps : ∀ s a1, Keeps s (State.ringReset s a1) := by
  intro s a1; delta State.ringReset
  exact (.on (State.haltChannels_keeps _ _) (.on (State.ringEmpty_keeps _ _) (State.ringOff_keeps _ _)))

theorem State.ringResume_keeps : ∀ s a1, Keeps s (State.ringResume s a1) := by
  intro s a1; unfold State.ringResume
  exact (.ite (.refl _) (by (try dsimp only); split; exacts [(.on (State.setRingState_keeps _ _ _) (State.crConsume_keeps _ _)), (State.setRingState_keeps _ _ _)]))

theorem State.rxCasc_keeps : ∀ s a1 a2 {a3}, (∀ s l, Keeps s (a3 s l)) → Keeps s (State.rxCasc s a1 a2 a3) := by
  intro s a1 a2 a3 h; unfold State.rxCasc
  exact (.ite (.refl _) (.ite (.trans (State.count_keeps _ _ _) (State.count_keeps _ _ _)) (.ite (.trans (State.setSta_keeps _
    _ _) (State.count_keeps _ _ _)) (.ite (.trans (State.setSta_keeps _ _ _) (State.count_keeps _ _ _)) (.ite
    (State.count_keeps _ _ _) (.ite (h _ _) (.refl _)))))))

theorem State.rxFrame_keeps : ∀ s a1, Keeps s (State.rxFrame s a1) := by
  intro s a1; delta State.rxFrame
  exact (.ite (.refl _) (.ite (.on (State.count_keeps _ _ _) (State.count_keeps _ _ _)) (.ite (.on (State.count_keeps _ _ _)
    (State.setSta_keeps _ _ _)) (.ite (.on (State.count_keeps _ _ _) (State.setSta_keeps _ _ _)) (.ite (State.count_keeps _ _
    _) (.ite (State.count_keeps _ _ _) (.on (State.release_keeps _ _ _) (State.setPort_keeps _ _ _))))))))

theorem State.rxKind_keeps : ∀ s a1 a2, Keeps s (State.rxKind s a1 a2) := by
  intro s a1 a2; delta State.rxKind
  exact (.ite (State.rxFrame_keeps _ _) (.refl _))

theorem State.zcCommit_keeps : ∀ s a1, Keeps s (State.zcCommit s a1).2 := by
  intro s a1; delta State.zcCommit
  exact (.iteSnd (.mkSnd (.on (State.blkEvent_keeps _ _ _ _ _) (State.setSta_keeps _ _ _))) (.iteSnd (.mkSnd
    (State.rsRange_keeps _ _)) (.iteSnd (.mkSnd (State.commitScope_keeps _ _)) (.mkSnd (State.setZoom_keeps _ _ _)))))

theorem State.xfCommit_keeps : ∀ s a1, Keeps s (State.xfCommit s a1).2 := by
  intro s a1; delta State.xfCommit
  exact (.iteSnd (.mkSnd (State.pairRefused_keeps _ _ _)) (.iteSnd (.mkSnd (State.commitScope_keeps _ _)) (.mkSnd
    (State.setPair_keeps _ _ _))))

theorem State.seqApply_keeps : ∀ s a1, Keeps s (State.seqApply s a1) := by
  intro s a1; delta State.seqApply
  exact (.on (State.setSta_keeps _ _ _) (.on (State.setFld_keeps _ _ _ _) (State.commitScope_keeps _ _)))

theorem State.seqCommit_keeps : ∀ s a1, Keeps s (State.seqCommit s a1).2 := by
  intro s a1; delta State.seqCommit
  exact (.iteSnd (.mkSnd (State.seqRefused_keeps _ _ _)) (.iteSnd (.mkSnd (State.seqApply_keeps _ _)) (.mkSnd
    (State.setFld_keeps _ _ _ _))))

theorem State.spkCommit_keeps : ∀ s a1, Keeps s (State.spkCommit s a1) := by
  intro s a1; delta State.spkCommit
  exact (.ite (State.setSpike_keeps _ _ _) (State.commitScope_keeps _ _))

theorem execDmaPromote_keeps : ∀ a0 s, KeepsOn s (execDmaPromote a0 s) := by
  intro a0 s; delta execDmaPromote
  exact (.next (.on (State.tryPromote_keeps _ _) (.on (State.setFld_keeps _ _ _ _) (State.accept_keeps _ _ _))))

theorem execDelayCommit_keeps : ∀ a0 a1 s, KeepsOn s (execDelayCommit a0 a1 s) := by
  intro a0 a1 s; delta execDelayCommit
  exact (.ite (.next (State.setSta_keeps _ _ _)) (.next (State.commitScope_keeps _ _)))

theorem State.scopeCommit_keeps : ∀ s a1, Keeps s (State.scopeCommit s a1).2 := by
  intro s a1; unfold State.scopeCommit; dsimp only
  exact (by split; exacts [(State.zcCommit_keeps _ _), (State.xfCommit_keeps _ _), (State.seqCommit_keeps _ _), (State.maskCommit_keeps _ _), (.mkSnd (.ite (.refl _) (State.planeCommit_keeps _ _))), (.mkSnd (State.mecCommit_keeps _ _)), (.mkSnd (State.spkCommit_keeps _ _)), (.mkSnd (.after (execDmaPromote_keeps _ _))), (.mkSnd (.after (execDelayCommit_keeps _ _ _))), (.mkSnd (State.commitScope_keeps _ _))])

theorem execTestDisable_keeps : ∀ a0 s, KeepsOn s (execTestDisable a0 s) := by
  intro a0 s; delta execTestDisable
  exact (.next (.ite (.on (State.endTest_keeps _ _) (State.accept_keeps _ _ _)) (State.accept_keeps _ _ _)))

theorem execPllDisable_keeps : ∀ a0 s, KeepsOn s (execPllDisable a0 s) := by
  intro a0 s; delta execPllDisable
  exact (.ite (.next (State.accept_keeps _ _ _)) (.next (.ite (.on (State.phyLost_keeps _) (.on (State.setFld_keeps _ _ _ _)
    (.on (State.settleOutputs_keeps _ _) (.on (State.setPll_keeps _ _ _) (.ite (.on (State.setFld_keeps _ _ _ _)
    (State.accept_keeps _ _ _)) (State.accept_keeps _ _ _)))))) (.on (State.settleOutputs_keeps _ _) (.on (State.setPll_keeps
    _ _ _) (.ite (.on (State.setFld_keeps _ _ _ _) (State.accept_keeps _ _ _)) (State.accept_keeps _ _ _)))))))

theorem execOutDisable_keeps : ∀ a0 a1 s, KeepsOn s (execOutDisable a0 a1 s) := by
  intro a0 a1 s; delta execOutDisable
  exact (.ite (.next (.refl _)) (.next (.on (State.phyLost_keeps _) (.on (State.settleOutputs_keeps _ _) (.ite (.on
    (State.setScope_keeps _ _ _) (.on (State.setScope_keeps _ _ _) (State.accept_keeps _ _ _))) (.on (State.setScope_keeps _ _
    _) (State.accept_keeps _ _ _)))))))

theorem execFreqStop_keeps : ∀ a0 s, KeepsOn s (execFreqStop a0 s) := by
  intro a0 s; delta execFreqStop
  exact (.ite (.next (State.accept_keeps _ _ _)) (.next (.on (State.setFreq_keeps _ _ _) (State.accept_keeps _ _ _))))

theorem State.spkDisable_keeps : ∀ s a1, Keeps s (State.spkDisable s a1) := by
  intro s a1; delta State.spkDisable
  exact (.ite (.ite (.on (State.setScope_keeps _ _ _) (.on (State.setFld_keeps _ _ _ _) (State.setSpike_keeps _ _ _)))
    (State.setScope_keeps _ _ _)) (.refl _))

theorem State.zcDisable_keeps : ∀ s a1, Keeps s (State.zcDisable s a1) := by
  intro s a1; delta State.zcDisable
  exact (.ite (.refl _) (State.setFld_keeps _ _ _ _))

theorem State.tmrDisable_keeps : ∀ s a1, Keeps s (State.tmrDisable s a1) := by
  intro s a1; delta State.tmrDisable
  exact (State.setScope_keeps _ _ _)

theorem State.seqDisarm_keeps : ∀ s a1, Keeps s (State.seqDisarm s a1) := by
  intro s a1; delta State.seqDisarm
  exact (.on (State.setFld_keeps _ _ _ _) (.on (State.setFld_keeps _ _ _ _) (State.rollbackWhere_keeps _ _ _ _)))

theorem State.seqDisable_keeps : ∀ s a1, Keeps s (State.seqDisable s a1) := by
  intro s a1; delta State.seqDisable
  exact (.ite (.refl _) (.on (State.seqDrained_keeps _ _) (.on (State.setScope_keeps _ _ _) (State.seqDisarm_keeps _ _))))

theorem State.trigOutDisable_keeps : ∀ s a1, Keeps s (State.trigOutDisable s a1) := by
  intro s a1; delta State.trigOutDisable
  exact (.on (State.setScope_keeps _ _ _) (.ite (State.driveOut_keeps _ _ _) (.refl _)))

theorem State.tplDisable_keeps : ∀ s a1, Keeps s (State.tplDisable s a1) := by
  intro s a1; delta State.tplDisable
  exact (.ite (.refl _) (.on (State.tplDrained_keeps _ _) (State.setFld_keeps _ _ _ _)))

theorem State.scopeDisable_keeps : ∀ s a1, Keeps s (State.scopeDisable s a1) := by
  intro s a1; unfold State.scopeDisable; dsimp only
  exact (by split; exacts [(.ite (State.coreOff_keeps _ _) (.ite (.refl _) (State.setScope_keeps _ _ _))), (State.portDisable_keeps _ _), (.after (execTestDisable_keeps _ _)), (.after (execPllDisable_keeps _ _)), (.after (execOutDisable_keeps _ _ _)), (State.setScope_keeps _ _ _), (.ite (State.setScope_keeps _ _ _) (.refl _)), (.after (execFreqStop_keeps _ _)), (State.spkDisable_keeps _ _), (State.zcDisable_keeps _ _), (State.disablePair_keeps _ _), (.ite (State.setFld_keeps _ _ _ _) (State.setScope_keeps _ _ _)), (State.maskDisable_keeps _ _), (State.mecDisable_keeps _ _), (State.tmrDisable_keeps _ _), (State.seqDisable_keeps _ _), (State.trigOutDisable_keeps _ _), (State.tplDisable_keeps _ _), (State.lbCancel_keeps _ _), (.ite (.refl _) (State.planeDisable_keeps _ _)), (.ite (.refl _) (State.dpDisable_keeps _ _)), (State.setFld_keeps _ _ _ _), (State.ringDisable_keeps _ _), (State.ringDisable_keeps _ _), (State.dmaDisable_keeps _ _), (.ite (State.setScope_keeps _ _ _) (State.driveLeaves_keeps _ _)), (State.dsDisable_keeps _ _), (State.cascDisable_keeps _ _), (.after (execTestDisable_keeps _ _))])

theorem State.sectionOf_keeps : ∀ s a1 a2 a3, Keeps s (State.section_ s a1 a2 a3).2 := by
  intro s a1 a2 a3; unfold State.section_; dsimp only
  exact (by split; exacts [(State.rawSection_keeps _ _ _ _), (.refl _), (State.draw_keeps _), (.refl _)])

theorem State.selfTest_keeps : ∀ s a1 a2 a3, Keeps s (State.selfTest s a1 a2 a3) := by
  intro s a1 a2 a3; unfold State.selfTest
  exact (by (try dsimp only); split; exacts [(.ite (State.poolState_keeps _ _ _ _) (.ite (State.poolState_keeps _ _ _ _) (.on (State.slotWritten_keeps _ _) (State.setSpare_keeps _ _ _ _)))), (.refl _)])

theorem State.sendCasc_keeps : ∀ s a1 a2 a3, Keeps s (State.sendCasc s a1 a2 a3) := by
  intro s a1 a2 a3; delta State.sendCasc
  exact (.on (State.emit_keeps _ _) (State.setCascade_keeps _ _ _))

theorem State.sendPanel_keeps : ∀ s a1 a2, Keeps s (State.sendPanel s a1 a2) := by
  intro s a1 a2; delta State.sendPanel
  exact (.on (State.emit_keeps _ _) (.on (State.count_keeps _ _ _) (.on (.foldl (fun _ _ => (State.checkRect_keeps _ _ _ _)) _
    _) (.on (State.fetchFrame_keeps _ _) (.on (State.freeReleases_keeps _) (State.setPanel_keeps _ _ _))))))

theorem State.seqArm_keeps : ∀ s a1, Keeps s (State.seqArm s a1).2 := by
  intro s a1; delta State.seqArm
  exact (.iteSnd (.refl _) (.iteSnd (.mkSnd (State.seqRefused_keeps _ _ _)) (.mkSnd (.on (State.setFld_keeps _ _ _ _) (.on
    (State.setFld_keeps _ _ _ _) (State.setSeqr_keeps _ _ _))))))

theorem State.setHostLink_keeps : ∀ s a1 a2 a3, Keeps s (State.setHostLink s a1 a2 a3) := by
  intro s a1 a2 a3; delta State.setHostLink
  exact (State.setReg_keeps _ _ _)

theorem State.setRows_keeps : ∀ s a1 a2, Keeps s (State.setRows s a1 a2) := by
  intro s a1 a2; delta State.setRows
  exact (.on (State.setFld_keeps _ _ _ _) (.of rfl rfl rfl rfl rfl))

theorem State.setSpkLast_keeps : ∀ s a1 a2 a3, Keeps s (State.setSpkLast s a1 a2 a3) := by
  intro s a1 a2 a3; unfold State.setSpkLast
  exact (by (try dsimp only); split; exacts [(State.setFld_keeps _ _ _ _), (State.setFld_keeps _ _ _ _), (State.setFld_keeps _ _ _ _), (State.setFld_keeps _ _ _ _)])

theorem State.setThrottle_keeps : ∀ s a1 a2, Keeps s (State.setThrottle s a1 a2) := by
  intro s a1 a2; unfold State.setThrottle; dsimp only
  exact (by split; exacts [(.on (State.blkEvent_keeps _ _ _ _ _) (.on (State.setSta_keeps _ _ _) (.on (State.setFld_keeps _ _ _ _) (State.setFlow_keeps _ _ _)))), (.on (State.blkEvent_keeps _ _ _ _ _) (State.setFlow_keeps _ _ _)), (.on (State.blkEvent_keeps _ _ _ _ _) (State.setFlow_keeps _ _ _)), (.on (State.raise_keeps _ _ _) (.on (State.setSta_keeps _ _ _) (.on (State.setFld_keeps _ _ _ _) (State.setFlow_keeps _ _ _))))])

theorem State.shedPhase_keeps : ∀ s a1, Keeps s (State.shedPhase s a1) := by
  intro s a1; delta State.shedPhase
  exact (.on (State.spareAlarm_keeps _ _ _) (.on (State.pwrEvent_keeps _ _ _ _) (.on (State.setFld_keeps _ _ _ _) (.on
    (State.count_keeps _ _ _) (.on (State.setFld_keeps _ _ _ _) (State.setFld_keeps _ _ _ _))))))

theorem State.unpowered_keeps : ∀ s, Keeps s (State.unpowered s) := by
  intro s; unfold State.unpowered
  exact .on (State.keepRows_keeps _ _) ⟨rfl, rfl, List.prefix_refl _, Registers.wf_filter _, fun _ => rfl⟩

theorem State.stop_keeps : ∀ s, Keeps s (State.stop s) := by
  intro s; delta State.stop
  exact (.upd rfl rfl (.on (State.pin_keeps _ _ _) (State.unpowered_keeps _)))

theorem State.shutdown_keeps : ∀ s, Keeps s (State.shutdown s) := by
  intro s; delta State.shutdown
  exact (.ite (.refl _) (.on (State.pin_keeps _ _ _) (.on (State.stop_keeps _) (.upd rfl rfl (State.setFld_keeps _ _ _ _)))))

theorem State.smbus_keeps : ∀ s a1, Keeps s (State.smbus s a1) := by
  intro s a1; delta State.smbus
  exact (.ite (State.emit_keeps _ _) (.refl _))

theorem State.stageWrite_keeps : ∀ s a1 a2, Keeps s (State.stageWrite s a1 a2) := by
  intro s a1 a2; delta State.stageWrite
  exact (.of rfl rfl rfl rfl rfl)

theorem State.writeFields_keeps : ∀ s a1 a2 a3 a4, Keeps s (State.writeFields s a1 a2 a3 a4).2 := by
  intro s a1 a2 a3 a4; delta State.writeFields
  exact (.iteSnd (.mkSnd (State.clearSta_keeps _ _ _ _)) (.iteSnd (.iteSnd (.mkSnd (State.cfgWhileEn_keeps _ _ _ _)) (.mkSnd
    (State.setReg_keeps _ _ _))) (.iteSnd (.iteSnd (.mkSnd (State.setReg_keeps _ _ _)) (.iteSnd (.mkSnd (State.setSta_keeps _
    _ _)) (.iteSnd (.mkSnd (State.stageWrite_keeps _ _ _)) (.mkSnd (.upd rfl rfl (State.setReg_keeps _ _ _)))))) (.iteSnd
    (.iteSnd (.mkSnd (.on (State.busyDrop_keeps _ _ _) (.upd rfl rfl (State.setReg_keeps _ _ _)))) (.mkSnd (.upd rfl rfl
    (State.setReg_keeps _ _ _)))) (.iteSnd (.iteSnd (.mkSnd (State.setReg_keeps _ _ _)) (.mkSnd (State.accessErr_keeps _ _ _ _
    _ _))) (.iteSnd (.mkSnd (State.setReg_keeps _ _ _)) (.mkSnd (State.accessErr_keeps _ _ _ _ _ _))))))))

theorem State.windowHook_keeps : ∀ s a1, Keeps s (State.windowHook s a1) := by
  intro s a1; unfold State.windowHook; dsimp only
  exact (by split; exacts [(.refl _), (.ite (.of rfl rfl rfl rfl rfl) (State.setFld_keeps _ _ _ _))])

theorem State.write32_keeps : ∀ s a1 a2 a3 a4, Keeps s (State.write32 s a1 a2 a3 a4).2 := by
  intro s a1 a2 a3 a4; unfold State.write32; dsimp only
  exact (.iteSnd (.refl _) (.iteSnd (.ite (State.accessErr_keeps _ _ _ _ _ _) (.refl _)) (by split; exacts [(.ite (State.accessErr_keeps _ _ _ _ _ _) (.refl _)), (.iteSnd (State.accessErr_keeps _ _ _ _ _ _) (.iteSnd (.refl _) (.iteSnd (.on (State.accessErr_keeps _ _ _ _ _ _) (.ite (.on (State.fecHook_keeps _ _ _) (.on (State.msixHook_keeps _ _) (.on (State.windowHook_keeps _ _) (.on (State.bandOverride_keeps _ _) (State.writeFields_keeps _ _ _ _ _))))) (State.writeFields_keeps _ _ _ _ _))) (.ite (.on (State.fecHook_keeps _ _ _) (.on (State.msixHook_keeps _ _) (.on (State.windowHook_keeps _ _) (.on (State.bandOverride_keeps _ _) (State.writeFields_keeps _ _ _ _ _))))) (State.writeFields_keeps _ _ _ _ _)))))])))

theorem State.stageCoefs_keeps : ∀ s a1 a2 a3, Keeps s (State.stageCoefs s a1 a2 a3).2 := by
  intro s a1 a2 a3; delta State.stageCoefs
  exact (.iteSnd (.refl _) (.mkSnd (.foldl (fun _ _ => (State.write32_keeps _ _ _ _ _)) _ _)))

theorem State.stageWindow_keeps : ∀ s a1 a2, Keeps s (State.stageWindow s a1 a2).2 := by
  intro s a1 a2; delta State.stageWindow
  exact (.iteSnd (.refl _) (.mkSnd (.on (State.setFld_keeps _ _ _ _) (.foldl (fun _ _ => by exact (.ite (.of rfl rfl rfl rfl rfl) (.refl _))) _ _))))

theorem State.startCal_keeps : ∀ s a1 a2 a3 a4, Keeps s (State.startCal s a1 a2 a3 a4) := by
  intro s a1 a2 a3 a4; unfold State.startCal
  exact (by (try dsimp only); split; exacts [(.on (State.dropCal_keeps _ _ _ _) (.on (State.calEvent_keeps _ _ _) (.upd rfl rfl (.on (State.setFld_keeps _ _ _ _) (.of rfl rfl rfl rfl rfl))))), (.on (State.calAttempt_keeps _) (.on (State.setFld_keeps _ _ _ _) (.upd rfl rfl (.on (.foldl (fun _ _ => (State.poolState_keeps _ _ _ _)) _ _) (.upd rfl rfl (.on (State.setFld_keeps _ _ _ _) (.of rfl rfl rfl rfl rfl)))))))])

theorem State.swFire_keeps : ∀ s a1, Keeps s (State.swFire s a1) := by
  intro s a1; delta State.swFire
  exact (.ite (.refl _) (State.activate_keeps _ _ _ _ _))

theorem State.switchUnit_keeps : ∀ s a1 a2 a3 a4, Keeps s (State.switchUnit s a1 a2 a3 a4) := by
  intro s a1 a2 a3 a4; delta State.switchUnit
  exact (.on (State.reportHandover_keeps _ _ _ _ _ _ _) (.on (State.poolState_keeps _ _ _ _) (State.rebind_keeps _ _ _ _ _)))

theorem State.switchCal_keeps : ∀ s a1, Keeps s (State.switchCal s a1) := by
  intro s a1; unfold State.switchCal; dsimp only
  exact (by split; exacts [(.refl _), (.on (State.calDone_keeps _ _) (.ite (.foldl (fun _ _ => (State.switchUnit_keeps _ _ _ _ _)) _ _) (State.switchUnit_keeps _ _ _ _ _)))])

theorem State.tadpoleCommit_keeps : ∀ s a1, Keeps s (State.tadpoleCommit s a1) := by
  intro s a1; unfold State.tadpoleCommit; dsimp only
  exact (by split; exacts [(.refl _), (.ite (.on (State.seqDrained_keeps _ _) (State.rollback_keeps _ _ _ _)) (.ite (.refl _) (.on (State.tplDrained_keeps _ _) (.on (State.seqDrained_keeps _ _) (.on (State.count_keeps _ _ _) (.on (State.setSeqr_keeps _ _ _) (.upd rfl rfl (State.setReg64_keeps _ _ _ _))))))))])

theorem State.takeBuffer_keeps : ∀ s a1, Keeps s (State.takeBuffer s a1) := by
  intro s a1; unfold State.takeBuffer; dsimp only
  exact (by split; exacts [(.ite (.refl _) (.ite (.on (State.chHalt_keeps _ _ _) (State.crConsume_keeps _ _)) (.on (State.setChannel_keeps _ _ _) (State.crConsume_keeps _ _)))), (.refl _)])

theorem State.takeTrig_keeps : ∀ s a1 a2, Keeps s (State.takeTrig s a1 a2) := by
  intro s a1 a2; delta State.takeTrig
  exact (.ite (.on (State.count_keeps _ _ _) (State.setCascade_keeps _ _ _)) (.on (State.activate_keeps _ _ _ _ _)
    (State.setCascade_keeps _ _ _)))

theorem State.tdcDeliver_keeps : ∀ s a1 a2, Keeps s (State.tdcDeliver s a1 a2) := by
  intro s a1 a2; delta State.tdcDeliver
  exact (.on (.foldl (fun _ _ => (State.freqTake_keeps _ _ _ _)) _ _) (.foldl (fun _ _ => (State.ivalTake_keeps _ _ _ _)) _ _))

theorem State.tdcHead_keeps : ∀ s a1, Keeps s (State.tdcHead s a1) := by
  intro s a1; delta State.tdcHead
  exact (.on (State.setReg_keeps _ _ _) (.on (State.setReg_keeps _ _ _) (.on (State.setReg_keeps _ _ _) (.on
    (State.setReg_keeps _ _ _) (State.setFld_keeps _ _ _ _)))))

theorem State.tdcStore_keeps : ∀ s a1 a2, Keeps s (State.tdcStore s a1 a2) := by
  intro s a1 a2; delta State.tdcStore
  exact (.ite (.refl _) (.ite (.on (State.blkEvent_keeps _ _ _ _ _) (.on (State.count_keeps _ _ _) (State.setTdc_keeps _ _
    _))) (.on (State.tdcHead_keeps _ _) (State.setTdc_keeps _ _ _))))

theorem State.tdcStamped_keeps : ∀ s a1 a2 a3 a4 a5, Keeps s (State.tdcStamped s a1 a2 a3 a4 a5).2 := by
  intro s a1 a2 a3 a4 a5; delta State.tdcStamped
  exact (.iteSnd (.refl _) (.iteSnd (.mkSnd (State.setTdc_keeps _ _ _)) (.iteSnd (.mkSnd (.on (State.blkEvent_keeps _ _ _ _ _)
    (.on (State.count_keeps _ _ _) (State.setTdc_keeps _ _ _)))) (.mkSnd (.on (State.tdcDeliver_keeps _ _ _) (.on
    (State.tdcStore_keeps _ _ _) (State.setTdc_keeps _ _ _)))))))

theorem State.tplRestart_keeps : ∀ s a1, Keeps s (State.tplRestart s a1) := by
  intro s a1; delta State.tplRestart
  exact (.ite (.on (State.setFld_keeps _ _ _ _) (.ite (State.setFlow_keeps _ _ _) (.refl _))) (.ite (State.setFlow_keeps _ _
    _) (.refl _)))

theorem State.unitEnable_keeps : ∀ s a1, Keeps s (State.unitEnable s a1).2 := by
  intro s a1; delta State.unitEnable
  exact (.mkSnd (.foldl (fun _ _ => (State.scopeEnable_keeps _ _)) _ _))

theorem State.unitDisable_keeps : ∀ s a1, Keeps s (State.unitDisable s a1).2 := by
  intro s a1; delta State.unitDisable
  exact (.mkSnd (.foldl (fun _ _ => by exact (.ite (State.scopeDisable_keeps _ _) (.refl _))) _ _))

theorem State.xfHoldReset_keeps : ∀ s a1, Keeps s (State.xfHoldReset s a1) := by
  intro s a1; delta State.xfHoldReset
  exact (.ite (.refl _) (State.setPair_keeps _ _ _))

theorem State.unitCmd_keeps : ∀ s a1 a2, Keeps s (State.unitCmd s a1 a2).2 := by
  intro s a1 a2; unfold State.unitCmd; dsimp only
  exact (by split; exacts [(State.unitEnable_keeps _ _), (State.unitDisable_keeps _ _), (.mkSnd (State.seqArm_keeps _ _)), (.mkSnd (State.seqDisarm_keeps _ _)), (.iteSnd (.mkSnd (State.swFire_keeps _ _)) (.refl _)), (.mkSnd (.when (fun _ => (State.bufFlush_keeps _ _)) _ _)), (.mkSnd (State.xfHoldReset_keeps _ _)), (State.ringPop_keeps _ _), (by split; exacts [(.mkSnd (State.scopeEnable_keeps _ _)), (.mkSnd (State.scopeEnable_keeps _ _)), (.mkSnd (State.scopeDisable_keeps _ _)), (.mkSnd (State.tplRestart_keeps _ _)), (.mkSnd (State.lbSubmit_keeps _ _)), (.mkSnd (State.lbCancel_keeps _ _)), (.refl _)]), (.refl _)])

theorem State.unitCommit_keeps : ∀ s a1, Keeps s (State.unitCommit s a1).2 := by
  intro s a1; delta State.unitCommit
  exact (.iteSnd (.mkSnd (State.scopeCommit_keeps _ _)) (.mkSnd (.on (State.scopeCommit_keeps _ _) (State.setReg_keeps _ _ _))))

theorem State.unitStops_keeps : ∀ s a1 a2, Keeps s (State.unitStops s a1 a2) := by
  intro s a1 a2; unfold State.unitStops; dsimp only
  exact (by split; exacts [(.ite (.refl _) (State.zoomOff_keeps _ _)), (.ite (.on (State.nibHalted_keeps _ _) (State.setNib_keeps _ _ _)) (.refl _)), (.ite (.refl _) (State.coreOff_keeps _ _)), (.ite (.refl _) (State.planeOff_keeps _ _)), (State.setScope_keeps _ _ _), (State.loseActive_keeps _ _), (.refl _)])

theorem State.unitFailed_keeps : ∀ s a1 a2 a3, Keeps s (State.unitFailed s a1 a2 a3) := by
  intro s a1 a2 a3; delta State.unitFailed
  exact (.on (State.freePool_keeps _) (.on (State.blkEvent_keeps _ _ _ _ _) (.on (State.reportBudget_keeps _) (.ite (.upd rfl
    rfl (State.unitStops_keeps _ _ _)) (.on (State.setBlockState_keeps _ _ _) (.upd rfl rfl (State.unitStops_keeps _ _
    _)))))))

theorem State.unitRead_keeps : ∀ s a1 a2 a3, Keeps s (State.unitRead s a1 a2 a3).2 := by
  intro s a1 a2 a3; unfold State.unitRead; dsimp only
  exact (by split; exacts [(.refl _), (by split; exacts [(.iteSnd (State.readBy_keeps _ _ _) (.refl _)), (.refl _)])])

theorem State.unitWrite_keeps : ∀ s a1 a2 a3 a4, Keeps s (State.unitWrite s a1 a2 a3 a4).2 := by
  intro s a1 a2 a3 a4; unfold State.unitWrite
  exact (by (try dsimp only); split; exacts [(.refl _), (.iteSnd (State.accessErr_keeps _ _ _ _ _ _) (.on (.when (fun _ => (State.keepCrc_keeps _ _)) _ _) (.ite (.on (State.count_keeps _ _ _) (State.write32_keeps _ _ _ _ _)) (State.write32_keeps _ _ _ _ _))))])

theorem State.unloadProgram_keeps : ∀ s a1, Keeps s (State.unloadProgram s a1) := by
  intro s a1; delta State.unloadProgram
  exact (.on (State.freePool_keeps _) (.on (State.setNib_keeps _ _ _) (.foldl (fun _ _ => by exact (.ite (State.scopeDisable_keeps _ _) (.refl _))) _ _)))

theorem State.vauxLost_keeps : ∀ s, Keeps s (State.vauxLost s) := by
  intro s
  have h := Registers.wf_filter (r := s.regs) (fun a => !(a / 0x80000 = 24))
  exact ⟨rfl, rfl, List.prefix_refl _, h, id⟩

theorem State.vcoreStep_keeps : ∀ s a1, Keeps s (State.vcoreStep s a1) := by
  intro s a1; delta State.vcoreStep
  exact (.ite (State.setVcore_keeps _ _) (.ite (State.setVcore_keeps _ _) (.ite (.upd rfl rfl (State.setVcore_keeps _ _))
    (.refl _))))

theorem State.winDisable_keeps : ∀ s a1 a2, Keeps s (State.winDisable s a1 a2) := by
  intro s a1 a2; delta State.winDisable
  exact (.ite (State.busyDrop_keeps _ _ _) (State.setFld_keeps _ _ _ _))

theorem State.writeAll_keeps : ∀ s a1 a2 a3, Keeps s (State.writeAll s a1 a2 a3) := by
  intro s a1 a2 a3
  induction a3 generalizing s a2 with
  | nil => exact .refl _
  | cons x t ih => rw [State.writeAll]; exact .trans (State.write32_keeps _ _ _ _ _) (ih _ _)

theorem State.writeImage_keeps : ∀ s a1, Keeps s (State.writeImage s a1) := by
  intro s a1; delta State.writeImage
  exact (.on (State.reportVersions_keeps _) (.of rfl rfl rfl rfl rfl))

theorem State.writeSession_keeps : ∀ s a1, Keeps s (State.writeSession s a1) := by
  intro s a1; delta State.writeSession
  exact (.on (State.setReg64_keeps _ _ _ _) (.on (State.slotWritten_keeps _ _) (.of rfl rfl rfl rfl rfl)))

theorem State.zoomApply_keeps : ∀ s a1, Keeps s (State.zoomApply s a1) := by
  intro s a1; delta State.zoomApply
  exact (.on (State.setSta_keeps _ _ _) (.ite (.on (State.armComparators_keeps _ _) (.ite (.on (State.setFld_keeps _ _ _ _)
    (.on (State.setFld_keeps _ _ _ _) (.on (State.setZoom_keeps _ _ _) (.on (State.zoomReport_keeps _ _) (.on
    (State.setZoom_keeps _ _ _) (State.commitScope_keeps _ _)))))) (.on (State.setZoom_keeps _ _ _) (.on
    (State.zoomReport_keeps _ _) (.on (State.setZoom_keeps _ _ _) (State.commitScope_keeps _ _)))))) (.ite (.on
    (State.setFld_keeps _ _ _ _) (.on (State.setFld_keeps _ _ _ _) (.on (State.setZoom_keeps _ _ _) (.on
    (State.zoomReport_keeps _ _) (.on (State.setZoom_keeps _ _ _) (State.commitScope_keeps _ _)))))) (.on (State.setZoom_keeps
    _ _ _) (.on (State.zoomReport_keeps _ _) (.on (State.setZoom_keeps _ _ _) (State.commitScope_keeps _ _)))))))

theorem State.zoomBoundary_keeps : ∀ s a1, Keeps s (State.zoomBoundary s a1) := by
  intro s a1; unfold State.zoomBoundary; dsimp only
  exact (.ite (State.zoomOff_keeps _ _) (by split; exacts [(.ite (.on (State.zoomApply_keeps _ _) (State.setZoom_keeps _ _ _)) (State.setZoom_keeps _ _ _)), (.on (State.zoomReport_keeps _ _) (.on (State.setZoom_keeps _ _ _) (.ite (.on (State.zoomApply_keeps _ _) (State.setZoom_keeps _ _ _)) (State.setZoom_keeps _ _ _))))]))

theorem State.zoomDue_keeps : ∀ s a1, Keeps s (State.zoomDue s a1) := by
  intro s a1; delta State.zoomDue
  exact (.ite (.on (State.zoomBoundary_keeps _ _) (.ite (State.fadeEnd_keeps _ _) (.refl _))) (.ite (State.fadeEnd_keeps _ _)
    (.refl _)))

theorem State.zoomOutput_keeps : ∀ s a1, Keeps s (State.zoomOutput s a1) := by
  intro s a1; unfold State.zoomOutput; dsimp only
  exact (by split; exacts [(.refl _), (.on (State.judge_keeps _ _ _) (.on (State.setStream_keeps _ _ _) (.ite (.ite (.on (State.setSta_keeps _ _ _) (.on (State.count_keeps _ _ _) (.on (State.setFld_keeps _ _ _ _) (.ite (.on (State.zoomReport_keeps _ _) (.on (State.setZoom_keeps _ _ _) (State.setZoom_keeps _ _ _))) (State.setZoom_keeps _ _ _))))) (.on (State.blkEvent_keeps _ _ _ _ _) (.on (State.setSta_keeps _ _ _) (.on (State.count_keeps _ _ _) (.on (State.setFld_keeps _ _ _ _) (.ite (.on (State.zoomReport_keeps _ _) (.on (State.setZoom_keeps _ _ _) (State.setZoom_keeps _ _ _))) (State.setZoom_keeps _ _ _))))))) (.on (State.setFld_keeps _ _ _ _) (.ite (.on (State.zoomReport_keeps _ _) (.on (State.setZoom_keeps _ _ _) (State.setZoom_keeps _ _ _))) (State.setZoom_keeps _ _ _))))))])

theorem nibStepS_keeps : ∀ a0 {a1}, (∀ n s, KeepsOk s (a1 n s)) → ∀ s, Keeps s (nibStepS a0 a1 s) := by
  intro a0 a1 h s; unfold nibStepS
  refine .ite (.refl _) (.ite (.trans (State.setNib_keeps _ _ _) (State.retire_keeps _ _)) ?_)
  split
  · exact .trans (h _ _ _ ‹_›) (State.retire_keeps _ _)
  · exact State.nibExcept_keeps _ _ _

theorem nibUnit_keeps : ∀ a0 a1 a2 a3 {a4}, (∀ n s, KeepsPair s (a4 n s)) → ∀ s, Keeps s (nibUnit a0 a1 a2 a3 a4 s) := by
  intro a0 a1 a2 a3 a4 h s; unfold nibUnit
  refine nibStepS_keeps _ (fun n s => ?_) _
  split
  · exact .error _
  · split
    · exact .error _
    · split
      · exact .error _
      · exact .ok (.trans (h _ _ _ _ ‹_›) (State.setNib_keeps _ _ _))

theorem nibStep_keeps : ∀ a0 a1 s, Keeps s (nibStep a0 a1 s) := by
  intro a0 a1 s; unfold nibStep; dsimp only
  exact (.ite (.refl _) (.ite (.on (State.retire_keeps _ _) (State.setNib_keeps _ _ _)) (by split; exacts [(.on (State.retire_keeps _ _) (State.setNib_keeps _ _ _)), (State.nibExcept_keeps _ _ _)])))

theorem nibAlu_keeps : ∀ a0 a1 a2 a3 a4 s, Keeps s (nibAlu a0 a1 a2 a3 a4 s) := by
  intro a0 a1 a2 a3 a4 s; delta nibAlu
  exact (nibStep_keeps _ _ _)

theorem nibCmp_keeps : ∀ a0 a1 a2 a3 a4 s, Keeps s (nibCmp a0 a1 a2 a3 a4 s) := by
  intro a0 a1 a2 a3 a4 s; delta nibCmp
  exact (nibStep_keeps _ _ _)

theorem nibPredOp_keeps : ∀ a0 a1 a2 a3 a4 a5 s, Keeps s (nibPredOp a0 a1 a2 a3 a4 a5 s) := by
  intro a0 a1 a2 a3 a4 a5 s; delta nibPredOp
  exact (nibStep_keeps _ _ _)

theorem nibImm_keeps : ∀ a0 a1 a2 a3 s, Keeps s (nibImm a0 a1 a2 a3 s) := by
  intro a0 a1 a2 a3 s; delta nibImm
  exact (nibStep_keeps _ _ _)

theorem nibCmpImm_keeps : ∀ a0 a1 a2 a3 s, Keeps s (nibCmpImm a0 a1 a2 a3 s) := by
  intro a0 a1 a2 a3 s; delta nibCmpImm
  exact (nibStep_keeps _ _ _)

theorem nibLoad_keeps : ∀ a0 a1 a2 a3 a4 a5 s, Keeps s (nibLoad a0 a1 a2 a3 a4 a5 s) := by
  intro a0 a1 a2 a3 a4 a5 s; unfold nibLoad; dsimp only
  exact (nibStepS_keeps _ (fun _ _ => (by split; exacts [(.error _), (.ok (.on (eccScrub_keeps _ _ _ _) (State.setNib_keeps _ _ _)))])) _)

theorem nibStore_keeps : ∀ a0 a1 a2 a3 a4 s, Keeps s (nibStore a0 a1 a2 a3 a4 s) := by
  intro a0 a1 a2 a3 a4 s; unfold nibStore; dsimp only
  exact (nibStepS_keeps _ (fun _ _ => (by split; exacts [(.error _), (.ok (.on (eccScrub_keeps _ _ _ _) (State.setNib_keeps _ _ _)))])) _)

theorem nibLoopEntry_keeps : ∀ a0 a1 a2 a3 a4 s, Keeps s (nibLoopEntry a0 a1 a2 a3 a4 s) := by
  intro a0 a1 a2 a3 a4 s; delta nibLoopEntry
  exact (nibStep_keeps _ _ _)

theorem nibUnitOn_keeps : ∀ a0 a1 a2 a3 a4 {a5}, (∀ b n s, KeepsPair s (a5 b n s)) → ∀ s, Keeps s (nibUnitOn a0 a1 a2 a3 a4 a5 s) := by
  intro a0 a1 a2 a3 a4 a5 h s; unfold nibUnitOn
  refine nibUnit_keeps _ _ _ _ (fun n s => ?_) _
  split
  · split
    · exact h _ _ _
    · exact .bad _
  · exact .bad _

theorem nibUcmd_keeps : ∀ a0 a1 a2 a3 a4 s, Keeps s (nibUcmd a0 a1 a2 a3 a4 s) := by
  intro a0 a1 a2 a3 a4 s; delta nibUcmd
  exact (nibUnitOn_keeps _ _ _ _ _ (fun _ _ _ => (.pair (.mkSnd (.on (State.keepCrc_keeps _ _) (State.unitCmd_keeps _ _ _)))))
    _)

theorem nibPost_keeps : ∀ a0 a1 a2 a3 a4 s, Keeps s (nibPost a0 a1 a2 a3 a4 s) := by
  intro a0 a1 a2 a3 a4 s; unfold nibPost
  exact (nibUnit_keeps _ _ _ _ (fun _ _ => (.ite (.bad _) (by (try dsimp only); split; exacts [(.bad _), (.ite (State.postEntry_keeps _ _ _ _ _) (State.postMessage_keeps _ _ _ _ _))]))) _)

theorem execChannelRetrained_keeps : ∀ s, KeepsOn s (execChannelRetrained s) := by
  intro s; unfold execChannelRetrained; dsimp only
  exact (by split; exacts [(.next (.refl _)), (.ite (.next (.refl _)) (.next (.on (State.raise_keeps _ _ _) (.on (State.trained_keeps _ _) (.on (State.returnPool_keeps _) (.of rfl rfl rfl rfl rfl))))))])

end Sys2Proof.Machine
end

