-- ==== Sys2Proof/Laws/KeepsCmd1.lean ====
section
/-! SUPPORT. `KeepsOn` of the meanings, part 1 of 3: each answers a next state and leaves the queue, the ticks and what went out. -/

set_option linter.unusedTactic false
set_option linter.unreachableTactic false

namespace Sys2Proof.Machine

theorem execRegisterWrite_keeps : ∀ a0 a1 a2 s, KeepsOn s (execRegisterWrite a0 a1 a2 s) := by
  intro a0 a1 a2 s; delta execRegisterWrite
  exact (.ite (.next (.ite (State.accessErr_keeps _ _ _ _ _ _) (.refl _))) (.next (State.writeAll_keeps _ _ _ _)))

theorem execStaClear_keeps : ∀ a0 a1 a2 s, KeepsOn s (execStaClear a0 a1 a2 s) := by
  intro a0 a1 a2 s; delta execStaClear
  exact (.next (State.write32_keeps _ _ _ _ _))

theorem execCounterLowRead_keeps : ∀ a0 a1 s, KeepsOn s (execCounterLowRead a0 a1 s) := by
  intro a0 a1 s; delta execCounterLowRead
  exact (.next (.on (State.emit_keeps _ _) (State.readBy_keeps _ _ _)))

theorem execXdomTimeout_keeps : ∀ a0 a1 a2 s, KeepsOn s (execXdomTimeout a0 a1 a2 s) := by
  intro a0 a1 a2 s; unfold execXdomTimeout
  exact (.ite (.next (.refl _)) (by (try dsimp only); split; exacts [(.next (.ite (.on (State.setStaEv_keeps _ _ _ _ _) (State.logAccess_keeps _ _ _ _ _ _)) (.on (State.emit_keeps _ _) (.on (State.setStaEv_keeps _ _ _ _ _) (State.logAccess_keeps _ _ _ _ _ _))))), (by (try dsimp only); split; exacts [(.next (.on (State.setStaEv_keeps _ _ _ _ _) (State.logAccess_keeps _ _ _ _ _ _))), (.next (.on (nibUnit_keeps _ _ _ _ (fun _ _ => (.pair (State.setNib_keeps _ _ _))) _) (.on (State.setStaEv_keeps _ _ _ _ _) (State.logAccess_keeps _ _ _ _ _ _))))])]))

theorem execBlockEnable_keeps : ∀ a0 s, KeepsOn s (execBlockEnable a0 s) := by
  intro a0 s; delta execBlockEnable
  exact (.next (.on (State.blockEnable_keeps _ _) (State.accept_keeps _ _ _)))

theorem execBlockDisable_keeps : ∀ a0 s, KeepsOn s (execBlockDisable a0 s) := by
  intro a0 s; delta execBlockDisable
  exact (.ite (.next (State.accept_keeps _ _ _)) (.next (.on (.foldl (fun _ _ => by exact (.ite (State.scopeDisable_keeps _ _) (.refl _))) _ _) (.on (State.setBlockState_keeps _ _ _) (State.accept_keeps _ _ _)))))

theorem execBlockDrainEnd_keeps : ∀ a0 s, KeepsOn s (execBlockDrainEnd a0 s) := by
  intro a0 s; delta execBlockDrainEnd
  exact (.ite (.next (State.setBlockState_keeps _ _ _)) (.next (.refl _)))

theorem execUnitDrainEnd_keeps : ∀ a0 s, KeepsOn s (execUnitDrainEnd a0 s) := by
  intro a0 s; delta execUnitDrainEnd
  exact (.next (.on (State.freePool_keeps _) (State.drainEnd_keeps _ _)))

theorem execCrcCommit_keeps : ∀ a0 s, KeepsOn s (execCrcCommit a0 s) := by
  intro a0 s; delta execCrcCommit
  exact (.next (.ite (State.accept_keeps _ _ _) (.on (State.commitCrc_keeps _ _) (State.accept_keeps _ _ _))))

theorem execRescrubGo_keeps : ∀ a0 s, KeepsOn s (execRescrubGo a0 s) := by
  intro a0 s; delta execRescrubGo
  exact (.next (.on (State.setBlk_keeps _ _ _) (State.accept_keeps _ _ _)))

theorem execRescrub_keeps : ∀ a0 s, KeepsOn s (execRescrub a0 s) := by
  intro a0 s; delta execRescrub
  exact (.ite (.next (State.setBlk_keeps _ _ _)) (.ite (.next (State.setBlk_keeps _ _ _)) (.next (.on (State.setStaEv_keeps _
    _ _ _ _) (.on (State.count_keeps _ _ _) (State.setBlk_keeps _ _ _))))))

theorem execCompareHoldExpiry_keeps : ∀ a0 s, KeepsOn s (execCompareHoldExpiry a0 s) := by
  intro a0 s; delta execCompareHoldExpiry
  exact (.ite (.next (State.setBlk_keeps _ _ _)) (.next (.refl _)))

theorem execDriftRepair_keeps : ∀ a0 s, KeepsOn s (execDriftRepair a0 s) := by
  intro a0 s; delta execDriftRepair
  exact (.ite (.next (.refl _)) (.ite (.next (.ite (.on (State.setBlk_keeps _ _ _) (.ite (State.restoreBlock_keeps _ _ _)
    (.refl _))) (.ite (State.restoreBlock_keeps _ _ _) (.refl _)))) (.next (.on (State.setStaEv_keeps _ _ _ _ _) (.upd rfl rfl
    (.ite (.on (State.setBlk_keeps _ _ _) (.ite (State.restoreBlock_keeps _ _ _) (.refl _))) (.ite (State.restoreBlock_keeps _
    _ _) (.refl _))))))))

theorem execEvtRouteCommit_keeps : ∀ s, KeepsOn s (execEvtRouteCommit s) := by
  intro s; delta execEvtRouteCommit
  exact (.ite (.next (.on (State.commitWhere_keeps _ _ _) (State.accept_keeps _ _ _))) (.next (.on (State.setBlkSta_keeps _ _
    _) (State.accept_keeps _ _ _))))

theorem execProgLoad_keeps : ∀ a0 a1 a2 s, KeepsOn s (execProgLoad a0 a1 a2 s) := by
  intro a0 a1 a2 s; delta execProgLoad
  exact (.next (State.ctrl_keeps _ _ _ _ (fun _ _ => (.mkSnd (State.loadProgram_keeps _ _ _ _)))))

theorem execProgUnload_keeps : ∀ a0 a1 s, KeepsOn s (execProgUnload a0 a1 s) := by
  intro a0 a1 s; delta execProgUnload
  exact (.next (State.ctrl_keeps _ _ _ _ (fun _ _ => (.iteSnd (.mkSnd (State.unloadProgram_keeps _ _)) (.refl _)))))

theorem execProgStop_keeps : ∀ a0 s, KeepsOn s (execProgStop a0 s) := by
  intro a0 s; delta execProgStop
  exact (.ite (.next (.on (State.nibHalted_keeps _ _) (.on (State.setNib_keeps _ _ _) (State.accept_keeps _ _ _)))) (.next
    (State.accept_keeps _ _ _)))

theorem execProgRestart_keeps : ∀ a0 s, KeepsOn s (execProgRestart a0 s) := by
  intro a0 s; delta execProgRestart
  exact (.ite (.next (.on (State.setNib_keeps _ _ _) (State.accept_keeps _ _ _))) (.next (State.accept_keeps _ _ _)))

theorem execNibAdd_keeps : ∀ a0 a1 a2 a3 s, KeepsOn s (execNibAdd a0 a1 a2 a3 s) := by
  intro a0 a1 a2 a3 s; delta execNibAdd
  exact (.next (nibAlu_keeps _ _ _ _ _ _))

theorem execNibSub_keeps : ∀ a0 a1 a2 a3 s, KeepsOn s (execNibSub a0 a1 a2 a3 s) := by
  intro a0 a1 a2 a3 s; delta execNibSub
  exact (.next (nibAlu_keeps _ _ _ _ _ _))

theorem execNibAnd_keeps : ∀ a0 a1 a2 a3 s, KeepsOn s (execNibAnd a0 a1 a2 a3 s) := by
  intro a0 a1 a2 a3 s; delta execNibAnd
  exact (.next (nibAlu_keeps _ _ _ _ _ _))

theorem execNibOr_keeps : ∀ a0 a1 a2 a3 s, KeepsOn s (execNibOr a0 a1 a2 a3 s) := by
  intro a0 a1 a2 a3 s; delta execNibOr
  exact (.next (nibAlu_keeps _ _ _ _ _ _))

theorem execNibXor_keeps : ∀ a0 a1 a2 a3 s, KeepsOn s (execNibXor a0 a1 a2 a3 s) := by
  intro a0 a1 a2 a3 s; delta execNibXor
  exact (.next (nibAlu_keeps _ _ _ _ _ _))

theorem execNibSll_keeps : ∀ a0 a1 a2 a3 s, KeepsOn s (execNibSll a0 a1 a2 a3 s) := by
  intro a0 a1 a2 a3 s; delta execNibSll
  exact (.next (nibAlu_keeps _ _ _ _ _ _))

theorem execNibSrl_keeps : ∀ a0 a1 a2 a3 s, KeepsOn s (execNibSrl a0 a1 a2 a3 s) := by
  intro a0 a1 a2 a3 s; delta execNibSrl
  exact (.next (nibAlu_keeps _ _ _ _ _ _))

theorem execNibSra_keeps : ∀ a0 a1 a2 a3 s, KeepsOn s (execNibSra a0 a1 a2 a3 s) := by
  intro a0 a1 a2 a3 s; delta execNibSra
  exact (.next (nibAlu_keeps _ _ _ _ _ _))

theorem execNibMul_keeps : ∀ a0 a1 a2 a3 s, KeepsOn s (execNibMul a0 a1 a2 a3 s) := by
  intro a0 a1 a2 a3 s; delta execNibMul
  exact (.next (nibAlu_keeps _ _ _ _ _ _))

theorem execNibMulh_keeps : ∀ a0 a1 a2 a3 s, KeepsOn s (execNibMulh a0 a1 a2 a3 s) := by
  intro a0 a1 a2 a3 s; delta execNibMulh
  exact (.next (nibAlu_keeps _ _ _ _ _ _))

theorem execNibMulhu_keeps : ∀ a0 a1 a2 a3 s, KeepsOn s (execNibMulhu a0 a1 a2 a3 s) := by
  intro a0 a1 a2 a3 s; delta execNibMulhu
  exact (.next (nibAlu_keeps _ _ _ _ _ _))

theorem execNibMin_keeps : ∀ a0 a1 a2 a3 s, KeepsOn s (execNibMin a0 a1 a2 a3 s) := by
  intro a0 a1 a2 a3 s; delta execNibMin
  exact (.next (nibAlu_keeps _ _ _ _ _ _))

theorem execNibMax_keeps : ∀ a0 a1 a2 a3 s, KeepsOn s (execNibMax a0 a1 a2 a3 s) := by
  intro a0 a1 a2 a3 s; delta execNibMax
  exact (.next (nibAlu_keeps _ _ _ _ _ _))

theorem execNibMinu_keeps : ∀ a0 a1 a2 a3 s, KeepsOn s (execNibMinu a0 a1 a2 a3 s) := by
  intro a0 a1 a2 a3 s; delta execNibMinu
  exact (.next (nibAlu_keeps _ _ _ _ _ _))

theorem execNibMaxu_keeps : ∀ a0 a1 a2 a3 s, KeepsOn s (execNibMaxu a0 a1 a2 a3 s) := by
  intro a0 a1 a2 a3 s; delta execNibMaxu
  exact (.next (nibAlu_keeps _ _ _ _ _ _))

theorem execNibClz_keeps : ∀ a0 a1 a2 a3 s, KeepsOn s (execNibClz a0 a1 a2 a3 s) := by
  intro a0 a1 a2 a3 s; delta execNibClz
  exact (.next (nibAlu_keeps _ _ _ _ _ _))

theorem execNibCmpeq_keeps : ∀ a0 a1 a2 a3 s, KeepsOn s (execNibCmpeq a0 a1 a2 a3 s) := by
  intro a0 a1 a2 a3 s; delta execNibCmpeq
  exact (.next (nibCmp_keeps _ _ _ _ _ _))

theorem execNibCmpne_keeps : ∀ a0 a1 a2 a3 s, KeepsOn s (execNibCmpne a0 a1 a2 a3 s) := by
  intro a0 a1 a2 a3 s; delta execNibCmpne
  exact (.next (nibCmp_keeps _ _ _ _ _ _))

theorem execNibCmplt_keeps : ∀ a0 a1 a2 a3 s, KeepsOn s (execNibCmplt a0 a1 a2 a3 s) := by
  intro a0 a1 a2 a3 s; delta execNibCmplt
  exact (.next (nibCmp_keeps _ _ _ _ _ _))

theorem execNibCmpltu_keeps : ∀ a0 a1 a2 a3 s, KeepsOn s (execNibCmpltu a0 a1 a2 a3 s) := by
  intro a0 a1 a2 a3 s; delta execNibCmpltu
  exact (.next (nibCmp_keeps _ _ _ _ _ _))

theorem execNibCmpge_keeps : ∀ a0 a1 a2 a3 s, KeepsOn s (execNibCmpge a0 a1 a2 a3 s) := by
  intro a0 a1 a2 a3 s; delta execNibCmpge
  exact (.next (nibCmp_keeps _ _ _ _ _ _))

theorem execNibCmpgeu_keeps : ∀ a0 a1 a2 a3 s, KeepsOn s (execNibCmpgeu a0 a1 a2 a3 s) := by
  intro a0 a1 a2 a3 s; delta execNibCmpgeu
  exact (.next (nibCmp_keeps _ _ _ _ _ _))

theorem execNibPand_keeps : ∀ a0 a1 a2 a3 s, KeepsOn s (execNibPand a0 a1 a2 a3 s) := by
  intro a0 a1 a2 a3 s; delta execNibPand
  exact (.next (nibPredOp_keeps _ _ _ _ _ _ _))

theorem execNibPor_keeps : ∀ a0 a1 a2 a3 s, KeepsOn s (execNibPor a0 a1 a2 a3 s) := by
  intro a0 a1 a2 a3 s; delta execNibPor
  exact (.next (nibPredOp_keeps _ _ _ _ _ _ _))

theorem execNibPnot_keeps : ∀ a0 a1 a2 a3 s, KeepsOn s (execNibPnot a0 a1 a2 a3 s) := by
  intro a0 a1 a2 a3 s; delta execNibPnot
  exact (.next (nibPredOp_keeps _ _ _ _ _ _ _))

theorem execNibJr_keeps : ∀ a0 a1 s, KeepsOn s (execNibJr a0 a1 s) := by
  intro a0 a1 s; delta execNibJr
  exact (.next (nibStep_keeps _ _ _))

theorem execNibNop_keeps : ∀ a0 s, KeepsOn s (execNibNop a0 s) := by
  intro a0 s; delta execNibNop
  exact (.next (nibStep_keeps _ _ _))

theorem execNibHalt_keeps : ∀ a0 s, KeepsOn s (execNibHalt a0 s) := by
  intro a0 s; delta execNibHalt
  exact (.next (nibStepS_keeps _ (fun _ _ => (.ok (.on (State.nibHalted_keeps _ _) (State.setNib_keeps _ _ _)))) _))

theorem execNibMfs_keeps : ∀ a0 a1 a2 s, KeepsOn s (execNibMfs a0 a1 a2 s) := by
  intro a0 a1 a2 s; delta execNibMfs
  exact (.next (nibStep_keeps _ _ _))

theorem execNibMts_keeps : ∀ a0 a1 a2 s, KeepsOn s (execNibMts a0 a1 a2 s) := by
  intro a0 a1 a2 s; delta execNibMts
  exact (.next (nibStep_keeps _ _ _))

theorem execNibSbnd_keeps : ∀ a0 s, KeepsOn s (execNibSbnd a0 s) := by
  intro a0 s; delta execNibSbnd
  exact (.next (nibStep_keeps _ _ _))

theorem execNibEret_keeps : ∀ a0 s, KeepsOn s (execNibEret a0 s) := by
  intro a0 s; delta execNibEret
  exact (.next (nibStep_keeps _ _ _))

theorem execNibTread_keeps : ∀ a0 a1 a2 s, KeepsOn s (execNibTread a0 a1 a2 s) := by
  intro a0 a1 a2 s; delta execNibTread
  exact (.next (nibStep_keeps _ _ _))

theorem execNibTwait_keeps : ∀ a0 a1 a2 a3 s, KeepsOn s (execNibTwait a0 a1 a2 a3 s) := by
  intro a0 a1 a2 a3 s; delta execNibTwait
  exact (.next (nibStepS_keeps _ (fun _ _ => (.ite (.error _) (.ok (State.decideWait_keeps _ _ _ _)))) _))

theorem execNibAddi_keeps : ∀ a0 a1 a2 a3 s, KeepsOn s (execNibAddi a0 a1 a2 a3 s) := by
  intro a0 a1 a2 a3 s; delta execNibAddi
  exact (.next (nibImm_keeps _ _ _ _ _))

theorem execNibAndi_keeps : ∀ a0 a1 a2 a3 s, KeepsOn s (execNibAndi a0 a1 a2 a3 s) := by
  intro a0 a1 a2 a3 s; delta execNibAndi
  exact (.next (nibImm_keeps _ _ _ _ _))

theorem execNibOri_keeps : ∀ a0 a1 a2 a3 s, KeepsOn s (execNibOri a0 a1 a2 a3 s) := by
  intro a0 a1 a2 a3 s; delta execNibOri
  exact (.next (nibImm_keeps _ _ _ _ _))

theorem execNibXori_keeps : ∀ a0 a1 a2 a3 s, KeepsOn s (execNibXori a0 a1 a2 a3 s) := by
  intro a0 a1 a2 a3 s; delta execNibXori
  exact (.next (nibImm_keeps _ _ _ _ _))

theorem execNibLui_keeps : ∀ a0 a1 a2 s, KeepsOn s (execNibLui a0 a1 a2 s) := by
  intro a0 a1 a2 s; delta execNibLui
  exact (.next (nibImm_keeps _ _ _ _ _))

theorem execNibShi_keeps : ∀ a0 a1 a2 a3 s, KeepsOn s (execNibShi a0 a1 a2 a3 s) := by
  intro a0 a1 a2 a3 s; delta execNibShi
  exact (.next (nibStep_keeps _ _ _))

theorem execNibCmpeqi_keeps : ∀ a0 a1 a2 a3 s, KeepsOn s (execNibCmpeqi a0 a1 a2 a3 s) := by
  intro a0 a1 a2 a3 s; delta execNibCmpeqi
  exact (.next (nibCmpImm_keeps _ _ _ _ _))

theorem execNibCmplti_keeps : ∀ a0 a1 a2 a3 s, KeepsOn s (execNibCmplti a0 a1 a2 a3 s) := by
  intro a0 a1 a2 a3 s; delta execNibCmplti
  exact (.next (nibCmpImm_keeps _ _ _ _ _))

theorem execNibCmpltui_keeps : ∀ a0 a1 a2 a3 s, KeepsOn s (execNibCmpltui a0 a1 a2 a3 s) := by
  intro a0 a1 a2 a3 s; delta execNibCmpltui
  exact (.next (nibCmpImm_keeps _ _ _ _ _))

theorem execNibLw_keeps : ∀ a0 a1 a2 a3 s, KeepsOn s (execNibLw a0 a1 a2 a3 s) := by
  intro a0 a1 a2 a3 s; delta execNibLw
  exact (.next (nibLoad_keeps _ _ _ _ _ _ _))

theorem execNibLh_keeps : ∀ a0 a1 a2 a3 s, KeepsOn s (execNibLh a0 a1 a2 a3 s) := by
  intro a0 a1 a2 a3 s; delta execNibLh
  exact (.next (nibLoad_keeps _ _ _ _ _ _ _))

theorem execNibLhu_keeps : ∀ a0 a1 a2 a3 s, KeepsOn s (execNibLhu a0 a1 a2 a3 s) := by
  intro a0 a1 a2 a3 s; delta execNibLhu
  exact (.next (nibLoad_keeps _ _ _ _ _ _ _))

theorem execNibLb_keeps : ∀ a0 a1 a2 a3 s, KeepsOn s (execNibLb a0 a1 a2 a3 s) := by
  intro a0 a1 a2 a3 s; delta execNibLb
  exact (.next (nibLoad_keeps _ _ _ _ _ _ _))

theorem execNibLbu_keeps : ∀ a0 a1 a2 a3 s, KeepsOn s (execNibLbu a0 a1 a2 a3 s) := by
  intro a0 a1 a2 a3 s; delta execNibLbu
  exact (.next (nibLoad_keeps _ _ _ _ _ _ _))

theorem execNibSw_keeps : ∀ a0 a1 a2 a3 s, KeepsOn s (execNibSw a0 a1 a2 a3 s) := by
  intro a0 a1 a2 a3 s; delta execNibSw
  exact (.next (nibStore_keeps _ _ _ _ _ _))

theorem execNibSh_keeps : ∀ a0 a1 a2 a3 s, KeepsOn s (execNibSh a0 a1 a2 a3 s) := by
  intro a0 a1 a2 a3 s; delta execNibSh
  exact (.next (nibStore_keeps _ _ _ _ _ _))

theorem execNibSb_keeps : ∀ a0 a1 a2 a3 s, KeepsOn s (execNibSb a0 a1 a2 a3 s) := by
  intro a0 a1 a2 a3 s; delta execNibSb
  exact (.next (nibStore_keeps _ _ _ _ _ _))

theorem execNibBr_keeps : ∀ a0 a1 a2 a3 s, KeepsOn s (execNibBr a0 a1 a2 a3 s) := by
  intro a0 a1 a2 a3 s; delta execNibBr
  exact (.next (nibStep_keeps _ _ _))

theorem execNibCall_keeps : ∀ a0 a1 a2 a3 s, KeepsOn s (execNibCall a0 a1 a2 a3 s) := by
  intro a0 a1 a2 a3 s; delta execNibCall
  exact (.next (nibStep_keeps _ _ _))

theorem execNibLoop_keeps : ∀ a0 a1 a2 a3 s, KeepsOn s (execNibLoop a0 a1 a2 a3 s) := by
  intro a0 a1 a2 a3 s; delta execNibLoop
  exact (.next (nibLoopEntry_keeps _ _ _ _ _ _))

theorem execNibLoopm_keeps : ∀ a0 a1 a2 a3 s, KeepsOn s (execNibLoopm a0 a1 a2 a3 s) := by
  intro a0 a1 a2 a3 s; delta execNibLoopm
  exact (.next (nibLoopEntry_keeps _ _ _ _ _ _))

theorem execUcmdEnable_keeps : ∀ a0 a1 a2 a3 s, KeepsOn s (execUcmdEnable a0 a1 a2 a3 s) := by
  intro a0 a1 a2 a3 s; delta execUcmdEnable
  exact (.next (nibUcmd_keeps _ _ _ _ _ _))

theorem execUcmdDisable_keeps : ∀ a0 a1 a2 a3 s, KeepsOn s (execUcmdDisable a0 a1 a2 a3 s) := by
  intro a0 a1 a2 a3 s; delta execUcmdDisable
  exact (.next (nibUcmd_keeps _ _ _ _ _ _))

theorem execUcmdArm_keeps : ∀ a0 a1 a2 a3 s, KeepsOn s (execUcmdArm a0 a1 a2 a3 s) := by
  intro a0 a1 a2 a3 s; delta execUcmdArm
  exact (.next (nibUcmd_keeps _ _ _ _ _ _))

theorem execUcmdDisarm_keeps : ∀ a0 a1 a2 a3 s, KeepsOn s (execUcmdDisarm a0 a1 a2 a3 s) := by
  intro a0 a1 a2 a3 s; delta execUcmdDisarm
  exact (.next (nibUcmd_keeps _ _ _ _ _ _))

theorem execUcmdStart_keeps : ∀ a0 a1 a2 a3 s, KeepsOn s (execUcmdStart a0 a1 a2 a3 s) := by
  intro a0 a1 a2 a3 s; delta execUcmdStart
  exact (.next (nibUcmd_keeps _ _ _ _ _ _))

theorem execUcmdStop_keeps : ∀ a0 a1 a2 a3 s, KeepsOn s (execUcmdStop a0 a1 a2 a3 s) := by
  intro a0 a1 a2 a3 s; delta execUcmdStop
  exact (.next (nibUcmd_keeps _ _ _ _ _ _))

theorem execUcmdFlush_keeps : ∀ a0 a1 a2 a3 s, KeepsOn s (execUcmdFlush a0 a1 a2 a3 s) := by
  intro a0 a1 a2 a3 s; delta execUcmdFlush
  exact (.next (nibUcmd_keeps _ _ _ _ _ _))

theorem execUcmdHoldReset_keeps : ∀ a0 a1 a2 a3 s, KeepsOn s (execUcmdHoldReset a0 a1 a2 a3 s) := by
  intro a0 a1 a2 a3 s; delta execUcmdHoldReset
  exact (.next (nibUcmd_keeps _ _ _ _ _ _))

theorem execPop_keeps : ∀ a0 a1 a2 a3 s, KeepsOn s (execPop a0 a1 a2 a3 s) := by
  intro a0 a1 a2 a3 s; delta execPop
  exact (.next (nibUcmd_keeps _ _ _ _ _ _))

theorem execUstage_keeps : ∀ a0 a1 a2 a3 a4 s, KeepsOn s (execUstage a0 a1 a2 a3 a4 s) := by
  intro a0 a1 a2 a3 a4 s; unfold execUstage
  exact (.next (nibUnitOn_keeps _ _ _ _ _ (fun _ _ _ => (by (try dsimp only); split; exacts [(.bad _), (by (try dsimp only); split; exacts [(.ite (.pair (.on (.when (fun _ => (State.keepCrc_keeps _ _)) _ _) (.on (State.stageCoefs_keeps _ _ _ _) (eccScrub_keeps _ _ _ _)))) (.pair (eccScrub_keeps _ _ _ _))), (.ite (.pair (.on (State.stageWindow_keeps _ _ _) (eccScrub_keeps _ _ _ _))) (.pair (eccScrub_keeps _ _ _ _))), (.pair (eccScrub_keeps _ _ _ _))])])) _))

theorem execUcommit_keeps : ∀ a0 a1 a2 a3 s, KeepsOn s (execUcommit a0 a1 a2 a3 s) := by
  intro a0 a1 a2 a3 s; unfold execUcommit
  refine .next (nibUnitOn_keeps _ _ _ _ _ (fun b n s => ?_) _)
  dsimp only
  exact .pair (.foldlSnd (fun _ _ => by exact State.unitCommit_keeps _ _) _ (_, _))

theorem execUwait_keeps : ∀ a0 a1 a2 a3 a4 a5 s, KeepsOn s (execUwait a0 a1 a2 a3 a4 a5 s) := by
  intro a0 a1 a2 a3 a4 a5 s; unfold execUwait; dsimp only
  exact (.next (nibStepS_keeps _ (fun _ _ => (.ite (.error _) (by split; exacts [(.error _), (.ite (.error _) (.ite (.ok (State.decideWait_keeps _ _ _ _)) (.ok (State.endWait_keeps _ _ _ _))))]))) _))

theorem execUread_keeps : ∀ a0 a1 a2 a3 s, KeepsOn s (execUread a0 a1 a2 a3 s) := by
  intro a0 a1 a2 a3 s; delta execUread
  exact (.next (nibUnitOn_keeps _ _ _ _ _ (fun _ _ _ => (.ite (.bad _) (.pair (.mkSnd (.on (State.setNib_keeps _ _ _)
    (State.unitRead_keeps _ _ _ _)))))) _))

theorem execUwrite_keeps : ∀ a0 a1 a2 a3 s, KeepsOn s (execUwrite a0 a1 a2 a3 s) := by
  intro a0 a1 a2 a3 s; delta execUwrite
  exact (.next (nibUnitOn_keeps _ _ _ _ _ (fun _ _ _ => (.ite (.bad _) (.pair (State.unitWrite_keeps _ _ _ _ _)))) _))

theorem execPost_keeps : ∀ a0 a1 a2 a3 a4 s, KeepsOn s (execPost a0 a1 a2 a3 a4 s) := by
  intro a0 a1 a2 a3 a4 s; delta execPost
  exact (.next (nibPost_keeps _ _ _ _ _ _))

theorem execPostCascade_keeps : ∀ a0 a1 a2 a3 s, KeepsOn s (execPostCascade a0 a1 a2 a3 s) := by
  intro a0 a1 a2 a3 s; delta execPostCascade
  exact (.next (nibPost_keeps _ _ _ _ _ _))

theorem execBarrier_keeps : ∀ a0 a1 a2 a3 s, KeepsOn s (execBarrier a0 a1 a2 a3 s) := by
  intro a0 a1 a2 a3 s; unfold execBarrier; dsimp only
  exact (.next (nibStepS_keeps _ (fun _ _ => (.ite (.error _) (by split; exacts [(.ok (.on (State.decideWait_keeps _ _ _ _) (.ite (State.barrierRelease_keeps _ _ _) (.refl _)))), (.error _)]))) _))

theorem execWaitDecision_keeps : ∀ a0 a1 s, KeepsOn s (execWaitDecision a0 a1 s) := by
  intro a0 a1 s; unfold execWaitDecision
  exact (by (try dsimp only); split; exacts [(.next (State.decideWait_keeps _ _ _ _)), (.next (.refl _))])

theorem execWaitTimeout_keeps : ∀ a0 a1 s, KeepsOn s (execWaitTimeout a0 a1 s) := by
  intro a0 a1 s; unfold execWaitTimeout
  exact (by (try dsimp only); split; exacts [(.next (.ite (State.decideWait_keeps _ _ _ _) (.refl _))), (.next (.refl _))])

theorem execSampleFrame_keeps : ∀ a0 s, KeepsOn s (execSampleFrame a0 s) := by
  intro a0 s; delta execSampleFrame
  exact (.next (State.rxKind_keeps _ _ _))

theorem execIdleFrame_keeps : ∀ a0 s, KeepsOn s (execIdleFrame a0 s) := by
  intro a0 s; delta execIdleFrame
  exact (.next (State.rxKind_keeps _ _ _))

theorem execRttMark_keeps : ∀ a0 s, KeepsOn s (execRttMark a0 s) := by
  intro a0 s; delta execRttMark
  exact (.next (State.rxKind_keeps _ _ _))

theorem execFrameLock_keeps : ∀ a0 a1 s, KeepsOn s (execFrameLock a0 a1 s) := by
  intro a0 a1 s; delta execFrameLock
  exact (.ite (.next (.refl _)) (.next (.ite (.on (State.setSta_keeps _ _ _) (.on (State.setFld_keeps _ _ _ _) (.on
    (State.setFld_keeps _ _ _ _) (State.setLaneState_keeps _ _ _)))) (.on (State.setFld_keeps _ _ _ _) (.on
    (State.setFld_keeps _ _ _ _) (State.setLaneState_keeps _ _ _))))))

theorem execLossOfLock_keeps : ∀ a0 a1 s, KeepsOn s (execLossOfLock a0 a1 s) := by
  intro a0 a1 s; delta execLossOfLock
  exact (.ite (.next (.refl _)) (.next (.on (State.loseLock_keeps _ _ _ _) (State.setSta_keeps _ _ _))))

theorem execLosAssert_keeps : ∀ a0 a1 s, KeepsOn s (execLosAssert a0 a1 s) := by
  intro a0 a1 s; delta execLosAssert
  exact (.next (.ite (.on (State.setSta_keeps _ _ _) (State.setFld_keeps _ _ _ _)) (.on (State.loseLock_keeps _ _ _ _) (.on
    (State.setSta_keeps _ _ _) (State.setFld_keeps _ _ _ _)))))

theorem execLosDeassert_keeps : ∀ a0 a1 s, KeepsOn s (execLosDeassert a0 a1 s) := by
  intro a0 a1 s; delta execLosDeassert
  exact (.next (.ite (.on (State.setLaneState_keeps _ _ _) (State.setFld_keeps _ _ _ _)) (State.setFld_keeps _ _ _ _)))

theorem execOptLow_keeps : ∀ a0 a1 s, KeepsOn s (execOptLow a0 a1 s) := by
  intro a0 a1 s; delta execOptLow
  exact (.next (.ite (.refl _) (State.raise_keeps _ _ _)))

theorem execDfeTapStep_keeps : ∀ a0 a1 s, KeepsOn s (execDfeTapStep a0 a1 s) := by
  intro a0 a1 s; delta execDfeTapStep
  exact (.ite (.next (.refl _)) (.next (.on (State.setFld_keeps _ _ _ _) (State.setFld_keeps _ _ _ _))))

theorem execDfeRail_keeps : ∀ a0 s, KeepsOn s (execDfeRail a0 s) := by
  intro a0 s; delta execDfeRail
  exact (.next (.ite (State.setSta_keeps _ _ _) (.refl _)))

theorem execCdrLock_keeps : ∀ a0 s, KeepsOn s (execCdrLock a0 s) := by
  intro a0 s; delta execCdrLock
  exact (.next (.ite (State.setLaneState_keeps _ _ _) (.refl _)))

theorem execTapsSettled_keeps : ∀ a0 s, KeepsOn s (execTapsSettled a0 s) := by
  intro a0 s; delta execTapsSettled
  exact (.next (.ite (State.setLaneState_keeps _ _ _) (.refl _)))

theorem execSeqFound_keeps : ∀ a0 a1 a2 s, KeepsOn s (execSeqFound a0 a1 a2 s) := by
  intro a0 a1 a2 s; unfold execSeqFound; dsimp only
  exact (.ite (.next (.refl _)) (by split; exacts [(.next (.ite (.on (State.setPort_keeps _ _ _) (State.setFld_keeps _ _ _ _)) (State.setFld_keeps _ _ _ _))), (.next (State.setFld_keeps _ _ _ _))]))

theorem execLaneReady_keeps : ∀ a0 a1 s, KeepsOn s (execLaneReady a0 a1 s) := by
  intro a0 a1 s; unfold execLaneReady; dsimp only
  exact (.ite (.next (.refl _)) (by split; exacts [(.ite (.next (.on (State.setSta_keeps _ _ _) (State.setFld_keeps _ _ _ _))) (.ite (.ite (.next (.on (State.setFld_keeps _ _ _ _) (.on (State.setFld_keeps _ _ _ _) (.on (State.setLaneState_keeps _ _ _) (State.setFld_keeps _ _ _ _))))) (.next (.on (State.setLaneState_keeps _ _ _) (State.setFld_keeps _ _ _ _)))) (.next (.ite (.on (.foldl (fun _ _ => by exact (.ite (State.setSta_keeps _ _ _) (.refl _))) _ _) (.on (State.bringMap_keeps _ _) (.on (State.setLaneState_keeps _ _ _) (State.setFld_keeps _ _ _ _)))) (.on (State.bringMap_keeps _ _) (.on (State.setLaneState_keeps _ _ _) (State.setFld_keeps _ _ _ _))))))), (.next (.on (State.cascReady_keeps _ _) (State.setLaneState_keeps _ _ _)))]))

theorem execPortRestore_keeps : ∀ a0 s, KeepsOn s (execPortRestore a0 s) := by
  intro a0 s; delta execPortRestore
  exact (.ite (.next (State.accept_keeps _ _ _)) (.next (.on (State.sendLaneMap_keeps _ _ _ _ _) (.on
    (State.setPortState_keeps _ _ _) (.on (State.setPort_keeps _ _ _) (.on (State.setTxMap_keeps _ _ _ _) (State.accept_keeps
    _ _ _)))))))

theorem execPortRetrain_keeps : ∀ a0 s, KeepsOn s (execPortRetrain a0 s) := by
  intro a0 s; delta execPortRetrain
  exact (.ite (.next (State.accept_keeps _ _ _)) (.next (.on (State.portTdc_keeps _ _ _) (.on (State.setLink_keeps _ _ _) (.on
    (State.setPort_keeps _ _ _) (.on (State.setFld_keeps _ _ _ _) (.on (State.setPortState_keeps _ _ _) (.on
    (State.restartLanes_keeps _ _) (State.accept_keeps _ _ _)))))))))

theorem execSingleGo_keeps : ∀ a0 s, KeepsOn s (execSingleGo a0 s) := by
  intro a0 s; delta execSingleGo
  exact (.next (.on (State.inject_keeps _ _ _) (State.accept_keeps _ _ _)))

theorem execBurstGo_keeps : ∀ a0 s, KeepsOn s (execBurstGo a0 s) := by
  intro a0 s; delta execBurstGo
  exact (.next (.on (State.inject_keeps _ _ _) (State.accept_keeps _ _ _)))

theorem execRateInject_keeps : ∀ a0 s, KeepsOn s (execRateInject a0 s) := by
  intro a0 s; delta execRateInject
  exact (.next (.ite (State.inject_keeps _ _ _) (.refl _)))

theorem execCheckerLock_keeps : ∀ a0 s, KeepsOn s (execCheckerLock a0 s) := by
  intro a0 s; delta execCheckerLock
  exact (.next (.ite (State.setFld_keeps _ _ _ _) (.refl _)))

theorem execCheckerLoss_keeps : ∀ a0 a1 a2 s, KeepsOn s (execCheckerLoss a0 a1 a2 s) := by
  intro a0 a1 a2 s; delta execCheckerLoss
  exact (.ite (.next (.refl _)) (.next (.on (State.count64_keeps _ _ _ _) (.on (State.count64_keeps _ _ _ _)
    (State.setFld_keeps _ _ _ _)))))

theorem execCascSlip_keeps : ∀ a0 a1 s, KeepsOn s (execCascSlip a0 a1 s) := by
  intro a0 a1 s; delta execCascSlip
  exact (.ite (.next (.refl _)) (.next (.on (State.raise_keeps _ _ _) (.on (State.setSta_keeps _ _ _) (.on (State.count_keeps
    _ _ _) (State.count_keeps _ _ _))))))

theorem execLinkRetrain_keeps : ∀ a0 s, KeepsOn s (execLinkRetrain a0 s) := by
  intro a0 s; delta execLinkRetrain
  exact (.ite (.next (State.accept_keeps _ _ _)) (.next (.ite (.on (State.cascLeave_keeps _ _) (.on (State.setLinkState_keeps
    _ _ _) (.on (State.restartCasc_keeps _ _) (State.accept_keeps _ _ _)))) (.on (State.setLinkState_keeps _ _ _) (.on
    (State.restartCasc_keeps _ _) (State.accept_keeps _ _ _))))))

theorem execTrigFrame_keeps : ∀ a0 s, KeepsOn s (execTrigFrame a0 s) := by
  intro a0 s; delta execTrigFrame
  exact (.next (State.rxCasc_keeps _ _ _ (fun _ _ => (.on (.foldl (fun _ _ => (State.setSource_keeps _ _ _)) _ _) (.foldl (fun
    _ _ => (State.takeTrig_keeps _ _ _)) _ _)))))

theorem execTrigFrameSend_keeps : ∀ a0 s, KeepsOn s (execTrigFrameSend a0 s) := by
  intro a0 s; delta execTrigFrameSend
  exact (.ite (.next (.refl _)) (.next (.on (.foldl (fun _ _ => (State.sendCasc_keeps _ _ _ _)) _ _) (.on (.foldl (fun _ _ =>
    (State.sendCasc_keeps _ _ _ _)) _ _) (.on (State.sendCasc_keeps _ _ _ _) (State.setCascade_keeps _ _ _))))))

theorem execDensityFrame_keeps : ∀ a0 s, KeepsOn s (execDensityFrame a0 s) := by
  intro a0 s; delta execDensityFrame
  exact (.next (State.rxCasc_keeps _ _ _ (fun _ _ => (.foldl (fun _ _ => by exact (.ite (.refl _) (State.planeMerge_keeps _ _ _))) _ _))))

theorem execNibmsgFrame_keeps : ∀ a0 s, KeepsOn s (execNibmsgFrame a0 s) := by
  intro a0 s; delta execNibmsgFrame
  exact (.next (State.rxCasc_keeps _ _ _ (fun _ _ => (State.nibMessage_keeps _ _ _))))

theorem execHeadId_keeps : ∀ a0 s, KeepsOn s (execHeadId a0 s) := by
  intro a0 s; delta execHeadId
  exact (.next (State.rxKind_keeps _ _ _))

theorem execHeadIdTimeout_keeps : ∀ a0 s, KeepsOn s (execHeadIdTimeout a0 s) := by
  intro a0 s; delta execHeadIdTimeout
  exact (.next (.ite (State.refuseHead_keeps _ _ _ _) (.refl _)))

theorem execHeadLife_keeps : ∀ a0 s, KeepsOn s (execHeadLife a0 s) := by
  intro a0 s; delta execHeadLife
  exact (.next (State.rxKind_keeps _ _ _))

theorem execHeadSilent_keeps : ∀ a0 s, KeepsOn s (execHeadSilent a0 s) := by
  intro a0 s; delta execHeadSilent
  exact (.next (.ite (.on (State.raise_keeps _ _ _) (.on (State.setSta_keeps _ _ _) (State.setLink_keeps _ _ _))) (.refl _)))

theorem execHeadCfg_keeps : ∀ a0 s, KeepsOn s (execHeadCfg a0 s) := by
  intro a0 s; delta execHeadCfg
  exact (.next (State.rxKind_keeps _ _ _))

theorem execHeadCfgTimeout_keeps : ∀ a0 s, KeepsOn s (execHeadCfgTimeout a0 s) := by
  intro a0 s; unfold execHeadCfgTimeout
  exact (.next (by (try dsimp only); split; exacts [(.refl _), (.ite (.refl _) (.ite (State.sendHeadCfg_keeps _ _ _ _) (State.msgFail_keeps _ _ _)))]))

theorem execHeadCal_keeps : ∀ a0 s, KeepsOn s (execHeadCal a0 s) := by
  intro a0 s; delta execHeadCal
  exact (.next (State.rxKind_keeps _ _ _))

theorem execLaneMap_keeps : ∀ a0 s, KeepsOn s (execLaneMap a0 s) := by
  intro a0 s; delta execLaneMap
  exact (.next (State.rxKind_keeps _ _ _))

theorem execRttReply_keeps : ∀ a0 s, KeepsOn s (execRttReply a0 s) := by
  intro a0 s; delta execRttReply
  exact (.next (State.rxKind_keeps _ _ _))

theorem execRttMeasure_keeps : ∀ a0 a1 s, KeepsOn s (execRttMeasure a0 a1 s) := by
  intro a0 a1 s; delta execRttMeasure
  exact (.next (.ite (.on (State.sendFrame_keeps _ _ _ _) (State.setLink_keeps _ _ _)) (.refl _)))

theorem execRttAbandon_keeps : ∀ a0 s, KeepsOn s (execRttAbandon a0 s) := by
  intro a0 s; delta execRttAbandon
  exact (.next (State.setLink_keeps _ _ _))

theorem execHeadImageStatus_keeps : ∀ a0 s, KeepsOn s (execHeadImageStatus a0 s) := by
  intro a0 s; delta execHeadImageStatus
  exact (.next (State.rxKind_keeps _ _ _))

theorem execAlarm_keeps : ∀ a0 s, KeepsOn s (execAlarm a0 s) := by
  intro a0 s; delta execAlarm
  exact (.next (State.rxKind_keeps _ _ _))

theorem execAck_keeps : ∀ a0 s, KeepsOn s (execAck a0 s) := by
  intro a0 s; delta execAck
  exact (.next (State.rxKind_keeps _ _ _))

theorem execAckSend_keeps : ∀ a0 s, KeepsOn s (execAckSend a0 s) := by
  intro a0 s; delta execAckSend
  exact (.next (.ite (.on (State.sendFrame_keeps _ _ _ _) (State.setLink_keeps _ _ _)) (.refl _)))

theorem execMsgResend_keeps : ∀ a0 s, KeepsOn s (execMsgResend a0 s) := by
  intro a0 s; unfold execMsgResend; dsimp only
  exact (by split; exacts [(.next (.refl _)), (.ite (.next (State.msgFail_keeps _ _ _)) (.next (.on (.foldl (fun _ _ => (State.transmit_keeps _ _ _)) _ _) (.on (State.count_keeps _ _ _) (State.setLink_keeps _ _ _)))))])

theorem execIdReqGo_keeps : ∀ a0 s, KeepsOn s (execIdReqGo a0 s) := by
  intro a0 s; delta execIdReqGo
  exact (.next (.ite (.on (State.sendHeadCfg_keeps _ _ _ _) (State.accept_keeps _ _ _)) (State.accept_keeps _ _ _)))

theorem execImageActivateGo_keeps : ∀ a0 s, KeepsOn s (execImageActivateGo a0 s) := by
  intro a0 s; delta execImageActivateGo
  exact (.next (.ite (.on (State.sendHeadCfg_keeps _ _ _ _) (State.accept_keeps _ _ _)) (State.accept_keeps _ _ _)))

theorem execTakeoverGo_keeps : ∀ a0 s, KeepsOn s (execTakeoverGo a0 s) := by
  intro a0 s; delta execTakeoverGo
  exact (.next (.ite (.on (State.takeover_keeps _ _ _) (State.accept_keeps _ _ _)) (State.accept_keeps _ _ _)))

theorem execRevertGo_keeps : ∀ a0 s, KeepsOn s (execRevertGo a0 s) := by
  intro a0 s; unfold execRevertGo; dsimp only
  exact (.ite (.next (.on (State.raise_keeps _ _ _) (.on (State.setSta_keeps _ _ _) (.on (State.setFld_keeps _ _ _ _) (.on (State.setFld_keeps _ _ _ _) (.on (State.setLink_keeps _ _ _) (.on (.foldl (fun _ _ => by exact (by split; exacts [(.refl _), (State.setStream_keeps _ _ _)])) _ _) (State.accept_keeps _ _ _)))))))) (.next (State.accept_keeps _ _ _)))

end Sys2Proof.Machine
end

