-- ==== Sys2Proof/Laws/KeepsCmd2.lean ====
section
/-! SUPPORT. `KeepsOn` of the meanings, part 2 of 3: each answers a next state and leaves the queue, the ticks and what went out. -/

set_option linter.unusedTactic false
set_option linter.unreachableTactic false

namespace Sys2Proof.Machine

theorem execRttResetGo_keeps : ∀ a0 s, KeepsOn s (execRttResetGo a0 s) := by
  intro a0 s; delta execRttResetGo
  exact (.next (.on (State.setLink_keeps _ _ _) (State.accept_keeps _ _ _)))

theorem execHeadImage_keeps : ∀ a0 a1 a2 s, KeepsOn s (execHeadImage a0 a1 a2 s) := by
  intro a0 a1 a2 s; delta execHeadImage
  exact (.next (State.ctrl_keeps _ _ _ _ (fun _ _ => (.iteSnd (.refl _) (.mkSnd (State.headImage_keeps _ _ _ _))))))

theorem execTwinSwapGo_keeps : ∀ s, KeepsOn s (execTwinSwapGo s) := by
  intro s; delta execTwinSwapGo
  exact (.ite (.next (.on (State.twinSwap_keeps _) (State.accept_keeps _ _ _))) (.next (.on (State.busyDrop_keeps _ _ _)
    (State.accept_keeps _ _ _))))

theorem execRefRevertGo_keeps : ∀ s, KeepsOn s (execRefRevertGo s) := by
  intro s; delta execRefRevertGo
  exact (.ite (.next (.on (State.raise_keeps _ _ _) (.on (State.setSta_keeps _ _ _) (.on (State.setFld_keeps _ _ _ _)
    (State.accept_keeps _ _ _))))) (.next (State.accept_keeps _ _ _)))

theorem execRefLoss_keeps : ∀ a0 s, KeepsOn s (execRefLoss a0 s) := by
  intro a0 s; unfold execRefLoss; dsimp only
  exact (by split; exacts [(.ite (.next (.refl _)) (.next (.ite (.on (State.pllrRefLost_keeps _) (.of rfl rfl rfl rfl rfl)) (.of rfl rfl rfl rfl rfl)))), (.ite (.next (.refl _)) (.next (.ite (.on (State.pllrRefLost_keeps _) (.of rfl rfl rfl rfl rfl)) (.of rfl rfl rfl rfl rfl)))), (.ite (.next (.refl _)) (.next (.ite (.on (State.loseActive_keeps _ _) (.on (State.refLossEvent_keeps _ _) (.of rfl rfl rfl rfl rfl))) (.of rfl rfl rfl rfl rfl))))])

theorem execPllLock_keeps : ∀ a0 a1 s, KeepsOn s (execPllLock a0 a1 s) := by
  intro a0 a1 s; unfold execPllLock; dsimp only
  exact (.ite (.next (.refl _)) (by split; exacts [(.next (.on (State.setPll_keeps _ _ _) (.on (State.acquire_keeps _ _) (.on (State.setFld_keeps _ _ _ _) (State.measurePll_keeps _ _))))), (.next (State.measurePll_keeps _ _)), (.next (.on (State.setFld_keeps _ _ _ _) (State.measurePll_keeps _ _))), (.next (.on (State.setPll_keeps _ _ _) (.on (State.acquire_keeps _ _) (State.measurePll_keeps _ _)))), (.next (.on (State.setPll_keeps _ _ _) (State.measurePll_keeps _ _))), (.next (.on (State.raise_keeps _ _ _) (.on (State.setFld_keeps _ _ _ _) (.on (State.setPll_keeps _ _ _) (State.measurePll_keeps _ _))))), (.next (State.measurePll_keeps _ _))]))

theorem execPllLol_keeps : ∀ a0 a1 s, KeepsOn s (execPllLol a0 a1 s) := by
  intro a0 a1 s; delta execPllLol
  exact (.ite (.next (State.setFld_keeps _ _ _ _)) (.next (State.loseActive_keeps _ _)))

theorem execHoldoverExpiry_keeps : ∀ s, KeepsOn s (execHoldoverExpiry s) := by
  intro s; delta execHoldoverExpiry
  exact (.ite (.next (.refl _)) (.next (.on (State.stopPll_keeps _ _) (State.setFld_keeps _ _ _ _))))

theorem execRefReturn_keeps : ∀ a0 s, KeepsOn s (execRefReturn a0 s) := by
  intro a0 s; unfold execRefReturn; dsimp only
  exact (by split; exacts [(.next (.of rfl rfl rfl rfl rfl)), (.next (.of rfl rfl rfl rfl rfl)), (.next (.ite (.on (State.acquire_keeps _ _) (.of rfl rfl rfl rfl rfl)) (.of rfl rfl rfl rfl rfl)))])

theorem execSnapGo_keeps : ∀ s, KeepsOn s (execSnapGo s) := by
  intro s; delta execSnapGo
  exact (.ite (.next (.refl _)) (.next (.on (State.setReg_keeps _ _ _) (.on (State.setReg_keeps _ _ _) (.on
    (State.setReg64_keeps _ _ _ _) (.on (State.setReg64_keeps _ _ _ _) (.on (State.setReg64_keeps _ _ _ _) (State.accept_keeps
    _ _ _))))))))

theorem execIncrCommitGo_keeps : ∀ s, KeepsOn s (execIncrCommitGo s) := by
  intro s; delta execIncrCommitGo
  exact (.ite (.next (.refl _)) (.ite (.next (.on (State.commitRegs_keeps _ _ _) (State.accept_keeps _ _ _))) (.next (.on
    (State.blkEvent_keeps _ _ _ _ _) (State.accept_keeps _ _ _)))))

theorem execOnceGo_keeps : ∀ s, KeepsOn s (execOnceGo s) := by
  intro s; delta execOnceGo
  exact (.ite (.next (.refl _)) (.next (.on (State.blkEvent_keeps _ _ _ _ _) (.on (State.setFld_keeps _ _ _ _) (.on
    (State.addTbw_keeps _ _) (.on (State.commitRegs_keeps _ _ _) (State.accept_keeps _ _ _)))))))

theorem execTbmCommitGo_keeps : ∀ s, KeepsOn s (execTbmCommitGo s) := by
  intro s; delta execTbmCommitGo
  exact (.next (.upd rfl rfl (.on (State.commitRegs_keeps _ _ _) (State.accept_keeps _ _ _))))

theorem execTurnLoadApply_keeps : ∀ s, KeepsOn s (execTurnLoadApply s) := by
  intro s; unfold execTurnLoadApply; dsimp only
  exact (by split; exacts [(.next (.refl _)), (.ite (.next (.refl _)) (.next (.on (State.setFld_keeps _ _ _ _) (.of rfl rfl rfl rfl rfl))))])

theorem execFiducial_keeps : ∀ a0 s, KeepsOn s (execFiducial a0 s) := by
  intro a0 s; delta execFiducial
  exact (.ite (.next (.refl _)) (.ite (.next (State.setFld_keeps _ _ _ _)) (.ite (.next (.on (State.setFld_keeps _ _ _ _)
    (.upd rfl rfl (.on (State.blkEvent_keeps _ _ _ _ _) (State.count_keeps _ _ _))))) (.next (.on (State.blkEvent_keeps _ _ _
    _ _) (State.count_keeps _ _ _))))))

theorem execTdcStamp_keeps : ∀ a0 a1 a2 a3 a4 s, KeepsOn s (execTdcStamp a0 a1 a2 a3 a4 s) := by
  intro a0 a1 a2 a3 a4 s; delta execTdcStamp
  exact (.ite (.next (.on (State.activate_keeps _ _ _ _ _) (State.tdcStamped_keeps _ _ _ _ _ _))) (.next
    (State.tdcStamped_keeps _ _ _ _ _ _)))

theorem execTdcPop_keeps : ∀ a0 s, KeepsOn s (execTdcPop a0 s) := by
  intro a0 s; delta execTdcPop
  exact (.next (.on (State.tdcHead_keeps _ _) (.on (State.setTdc_keeps _ _ _) (State.accept_keeps _ _ _))))

theorem execTdcEnable_keeps : ∀ a0 s, KeepsOn s (execTdcEnable a0 s) := by
  intro a0 s; delta execTdcEnable
  exact (.next (.ite (.on (State.setScope_keeps _ _ _) (State.accept_keeps _ _ _)) (State.accept_keeps _ _ _)))

theorem execTdcDisable_keeps : ∀ a0 s, KeepsOn s (execTdcDisable a0 s) := by
  intro a0 s; delta execTdcDisable
  exact (.next (.on (State.setScope_keeps _ _ _) (State.accept_keeps _ _ _)))

theorem execIvalTimeout_keeps : ∀ a0 s, KeepsOn s (execIvalTimeout a0 s) := by
  intro a0 s; delta execIvalTimeout
  exact (.ite (.next (.refl _)) (.next (State.ivalReport_keeps _ _ _ _)))

theorem execGateEnd_keeps : ∀ a0 s, KeepsOn s (execGateEnd a0 s) := by
  intro a0 s; delta execGateEnd
  exact (.ite (.next (.refl _)) (.ite (.next (.on (.foldl (fun _ _ => (State.bucketAccepted_keeps _ _)) _ _)
    (State.gateEnd_keeps _ _))) (.next (State.gateEnd_keeps _ _))))

theorem execPpsIn_keeps : ∀ s, KeepsOn s (execPpsIn s) := by
  intro s; delta execPpsIn
  exact (.ite (.next (.refl _)) (.ite (.next (State.count_keeps _ _ _)) (.next (.on (State.blkEvent_keeps _ _ _ _ _) (.upd rfl
    rfl (.on (State.setReg64_keeps _ _ _ _) (State.setReg64_keeps _ _ _ _)))))))

theorem execPpsOutPulse_keeps : ∀ s, KeepsOn s (execPpsOutPulse s) := by
  intro s; delta execPpsOutPulse
  exact (.next (.ite (.on (State.emit_keeps _ _) (.of rfl rfl rfl rfl rfl)) (.of rfl rfl rfl rfl rfl)))

theorem execPpsOutEnd_keeps : ∀ s, KeepsOn s (execPpsOutEnd s) := by
  intro s; delta execPpsOutEnd
  exact (.ite (.next (.on (State.emit_keeps _ _) (.of rfl rfl rfl rfl rfl))) (.next (.refl _)))

theorem execNetRxFrame_keeps : ∀ a0 a1 s, KeepsOn s (execNetRxFrame a0 a1 s) := by
  intro a0 a1 s; unfold execNetRxFrame
  exact (.ite (.next (.refl _)) (.ite (.next (State.count_keeps _ _ _)) (by (try dsimp only); split; exacts [(.next (State.rxDeliver_keeps _ _ _ _)), (.ite (.next (.on (State.rxDeliver_keeps _ _ _ _) (State.stampMiss_keeps _))) (.next (.upd rfl rfl (State.ptpStamp_keeps _ _))))])))

theorem execNetTxFrame_keeps : ∀ a0 s, KeepsOn s (execNetTxFrame a0 s) := by
  intro a0 s; unfold execNetTxFrame
  exact (by (try dsimp only); split; exacts [(.next (.refl _)), (.ite (.next (.refl _)) (by (try dsimp only); split; exacts [(.next (.on (State.emit_keeps _ _) (State.crConsume_keeps _ _))), (.ite (.next (.on (State.stampMiss_keeps _) (.on (State.emit_keeps _ _) (State.crConsume_keeps _ _)))) (.next (.upd rfl rfl (.on (State.ptpStamp_keeps _ _) (.on (State.emit_keeps _ _) (State.crConsume_keeps _ _))))))]))])

theorem execTxtsPop_keeps : ∀ s, KeepsOn s (execTxtsPop s) := by
  intro s; delta execTxtsPop
  exact (.next (.on (State.txtsHead_keeps _) (.upd rfl rfl (State.accept_keeps _ _ _))))

theorem execNetLinkDown_keeps : ∀ s, KeepsOn s (execNetLinkDown s) := by
  intro s; delta execNetLinkDown
  exact (.ite (.next (.refl _)) (.next (.on (State.blkEvent_keeps _ _ _ _ _) (.on (State.setFld_keeps _ _ _ _)
    (State.setFld_keeps _ _ _ _)))))

theorem execNetLinkUp_keeps : ∀ s, KeepsOn s (execNetLinkUp s) := by
  intro s; delta execNetLinkUp
  exact (.ite (.next (.refl _)) (.next (.on (State.raise_keeps _ _ _) (.on (State.setFld_keeps _ _ _ _) (State.setFld_keeps _
    _ _ _)))))

theorem execSpkEnable_keeps : ∀ a0 s, KeepsOn s (execSpkEnable a0 s) := by
  intro a0 s; delta execSpkEnable
  exact (.next (.on (State.spkEnable_keeps _ _) (State.accept_keeps _ _ _)))

theorem execSpkDisable_keeps : ∀ a0 s, KeepsOn s (execSpkDisable a0 s) := by
  intro a0 s; delta execSpkDisable
  exact (.next (.on (State.spkDisable_keeps _ _) (State.accept_keeps _ _ _)))

theorem execSpkCommit_keeps : ∀ a0 s, KeepsOn s (execSpkCommit a0 s) := by
  intro a0 s; delta execSpkCommit
  exact (.next (.on (State.spkCommit_keeps _ _) (State.accept_keeps _ _ _)))

theorem execSpikeBlockEnd_keeps : ∀ a0 a1 s, KeepsOn s (execSpikeBlockEnd a0 a1 s) := by
  intro a0 a1 s; unfold execSpikeBlockEnd; dsimp only
  exact (by split; exacts [(.next (.refl _)), (.ite (.next (.refl _)) (.ite (.next (.on (State.setScope_keeps _ _ _) (.on (State.setFld_keeps _ _ _ _) (.on (State.setSpike_keeps _ _ _) (.ite (.on (State.setSpike_keeps _ _ _) (.on (State.commitScope_keeps _ _) (.ite (.on (State.blkEvent_keeps _ _ _ _ _) (.on (State.count_keeps _ _ _) (State.setSpkLast_keeps _ _ _ _))) (.on (State.count_keeps _ _ _) (State.setSpkLast_keeps _ _ _ _))))) (.ite (.on (State.blkEvent_keeps _ _ _ _ _) (.on (State.count_keeps _ _ _) (State.setSpkLast_keeps _ _ _ _))) (.on (State.count_keeps _ _ _) (State.setSpkLast_keeps _ _ _ _)))))))) (.next (.on (State.setSpike_keeps _ _ _) (.ite (.on (State.setSpike_keeps _ _ _) (.on (State.commitScope_keeps _ _) (.ite (.on (State.blkEvent_keeps _ _ _ _ _) (.on (State.count_keeps _ _ _) (State.setSpkLast_keeps _ _ _ _))) (.on (State.count_keeps _ _ _) (State.setSpkLast_keeps _ _ _ _))))) (.ite (.on (State.blkEvent_keeps _ _ _ _ _) (.on (State.count_keeps _ _ _) (State.setSpkLast_keeps _ _ _ _))) (.on (State.count_keeps _ _ _) (State.setSpkLast_keeps _ _ _ _))))))))])

theorem execZcEnable_keeps : ∀ a0 s, KeepsOn s (execZcEnable a0 s) := by
  intro a0 s; delta execZcEnable
  exact (.next (.on (State.zcEnable_keeps _ _) (State.accept_keeps _ _ _)))

theorem execZcDisable_keeps : ∀ a0 s, KeepsOn s (execZcDisable a0 s) := by
  intro a0 s; delta execZcDisable
  exact (.next (.on (State.zcDisable_keeps _ _) (State.accept_keeps _ _ _)))

theorem execZcCommit_keeps : ∀ a0 s, KeepsOn s (execZcCommit a0 s) := by
  intro a0 s; delta execZcCommit
  exact (.next (.on (State.zcCommit_keeps _ _) (State.accept_keeps _ _ _)))

theorem execZoomBlockBoundary_keeps : ∀ a0 s, KeepsOn s (execZoomBlockBoundary a0 s) := by
  intro a0 s; delta execZoomBlockBoundary
  exact (.next (.ite (State.zoomBoundary_keeps _ _) (.refl _)))

theorem execFadeEnd_keeps : ∀ a0 s, KeepsOn s (execFadeEnd a0 s) := by
  intro a0 s; delta execFadeEnd
  exact (.next (.ite (State.fadeEnd_keeps _ _) (.refl _)))

theorem execZoomOutput_keeps : ∀ a0 s, KeepsOn s (execZoomOutput a0 s) := by
  intro a0 s; delta execZoomOutput
  exact (.ite (.next (.refl _)) (.next (.ite (State.zoomDue_keeps _ _) (.on (State.zoomOutput_keeps _ _) (State.zoomDue_keeps
    _ _)))))

theorem execXfEnable_keeps : ∀ a0 s, KeepsOn s (execXfEnable a0 s) := by
  intro a0 s; delta execXfEnable
  exact (.next (.on (State.xfEnable_keeps _ _) (State.accept_keeps _ _ _)))

theorem execAlignStart_keeps : ∀ a0 s, KeepsOn s (execAlignStart a0 s) := by
  intro a0 s; unfold execAlignStart; dsimp only
  exact (.ite (.next (.refl _)) (by split; exacts [(.next (.refl _)), (.next (.on (State.setPairState_keeps _ _ _) (State.setPair_keeps _ _ _)))]))

theorem execXfDisable_keeps : ∀ a0 s, KeepsOn s (execXfDisable a0 s) := by
  intro a0 s; delta execXfDisable
  exact (.next (.on (State.disablePair_keeps _ _) (State.accept_keeps _ _ _)))

theorem execXfCommit_keeps : ∀ a0 s, KeepsOn s (execXfCommit a0 s) := by
  intro a0 s; delta execXfCommit
  exact (.next (.on (State.xfCommit_keeps _ _) (State.accept_keeps _ _ _)))

theorem execXfHoldReset_keeps : ∀ a0 s, KeepsOn s (execXfHoldReset a0 s) := by
  intro a0 s; delta execXfHoldReset
  exact (.next (.on (State.xfHoldReset_keeps _ _) (State.accept_keeps _ _ _)))

theorem execTransformFrame_keeps : ∀ a0 s, KeepsOn s (execTransformFrame a0 s) := by
  intro a0 s; delta execTransformFrame
  exact (.next (.on (State.stopPlanes_keeps _ _) (.on (State.deliverFrames_keeps _ _ _ _) (State.nextFrame_keeps _ _))))

theorem execWinEnable_keeps : ∀ a0 s, KeepsOn s (execWinEnable a0 s) := by
  intro a0 s; delta execWinEnable
  exact (.next (.on (State.winEnable_keeps _ _) (State.accept_keeps _ _ _)))

theorem execWinDisable_keeps : ∀ a0 s, KeepsOn s (execWinDisable a0 s) := by
  intro a0 s; delta execWinDisable
  exact (.next (.on (State.winDisable_keeps _ _ _) (State.accept_keeps _ _ _)))

theorem execMaskEnable_keeps : ∀ a0 s, KeepsOn s (execMaskEnable a0 s) := by
  intro a0 s; delta execMaskEnable
  exact (.next (.on (State.maskEnable_keeps _ _) (State.accept_keeps _ _ _)))

theorem execMaskDisable_keeps : ∀ a0 s, KeepsOn s (execMaskDisable a0 s) := by
  intro a0 s; delta execMaskDisable
  exact (.next (.on (State.maskDisable_keeps _ _) (State.accept_keeps _ _ _)))

theorem execMaskCommit_keeps : ∀ a0 s, KeepsOn s (execMaskCommit a0 s) := by
  intro a0 s; delta execMaskCommit
  exact (.next (.on (State.maskCommit_keeps _ _) (State.accept_keeps _ _ _)))

theorem execMecEnable_keeps : ∀ a0 s, KeepsOn s (execMecEnable a0 s) := by
  intro a0 s; delta execMecEnable
  exact (.next (.on (State.mecEnable_keeps _ _) (State.accept_keeps _ _ _)))

theorem execMecDisable_keeps : ∀ a0 s, KeepsOn s (execMecDisable a0 s) := by
  intro a0 s; delta execMecDisable
  exact (.next (.on (State.mecDisable_keeps _ _) (State.accept_keeps _ _ _)))

theorem execMecCommit_keeps : ∀ a0 s, KeepsOn s (execMecCommit a0 s) := by
  intro a0 s; delta execMecCommit
  exact (.next (.on (State.mecCommit_keeps _ _) (State.accept_keeps _ _ _)))

theorem execMecMatch_keeps : ∀ a0 a1 a2 s, KeepsOn s (execMecMatch a0 a1 a2 s) := by
  intro a0 a1 a2 s; delta execMecMatch
  exact (.ite (.next (State.mecApply_keeps _ _ _)) (.next (.on (State.activate_keeps _ _ _ _ _) (.on (State.count_keeps _ _ _)
    (.on (State.setMec_keeps _ _ _) (State.mecApply_keeps _ _ _))))))

theorem execTmrEnable_keeps : ∀ a0 s, KeepsOn s (execTmrEnable a0 s) := by
  intro a0 s; delta execTmrEnable
  exact (.next (.on (State.tmrEnable_keeps _ _) (State.accept_keeps _ _ _)))

theorem execTmrDisable_keeps : ∀ a0 s, KeepsOn s (execTmrDisable a0 s) := by
  intro a0 s; delta execTmrDisable
  exact (.next (.on (State.tmrDisable_keeps _ _) (State.accept_keeps _ _ _)))

theorem execTimerFire_keeps : ∀ a0 s, KeepsOn s (execTimerFire a0 s) := by
  intro a0 s; unfold execTimerFire; dsimp only
  exact (by split; exacts [(.next (.refl _)), (.ite (.next (.refl _)) (.next (.on (State.activate_keeps _ _ _ _ _) (.on (State.count_keeps _ _ _) (State.setTimer_keeps _ _ _)))))])

theorem execSwFire_keeps : ∀ s, KeepsOn s (execSwFire s) := by
  intro s; delta execSwFire
  exact (.next (.on (.foldl (fun _ _ => by exact (.ite (State.swFire_keeps _ _) (.refl _))) _ _) (State.accept_keeps _ _ _)))

theorem execTrigOutEnable_keeps : ∀ a0 s, KeepsOn s (execTrigOutEnable a0 s) := by
  intro a0 s; delta execTrigOutEnable
  exact (.next (.ite (.on (State.setScope_keeps _ _ _) (State.accept_keeps _ _ _)) (State.accept_keeps _ _ _)))

theorem execTrigOutDisable_keeps : ∀ a0 s, KeepsOn s (execTrigOutDisable a0 s) := by
  intro a0 s; delta execTrigOutDisable
  exact (.next (.on (State.trigOutDisable_keeps _ _) (State.accept_keeps _ _ _)))

theorem execSeqEnable_keeps : ∀ a0 s, KeepsOn s (execSeqEnable a0 s) := by
  intro a0 s; delta execSeqEnable
  exact (.next (.on (State.seqEnable_keeps _ _) (State.accept_keeps _ _ _)))

theorem execSeqDisable_keeps : ∀ a0 s, KeepsOn s (execSeqDisable a0 s) := by
  intro a0 s; delta execSeqDisable
  exact (.next (.on (State.seqDisable_keeps _ _) (State.accept_keeps _ _ _)))

theorem execSeqArm_keeps : ∀ a0 s, KeepsOn s (execSeqArm a0 s) := by
  intro a0 s; delta execSeqArm
  exact (.next (.on (State.seqArm_keeps _ _) (State.accept_keeps _ _ _)))

theorem execSeqDisarm_keeps : ∀ a0 s, KeepsOn s (execSeqDisarm a0 s) := by
  intro a0 s; delta execSeqDisarm
  exact (.next (.on (State.seqDisarm_keeps _ _) (State.accept_keeps _ _ _)))

theorem execSeqCommit_keeps : ∀ a0 s, KeepsOn s (execSeqCommit a0 s) := by
  intro a0 s; delta execSeqCommit
  exact (.next (.on (State.seqCommit_keeps _ _) (State.accept_keeps _ _ _)))

theorem execSeqCommitApply_keeps : ∀ a0 s, KeepsOn s (execSeqCommitApply a0 s) := by
  intro a0 s; delta execSeqCommitApply
  exact (.ite (.next (State.seqApply_keeps _ _)) (.next (.refl _)))

theorem execArcA_keeps : ∀ a0 s, KeepsOn s (execArcA a0 s) := by
  intro a0 s; unfold execArcA; dsimp only
  exact (.ite (.next (.refl _)) (by split; exacts [(.next (.refl _)), (.next (State.fireArc_keeps _ _ _ _ _ _ _ _ _))]))

theorem execArcT_keeps : ∀ a0 s, KeepsOn s (execArcT a0 s) := by
  intro a0 s; unfold execArcT
  exact (by (try dsimp only); split; exacts [(.next (.refl _)), (.ite (.next (.refl _)) (.next (.on (State.fireArc_keeps _ _ _ _ _ _ _ _ _) (State.draw_keeps _))))])

theorem execTadpoleCommit_keeps : ∀ a0 s, KeepsOn s (execTadpoleCommit a0 s) := by
  intro a0 s; delta execTadpoleCommit
  exact (.next (State.tadpoleCommit_keeps _ _))

theorem execQualLimit_keeps : ∀ a0 s, KeepsOn s (execQualLimit a0 s) := by
  intro a0 s; unfold execQualLimit; dsimp only
  exact (by split; exacts [(.next (.refl _)), (.ite (.next (.refl _)) (.next (.on (State.tplDrained_keeps _ _) (State.rollback_keeps _ _ _ _))))])

theorem execTrigOutPulseEnd_keeps : ∀ a0 s, KeepsOn s (execTrigOutPulseEnd a0 s) := by
  intro a0 s; delta execTrigOutPulseEnd
  exact (.next (.ite (State.driveOut_keeps _ _ _) (.refl _)))

theorem execSyncTrgDrive_keeps : ∀ a0 s, KeepsOn s (execSyncTrgDrive a0 s) := by
  intro a0 s; delta execSyncTrgDrive
  exact (.ite (.next (.refl _)) (.next (.on (State.emit_keeps _ _) (State.setLine_keeps _ _ _))))

theorem execSyncPulse_keeps : ∀ a0 a1 a2 s, KeepsOn s (execSyncPulse a0 a1 a2 s) := by
  intro a0 a1 a2 s; delta execSyncPulse
  exact (.ite (.next (.refl _)) (.ite (.next (State.busEpoch_keeps _ _ _)) (.ite (.next (.ite (.on (State.activate_keeps _ _ _
    _ _) (.ite (State.setLine_keeps _ _ _) (.refl _))) (.ite (State.setLine_keeps _ _ _) (.refl _)))) (.next (.on
    (State.blkEvent_keeps _ _ _ _ _) (.on (State.count_keeps _ _ _) (.ite (State.setLine_keeps _ _ _) (.refl _))))))))

theorem execEpochGo_keeps : ∀ s, KeepsOn s (execEpochGo s) := by
  intro s; delta execEpochGo
  exact (.ite (.next (State.accept_keeps _ _ _)) (.next (.on (State.emit_keeps _ _) (.upd rfl rfl (State.accept_keeps _ _ _)))))

theorem execSyncPhaseMeasure_keeps : ∀ a0 a1 s, KeepsOn s (execSyncPhaseMeasure a0 a1 s) := by
  intro a0 a1 s; delta execSyncPhaseMeasure
  exact (.ite (.next (.refl _)) (.ite (.ite (.next (.on (State.blkEvent_keeps _ _ _ _ _) (.of rfl rfl rfl rfl rfl))) (.next
    (.of rfl rfl rfl rfl rfl))) (.next (.on (State.setFld_keeps _ _ _ _) (.on (State.setReg_keeps _ _ _) (.on
    (State.setReg64_keeps _ _ _ _) (.on (State.setRefCyc_keeps _ _) (.of rfl rfl rfl rfl rfl))))))))

theorem execBusPhaseLost_keeps : ∀ s, KeepsOn s (execBusPhaseLost s) := by
  intro s; delta execBusPhaseLost
  exact (.next (State.busPhaseLost_keeps _))

theorem execRawCellWrite_keeps : ∀ a0 s, KeepsOn s (execRawCellWrite a0 s) := by
  intro a0 s; unfold execRawCellWrite; dsimp only
  exact (.ite (.next (.refl _)) (.next (.on (.foldl (fun _ _ => by exact (by split; exacts [(State.indexEntry_keeps _ _ _ _), (.refl _)])) _ _) (.on (State.setReg64_keeps _ _ _ _) (.on (State.setStream_keeps _ _ _) (State.inkStore_keeps _ _ _ _))))))

theorem execRecordAssembly_keeps : ∀ a0 s, KeepsOn s (execRecordAssembly a0 s) := by
  intro a0 s; unfold execRecordAssembly; dsimp only
  exact (by split; exacts [(.next (.refl _)), (.ite (.next (.refl _)) (.next (.on (State.releaseHeld_keeps _ _ _) (.ite (.on (State.count_keeps _ _ _) (by split; exacts [(.on (State.flowPush_keeps _ _ _ _ _) (.iteSnd (.on (State.flowPush_keeps _ _ _ _ _) (.ite (.on (.foldlSnd (fun _ _ => by exact (State.sectionOf_keeps _ _ _ _)) _ _) (.of rfl rfl rfl rfl rfl)) (.on (State.blkEvent_keeps _ _ _ _ _) (.on (State.setSta_keeps _ _ _) (.on (State.count_keeps _ _ _) (.on (.foldlSnd (fun _ _ => by exact (State.sectionOf_keeps _ _ _ _)) _ _) (.of rfl rfl rfl rfl rfl))))))) (.ite (.on (.foldlSnd (fun _ _ => by exact (State.sectionOf_keeps _ _ _ _)) _ _) (.of rfl rfl rfl rfl rfl)) (.on (State.blkEvent_keeps _ _ _ _ _) (.on (State.setSta_keeps _ _ _) (.on (State.count_keeps _ _ _) (.on (.foldlSnd (fun _ _ => by exact (State.sectionOf_keeps _ _ _ _)) _ _) (.of rfl rfl rfl rfl rfl)))))))), (.iteSnd (.on (State.flowPush_keeps _ _ _ _ _) (.ite (.on (.foldlSnd (fun _ _ => by exact (State.sectionOf_keeps _ _ _ _)) _ _) (.of rfl rfl rfl rfl rfl)) (.on (State.blkEvent_keeps _ _ _ _ _) (.on (State.setSta_keeps _ _ _) (.on (State.count_keeps _ _ _) (.on (.foldlSnd (fun _ _ => by exact (State.sectionOf_keeps _ _ _ _)) _ _) (.of rfl rfl rfl rfl rfl))))))) (.ite (.on (.foldlSnd (fun _ _ => by exact (State.sectionOf_keeps _ _ _ _)) _ _) (.of rfl rfl rfl rfl rfl)) (.on (State.blkEvent_keeps _ _ _ _ _) (.on (State.setSta_keeps _ _ _) (.on (State.count_keeps _ _ _) (.on (.foldlSnd (fun _ _ => by exact (State.sectionOf_keeps _ _ _ _)) _ _) (.of rfl rfl rfl rfl rfl)))))))])) (by split; exacts [(.on (State.flowPush_keeps _ _ _ _ _) (.iteSnd (.on (State.flowPush_keeps _ _ _ _ _) (.ite (.on (.foldlSnd (fun _ _ => by exact (State.sectionOf_keeps _ _ _ _)) _ _) (.of rfl rfl rfl rfl rfl)) (.on (State.blkEvent_keeps _ _ _ _ _) (.on (State.setSta_keeps _ _ _) (.on (State.count_keeps _ _ _) (.on (.foldlSnd (fun _ _ => by exact (State.sectionOf_keeps _ _ _ _)) _ _) (.of rfl rfl rfl rfl rfl))))))) (.ite (.on (.foldlSnd (fun _ _ => by exact (State.sectionOf_keeps _ _ _ _)) _ _) (.of rfl rfl rfl rfl rfl)) (.on (State.blkEvent_keeps _ _ _ _ _) (.on (State.setSta_keeps _ _ _) (.on (State.count_keeps _ _ _) (.on (.foldlSnd (fun _ _ => by exact (State.sectionOf_keeps _ _ _ _)) _ _) (.of rfl rfl rfl rfl rfl)))))))), (.iteSnd (.on (State.flowPush_keeps _ _ _ _ _) (.ite (.on (.foldlSnd (fun _ _ => by exact (State.sectionOf_keeps _ _ _ _)) _ _) (.of rfl rfl rfl rfl rfl)) (.on (State.blkEvent_keeps _ _ _ _ _) (.on (State.setSta_keeps _ _ _) (.on (State.count_keeps _ _ _) (.on (.foldlSnd (fun _ _ => by exact (State.sectionOf_keeps _ _ _ _)) _ _) (.of rfl rfl rfl rfl rfl))))))) (.ite (.on (.foldlSnd (fun _ _ => by exact (State.sectionOf_keeps _ _ _ _)) _ _) (.of rfl rfl rfl rfl rfl)) (.on (State.blkEvent_keeps _ _ _ _ _) (.on (State.setSta_keeps _ _ _) (.on (State.count_keeps _ _ _) (.on (.foldlSnd (fun _ _ => by exact (State.sectionOf_keeps _ _ _ _)) _ _) (.of rfl rfl rfl rfl rfl)))))))])))))])

theorem execThrottleDouble_keeps : ∀ a0 s, KeepsOn s (execThrottleDouble a0 s) := by
  intro a0 s; delta execThrottleDouble
  exact (.next (.ite (State.setThrottle_keeps _ _ _) (.refl _)))

theorem execThrottleHalve_keeps : ∀ a0 s, KeepsOn s (execThrottleHalve a0 s) := by
  intro a0 s; delta execThrottleHalve
  exact (.next (.ite (State.setThrottle_keeps _ _ _) (.refl _)))

theorem execTplEnable_keeps : ∀ a0 s, KeepsOn s (execTplEnable a0 s) := by
  intro a0 s; delta execTplEnable
  exact (.next (.on (State.tplEnable_keeps _ _) (State.accept_keeps _ _ _)))

theorem execTplDisable_keeps : ∀ a0 s, KeepsOn s (execTplDisable a0 s) := by
  intro a0 s; delta execTplDisable
  exact (.next (.on (State.tplDisable_keeps _ _) (State.accept_keeps _ _ _)))

theorem execTplRestart_keeps : ∀ a0 s, KeepsOn s (execTplRestart a0 s) := by
  intro a0 s; delta execTplRestart
  exact (.next (.on (State.tplRestart_keeps _ _) (State.accept_keeps _ _ _)))

theorem execLbSubmit_keeps : ∀ a0 s, KeepsOn s (execLbSubmit a0 s) := by
  intro a0 s; delta execLbSubmit
  exact (.next (.on (State.lbSubmit_keeps _ _) (State.accept_keeps _ _ _)))

theorem execLbCancel_keeps : ∀ a0 s, KeepsOn s (execLbCancel a0 s) := by
  intro a0 s; delta execLbCancel
  exact (.next (.on (State.lbCancel_keeps _ _) (State.accept_keeps _ _ _)))

theorem execLbDone_keeps : ∀ a0 a1 s, KeepsOn s (execLbDone a0 a1 s) := by
  intro a0 a1 s; delta execLbDone
  exact (.ite (.next (.refl _)) (.next (.on (State.blkEvent_keeps _ _ _ _ _) (.on (State.setSta_keeps _ _ _) (.on
    (State.jobEnd_keeps _ _ _ _) (.on (State.jobWrite_keeps _ _ _) (State.jobOutputs_keeps _ _ _)))))))

theorem execBrNop_keeps : ∀ a0 a1 s, KeepsOn s (execBrNop a0 a1 s) := by
  intro a0 a1 s; delta execBrNop
  exact (.next (State.brush1_keeps _ _ _ _ _))

theorem execBrEnd_keeps : ∀ a0 a1 s, KeepsOn s (execBrEnd a0 a1 s) := by
  intro a0 a1 s; delta execBrEnd
  exact (.next (State.brush2_keeps _ _ _ _ (fun _ _ => (.ite (.ok (.on (State.finishJob_keeps _ _ _) (State.brushRetire_keeps
    _ _ _))) (.ok (.on (State.finishJob_keeps _ _ _) (.iteSnd (.on (State.builtinEntry_keeps _ _ _) (State.brushRetire_keeps _
    _ _)) (.mkSnd (State.brushRetire_keeps _ _ _)))))))))

theorem execBrBrz_keeps : ∀ a0 a1 s, KeepsOn s (execBrBrz a0 a1 s) := by
  intro a0 a1 s; delta execBrBrz
  exact (.next (State.brushBranch_keeps _ _ _ _ _))

theorem execBrBrnz_keeps : ∀ a0 a1 s, KeepsOn s (execBrBrnz a0 a1 s) := by
  intro a0 a1 s; delta execBrBrnz
  exact (.next (State.brushBranch_keeps _ _ _ _ _))

theorem execBrBrlt_keeps : ∀ a0 a1 s, KeepsOn s (execBrBrlt a0 a1 s) := by
  intro a0 a1 s; delta execBrBrlt
  exact (.next (State.brushBranch_keeps _ _ _ _ _))

theorem execBrRep_keeps : ∀ a0 a1 s, KeepsOn s (execBrRep a0 a1 s) := by
  intro a0 a1 s; delta execBrRep
  exact (.next (State.brush2_keeps _ _ _ _ (fun _ _ => (.ite (.error _) (.ite (.error _) (.ite (.ok (.on
    (State.setCorePc_keeps _ _ _) (State.brushRetire_keeps _ _ _))) (.ok (.on (State.setCorePc_keeps _ _ _) (.on
    (State.brushRetire_keeps _ _ _) (State.setCore_keeps _ _ _))))))))))

theorem execBrMfs_keeps : ∀ a0 a1 s, KeepsOn s (execBrMfs a0 a1 s) := by
  intro a0 a1 s; delta execBrMfs
  exact (.next (State.brush2_keeps _ _ _ _ (fun _ _ => (.ok (.on (State.setCorePc_keeps _ _ _) (.on (State.brushRetire_keeps _
    _ _) (State.setCore_keeps _ _ _)))))))

theorem execBrWaitin_keeps : ∀ a0 a1 s, KeepsOn s (execBrWaitin a0 a1 s) := by
  intro a0 a1 s; delta execBrWaitin
  exact (.next (State.brush2_keeps _ _ _ _ (fun _ _ => (.ok (.on (State.setCorePc_keeps _ _ _) (.on (State.brushRetire_keeps _
    _ _) (State.setCore_keeps _ _ _)))))))

theorem execBrSadd_keeps : ∀ a0 a1 s, KeepsOn s (execBrSadd a0 a1 s) := by
  intro a0 a1 s; delta execBrSadd
  exact (.next (State.brush1_keeps _ _ _ _ _))

theorem execBrSaddi_keeps : ∀ a0 a1 s, KeepsOn s (execBrSaddi a0 a1 s) := by
  intro a0 a1 s; delta execBrSaddi
  exact (.next (State.brush1_keeps _ _ _ _ _))

theorem execBrSsub_keeps : ∀ a0 a1 s, KeepsOn s (execBrSsub a0 a1 s) := by
  intro a0 a1 s; delta execBrSsub
  exact (.next (State.brush1_keeps _ _ _ _ _))

theorem execBrSmul_keeps : ∀ a0 a1 s, KeepsOn s (execBrSmul a0 a1 s) := by
  intro a0 a1 s; delta execBrSmul
  exact (.next (State.brush1_keeps _ _ _ _ _))

theorem execBrSand_keeps : ∀ a0 a1 s, KeepsOn s (execBrSand a0 a1 s) := by
  intro a0 a1 s; delta execBrSand
  exact (.next (State.brush1_keeps _ _ _ _ _))

theorem execBrSor_keeps : ∀ a0 a1 s, KeepsOn s (execBrSor a0 a1 s) := by
  intro a0 a1 s; delta execBrSor
  exact (.next (State.brush1_keeps _ _ _ _ _))

theorem execBrSxor_keeps : ∀ a0 a1 s, KeepsOn s (execBrSxor a0 a1 s) := by
  intro a0 a1 s; delta execBrSxor
  exact (.next (State.brush1_keeps _ _ _ _ _))

theorem execBrSsh_keeps : ∀ a0 a1 s, KeepsOn s (execBrSsh a0 a1 s) := by
  intro a0 a1 s; delta execBrSsh
  exact (.next (State.brush1_keeps _ _ _ _ _))

theorem execBrSld_keeps : ∀ a0 a1 s, KeepsOn s (execBrSld a0 a1 s) := by
  intro a0 a1 s; delta execBrSld
  exact (.next (State.brush1_keeps _ _ _ _ _))

theorem execBrSst_keeps : ∀ a0 a1 s, KeepsOn s (execBrSst a0 a1 s) := by
  intro a0 a1 s; delta execBrSst
  exact (.next (State.brush1_keeps _ _ _ _ _))

theorem execBrVext_keeps : ∀ a0 a1 s, KeepsOn s (execBrVext a0 a1 s) := by
  intro a0 a1 s; delta execBrVext
  exact (.next (State.brush1_keeps _ _ _ _ _))

theorem execBrVins_keeps : ∀ a0 a1 s, KeepsOn s (execBrVins a0 a1 s) := by
  intro a0 a1 s; delta execBrVins
  exact (.next (State.brush1_keeps _ _ _ _ _))

theorem execBrVadd_keeps : ∀ a0 a1 s, KeepsOn s (execBrVadd a0 a1 s) := by
  intro a0 a1 s; delta execBrVadd
  exact (.next (State.brush1_keeps _ _ _ _ _))

theorem execBrVadds_keeps : ∀ a0 a1 s, KeepsOn s (execBrVadds a0 a1 s) := by
  intro a0 a1 s; delta execBrVadds
  exact (.next (State.brush1_keeps _ _ _ _ _))

theorem execBrVsub_keeps : ∀ a0 a1 s, KeepsOn s (execBrVsub a0 a1 s) := by
  intro a0 a1 s; delta execBrVsub
  exact (.next (State.brush1_keeps _ _ _ _ _))

theorem execBrVsubs_keeps : ∀ a0 a1 s, KeepsOn s (execBrVsubs a0 a1 s) := by
  intro a0 a1 s; delta execBrVsubs
  exact (.next (State.brush1_keeps _ _ _ _ _))

theorem execBrVmul_keeps : ∀ a0 a1 s, KeepsOn s (execBrVmul a0 a1 s) := by
  intro a0 a1 s; delta execBrVmul
  exact (.next (State.brush1_keeps _ _ _ _ _))

theorem execBrVmax_keeps : ∀ a0 a1 s, KeepsOn s (execBrVmax a0 a1 s) := by
  intro a0 a1 s; delta execBrVmax
  exact (.next (State.brush1_keeps _ _ _ _ _))

theorem execBrVmin_keeps : ∀ a0 a1 s, KeepsOn s (execBrVmin a0 a1 s) := by
  intro a0 a1 s; delta execBrVmin
  exact (.next (State.brush1_keeps _ _ _ _ _))

theorem execBrVabs_keeps : ∀ a0 a1 s, KeepsOn s (execBrVabs a0 a1 s) := by
  intro a0 a1 s; delta execBrVabs
  exact (.next (State.brush1_keeps _ _ _ _ _))

theorem execBrVand_keeps : ∀ a0 a1 s, KeepsOn s (execBrVand a0 a1 s) := by
  intro a0 a1 s; delta execBrVand
  exact (.next (State.brush1_keeps _ _ _ _ _))

theorem execBrVor_keeps : ∀ a0 a1 s, KeepsOn s (execBrVor a0 a1 s) := by
  intro a0 a1 s; delta execBrVor
  exact (.next (State.brush1_keeps _ _ _ _ _))

theorem execBrVxor_keeps : ∀ a0 a1 s, KeepsOn s (execBrVxor a0 a1 s) := by
  intro a0 a1 s; delta execBrVxor
  exact (.next (State.brush1_keeps _ _ _ _ _))

theorem execBrVshl_keeps : ∀ a0 a1 s, KeepsOn s (execBrVshl a0 a1 s) := by
  intro a0 a1 s; delta execBrVshl
  exact (.next (State.brush1_keeps _ _ _ _ _))

theorem execBrVsra_keeps : ∀ a0 a1 s, KeepsOn s (execBrVsra a0 a1 s) := by
  intro a0 a1 s; delta execBrVsra
  exact (.next (State.brush1_keeps _ _ _ _ _))

theorem execBrVspl_keeps : ∀ a0 a1 s, KeepsOn s (execBrVspl a0 a1 s) := by
  intro a0 a1 s; delta execBrVspl
  exact (.next (State.brush1_keeps _ _ _ _ _))

theorem execBrVcmplt_keeps : ∀ a0 a1 s, KeepsOn s (execBrVcmplt a0 a1 s) := by
  intro a0 a1 s; delta execBrVcmplt
  exact (.next (State.brush1_keeps _ _ _ _ _))

theorem execBrVcmpeq_keeps : ∀ a0 a1 s, KeepsOn s (execBrVcmpeq a0 a1 s) := by
  intro a0 a1 s; delta execBrVcmpeq
  exact (.next (State.brush1_keeps _ _ _ _ _))

theorem execBrVsel_keeps : ∀ a0 a1 s, KeepsOn s (execBrVsel a0 a1 s) := by
  intro a0 a1 s; delta execBrVsel
  exact (.next (State.brush1_keeps _ _ _ _ _))

theorem execBrNorm_keeps : ∀ a0 a1 s, KeepsOn s (execBrNorm a0 a1 s) := by
  intro a0 a1 s; delta execBrNorm
  exact (.next (State.brush1_keeps _ _ _ _ _))

theorem execBrExpx_keeps : ∀ a0 a1 s, KeepsOn s (execBrExpx a0 a1 s) := by
  intro a0 a1 s; delta execBrExpx
  exact (.next (State.brush1_keeps _ _ _ _ _))

theorem execBrVshlv_keeps : ∀ a0 a1 s, KeepsOn s (execBrVshlv a0 a1 s) := by
  intro a0 a1 s; delta execBrVshlv
  exact (.next (State.brush1_keeps _ _ _ _ _))

theorem execBrVrot_keeps : ∀ a0 a1 s, KeepsOn s (execBrVrot a0 a1 s) := by
  intro a0 a1 s; delta execBrVrot
  exact (.next (State.brush1_keeps _ _ _ _ _))

theorem execBrMsetn_keeps : ∀ a0 a1 s, KeepsOn s (execBrMsetn a0 a1 s) := by
  intro a0 a1 s; delta execBrMsetn
  exact (.next (State.brush1_keeps _ _ _ _ _))

theorem execBrAclr_keeps : ∀ a0 a1 s, KeepsOn s (execBrAclr a0 a1 s) := by
  intro a0 a1 s; delta execBrAclr
  exact (.next (State.brush1_keeps _ _ _ _ _))

theorem execBrVmac_keeps : ∀ a0 a1 s, KeepsOn s (execBrVmac a0 a1 s) := by
  intro a0 a1 s; delta execBrVmac
  exact (.next (State.brush1_keeps _ _ _ _ _))

theorem execBrVmsu_keeps : ∀ a0 a1 s, KeepsOn s (execBrVmsu a0 a1 s) := by
  intro a0 a1 s; delta execBrVmsu
  exact (.next (State.brush1_keeps _ _ _ _ _))

theorem execBrVdot_keeps : ∀ a0 a1 s, KeepsOn s (execBrVdot a0 a1 s) := by
  intro a0 a1 s; delta execBrVdot
  exact (.next (State.brush1_keeps _ _ _ _ _))

theorem execBrAcadd_keeps : ∀ a0 a1 s, KeepsOn s (execBrAcadd a0 a1 s) := by
  intro a0 a1 s; delta execBrAcadd
  exact (.next (State.brush1_keeps _ _ _ _ _))

theorem execBrAcx_keeps : ∀ a0 a1 s, KeepsOn s (execBrAcx a0 a1 s) := by
  intro a0 a1 s; delta execBrAcx
  exact (.next (State.brush1_keeps _ _ _ _ _))

theorem execBrAcred_keeps : ∀ a0 a1 s, KeepsOn s (execBrAcred a0 a1 s) := by
  intro a0 a1 s; delta execBrAcred
  exact (.next (State.brush1_keeps _ _ _ _ _))

theorem execBrAcxf_keeps : ∀ a0 a1 s, KeepsOn s (execBrAcxf a0 a1 s) := by
  intro a0 a1 s; delta execBrAcxf
  exact (.next (State.brush1_keeps _ _ _ _ _))

theorem execBrAcxd_keeps : ∀ a0 a1 s, KeepsOn s (execBrAcxd a0 a1 s) := by
  intro a0 a1 s; delta execBrAcxd
  exact (.next (State.brush1_keeps _ _ _ _ _))

theorem execBrVcvtf_keeps : ∀ a0 a1 s, KeepsOn s (execBrVcvtf a0 a1 s) := by
  intro a0 a1 s; delta execBrVcvtf
  exact (.next (State.brush1_keeps _ _ _ _ _))

theorem execBrVfadd_keeps : ∀ a0 a1 s, KeepsOn s (execBrVfadd a0 a1 s) := by
  intro a0 a1 s; delta execBrVfadd
  exact (.next (State.brush1_keeps _ _ _ _ _))

end Sys2Proof.Machine
end

