-- ==== Sys2Proof/Laws/KeepsCmd3.lean ====
section
/-! SUPPORT. `KeepsOn` of the meanings, part 3 of 3: each answers a next state and leaves the queue, the ticks and what went out. -/

set_option linter.unusedTactic false
set_option linter.unreachableTactic false

namespace Sys2Proof.Machine

theorem execBrVfmul_keeps : ∀ a0 a1 s, KeepsOn s (execBrVfmul a0 a1 s) := by
  intro a0 a1 s; delta execBrVfmul
  exact (.next (State.brush1_keeps _ _ _ _ _))

theorem execBrVfmax_keeps : ∀ a0 a1 s, KeepsOn s (execBrVfmax a0 a1 s) := by
  intro a0 a1 s; delta execBrVfmax
  exact (.next (State.brush1_keeps _ _ _ _ _))

theorem execBrVfmin_keeps : ∀ a0 a1 s, KeepsOn s (execBrVfmin a0 a1 s) := by
  intro a0 a1 s; delta execBrVfmin
  exact (.next (State.brush1_keeps _ _ _ _ _))

theorem execBrVcvtq_keeps : ∀ a0 a1 s, KeepsOn s (execBrVcvtq a0 a1 s) := by
  intro a0 a1 s; delta execBrVcvtq
  exact (.next (State.brush1_keeps _ _ _ _ _))

theorem execBrAcfadd_keeps : ∀ a0 a1 s, KeepsOn s (execBrAcfadd a0 a1 s) := by
  intro a0 a1 s; delta execBrAcfadd
  exact (.next (State.brush1_keeps _ _ _ _ _))

theorem execBrVld_keeps : ∀ a0 a1 s, KeepsOn s (execBrVld a0 a1 s) := by
  intro a0 a1 s; delta execBrVld
  exact (.next (State.brush1_keeps _ _ _ _ _))

theorem execBrVst_keeps : ∀ a0 a1 s, KeepsOn s (execBrVst a0 a1 s) := by
  intro a0 a1 s; delta execBrVst
  exact (.next (State.brush1_keeps _ _ _ _ _))

theorem execBrVldi_keeps : ∀ a0 a1 s, KeepsOn s (execBrVldi a0 a1 s) := by
  intro a0 a1 s; delta execBrVldi
  exact (.next (State.brush1_keeps _ _ _ _ _))

theorem execBrVsti_keeps : ∀ a0 a1 s, KeepsOn s (execBrVsti a0 a1 s) := by
  intro a0 a1 s; delta execBrVsti
  exact (.next (State.brush1_keeps _ _ _ _ _))

theorem execBrInblk_keeps : ∀ a0 a1 s, KeepsOn s (execBrInblk a0 a1 s) := by
  intro a0 a1 s; unfold execBrInblk; dsimp only
  exact (.next (State.brush2_keeps _ _ _ _ (fun _ _ => (.ite (.ok (State.setCore_keeps _ _ _)) (by split; exacts [(.error _), (.ok (.on (State.setCorePc_keeps _ _ _) (.on (State.brushRetire_keeps _ _ _) (State.setCore_keeps _ _ _))))])))))

theorem execBrOute_keeps : ∀ a0 a1 s, KeepsOn s (execBrOute a0 a1 s) := by
  intro a0 a1 s; unfold execBrOute
  exact (.next (State.brush2_keeps _ _ _ _ (fun _ _ => (by (try dsimp only); split; exacts [(.error _), (.ok (.on (State.setCorePc_keeps _ _ _) (.on (State.brushRetire_keeps _ _ _) (.on (State.brushOut_keeps _ _ _ _) (.iteSnd (State.builtinEntry_keeps _ _ _) (.refl _))))))]))))

theorem execInblkDone_keeps : ∀ a0 a1 s, KeepsOn s (execInblkDone a0 a1 s) := by
  intro a0 a1 s; unfold execInblkDone; dsimp only
  exact (by split; exacts [(.ite (.next (.refl _)) (.next (.on (State.raiseFlags_keeps _ _ _) (.on (State.setCore_keeps _ _ _) (by split; exacts [(State.rawVectors_keeps _ _ _ _ _), (.refl _), (.refl _), (.refl _)]))))), (.next (.refl _))])

theorem execInvocationStart_keeps : ∀ a0 s, KeepsOn s (execInvocationStart a0 s) := by
  intro a0 s; unfold execInvocationStart
  exact (by (try dsimp only); split; exacts [(.next (.refl _)), (by (try dsimp only); split; exacts [(.next (.refl _)), (.next (.on (State.tadCount_keeps _ _ _ _) (.on (State.setCorePc_keeps _ _ _) (.on (State.setFld_keeps _ _ _ _) (.on (State.setFld_keeps _ _ _ _) (.on (State.setFld_keeps _ _ _ _) (.on (State.setCore_keeps _ _ _) (.on (State.inkRead_keeps _ _ _ _ _) (.on (State.queuedCounts_keeps _ _) (.of rfl rfl rfl rfl rfl))))))))))])])

theorem execKrnTime_keeps : ∀ a0 s, KeepsOn s (execKrnTime a0 s) := by
  intro a0 s; unfold execKrnTime; dsimp only
  exact (by split; exacts [(.next (.refl _)), (.ite (.next (.refl _)) (.next (.on (State.finishJob_keeps _ _ _) (.on (State.tadHold_keeps _ _ _ _ _ _) (State.tadCount_keeps _ _ _ _)))))])

theorem execInvocationCancel_keeps : ∀ a0 s, KeepsOn s (execInvocationCancel a0 s) := by
  intro a0 s; unfold execInvocationCancel; dsimp only
  exact (by split; exacts [(.next (.refl _)), (.ite (.next (.refl _)) (.next (.on (State.setFld_keeps _ _ _ _) (.on (State.setCore_keeps _ _ _) (State.count_keeps _ _ _)))))])

theorem execKernelLoad_keeps : ∀ a0 a1 a2 s, KeepsOn s (execKernelLoad a0 a1 a2 s) := by
  intro a0 a1 a2 s; unfold execKernelLoad; dsimp only
  exact (.next (State.ctrl_keeps _ _ _ _ (fun _ _ => (by split; exacts [(.on (State.blkEvent_keeps _ _ _ _ _) (.on (State.setFld_keeps _ _ _ _) (State.setFld_keeps _ _ _ _))), (.on (State.raise_keeps _ _ _) (State.loadKernel_keeps _ _))]))))

theorem execPlEnable_keeps : ∀ a0 s, KeepsOn s (execPlEnable a0 s) := by
  intro a0 s; delta execPlEnable
  exact (.ite (.next (.refl _)) (.next (.on (State.planeEnable_keeps _ _) (State.accept_keeps _ _ _))))

theorem execPlDisable_keeps : ∀ a0 s, KeepsOn s (execPlDisable a0 s) := by
  intro a0 s; delta execPlDisable
  exact (.ite (.next (.refl _)) (.next (.on (State.planeDisable_keeps _ _) (State.accept_keeps _ _ _))))

theorem execPlCommit_keeps : ∀ a0 s, KeepsOn s (execPlCommit a0 s) := by
  intro a0 s; delta execPlCommit
  exact (.ite (.next (.refl _)) (.next (.on (State.planeCommit_keeps _ _) (State.accept_keeps _ _ _))))

theorem execPlClear_keeps : ∀ a0 s, KeepsOn s (execPlClear a0 s) := by
  intro a0 s; delta execPlClear
  exact (.ite (.next (.refl _)) (.next (.on (State.planeClear_keeps _ _) (State.accept_keeps _ _ _))))

theorem execPlSnap_keeps : ∀ a0 s, KeepsOn s (execPlSnap a0 s) := by
  intro a0 s; delta execPlSnap
  exact (.ite (.next (.refl _)) (.next (.on (State.planeSnap_keeps _ _ _) (State.accept_keeps _ _ _))))

theorem execPlRestart_keeps : ∀ a0 s, KeepsOn s (execPlRestart a0 s) := by
  intro a0 s; delta execPlRestart
  exact (.ite (.next (.refl _)) (.next (.on (State.planeRestart_keeps _ _) (State.accept_keeps _ _ _))))

theorem execSnapDone_keeps : ∀ a0 s, KeepsOn s (execSnapDone a0 s) := by
  intro a0 s; delta execSnapDone
  exact (.ite (.next (.refl _)) (.next (.on (State.blkEvent_keeps _ _ _ _ _) (.on (State.setSta_keeps _ _ _) (.on
    (State.setReg_keeps _ _ _) (.on (State.setFld_keeps _ _ _ _) (.on (State.setFld_keeps _ _ _ _) (.on (State.setPlane_keeps
    _ _ _) (.ite (.on (.foldl (fun _ _ => (State.setPlane_keeps _ _ _)) _ _) (.ite (.on (State.flowPush_keeps _ _ _ _ _) (.ite
    (.on (State.inkStore_keeps _ _ _ _) (State.inkStore_keeps _ _ _ _)) (.refl _))) (.ite (.on (State.inkStore_keeps _ _ _ _)
    (State.inkStore_keeps _ _ _ _)) (.refl _)))) (.ite (.on (State.flowPush_keeps _ _ _ _ _) (.ite (.on (State.inkStore_keeps
    _ _ _ _) (State.inkStore_keeps _ _ _ _)) (.refl _))) (.ite (.on (State.inkStore_keeps _ _ _ _) (State.inkStore_keeps _ _ _
    _)) (.refl _))))))))))))

theorem execPersistTick_keeps : ∀ a0 s, KeepsOn s (execPersistTick a0 s) := by
  intro a0 s; delta execPersistTick
  exact (.ite (.next (.refl _)) (.ite (.next (State.setPlane_keeps _ _ _)) (.next (.ite (.on (State.planeChange_keeps _ _)
    (.on (.foldl (fun _ _ => (State.setPlane_keeps _ _ _)) _ _) (State.setPlane_keeps _ _ _))) (.on (.foldl (fun _ _ =>
    (State.setPlane_keeps _ _ _)) _ _) (State.setPlane_keeps _ _ _))))))

theorem execDispCommit_keeps : ∀ s, KeepsOn s (execDispCommit s) := by
  intro s; delta execDispCommit
  exact (.ite (.next (.on (State.blkEvent_keeps _ _ _ _ _) (.on (State.setFld_keeps _ _ _ _) (State.accept_keeps _ _ _))))
    (.next (.on (State.displayChange_keeps _) (.on (State.commitWhere_keeps _ _ _) (State.accept_keeps _ _ _)))))

theorem execLayerRelease_keeps : ∀ s, KeepsOn s (execLayerRelease s) := by
  intro s; delta execLayerRelease
  exact (.ite (.next (.on (State.blkEvent_keeps _ _ _ _ _) (.on (State.commitRegs_keeps _ _ _) (State.accept_keeps _ _ _))))
    (.ite (.next (.on (State.setBlkSta_keeps _ _ _) (.upd rfl rfl (.on (State.commitRegs_keeps _ _ _) (State.accept_keeps _ _
    _))))) (.next (.on (State.raise_keeps _ _ _) (.on (State.commitRegs_keeps _ _ _) (State.accept_keeps _ _ _))))))

theorem execTouchGo_keeps : ∀ s, KeepsOn s (execTouchGo s) := by
  intro s; delta execTouchGo
  exact (.next (.on (State.displayChange_keeps _) (State.accept_keeps _ _ _)))

theorem execDpEnable_keeps : ∀ a0 s, KeepsOn s (execDpEnable a0 s) := by
  intro a0 s; delta execDpEnable
  exact (.ite (.next (.refl _)) (.next (.on (State.dpEnable_keeps _ _) (State.accept_keeps _ _ _))))

theorem execDpDisable_keeps : ∀ a0 s, KeepsOn s (execDpDisable a0 s) := by
  intro a0 s; delta execDpDisable
  exact (.ite (.next (.refl _)) (.next (.on (State.dpDisable_keeps _ _) (State.accept_keeps _ _ _))))

theorem execReplayHoldGo_keeps : ∀ a0 s, KeepsOn s (execReplayHoldGo a0 s) := by
  intro a0 s; delta execReplayHoldGo
  exact (.ite (.next (.refl _)) (.ite (.next (.on (State.busyDrop_keeps _ _ _) (State.accept_keeps _ _ _))) (.ite (.next
    (State.accept_keeps _ _ _)) (.next (.on (.foldl (fun _ _ => (State.setPanel_keeps _ _ _)) _ _) (State.accept_keeps _ _
    _))))))

theorem execReplayExitGo_keeps : ∀ a0 s, KeepsOn s (execReplayExitGo a0 s) := by
  intro a0 s; delta execReplayExitGo
  exact (.ite (.next (.refl _)) (.next (.on (.foldl (fun _ _ => by exact (.ite (State.setPanel_keeps _ _ _) (.refl _))) _ _) (State.accept_keeps _ _ _))))

theorem execDispFrameStart_keeps : ∀ a0 a1 s, KeepsOn s (execDispFrameStart a0 a1 s) := by
  intro a0 a1 s; delta execDispFrameStart
  exact (.ite (.next (.refl _)) (.ite (.next (.foldl (fun _ _ => (State.panelOff_keeps _ _)) _ _)) (.next (.ite (.on
    (State.sendPanel_keeps _ _ _) (.ite (.refl _) (State.replayStep_keeps _ _))) (.ite (.refl _) (State.replayStep_keeps _
    _))))))

theorem execDpLinkLost_keeps : ∀ a0 a1 s, KeepsOn s (execDpLinkLost a0 a1 s) := by
  intro a0 a1 s; delta execDpLinkLost
  exact (.ite (.next (.refl _)) (.next (.on (State.blkEvent_keeps _ _ _ _ _) (.on (State.freeReleases_keeps _) (.on
    (State.setPanel_keeps _ _ _) (.on (State.setFld_keeps _ _ _ _) (State.setDpState_keeps _ _ _)))))))

theorem execDpLinkRetry_keeps : ∀ a0 s, KeepsOn s (execDpLinkRetry a0 s) := by
  intro a0 s; delta execDpLinkRetry
  exact (.next (.ite (State.setDpState_keeps _ _ _) (.refl _)))

theorem execDpLinkUp_keeps : ∀ a0 a1 s, KeepsOn s (execDpLinkUp a0 a1 s) := by
  intro a0 a1 s; delta execDpLinkUp
  exact (.ite (.next (.refl _)) (.next (.on (State.raise_keeps _ _ _) (.on (State.setFld_keeps _ _ _ _) (.on
    (State.setFld_keeps _ _ _ _) (State.setDpState_keeps _ _ _))))))

theorem execInkRead_keeps : ∀ a0 a1 a2 a3 s, KeepsOn s (execInkRead a0 a1 a2 a3 s) := by
  intro a0 a1 a2 a3 s; delta execInkRead
  exact (.next (.ite (State.inkRead_keeps _ _ _ _ _) (.refl _)))

theorem execInkWrite_keeps : ∀ a0 a1 a2 a3 s, KeepsOn s (execInkWrite a0 a1 a2 a3 s) := by
  intro a0 a1 a2 a3 s; delta execInkWrite
  exact (.next (.ite (State.inkWrite_keeps _ _ _ _ _) (.refl _)))

theorem execPatrolScrub_keeps : ∀ a0 s, KeepsOn s (execPatrolScrub a0 s) := by
  intro a0 s; delta execPatrolScrub
  exact (.next (.on (.foldl (fun _ _ => (State.readCell_keeps _ _ _ _ _)) _ _) (.of rfl rfl rfl rfl rfl)))

theorem execScrubGo_keeps : ∀ s, KeepsOn s (execScrubGo s) := by
  intro s; delta execScrubGo
  exact (.next (.upd rfl rfl (State.setFld_keeps _ _ _ _)))

theorem execRefreshDue_keeps : ∀ a0 a1 a2 s, KeepsOn s (execRefreshDue a0 a1 a2 s) := by
  intro a0 a1 a2 s; delta execRefreshDue
  exact (.ite (.next (.refl _)) (.next (State.setFld_keeps _ _ _ _)))

theorem execTempStatusRead_keeps : ∀ a0 a1 s, KeepsOn s (execTempStatusRead a0 a1 s) := by
  intro a0 a1 s; delta execTempStatusRead
  exact (.ite (.next (.refl _)) (.next (.ite (.on (State.blkEvent_keeps _ _ _ _ _) (.ite (.on (State.blkEvent_keeps _ _ _ _ _)
    (.on (State.count_keeps _ _ _) (.on (State.setFld_keeps _ _ _ _) (State.setFld_keeps _ _ _ _)))) (.on (State.setFld_keeps
    _ _ _ _) (State.setFld_keeps _ _ _ _)))) (.ite (.on (State.blkEvent_keeps _ _ _ _ _) (.on (State.count_keeps _ _ _) (.on
    (State.setFld_keeps _ _ _ _) (State.setFld_keeps _ _ _ _)))) (.on (State.setFld_keeps _ _ _ _) (State.setFld_keeps _ _ _
    _))))))

theorem execRequestPromote_keeps : ∀ a0 a1 s, KeepsOn s (execRequestPromote a0 a1 s) := by
  intro a0 a1 s; delta execRequestPromote
  exact (.next (.ite (State.count_keeps _ _ _) (.refl _)))

theorem execDriftRead_keeps : ∀ a0 a1 a2 s, KeepsOn s (execDriftRead a0 a1 a2 s) := by
  intro a0 a1 a2 s; unfold execDriftRead; dsimp only
  exact (.ite (.next (.refl _)) (by split; exacts [(.next (State.setFld_keeps _ _ _ _)), (.ite (.next (.on (State.setFld_keeps _ _ _ _) (State.setFld_keeps _ _ _ _))) (.next (.ite (.on (State.blkEvent_keeps _ _ _ _ _) (State.setFld_keeps _ _ _ _)) (.on (State.startRetrain_keeps _ _) (.on (State.blkEvent_keeps _ _ _ _ _) (State.setFld_keeps _ _ _ _))))))]))

theorem execRowRemapped_keeps : ∀ a0 a1 a2 s, KeepsOn s (execRowRemapped a0 a1 a2 s) := by
  intro a0 a1 a2 s; unfold execRowRemapped; dsimp only
  exact (.ite (.next (.refl _)) (by split; exacts [(.next (.refl _)), (.next (.on (State.spareAlarm_keeps _ _ _) (.on (State.raise_keeps _ _ _) (.upd rfl rfl (State.setRows_keeps _ _ _)))))]))

theorem execBankSpared_keeps : ∀ a0 a1 s, KeepsOn s (execBankSpared a0 a1 s) := by
  intro a0 a1 s; delta execBankSpared
  exact (.ite (.next (.refl _)) (.next (.on (State.spareAlarm_keeps _ _ _) (.on (State.raise_keeps _ _ _) (.on
    (State.setFld_keeps _ _ _ _) (.on (State.setFld_keeps _ _ _ _) (State.setRows_keeps _ _ _)))))))

theorem execChannelFailed_keeps : ∀ a0 s, KeepsOn s (execChannelFailed a0 s) := by
  intro a0 s; delta execChannelFailed
  exact (.next (.ite (.refl _) (State.failChannel_keeps _ _)))

theorem execInkRetrain_keeps : ∀ s, KeepsOn s (execInkRetrain s) := by
  intro s; delta execInkRetrain
  exact (.ite (.next (.on (State.busyDrop_keeps _ _ _) (State.accept_keeps _ _ _))) (.next (.ite (.on
    (State.startRetrain_keeps _ _) (.on (State.commitRegs_keeps _ _ _) (State.accept_keeps _ _ _))) (.on
    (State.commitRegs_keeps _ _ _) (State.accept_keeps _ _ _)))))

theorem execXlateGo_keeps : ∀ s, KeepsOn s (execXlateGo s) := by
  intro s; delta execXlateGo
  exact (.ite (.next (.on (State.setFld_keeps _ _ _ _) (.on (State.setReg_keeps _ _ _) (.on (State.commitRegs_keeps _ _ _)
    (State.setFld_keeps _ _ _ _))))) (.next (.on (State.setFld_keeps _ _ _ _) (.on (State.setReg_keeps _ _ _) (.on
    (State.commitRegs_keeps _ _ _) (State.setFld_keeps _ _ _ _))))))

theorem execElogPop_keeps : ∀ s, KeepsOn s (execElogPop s) := by
  intro s; delta execElogPop
  exact (.next (.on (State.elogHead_keeps _) (.upd rfl rfl (State.setFld_keeps _ _ _ _))))

theorem execTrnRun_keeps : ∀ a0 a1 s, KeepsOn s (execTrnRun a0 a1 s) := by
  intro a0 a1 s; delta execTrnRun
  exact (.ite (.next (State.setFld_keeps _ _ _ _)) (.next (.on (State.setFld_keeps _ _ _ _) (State.setFld_keeps _ _ _ _))))

theorem execDoorbell_keeps : ∀ a0 a1 a2 a3 s, KeepsOn s (execDoorbell a0 a1 a2 a3 s) := by
  intro a0 a1 a2 a3 s; unfold execDoorbell; dsimp only
  exact (by split; exacts [(.ite (.next (State.accessErr_keeps _ _ _ _ _ _)) (.next (.ite (State.ringDoorbell_keeps _ _ _ _) (State.dbBad_keeps _ _)))), (.ite (.next (State.accessErr_keeps _ _ _ _ _ _)) (.next (State.emit_keeps _ _))), (.next (State.accessErr_keeps _ _ _ _ _ _))])

theorem execRingEnable_keeps : ∀ a0 s, KeepsOn s (execRingEnable a0 s) := by
  intro a0 s; delta execRingEnable
  exact (.next (.on (State.ringEnable_keeps _ _) (State.accept_keeps _ _ _)))

theorem execRingDisable_keeps : ∀ a0 s, KeepsOn s (execRingDisable a0 s) := by
  intro a0 s; delta execRingDisable
  exact (.next (.on (State.ringDisable_keeps _ _) (State.accept_keeps _ _ _)))

theorem execRingResume_keeps : ∀ a0 s, KeepsOn s (execRingResume a0 s) := by
  intro a0 s; delta execRingResume
  exact (.next (.on (State.ringResume_keeps _ _) (State.accept_keeps _ _ _)))

theorem execRingReset_keeps : ∀ a0 s, KeepsOn s (execRingReset a0 s) := by
  intro a0 s; delta execRingReset
  exact (.next (.on (State.ringReset_keeps _ _) (State.accept_keeps _ _ _)))

theorem execHqCommit_keeps : ∀ s, KeepsOn s (execHqCommit s) := by
  intro s; delta execHqCommit
  exact (.next (.on (State.commitRegs_keeps _ _ _) (State.accept_keeps _ _ _)))

theorem execWinCommit_keeps : ∀ s, KeepsOn s (execWinCommit s) := by
  intro s; delta execWinCommit
  exact (.next (.on (State.commitRegs_keeps _ _ _) (State.accept_keeps _ _ _)))

theorem execBar2Access_keeps : ∀ a0 a1 a2 a3 s, KeepsOn s (execBar2Access a0 a1 a2 a3 s) := by
  intro a0 a1 a2 a3 s; unfold execBar2Access; dsimp only
  exact (by split; exacts [(.ite (.next (.on (State.emit_keeps _ _) (State.inkRead_keeps _ _ _ _ _))) (.next (State.accessErr_keeps _ _ _ _ _ _))), (.ite (.next (State.accessErr_keeps _ _ _ _ _ _)) (.next (.foldl (fun _ _ => (State.inkWrite_keeps _ _ _ _ _)) _ _)))])

theorem execCtrlNop_keeps : ∀ a0 a1 s, KeepsOn s (execCtrlNop a0 a1 s) := by
  intro a0 a1 s; delta execCtrlNop
  exact (.next (State.ctrl_keeps _ _ _ _ (fun _ _ => (.refl _))))

theorem execReadRetry_keeps : ∀ a0 s, KeepsOn s (execReadRetry a0 s) := by
  intro a0 s; unfold execReadRetry; dsimp only
  exact (by split; exacts [(.next (.refl _)), (by split; exacts [(.next (.refl _)), (.ite (.next (.refl _)) (.ite (.next (.on (State.setRetries_keeps _ _ _) (State.count_keeps _ _ _))) (.next (.on (State.ringHalt_keeps _ _ _ _ _) (State.draw_keeps _)))))])])

theorem execCoalTimer_keeps : ∀ a0 s, KeepsOn s (execCoalTimer a0 s) := by
  intro a0 s; delta execCoalTimer
  exact (.ite (.next (.refl _)) (.next (.on (State.signal_keeps _ _) (.of rfl rfl rfl rfl rfl))))

theorem execDmaBurst_keeps : ∀ a0 a1 s, KeepsOn s (execDmaBurst a0 a1 s) := by
  intro a0 a1 s; unfold execDmaBurst
  exact (.ite (.next (.ite (State.bufFlush_keeps _ _) (.refl _))) (.ite (.next (.ite (.on (State.bufFlush_keeps _ _) (State.tryPromote_keeps _ _)) (State.tryPromote_keeps _ _))) (by (try dsimp only); split; exacts [(.next (.on (State.moveBurst_keeps _ _ _ _) (.ite (.on (State.takeBuffer_keeps _ _) (.ite (.on (State.bufFlush_keeps _ _) (State.tryPromote_keeps _ _)) (State.tryPromote_keeps _ _))) (.ite (.on (State.bufFlush_keeps _ _) (State.tryPromote_keeps _ _)) (State.tryPromote_keeps _ _))))), (.next (.ite (.on (State.takeBuffer_keeps _ _) (.ite (.on (State.bufFlush_keeps _ _) (State.tryPromote_keeps _ _)) (State.tryPromote_keeps _ _))) (.ite (.on (State.bufFlush_keeps _ _) (State.tryPromote_keeps _ _)) (State.tryPromote_keeps _ _))))])))

theorem execFlushTimer_keeps : ∀ a0 s, KeepsOn s (execFlushTimer a0 s) := by
  intro a0 s; delta execFlushTimer
  exact (.next (.ite (State.bufFlush_keeps _ _) (.refl _)))

theorem execFreelistRetry_keeps : ∀ a0 s, KeepsOn s (execFreelistRetry a0 s) := by
  intro a0 s; delta execFreelistRetry
  exact (.ite (.next (.refl _)) (.ite (.next (.on (State.setChannel_keeps _ _ _) (State.count_keeps _ _ _))) (.next
    (State.chHalt_keeps _ _ _))))

theorem execDmaEnable_keeps : ∀ a0 s, KeepsOn s (execDmaEnable a0 s) := by
  intro a0 s; delta execDmaEnable
  exact (.next (.on (State.dmaEnable_keeps _ _) (State.accept_keeps _ _ _)))

theorem execDmaDisable_keeps : ∀ a0 s, KeepsOn s (execDmaDisable a0 s) := by
  intro a0 s; delta execDmaDisable
  exact (.next (.on (State.dmaDisable_keeps _ _) (State.accept_keeps _ _ _)))

theorem execDmaResume_keeps : ∀ a0 s, KeepsOn s (execDmaResume a0 s) := by
  intro a0 s; delta execDmaResume
  exact (.next (.ite (.on (State.tryPromote_keeps _ _) (.on (State.setDmaState_keeps _ _ _) (State.accept_keeps _ _ _)))
    (State.accept_keeps _ _ _)))

theorem execHostReset_keeps : ∀ a0 s, KeepsOn s (execHostReset a0 s) := by
  intro a0 s; delta execHostReset
  exact (.next (.on (State.blkEvent_keeps _ _ _ _ _) (.on (State.count_keeps _ _ _) (.ite (.upd rfl rfl (.ite (.on (.foldl (fun _ _ => (State.setReg_keeps _ _ _)) _ _) (.on (.foldl (fun _ _ => by exact (.foldl (fun _ _ => (State.setReg_keeps _ _ _)) _ _)) _ _) (.on (State.dropInHand_keeps _) (.on (State.resetRings_keeps _) (State.outageChannels_keeps _))))) (.on (State.setHostLink_keeps _ _ _ _) (.on (.foldl (fun _ _ => (State.setReg_keeps _ _ _)) _ _) (.on (.foldl (fun _ _ => by exact (.foldl (fun _ _ => (State.setReg_keeps _ _ _)) _ _)) _ _) (.on (State.dropInHand_keeps _) (.on (State.resetRings_keeps _) (State.outageChannels_keeps _)))))))) (.ite (.on (.foldl (fun _ _ => (State.setReg_keeps _ _ _)) _ _) (.on (.foldl (fun _ _ => by exact (.foldl (fun _ _ => (State.setReg_keeps _ _ _)) _ _)) _ _) (.on (State.dropInHand_keeps _) (.on (State.resetRings_keeps _) (State.outageChannels_keeps _))))) (.on (State.setHostLink_keeps _ _ _ _) (.on (.foldl (fun _ _ => (State.setReg_keeps _ _ _)) _ _) (.on (.foldl (fun _ _ => by exact (.foldl (fun _ _ => (State.setReg_keeps _ _ _)) _ _)) _ _) (.on (State.dropInHand_keeps _) (.on (State.resetRings_keeps _) (State.outageChannels_keeps _)))))))))))

theorem execLinkRate_keeps : ∀ a0 a1 s, KeepsOn s (execLinkRate a0 a1 s) := by
  intro a0 a1 s; delta execLinkRate
  exact (.ite (.next (.refl _)) (.next (.ite (.on (State.raise_keeps _ _ _) (State.setHostLink_keeps _ _ _ _))
    (State.setHostLink_keeps _ _ _ _))))

theorem execAttachGo_keeps : ∀ a0 a1 a2 s, KeepsOn s (execAttachGo a0 a1 a2 s) := by
  intro a0 a1 a2 s; unfold execAttachGo; dsimp only
  exact (.ite (.next (State.accept_keeps _ _ _)) (by split; exacts [(.next (.on (State.drvRefuse_keeps _ _ _) (State.accept_keeps _ _ _))), (.next (.on (State.drvRefuse_keeps _ _ _) (State.accept_keeps _ _ _))), (.next (.on (State.raise_keeps _ _ _) (.on (State.setDrvState_keeps _ _ _) (.on (State.setFld_keeps _ _ _ _) (.on (.foldl (fun _ _ => (State.resumeRotation_keeps _ _ _)) _ _) (.on (State.setReg_keeps _ _ _) (.on (State.setDrive_keeps _ _ _) (State.accept_keeps _ _ _))))))))]))

theorem execFormatGo_keeps : ∀ a0 s, KeepsOn s (execFormatGo a0 s) := by
  intro a0 s; unfold execFormatGo; dsimp only
  exact (.ite (.next (.on (State.setSta_keeps _ _ _) (State.accept_keeps _ _ _))) (.ite (.next (State.accept_keeps _ _ _)) (.next (.on (.foldl (fun _ _ => by exact (.ite (.on (State.setDisk_keeps _ _ _) (State.setReg64_keeps _ _ _ _)) (.refl _))) _ _) (.on (State.emit_keeps _ _) (.on (State.emit_keeps _ _) (.on (State.emit_keeps _ _) (.on (State.labelBody_keeps _ _) (State.accept_keeps _ _ _)))))))))

theorem execMeasureGo_keeps : ∀ a0 s, KeepsOn s (execMeasureGo a0 s) := by
  intro a0 s; delta execMeasureGo
  exact (.next (.ite (.on (State.setDrvState_keeps _ _ _) (State.accept_keeps _ _ _)) (State.accept_keeps _ _ _)))

theorem execRetireGo_keeps : ∀ a0 s, KeepsOn s (execRetireGo a0 s) := by
  intro a0 s; delta execRetireGo
  exact (.next (.ite (.on (State.drvRetire_keeps _ _) (State.accept_keeps _ _ _)) (State.accept_keeps _ _ _)))

theorem execDetachGo_keeps : ∀ a0 s, KeepsOn s (execDetachGo a0 s) := by
  intro a0 s; delta execDetachGo
  exact (.ite (.next (.on (State.setSta_keeps _ _ _) (State.accept_keeps _ _ _))) (.ite (.next (.on (State.setDrvState_keeps _
    _ _) (.on (State.setDrive_keeps _ _ _) (State.accept_keeps _ _ _)))) (.next (State.accept_keeps _ _ _))))

theorem execDsEnable_keeps : ∀ a0 s, KeepsOn s (execDsEnable a0 s) := by
  intro a0 s; delta execDsEnable
  exact (.next (.on (State.dsEnable_keeps _ _) (State.accept_keeps _ _ _)))

theorem execDsDisable_keeps : ∀ a0 s, KeepsOn s (execDsDisable a0 s) := by
  intro a0 s; delta execDsDisable
  exact (.next (.on (State.dsDisable_keeps _ _) (State.accept_keeps _ _ _)))

theorem execDsRestart_keeps : ∀ a0 s, KeepsOn s (execDsRestart a0 s) := by
  intro a0 s; delta execDsRestart
  exact (.next (.on (State.dsRestart_keeps _ _) (State.accept_keeps _ _ _)))

theorem execReadGo_keeps : ∀ s, KeepsOn s (execReadGo s) := by
  intro s; delta execReadGo
  exact (.ite (.next (.on (State.busyDrop_keeps _ _ _) (State.accept_keeps _ _ _))) (.next (.on (State.setFld_keeps _ _ _ _)
    (.on (State.setFld_keeps _ _ _ _) (.on (State.setFld_keeps _ _ _ _) (.on (State.commitRegs_keeps _ _ _)
    (State.accept_keeps _ _ _)))))))

theorem execReadDone_keeps : ∀ a0 s, KeepsOn s (execReadDone a0 s) := by
  intro a0 s; unfold execReadDone
  exact (.ite (.next (.refl _)) (by (try dsimp only); split; exacts [(.next (.on (State.readEnd_keeps _ _) (State.inkStore_keeps _ _ _ _))), (.next (State.readEnd_keeps _ _))]))

theorem execExtentWrite_keeps : ∀ a0 a1 s, KeepsOn s (execExtentWrite a0 a1 s) := by
  intro a0 a1 s; unfold execExtentWrite
  dsimp only
  split
  · exact .next (.trans (State.rewriteExtent_keeps _ _) (State.reportFill_keeps _ _))
  · split
    · exact .next (.refl _)
    · split
      · exact .next (.refl _)
      · split
        · next heq => exact .next (.trans (.trans ((congrArg (Keeps s ·.2) heq).mp (State.takeSlot_keeps _ _ _)) (State.newExtent_keeps _ _ _ _ _)) (State.reportFill_keeps _ _))
        · next heq =>
          have h := (congrArg (Keeps s ·.2) heq).mp (State.takeSlot_keeps _ _ _)
          exact .next (.ite (.trans (.trans h (State.diskFull_keeps _ _)) (State.reportFill_keeps _ _)) h)

theorem execJournalFlush_keeps : ∀ a0 s, KeepsOn s (execJournalFlush a0 s) := by
  intro a0 s; delta execJournalFlush
  exact (.next (.ite (State.flushJournal_keeps _ _) (.refl _)))

theorem execJournalBlockDone_keeps : ∀ a0 s, KeepsOn s (execJournalBlockDone a0 s) := by
  intro a0 s; unfold execJournalBlockDone; dsimp only
  exact (by split; exacts [(.next (.refl _)), (.ite (.next (.refl _)) (.next (.ite (.on (State.drvRetire_keeps _ _) (.on (.foldl (fun _ _ => by exact (.ite (.refl _) (.on (State.diskDrained_keeps _ _) (State.reportFill_keeps _ _)))) _ _) (.on (.foldl (fun _ _ => (State.entryDone_keeps _ _ _)) _ _) (State.setDrive_keeps _ _ _)))) (.on (.foldl (fun _ _ => by exact (.ite (.refl _) (.on (State.diskDrained_keeps _ _) (State.reportFill_keeps _ _)))) _ _) (.on (.foldl (fun _ _ => (State.entryDone_keeps _ _ _)) _ _) (State.setDrive_keeps _ _ _))))))])

theorem execDrvLost_keeps : ∀ a0 a1 s, KeepsOn s (execDrvLost a0 a1 s) := by
  intro a0 a1 s; delta execDrvLost
  exact (.ite (.next (.refl _)) (.next (.on (.foldl (fun _ _ => by exact (.foldl (fun _ _ => (State.rewriteExtent_keeps _ _)) _ _)) _ _) (.on (State.blkEvent_keeps _ _ _ _ _) (.on (State.setSta_keeps _ _ _) (.on (State.setFld_keeps _ _ _ _) (.on (State.setFld_keeps _ _ _ _) (.on (State.setDrvState_keeps _ _ _) (.on (State.setDrive_keeps _ _ _) (.ite (State.count_keeps _ _ _) (.refl _)))))))))))

theorem execDriveLinkUp_keeps : ∀ a0 a1 a2 a3 a4 a5 s, KeepsOn s (execDriveLinkUp a0 a1 a2 a3 a4 a5 s) := by
  intro a0 a1 a2 a3 a4 a5 s; delta execDriveLinkUp
  exact (.ite (.next (.refl _)) (.next (.ite (.on (State.drvRefuse_keeps _ _ _) (.on (State.setDrvState_keeps _ _ _) (.on
    (State.setDrive_keeps _ _ _) (.on (State.setFld_keeps _ _ _ _) (.on (State.setFld_keeps _ _ _ _) (State.setFld_keeps _ _ _
    _)))))) (.ite (.on (State.drvRefuse_keeps _ _ _) (.on (State.setDrvState_keeps _ _ _) (.on (State.setDrive_keeps _ _ _)
    (.on (State.setFld_keeps _ _ _ _) (.on (State.setFld_keeps _ _ _ _) (State.setFld_keeps _ _ _ _)))))) (.ite (.on
    (State.drvRefuse_keeps _ _ _) (.on (State.setDrvState_keeps _ _ _) (.on (State.setDrive_keeps _ _ _) (.on
    (State.setFld_keeps _ _ _ _) (.on (State.setFld_keeps _ _ _ _) (State.setFld_keeps _ _ _ _)))))) (.on
    (State.setDrvState_keeps _ _ _) (.on (State.setReg_keeps _ _ _) (.on (State.setDrvState_keeps _ _ _) (.on
    (State.setDrive_keeps _ _ _) (.on (State.setFld_keeps _ _ _ _) (.on (State.setFld_keeps _ _ _ _) (State.setFld_keeps _ _ _
    _))))))))))))

theorem execMeasureEnd_keeps : ∀ a0 a1 s, KeepsOn s (execMeasureEnd a0 a1 s) := by
  intro a0 a1 s; delta execMeasureEnd
  exact (.next (.ite (.on (State.setDrvState_keeps _ _ _) (State.setReg_keeps _ _ _)) (.refl _)))

theorem execWearRead_keeps : ∀ a0 a1 a2 s, KeepsOn s (execWearRead a0 a1 a2 s) := by
  intro a0 a1 a2 s; delta execWearRead
  exact (.ite (.next (.refl _)) (.next (.ite (.on (State.drvRetire_keeps _ _) (.ite (.on (State.raise_keeps _ _ _) (.on
    (State.setSta_keeps _ _ _) (.ite (.on (State.setDrive_keeps _ _ _) (.on (State.setFld_keeps _ _ _ _) (State.setFld_keeps _
    _ _ _))) (.on (State.setFld_keeps _ _ _ _) (State.setFld_keeps _ _ _ _))))) (.ite (.on (State.setDrive_keeps _ _ _) (.on
    (State.setFld_keeps _ _ _ _) (State.setFld_keeps _ _ _ _))) (.on (State.setFld_keeps _ _ _ _) (State.setFld_keeps _ _ _
    _))))) (.ite (.on (State.raise_keeps _ _ _) (.on (State.setSta_keeps _ _ _) (.ite (.on (State.setDrive_keeps _ _ _) (.on
    (State.setFld_keeps _ _ _ _) (State.setFld_keeps _ _ _ _))) (.on (State.setFld_keeps _ _ _ _) (State.setFld_keeps _ _ _
    _))))) (.ite (.on (State.setDrive_keeps _ _ _) (.on (State.setFld_keeps _ _ _ _) (State.setFld_keeps _ _ _ _))) (.on
    (State.setFld_keeps _ _ _ _) (State.setFld_keeps _ _ _ _)))))))

theorem execDrvSlow_keeps : ∀ a0 s, KeepsOn s (execDrvSlow a0 s) := by
  intro a0 s; delta execDrvSlow
  exact (.next (.ite (.on (State.blkEvent_keeps _ _ _ _ _) (State.setSta_keeps _ _ _)) (.refl _)))

theorem execCalGo_keeps : ∀ s, KeepsOn s (execCalGo s) := by
  intro s; delta execCalGo
  exact (.ite (.next (.refl _)) (.ite (.next (.on (State.busyDrop_keeps _ _ _) (State.accept_keeps _ _ _))) (.next (.on
    (State.startCal_keeps _ _ _ _ _) (.on (State.commitRegs_keeps _ _ _) (State.accept_keeps _ _ _))))))

theorem execCalCommit_keeps : ∀ s, KeepsOn s (execCalCommit s) := by
  intro s; delta execCalCommit
  exact (.next (.on (State.commitRegs_keeps _ _ _) (State.accept_keeps _ _ _)))

theorem execCalRunEnd_keeps : ∀ a0 a1 a2 a3 s, KeepsOn s (execCalRunEnd a0 a1 a2 a3 s) := by
  intro a0 a1 a2 a3 s; unfold execCalRunEnd; dsimp only
  exact (by split; exacts [(.next (.refl _)), (.ite (.next (.refl _)) (.ite (.next (.on (State.precondFail_keeps _) (.ite (.after (execChannelRetrained_keeps _)) (.refl _)))) (.ite (.next (.on (State.dropCal_keeps _ _ _ _) (.on (State.calEvent_keeps _ _ _) (.on (State.count_keeps _ _ _) (.ite (.after (execChannelRetrained_keeps _)) (.refl _)))))) (.next (.on (State.calAgreed_keeps _ _) (.ite (.after (execChannelRetrained_keeps _)) (.refl _)))))))])

theorem execCalRetry_keeps : ∀ s, KeepsOn s (execCalRetry s) := by
  intro s; delta execCalRetry
  exact (.next (.ite (State.calAttempt_keeps _) (.refl _)))

theorem execCalBackground_keeps : ∀ s, KeepsOn s (execCalBackground s) := by
  intro s; delta execCalBackground
  exact (.ite (.next (.refl _)) (.next (State.startCal_keeps _ _ _ _ _)))

theorem execCalRun_keeps : ∀ a0 a1 s, KeepsOn s (execCalRun a0 a1 s) := by
  intro a0 a1 s; delta execCalRun
  exact (.ite (.next (.refl _)) (.next (State.ctrl_keeps _ _ _ _ (fun _ _ => (.iteSnd (.refl _) (.mkSnd (State.startCal_keeps
    _ _ _ _ _)))))))

theorem execHandoverStart_keeps : ∀ a0 a1 a2 a3 s, KeepsOn s (execHandoverStart a0 a1 a2 a3 s) := by
  intro a0 a1 a2 a3 s; delta execHandoverStart
  exact (.ite (.next (.refl _)) (.next (State.askHandover_keeps _ _)))

theorem execShadowCompare_keeps : ∀ a0 a1 a2 s, KeepsOn s (execShadowCompare a0 a1 a2 s) := by
  intro a0 a1 a2 s; unfold execShadowCompare; dsimp only
  exact (by split; exacts [(.next (.refl _)), (.ite (.next (State.mismatch_keeps _ _)) (.ite (.next (State.mismatch_keeps _ _)) (.next (.ite (.on (State.setFld_keeps _ _ _ _) (.of rfl rfl rfl rfl rfl)) (.of rfl rfl rfl rfl rfl)))))])

theorem execHandoverSwitch_keeps : ∀ a0 s, KeepsOn s (execHandoverSwitch a0 s) := by
  intro a0 s; unfold execHandoverSwitch; dsimp only
  exact (by split; exacts [(.next (.refl _)), (.ite (.next (.refl _)) (.next (.on (State.nextHandover_keeps _ _) (.ite (.on (State.switchCal_keeps _ _) (.on (State.setHandover_keeps _ _ _) (.of rfl rfl rfl rfl rfl))) (.on (State.switchUnit_keeps _ _ _ _ _) (.on (State.setHandover_keeps _ _ _) (.of rfl rfl rfl rfl rfl)))))))])

theorem execUnitFailure_keeps : ∀ a0 a1 a2 s, KeepsOn s (execUnitFailure a0 a1 a2 s) := by
  intro a0 a1 a2 s; unfold execUnitFailure
  exact (.ite (.next (.refl _)) (.ite (.ite (.next (.refl _)) (.ite (.next (.ite (.refl _) (State.loseLock_keeps _ _ _ _))) (.next (.on (State.handleFailures_keeps _ _) (.on (State.setPort_keeps _ _ _) (.ite (.on (State.raise_keeps _ _ _) (State.setSta_keeps _ _ _)) (.refl _))))))) (.ite (.next (.refl _)) (by (try dsimp only); split; exacts [(.next (.on (State.nextHandover_keeps _ _) (.ite (.on (State.setFld_keeps _ _ _ _) (.on (State.switchUnit_keeps _ _ _ _ _) (.on (State.dropItems_keeps _ _ _) (.ite (.on (State.lol_keeps _ _) (State.preempt_keeps _ _ _ _)) (State.preempt_keeps _ _ _ _))))) (.on (State.switchUnit_keeps _ _ _ _ _) (.on (State.dropItems_keeps _ _ _) (.ite (.on (State.lol_keeps _ _) (State.preempt_keeps _ _ _ _)) (State.preempt_keeps _ _ _ _))))))), (.next (.on (State.nextHandover_keeps _ _) (.on (State.unitFailed_keeps _ _ _ _) (.on (State.dropItems_keeps _ _ _) (State.preempt_keeps _ _ _ _)))))]))))

theorem execSpareSelftest_keeps : ∀ a0 a1 a2 s, KeepsOn s (execSpareSelftest a0 a1 a2 s) := by
  intro a0 a1 a2 s; delta execSpareSelftest
  exact (.next (State.selfTest_keeps _ _ _ _))

theorem execSpareCommit_keeps : ∀ s, KeepsOn s (execSpareCommit s) := by
  intro s; delta execSpareCommit
  exact (.next (.on (State.commitRegs_keeps _ _ _) (State.accept_keeps _ _ _)))

theorem execSpareRetest_keeps : ∀ a0 a1 a2 s, KeepsOn s (execSpareRetest a0 a1 a2 s) := by
  intro a0 a1 a2 s; unfold execSpareRetest; dsimp only
  exact (.next (State.ctrl_keeps _ _ _ _ (fun _ _ => (.iteSnd (.refl _) (by split; exacts [(State.selfTest_keeps _ _ _ _), (State.selfTest_keeps _ _ _ _), (.on (State.draw_keeps _) (State.selfTest_keeps _ _ _ _))])))))

theorem execPaceRead_keeps : ∀ a0 s, KeepsOn s (execPaceRead a0 s) := by
  intro a0 s; unfold execPaceRead; dsimp only
  exact (by split; exacts [(.next (.refl _)), (.next (.on (State.vcoreStep_keeps _ _) (.ite (.on (State.blkEvent_keeps _ _ _ _ _) (.upd rfl rfl (.on (State.setFld_keeps _ _ _ _) (.on (State.setFld_keeps _ _ _ _) (State.setFld_keeps _ _ _ _))))) (.upd rfl rfl (.on (State.setFld_keeps _ _ _ _) (.on (State.setFld_keeps _ _ _ _) (State.setFld_keeps _ _ _ _)))))))])

theorem execKeepalive_keeps : ∀ s, KeepsOn s (execKeepalive s) := by
  intro s; delta execKeepalive
  exact (.next (.of rfl rfl rfl rfl rfl))

theorem execKeepaliveTimeout_keeps : ∀ s, KeepsOn s (execKeepaliveTimeout s) := by
  intro s; delta execKeepaliveTimeout
  exact (.next (.ite (State.setVcore_keeps _ _) (.refl _)))

theorem execAvsCommit_keeps : ∀ s, KeepsOn s (execAvsCommit s) := by
  intro s; delta execAvsCommit
  exact (.ite (.next (.on (State.busyDrop_keeps _ _ _) (State.accept_keeps _ _ _))) (.next (.on (State.setVcore_keeps _ _)
    (.on (State.commitRegs_keeps _ _ _) (State.accept_keeps _ _ _)))))

theorem execLiveImageUpdate_keeps : ∀ s, KeepsOn s (execLiveImageUpdate s) := by
  intro s; delta execLiveImageUpdate
  exact (.next (.on (State.slotWritten_keeps _ _) (.of rfl rfl rfl rfl rfl)))

theorem execSessionCommit_keeps : ∀ a0 a1 a2 s, KeepsOn s (execSessionCommit a0 a1 a2 s) := by
  intro a0 a1 a2 s; delta execSessionCommit
  exact (.next (State.ctrl_keeps _ _ _ _ (fun _ _ => (.iteSnd (.refl _) (.mkSnd (.on (State.blkEvent_keeps _ _ _ _ _) (.on
    (State.logEntry_keeps _ _ _ _ _ _ _) (State.writeSession_keeps _ _))))))))

theorem execSessionClear_keeps : ∀ a0 a1 a2 s, KeepsOn s (execSessionClear a0 a1 a2 s) := by
  intro a0 a1 a2 s; delta execSessionClear
  exact (.next (State.ctrl_keeps _ _ _ _ (fun _ _ => (.iteSnd (.refl _) (.mkSnd (State.writeSession_keeps _ _))))))

theorem execKeyChange_keeps : ∀ a0 a1 a2 s, KeepsOn s (execKeyChange a0 a1 a2 s) := by
  intro a0 a1 a2 s; unfold execKeyChange
  refine .next (State.ctrl_keeps _ _ _ _ (fun c s => ?_))
  dsimp only
  split
  · exact .refl _
  · next heq => exact (.trans (.trans (.trans (.trans (State.changeKey_keeps _ _ _ _ heq) (State.slotWritten_keeps _ _)) (State.logEntry_keeps _ _ _ _ _ _ _)) (State.ctrlLate_keeps _ _ _ _ _ _)) (State.blkEvent_keeps _ _ _ _ _))

theorem execFwUpdate_keeps : ∀ a0 a1 a2 s, KeepsOn s (execFwUpdate a0 a1 a2 s) := by
  intro a0 a1 a2 s; delta execFwUpdate
  exact (.next (State.ctrl_keeps _ _ _ _ (fun _ _ => (.iteSnd (.refl _) (.iteSnd (.refl _) (.iteSnd (.refl _) (.iteSnd (.refl
    _) (.mkSnd (.of rfl rfl rfl rfl rfl)))))))))

theorem execFwSwitch_keeps : ∀ s, KeepsOn s (execFwSwitch s) := by
  intro s; unfold execFwSwitch; dsimp only
  exact (by split; exacts [(.next (.refl _)), (.ite (.next (.refl _)) (.next (.on (.foldl (fun _ _ => (State.nextHandover_keeps _ _)) _ _) (.on (State.ctrlLate_keeps _ _ _ _ _ _) (.on (State.blkEvent_keeps _ _ _ _ _) (.on (State.logEntry_keeps _ _ _ _ _ _ _) (.upd rfl rfl (.on (State.setStw_keeps _ _ _) (.on (State.setStw_keeps _ _ _) (.on (State.setStw_keeps _ _ _) (State.writeImage_keeps _ _)))))))))))])

theorem execFwConfirm_keeps : ∀ s, KeepsOn s (execFwConfirm s) := by
  intro s; unfold execFwConfirm; dsimp only
  exact (by split; exacts [(.next (.refl _)), (.ite (.next (.refl _)) (.next (.on (State.setStw_keeps _ _ _) (.of rfl rfl rfl rfl rfl))))])

theorem execServiceBundle_keeps : ∀ a0 a1 a2 s, KeepsOn s (execServiceBundle a0 a1 a2 s) := by
  intro a0 a1 a2 s; delta execServiceBundle
  exact (.next (State.ctrl_keeps _ _ _ _ (fun _ _ => (.iteSnd (.mkSnd (State.draw_keeps _)) (.mkSnd (.on (State.emit_keeps _
    _) (State.draw_keeps _)))))))

theorem execHoldGo_keeps : ∀ s, KeepsOn s (execHoldGo s) := by
  intro s; delta execHoldGo
  exact (.ite (.next (.on (State.busyDrop_keeps _ _ _) (State.accept_keeps _ _ _))) (.next (.on (State.raise_keeps _ _ _) (.on
    (State.setStw_keeps _ _ _) (.upd rfl rfl (.on (.foldl (fun _ _ => (State.portDisable_keeps _ _)) _ _) (State.accept_keeps
    _ _ _)))))))

theorem execResumeGo_keeps : ∀ s, KeepsOn s (execResumeGo s) := by
  intro s; unfold execResumeGo; dsimp only
  exact (by split; exacts [(.next (.on (State.resumeRest_keeps _ _) (.on (State.resumePorts_keeps _ _) (State.accept_keeps _ _ _)))), (.next (State.accept_keeps _ _ _))])

theorem execDiscardGo_keeps : ∀ s, KeepsOn s (execDiscardGo s) := by
  intro s; delta execDiscardGo
  exact (.next (.ite (.on (State.idleStart_keeps _ _) (.on (State.resetConfig_keeps _) (State.accept_keeps _ _ _)))
    (State.accept_keeps _ _ _)))

theorem execHoldWindowEnd_keeps : ∀ s, KeepsOn s (execHoldWindowEnd s) := by
  intro s; unfold execHoldWindowEnd
  exact (by (try dsimp only); split; exacts [(.next (State.resumeRest_keeps _ _)), (.next (.refl _))])

theorem execStewardTakeover_keeps : ∀ s, KeepsOn s (execStewardTakeover s) := by
  intro s; unfold execStewardTakeover; dsimp only
  exact (.ite (.next (.refl _)) (by split; exacts [(.next (.ite (.on (State.dropCal_keeps _ _ _ _) (.on (State.blkEvent_keeps _ _ _ _ _) (.on (State.count_keeps _ _ _) (.on (State.setStw_keeps _ _ _) (State.setStw_keeps _ _ _))))) (.on (State.blkEvent_keeps _ _ _ _ _) (.on (State.count_keeps _ _ _) (.on (State.setStw_keeps _ _ _) (State.setStw_keeps _ _ _)))))), (.ite (.next (.on (State.revertFw_keeps _) (.ite (.on (State.dropCal_keeps _ _ _ _) (.on (State.blkEvent_keeps _ _ _ _ _) (.on (State.count_keeps _ _ _) (.on (State.setStw_keeps _ _ _) (State.setStw_keeps _ _ _))))) (.on (State.blkEvent_keeps _ _ _ _ _) (.on (State.count_keeps _ _ _) (.on (State.setStw_keeps _ _ _) (State.setStw_keeps _ _ _))))))) (.next (.on (.foldl (fun _ _ => (State.nextHandover_keeps _ _)) _ _) (.on (State.ctrlLate_keeps _ _ _ _ _ _) (.upd rfl rfl (.ite (.on (State.dropCal_keeps _ _ _ _) (.on (State.blkEvent_keeps _ _ _ _ _) (.on (State.count_keeps _ _ _) (.on (State.setStw_keeps _ _ _) (State.setStw_keeps _ _ _))))) (.on (State.blkEvent_keeps _ _ _ _ _) (.on (State.count_keeps _ _ _) (.on (State.setStw_keeps _ _ _) (State.setStw_keeps _ _ _))))))))))]))

theorem execStandbyReady_keeps : ∀ s, KeepsOn s (execStandbyReady s) := by
  intro s; unfold execStandbyReady; dsimp only
  exact (.ite (.next (.refl _)) (by split; exacts [(.next (.refl _)), (.next (.on (State.setStw_keeps _ _ _) (State.switchUnit_keeps _ _ _ _ _)))]))

theorem execPowerUp_keeps : ∀ a0 a1 a2 a3 s, KeepsOn s (execPowerUp a0 a1 a2 a3 s) := by
  intro a0 a1 a2 a3 s; delta execPowerUp
  exact (.ite (.next (.refl _)) (.next (.ite (.ite (.on (State.pwrEvent_keeps _ _ _ _) (.on (State.setFld_keeps _ _ _ _) (.on (State.reportVersions_keeps _) (.on (State.setStw_keeps _ _ _) (.on (State.setStw_keeps _ _ _) (.on (State.setStw_keeps _ _ _) (.on (State.setStw_keeps _ _ _) (.on (.foldl (fun _ _ => by exact (.on (State.blkEvent_keeps _ _ _ _ _) (.of rfl rfl rfl rfl rfl))) _ _) (.on (.foldl (fun _ _ => by exact (.ite (State.regionLost_keeps _ _) (.refl _))) _ _) (.on (State.setFld_keeps _ _ _ _) (.ite (.on (State.setFld_keeps _ _ _ _) (.on (State.pin_keeps _ _ _) (.upd rfl rfl (State.unpowered_keeps _)))) (.on (State.pin_keeps _ _ _) (.upd rfl rfl (State.unpowered_keeps _)))))))))))))) (.on (State.setFld_keeps _ _ _ _) (.on (State.reportVersions_keeps _) (.on (State.setStw_keeps _ _ _) (.on (State.setStw_keeps _ _ _) (.on (State.setStw_keeps _ _ _) (.on (State.setStw_keeps _ _ _) (.on (.foldl (fun _ _ => by exact (.on (State.blkEvent_keeps _ _ _ _ _) (.of rfl rfl rfl rfl rfl))) _ _) (.on (.foldl (fun _ _ => by exact (.ite (State.regionLost_keeps _ _) (.refl _))) _ _) (.on (State.setFld_keeps _ _ _ _) (.ite (.on (State.setFld_keeps _ _ _ _) (.on (State.pin_keeps _ _ _) (.upd rfl rfl (State.unpowered_keeps _)))) (.on (State.pin_keeps _ _ _) (.upd rfl rfl (State.unpowered_keeps _)))))))))))))) (.on (State.access_keeps _) (.ite (.on (State.pwrEvent_keeps _ _ _ _) (.on (State.setFld_keeps _ _ _ _) (.on (State.reportVersions_keeps _) (.on (State.setStw_keeps _ _ _) (.on (State.setStw_keeps _ _ _) (.on (State.setStw_keeps _ _ _) (.on (State.setStw_keeps _ _ _) (.on (.foldl (fun _ _ => by exact (.on (State.blkEvent_keeps _ _ _ _ _) (.of rfl rfl rfl rfl rfl))) _ _) (.on (.foldl (fun _ _ => by exact (.ite (State.regionLost_keeps _ _) (.refl _))) _ _) (.on (State.setFld_keeps _ _ _ _) (.ite (.on (State.setFld_keeps _ _ _ _) (.on (State.pin_keeps _ _ _) (.upd rfl rfl (State.unpowered_keeps _)))) (.on (State.pin_keeps _ _ _) (.upd rfl rfl (State.unpowered_keeps _)))))))))))))) (.on (State.setFld_keeps _ _ _ _) (.on (State.reportVersions_keeps _) (.on (State.setStw_keeps _ _ _) (.on (State.setStw_keeps _ _ _) (.on (State.setStw_keeps _ _ _) (.on (State.setStw_keeps _ _ _) (.on (.foldl (fun _ _ => by exact (.on (State.blkEvent_keeps _ _ _ _ _) (.of rfl rfl rfl rfl rfl))) _ _) (.on (.foldl (fun _ _ => by exact (.ite (State.regionLost_keeps _ _) (.refl _))) _ _) (.on (State.setFld_keeps _ _ _ _) (.ite (.on (State.setFld_keeps _ _ _ _) (.on (State.pin_keeps _ _ _) (.upd rfl rfl (State.unpowered_keeps _)))) (.on (State.pin_keeps _ _ _) (.upd rfl rfl (State.unpowered_keeps _))))))))))))))))))

theorem execPerstRelease_keeps : ∀ s, KeepsOn s (execPerstRelease s) := by
  intro s; delta execPerstRelease
  exact (.ite (.next (.refl _)) (.next (.ite (.on (State.access_keeps _) (.of rfl rfl rfl rfl rfl)) (.of rfl rfl rfl rfl rfl))))

theorem execPerstTimeout_keeps : ∀ s, KeepsOn s (execPerstTimeout s) := by
  intro s; delta execPerstTimeout
  exact (.next (.ite (State.access_keeps _) (.refl _)))

theorem execVinLow_keeps : ∀ a0 s, KeepsOn s (execVinLow a0 s) := by
  intro a0 s; delta execVinLow
  exact (.next (.ite (.ite (.on (State.stop_keeps _) (.on (State.pwrEvent_keeps _ _ _ _) (.on (State.setFld_keeps _ _ _ _)
    (State.count_keeps _ _ _)))) (.ite (.on (State.pin_keeps _ _ _) (.of rfl rfl rfl rfl rfl)) (.refl _))) (.on
    (State.vauxLost_keeps _) (.ite (.on (State.stop_keeps _) (.on (State.pwrEvent_keeps _ _ _ _) (.on (State.setFld_keeps _ _
    _ _) (State.count_keeps _ _ _)))) (.ite (.on (State.pin_keeps _ _ _) (.of rfl rfl rfl rfl rfl)) (.refl _))))))

theorem execThermWarn_keeps : ∀ a0 a1 a2 a3 s, KeepsOn s (execThermWarn a0 a1 a2 a3 s) := by
  intro a0 a1 a2 a3 s; delta execThermWarn
  exact (.ite (.next (.refl _)) (.ite (.next (.on (State.pwrEvent_keeps _ _ _ _) (.on (State.pin_keeps _ _ _) (.on
    (State.count_keeps _ _ _) (.on (State.setFld_keeps _ _ _ _) (.on (State.setFld_keeps _ _ _ _) (.on (State.setFld_keeps _ _
    _ _) (.on (State.setFld_keeps _ _ _ _) (State.setFld_keeps _ _ _ _))))))))) (.ite (.next (.on (State.pin_keeps _ _ _) (.on
    (State.setFld_keeps _ _ _ _) (.on (State.setFld_keeps _ _ _ _) (.on (State.setFld_keeps _ _ _ _) (.on (State.setFld_keeps
    _ _ _ _) (State.setFld_keeps _ _ _ _))))))) (.next (.on (State.setFld_keeps _ _ _ _) (.on (State.setFld_keeps _ _ _ _)
    (.on (State.setFld_keeps _ _ _ _) (State.setFld_keeps _ _ _ _))))))))

theorem execThermalShutdown_keeps : ∀ s, KeepsOn s (execThermalShutdown s) := by
  intro s; delta execThermalShutdown
  exact (.next (State.shutdown_keeps _))

theorem execRailFault_keeps : ∀ s, KeepsOn s (execRailFault s) := by
  intro s; delta execRailFault
  exact (.next (State.shutdown_keeps _))

theorem execPhaseCheck_keeps : ∀ a0 s, KeepsOn s (execPhaseCheck a0 s) := by
  intro a0 s; delta execPhaseCheck
  exact (.ite (.next (.refl _)) (.ite (.next (.on (State.pwrEvent_keeps _ _ _ _) (.on (State.setFld_keeps _ _ _ _) (.foldl
    (fun _ _ => (State.shedPhase_keeps _ _)) _ _)))) (.next (.foldl (fun _ _ => (State.shedPhase_keeps _ _)) _ _))))

theorem execSmbusRegRead_keeps : ∀ a0 s, KeepsOn s (execSmbusRegRead a0 s) := by
  intro a0 s; delta execSmbusRegRead
  exact (.ite (.next (State.smbus_keeps _ _)) (.next (.ite (.on (State.smbus_keeps _ _) (State.draw_keeps _))
    (State.smbus_keeps _ _))))

theorem execSmbusIdent_keeps : ∀ s, KeepsOn s (execSmbusIdent s) := by
  intro s; delta execSmbusIdent
  exact (.next (State.smbus_keeps _ _))

theorem execSmbusAra_keeps : ∀ s, KeepsOn s (execSmbusAra s) := by
  intro s; delta execSmbusAra
  exact (.ite (.next (State.smbus_keeps _ _)) (.next (.on (State.pin_keeps _ _ _) (.on (State.smbus_keeps _ _) (.of rfl rfl
    rfl rfl rfl)))))

theorem execJtagBypass_keeps : ∀ a0 s, KeepsOn s (execJtagBypass a0 s) := by
  intro a0 s; delta execJtagBypass
  exact (.next (.ite (State.jtagShort_keeps _ _ _) (.refl _)))

theorem execJtagIdcode_keeps : ∀ a0 s, KeepsOn s (execJtagIdcode a0 s) := by
  intro a0 s; delta execJtagIdcode
  exact (.next (.ite (.on (State.emit_keeps _ _) (State.setJtag_keeps _ _ _)) (.refl _)))

theorem execJtagSamplePreload_keeps : ∀ a0 a1 s, KeepsOn s (execJtagSamplePreload a0 a1 s) := by
  intro a0 a1 s; delta execJtagSamplePreload
  exact (.next (.ite (.on (State.emit_keeps _ _) (State.setJtag_keeps _ _ _)) (.refl _)))

theorem execJtagExtest_keeps : ∀ a0 a1 s, KeepsOn s (execJtagExtest a0 a1 s) := by
  intro a0 a1 s; delta execJtagExtest
  exact (.next (.ite (.refl _) (.ite (.on (State.emit_keeps _ _) (.on (State.emit_keeps _ _) (State.setJtag_keeps _ _ _)))
    (State.jtagShort_keeps _ _ _))))

theorem execJtagClamp_keeps : ∀ a0 s, KeepsOn s (execJtagClamp a0 s) := by
  intro a0 s; delta execJtagClamp
  exact (.next (.ite (.refl _) (.ite (.on (State.emit_keeps _ _) (State.jtagShort_keeps _ _ _)) (State.jtagShort_keeps _ _ _))))

theorem execJtagHighz_keeps : ∀ a0 s, KeepsOn s (execJtagHighz a0 s) := by
  intro a0 s; delta execJtagHighz
  exact (.next (.ite (.refl _) (.ite (.on (State.emit_keeps _ _) (State.jtagShort_keeps _ _ _)) (State.jtagShort_keeps _ _ _))))

theorem execHostLinkUp_keeps : ∀ a0 a1 s, KeepsOn s (execHostLinkUp a0 a1 s) := by
  intro a0 a1 s; delta execHostLinkUp
  exact (.ite (.next (.refl _)) (.next (State.setHostLink_keeps _ _ _ _)))

theorem execVauxWithinRange_keeps : ∀ s, KeepsOn s (execVauxWithinRange s) := by
  intro s; delta execVauxWithinRange
  exact (.next (.of rfl rfl rfl rfl rfl))

end Sys2Proof.Machine
end

