-- ==== Sys2Proof/Laws/State.lean ====
section
/-! SUPPORT. What each update of the State leaves in each field: the register operations, events, outward effects and the
tables. Every lemma is about one field, and true by unfolding, so that later proofs unfold no record update. -/

namespace Sys2Proof.Machine

variable (s : State)

/-! ### setReg changes registers only. -/

@[simp] theorem State.setReg_pending (a : Nat) (v : Word) : (s.setReg a v).pending = s.pending := rfl
@[simp] theorem State.setReg_staged (a : Nat) (v : Word) : (s.setReg a v).staged = s.staged := rfl
@[simp] theorem State.setReg_latches (a : Nat) (v : Word) : (s.setReg a v).latches = s.latches := rfl
@[simp] theorem State.setReg_scopes (a : Nat) (v : Word) : (s.setReg a v).scopes = s.scopes := rfl
@[simp] theorem State.setReg_blocks (a : Nat) (v : Word) : (s.setReg a v).blocks = s.blocks := rfl
@[simp] theorem State.setReg_rings (a : Nat) (v : Word) : (s.setReg a v).rings = s.rings := rfl
@[simp] theorem State.setReg_time (a : Nat) (v : Word) : (s.setReg a v).time = s.time := rfl
@[simp] theorem State.setReg_out (a : Nat) (v : Word) : (s.setReg a v).out = s.out := rfl
@[simp] theorem State.setReg_fresh (a : Nat) (v : Word) : (s.setReg a v).fresh = s.fresh := rfl
@[simp] theorem State.setReg_retained (a : Nat) (v : Word) : (s.setReg a v).retained = s.retained := rfl
@[simp] theorem State.setReg_issuers (a : Nat) (v : Word) : (s.setReg a v).issuers = s.issuers := rfl
@[simp] theorem State.setReg_nibs (a : Nat) (v : Word) : (s.setReg a v).nibs = s.nibs := rfl
@[simp] theorem State.setReg_streams (a : Nat) (v : Word) : (s.setReg a v).streams = s.streams := rfl
@[simp] theorem State.setReg_ports (a : Nat) (v : Word) : (s.setReg a v).ports = s.ports := rfl
@[simp] theorem State.setReg_tests (a : Nat) (v : Word) : (s.setReg a v).tests = s.tests := rfl
@[simp] theorem State.setReg_casc (a : Nat) (v : Word) : (s.setReg a v).casc = s.casc := rfl
@[simp] theorem State.setReg_links (a : Nat) (v : Word) : (s.setReg a v).links = s.links := rfl
@[simp] theorem State.setReg_clk (a : Nat) (v : Word) : (s.setReg a v).clk = s.clk := rfl
@[simp] theorem State.setReg_tim (a : Nat) (v : Word) : (s.setReg a v).tim = s.tim := rfl
@[simp] theorem State.setReg_spikes (a : Nat) (v : Word) : (s.setReg a v).spikes = s.spikes := rfl
@[simp] theorem State.setReg_zooms (a : Nat) (v : Word) : (s.setReg a v).zooms = s.zooms := rfl
@[simp] theorem State.setReg_pairs (a : Nat) (v : Word) : (s.setReg a v).pairs = s.pairs := rfl
@[simp] theorem State.setReg_windows (a : Nat) (v : Word) : (s.setReg a v).windows = s.windows := rfl
@[simp] theorem State.setReg_sources (a : Nat) (v : Word) : (s.setReg a v).sources = s.sources := rfl
@[simp] theorem State.setReg_masks (a : Nat) (v : Word) : (s.setReg a v).masks = s.masks := rfl
@[simp] theorem State.setReg_mecs (a : Nat) (v : Word) : (s.setReg a v).mecs = s.mecs := rfl
@[simp] theorem State.setReg_timers (a : Nat) (v : Word) : (s.setReg a v).timers = s.timers := rfl
@[simp] theorem State.setReg_trg (a : Nat) (v : Word) : (s.setReg a v).trg = s.trg := rfl
@[simp] theorem State.setReg_seqs (a : Nat) (v : Word) : (s.setReg a v).seqs = s.seqs := rfl
@[simp] theorem State.setReg_tadpoles (a : Nat) (v : Word) : (s.setReg a v).tadpoles = s.tadpoles := rfl
@[simp] theorem State.setReg_records (a : Nat) (v : Word) : (s.setReg a v).records = s.records := rfl
@[simp] theorem State.setReg_flows (a : Nat) (v : Word) : (s.setReg a v).flows = s.flows := rfl
@[simp] theorem State.setReg_jobs (a : Nat) (v : Word) : (s.setReg a v).jobs = s.jobs := rfl
@[simp] theorem State.setReg_brush (a : Nat) (v : Word) : (s.setReg a v).brush = s.brush := rfl
@[simp] theorem State.setReg_brushQueue (a : Nat) (v : Word) : (s.setReg a v).brushQueue = s.brushQueue := rfl
@[simp] theorem State.setReg_kernels (a : Nat) (v : Word) : (s.setReg a v).kernels = s.kernels := rfl
@[simp] theorem State.setReg_planes (a : Nat) (v : Word) : (s.setReg a v).planes = s.planes := rfl
@[simp] theorem State.setReg_panels (a : Nat) (v : Word) : (s.setReg a v).panels = s.panels := rfl
@[simp] theorem State.setReg_releases (a : Nat) (v : Word) : (s.setReg a v).releases = s.releases := rfl
@[simp] theorem State.setReg_ink (a : Nat) (v : Word) : (s.setReg a v).ink = s.ink := rfl
@[simp] theorem State.setReg_channels (a : Nat) (v : Word) : (s.setReg a v).channels = s.channels := rfl
@[simp] theorem State.setReg_disks (a : Nat) (v : Word) : (s.setReg a v).disks = s.disks := rfl
@[simp] theorem State.setReg_nvme (a : Nat) (v : Word) : (s.setReg a v).nvme = s.nvme := rfl
@[simp] theorem State.setReg_stw (a : Nat) (v : Word) : (s.setReg a v).stw = s.stw := rfl
@[simp] theorem State.setReg_mod (a : Nat) (v : Word) : (s.setReg a v).mod = s.mod := rfl

/-! ### setFld changes registers only. -/

@[simp] theorem State.setFld_pending (a : Nat) (f : Bits) (v : Nat) : (s.setFld a f v).pending = s.pending := rfl
@[simp] theorem State.setFld_staged (a : Nat) (f : Bits) (v : Nat) : (s.setFld a f v).staged = s.staged := rfl
@[simp] theorem State.setFld_latches (a : Nat) (f : Bits) (v : Nat) : (s.setFld a f v).latches = s.latches := rfl
@[simp] theorem State.setFld_scopes (a : Nat) (f : Bits) (v : Nat) : (s.setFld a f v).scopes = s.scopes := rfl
@[simp] theorem State.setFld_blocks (a : Nat) (f : Bits) (v : Nat) : (s.setFld a f v).blocks = s.blocks := rfl
@[simp] theorem State.setFld_rings (a : Nat) (f : Bits) (v : Nat) : (s.setFld a f v).rings = s.rings := rfl
@[simp] theorem State.setFld_time (a : Nat) (f : Bits) (v : Nat) : (s.setFld a f v).time = s.time := rfl
@[simp] theorem State.setFld_out (a : Nat) (f : Bits) (v : Nat) : (s.setFld a f v).out = s.out := rfl
@[simp] theorem State.setFld_fresh (a : Nat) (f : Bits) (v : Nat) : (s.setFld a f v).fresh = s.fresh := rfl
@[simp] theorem State.setFld_retained (a : Nat) (f : Bits) (v : Nat) : (s.setFld a f v).retained = s.retained := rfl
@[simp] theorem State.setFld_issuers (a : Nat) (f : Bits) (v : Nat) : (s.setFld a f v).issuers = s.issuers := rfl
@[simp] theorem State.setFld_nibs (a : Nat) (f : Bits) (v : Nat) : (s.setFld a f v).nibs = s.nibs := rfl
@[simp] theorem State.setFld_streams (a : Nat) (f : Bits) (v : Nat) : (s.setFld a f v).streams = s.streams := rfl
@[simp] theorem State.setFld_ports (a : Nat) (f : Bits) (v : Nat) : (s.setFld a f v).ports = s.ports := rfl
@[simp] theorem State.setFld_tests (a : Nat) (f : Bits) (v : Nat) : (s.setFld a f v).tests = s.tests := rfl
@[simp] theorem State.setFld_casc (a : Nat) (f : Bits) (v : Nat) : (s.setFld a f v).casc = s.casc := rfl
@[simp] theorem State.setFld_links (a : Nat) (f : Bits) (v : Nat) : (s.setFld a f v).links = s.links := rfl
@[simp] theorem State.setFld_clk (a : Nat) (f : Bits) (v : Nat) : (s.setFld a f v).clk = s.clk := rfl
@[simp] theorem State.setFld_tim (a : Nat) (f : Bits) (v : Nat) : (s.setFld a f v).tim = s.tim := rfl
@[simp] theorem State.setFld_spikes (a : Nat) (f : Bits) (v : Nat) : (s.setFld a f v).spikes = s.spikes := rfl
@[simp] theorem State.setFld_zooms (a : Nat) (f : Bits) (v : Nat) : (s.setFld a f v).zooms = s.zooms := rfl
@[simp] theorem State.setFld_pairs (a : Nat) (f : Bits) (v : Nat) : (s.setFld a f v).pairs = s.pairs := rfl
@[simp] theorem State.setFld_windows (a : Nat) (f : Bits) (v : Nat) : (s.setFld a f v).windows = s.windows := rfl
@[simp] theorem State.setFld_sources (a : Nat) (f : Bits) (v : Nat) : (s.setFld a f v).sources = s.sources := rfl
@[simp] theorem State.setFld_masks (a : Nat) (f : Bits) (v : Nat) : (s.setFld a f v).masks = s.masks := rfl
@[simp] theorem State.setFld_mecs (a : Nat) (f : Bits) (v : Nat) : (s.setFld a f v).mecs = s.mecs := rfl
@[simp] theorem State.setFld_timers (a : Nat) (f : Bits) (v : Nat) : (s.setFld a f v).timers = s.timers := rfl
@[simp] theorem State.setFld_trg (a : Nat) (f : Bits) (v : Nat) : (s.setFld a f v).trg = s.trg := rfl
@[simp] theorem State.setFld_seqs (a : Nat) (f : Bits) (v : Nat) : (s.setFld a f v).seqs = s.seqs := rfl
@[simp] theorem State.setFld_tadpoles (a : Nat) (f : Bits) (v : Nat) : (s.setFld a f v).tadpoles = s.tadpoles := rfl
@[simp] theorem State.setFld_records (a : Nat) (f : Bits) (v : Nat) : (s.setFld a f v).records = s.records := rfl
@[simp] theorem State.setFld_flows (a : Nat) (f : Bits) (v : Nat) : (s.setFld a f v).flows = s.flows := rfl
@[simp] theorem State.setFld_jobs (a : Nat) (f : Bits) (v : Nat) : (s.setFld a f v).jobs = s.jobs := rfl
@[simp] theorem State.setFld_brush (a : Nat) (f : Bits) (v : Nat) : (s.setFld a f v).brush = s.brush := rfl
@[simp] theorem State.setFld_brushQueue (a : Nat) (f : Bits) (v : Nat) : (s.setFld a f v).brushQueue = s.brushQueue := rfl
@[simp] theorem State.setFld_kernels (a : Nat) (f : Bits) (v : Nat) : (s.setFld a f v).kernels = s.kernels := rfl
@[simp] theorem State.setFld_planes (a : Nat) (f : Bits) (v : Nat) : (s.setFld a f v).planes = s.planes := rfl
@[simp] theorem State.setFld_panels (a : Nat) (f : Bits) (v : Nat) : (s.setFld a f v).panels = s.panels := rfl
@[simp] theorem State.setFld_releases (a : Nat) (f : Bits) (v : Nat) : (s.setFld a f v).releases = s.releases := rfl
@[simp] theorem State.setFld_ink (a : Nat) (f : Bits) (v : Nat) : (s.setFld a f v).ink = s.ink := rfl
@[simp] theorem State.setFld_channels (a : Nat) (f : Bits) (v : Nat) : (s.setFld a f v).channels = s.channels := rfl
@[simp] theorem State.setFld_disks (a : Nat) (f : Bits) (v : Nat) : (s.setFld a f v).disks = s.disks := rfl
@[simp] theorem State.setFld_nvme (a : Nat) (f : Bits) (v : Nat) : (s.setFld a f v).nvme = s.nvme := rfl
@[simp] theorem State.setFld_stw (a : Nat) (f : Bits) (v : Nat) : (s.setFld a f v).stw = s.stw := rfl
@[simp] theorem State.setFld_mod (a : Nat) (f : Bits) (v : Nat) : (s.setFld a f v).mod = s.mod := rfl

/-! ### setReg64 changes registers only. -/

@[simp] theorem State.setReg64_pending (lo hi v : Nat) : (s.setReg64 lo hi v).pending = s.pending := rfl
@[simp] theorem State.setReg64_staged (lo hi v : Nat) : (s.setReg64 lo hi v).staged = s.staged := rfl
@[simp] theorem State.setReg64_latches (lo hi v : Nat) : (s.setReg64 lo hi v).latches = s.latches := rfl
@[simp] theorem State.setReg64_scopes (lo hi v : Nat) : (s.setReg64 lo hi v).scopes = s.scopes := rfl
@[simp] theorem State.setReg64_blocks (lo hi v : Nat) : (s.setReg64 lo hi v).blocks = s.blocks := rfl
@[simp] theorem State.setReg64_rings (lo hi v : Nat) : (s.setReg64 lo hi v).rings = s.rings := rfl
@[simp] theorem State.setReg64_time (lo hi v : Nat) : (s.setReg64 lo hi v).time = s.time := rfl
@[simp] theorem State.setReg64_out (lo hi v : Nat) : (s.setReg64 lo hi v).out = s.out := rfl
@[simp] theorem State.setReg64_fresh (lo hi v : Nat) : (s.setReg64 lo hi v).fresh = s.fresh := rfl
@[simp] theorem State.setReg64_retained (lo hi v : Nat) : (s.setReg64 lo hi v).retained = s.retained := rfl
@[simp] theorem State.setReg64_issuers (lo hi v : Nat) : (s.setReg64 lo hi v).issuers = s.issuers := rfl
@[simp] theorem State.setReg64_nibs (lo hi v : Nat) : (s.setReg64 lo hi v).nibs = s.nibs := rfl
@[simp] theorem State.setReg64_streams (lo hi v : Nat) : (s.setReg64 lo hi v).streams = s.streams := rfl
@[simp] theorem State.setReg64_ports (lo hi v : Nat) : (s.setReg64 lo hi v).ports = s.ports := rfl
@[simp] theorem State.setReg64_tests (lo hi v : Nat) : (s.setReg64 lo hi v).tests = s.tests := rfl
@[simp] theorem State.setReg64_casc (lo hi v : Nat) : (s.setReg64 lo hi v).casc = s.casc := rfl
@[simp] theorem State.setReg64_links (lo hi v : Nat) : (s.setReg64 lo hi v).links = s.links := rfl
@[simp] theorem State.setReg64_clk (lo hi v : Nat) : (s.setReg64 lo hi v).clk = s.clk := rfl
@[simp] theorem State.setReg64_tim (lo hi v : Nat) : (s.setReg64 lo hi v).tim = s.tim := rfl
@[simp] theorem State.setReg64_spikes (lo hi v : Nat) : (s.setReg64 lo hi v).spikes = s.spikes := rfl
@[simp] theorem State.setReg64_zooms (lo hi v : Nat) : (s.setReg64 lo hi v).zooms = s.zooms := rfl
@[simp] theorem State.setReg64_pairs (lo hi v : Nat) : (s.setReg64 lo hi v).pairs = s.pairs := rfl
@[simp] theorem State.setReg64_windows (lo hi v : Nat) : (s.setReg64 lo hi v).windows = s.windows := rfl
@[simp] theorem State.setReg64_sources (lo hi v : Nat) : (s.setReg64 lo hi v).sources = s.sources := rfl
@[simp] theorem State.setReg64_masks (lo hi v : Nat) : (s.setReg64 lo hi v).masks = s.masks := rfl
@[simp] theorem State.setReg64_mecs (lo hi v : Nat) : (s.setReg64 lo hi v).mecs = s.mecs := rfl
@[simp] theorem State.setReg64_timers (lo hi v : Nat) : (s.setReg64 lo hi v).timers = s.timers := rfl
@[simp] theorem State.setReg64_trg (lo hi v : Nat) : (s.setReg64 lo hi v).trg = s.trg := rfl
@[simp] theorem State.setReg64_seqs (lo hi v : Nat) : (s.setReg64 lo hi v).seqs = s.seqs := rfl
@[simp] theorem State.setReg64_tadpoles (lo hi v : Nat) : (s.setReg64 lo hi v).tadpoles = s.tadpoles := rfl
@[simp] theorem State.setReg64_records (lo hi v : Nat) : (s.setReg64 lo hi v).records = s.records := rfl
@[simp] theorem State.setReg64_flows (lo hi v : Nat) : (s.setReg64 lo hi v).flows = s.flows := rfl
@[simp] theorem State.setReg64_jobs (lo hi v : Nat) : (s.setReg64 lo hi v).jobs = s.jobs := rfl
@[simp] theorem State.setReg64_brush (lo hi v : Nat) : (s.setReg64 lo hi v).brush = s.brush := rfl
@[simp] theorem State.setReg64_brushQueue (lo hi v : Nat) : (s.setReg64 lo hi v).brushQueue = s.brushQueue := rfl
@[simp] theorem State.setReg64_kernels (lo hi v : Nat) : (s.setReg64 lo hi v).kernels = s.kernels := rfl
@[simp] theorem State.setReg64_planes (lo hi v : Nat) : (s.setReg64 lo hi v).planes = s.planes := rfl
@[simp] theorem State.setReg64_panels (lo hi v : Nat) : (s.setReg64 lo hi v).panels = s.panels := rfl
@[simp] theorem State.setReg64_releases (lo hi v : Nat) : (s.setReg64 lo hi v).releases = s.releases := rfl
@[simp] theorem State.setReg64_ink (lo hi v : Nat) : (s.setReg64 lo hi v).ink = s.ink := rfl
@[simp] theorem State.setReg64_channels (lo hi v : Nat) : (s.setReg64 lo hi v).channels = s.channels := rfl
@[simp] theorem State.setReg64_disks (lo hi v : Nat) : (s.setReg64 lo hi v).disks = s.disks := rfl
@[simp] theorem State.setReg64_nvme (lo hi v : Nat) : (s.setReg64 lo hi v).nvme = s.nvme := rfl
@[simp] theorem State.setReg64_stw (lo hi v : Nat) : (s.setReg64 lo hi v).stw = s.stw := rfl
@[simp] theorem State.setReg64_mod (lo hi v : Nat) : (s.setReg64 lo hi v).mod = s.mod := rfl

/-! ### count changes registers only. -/

@[simp] theorem State.count_pending (a n : Nat) : (s.count a n).pending = s.pending := rfl
@[simp] theorem State.count_staged (a n : Nat) : (s.count a n).staged = s.staged := rfl
@[simp] theorem State.count_latches (a n : Nat) : (s.count a n).latches = s.latches := rfl
@[simp] theorem State.count_scopes (a n : Nat) : (s.count a n).scopes = s.scopes := rfl
@[simp] theorem State.count_blocks (a n : Nat) : (s.count a n).blocks = s.blocks := rfl
@[simp] theorem State.count_rings (a n : Nat) : (s.count a n).rings = s.rings := rfl
@[simp] theorem State.count_time (a n : Nat) : (s.count a n).time = s.time := rfl
@[simp] theorem State.count_out (a n : Nat) : (s.count a n).out = s.out := rfl
@[simp] theorem State.count_fresh (a n : Nat) : (s.count a n).fresh = s.fresh := rfl
@[simp] theorem State.count_retained (a n : Nat) : (s.count a n).retained = s.retained := rfl
@[simp] theorem State.count_issuers (a n : Nat) : (s.count a n).issuers = s.issuers := rfl
@[simp] theorem State.count_nibs (a n : Nat) : (s.count a n).nibs = s.nibs := rfl
@[simp] theorem State.count_streams (a n : Nat) : (s.count a n).streams = s.streams := rfl
@[simp] theorem State.count_ports (a n : Nat) : (s.count a n).ports = s.ports := rfl
@[simp] theorem State.count_tests (a n : Nat) : (s.count a n).tests = s.tests := rfl
@[simp] theorem State.count_casc (a n : Nat) : (s.count a n).casc = s.casc := rfl
@[simp] theorem State.count_links (a n : Nat) : (s.count a n).links = s.links := rfl
@[simp] theorem State.count_clk (a n : Nat) : (s.count a n).clk = s.clk := rfl
@[simp] theorem State.count_tim (a n : Nat) : (s.count a n).tim = s.tim := rfl
@[simp] theorem State.count_spikes (a n : Nat) : (s.count a n).spikes = s.spikes := rfl
@[simp] theorem State.count_zooms (a n : Nat) : (s.count a n).zooms = s.zooms := rfl
@[simp] theorem State.count_pairs (a n : Nat) : (s.count a n).pairs = s.pairs := rfl
@[simp] theorem State.count_windows (a n : Nat) : (s.count a n).windows = s.windows := rfl
@[simp] theorem State.count_sources (a n : Nat) : (s.count a n).sources = s.sources := rfl
@[simp] theorem State.count_masks (a n : Nat) : (s.count a n).masks = s.masks := rfl
@[simp] theorem State.count_mecs (a n : Nat) : (s.count a n).mecs = s.mecs := rfl
@[simp] theorem State.count_timers (a n : Nat) : (s.count a n).timers = s.timers := rfl
@[simp] theorem State.count_trg (a n : Nat) : (s.count a n).trg = s.trg := rfl
@[simp] theorem State.count_seqs (a n : Nat) : (s.count a n).seqs = s.seqs := rfl
@[simp] theorem State.count_tadpoles (a n : Nat) : (s.count a n).tadpoles = s.tadpoles := rfl
@[simp] theorem State.count_records (a n : Nat) : (s.count a n).records = s.records := rfl
@[simp] theorem State.count_flows (a n : Nat) : (s.count a n).flows = s.flows := rfl
@[simp] theorem State.count_jobs (a n : Nat) : (s.count a n).jobs = s.jobs := rfl
@[simp] theorem State.count_brush (a n : Nat) : (s.count a n).brush = s.brush := rfl
@[simp] theorem State.count_brushQueue (a n : Nat) : (s.count a n).brushQueue = s.brushQueue := rfl
@[simp] theorem State.count_kernels (a n : Nat) : (s.count a n).kernels = s.kernels := rfl
@[simp] theorem State.count_planes (a n : Nat) : (s.count a n).planes = s.planes := rfl
@[simp] theorem State.count_panels (a n : Nat) : (s.count a n).panels = s.panels := rfl
@[simp] theorem State.count_releases (a n : Nat) : (s.count a n).releases = s.releases := rfl
@[simp] theorem State.count_ink (a n : Nat) : (s.count a n).ink = s.ink := rfl
@[simp] theorem State.count_channels (a n : Nat) : (s.count a n).channels = s.channels := rfl
@[simp] theorem State.count_disks (a n : Nat) : (s.count a n).disks = s.disks := rfl
@[simp] theorem State.count_nvme (a n : Nat) : (s.count a n).nvme = s.nvme := rfl
@[simp] theorem State.count_stw (a n : Nat) : (s.count a n).stw = s.stw := rfl
@[simp] theorem State.count_mod (a n : Nat) : (s.count a n).mod = s.mod := rfl

/-! ### count64 changes registers only. -/

@[simp] theorem State.count64_pending (lo hi n : Nat) : (s.count64 lo hi n).pending = s.pending := rfl
@[simp] theorem State.count64_staged (lo hi n : Nat) : (s.count64 lo hi n).staged = s.staged := rfl
@[simp] theorem State.count64_latches (lo hi n : Nat) : (s.count64 lo hi n).latches = s.latches := rfl
@[simp] theorem State.count64_scopes (lo hi n : Nat) : (s.count64 lo hi n).scopes = s.scopes := rfl
@[simp] theorem State.count64_blocks (lo hi n : Nat) : (s.count64 lo hi n).blocks = s.blocks := rfl
@[simp] theorem State.count64_rings (lo hi n : Nat) : (s.count64 lo hi n).rings = s.rings := rfl
@[simp] theorem State.count64_time (lo hi n : Nat) : (s.count64 lo hi n).time = s.time := rfl
@[simp] theorem State.count64_out (lo hi n : Nat) : (s.count64 lo hi n).out = s.out := rfl
@[simp] theorem State.count64_fresh (lo hi n : Nat) : (s.count64 lo hi n).fresh = s.fresh := rfl
@[simp] theorem State.count64_retained (lo hi n : Nat) : (s.count64 lo hi n).retained = s.retained := rfl
@[simp] theorem State.count64_issuers (lo hi n : Nat) : (s.count64 lo hi n).issuers = s.issuers := rfl
@[simp] theorem State.count64_nibs (lo hi n : Nat) : (s.count64 lo hi n).nibs = s.nibs := rfl
@[simp] theorem State.count64_streams (lo hi n : Nat) : (s.count64 lo hi n).streams = s.streams := rfl
@[simp] theorem State.count64_ports (lo hi n : Nat) : (s.count64 lo hi n).ports = s.ports := rfl
@[simp] theorem State.count64_tests (lo hi n : Nat) : (s.count64 lo hi n).tests = s.tests := rfl
@[simp] theorem State.count64_casc (lo hi n : Nat) : (s.count64 lo hi n).casc = s.casc := rfl
@[simp] theorem State.count64_links (lo hi n : Nat) : (s.count64 lo hi n).links = s.links := rfl
@[simp] theorem State.count64_clk (lo hi n : Nat) : (s.count64 lo hi n).clk = s.clk := rfl
@[simp] theorem State.count64_tim (lo hi n : Nat) : (s.count64 lo hi n).tim = s.tim := rfl
@[simp] theorem State.count64_spikes (lo hi n : Nat) : (s.count64 lo hi n).spikes = s.spikes := rfl
@[simp] theorem State.count64_zooms (lo hi n : Nat) : (s.count64 lo hi n).zooms = s.zooms := rfl
@[simp] theorem State.count64_pairs (lo hi n : Nat) : (s.count64 lo hi n).pairs = s.pairs := rfl
@[simp] theorem State.count64_windows (lo hi n : Nat) : (s.count64 lo hi n).windows = s.windows := rfl
@[simp] theorem State.count64_sources (lo hi n : Nat) : (s.count64 lo hi n).sources = s.sources := rfl
@[simp] theorem State.count64_masks (lo hi n : Nat) : (s.count64 lo hi n).masks = s.masks := rfl
@[simp] theorem State.count64_mecs (lo hi n : Nat) : (s.count64 lo hi n).mecs = s.mecs := rfl
@[simp] theorem State.count64_timers (lo hi n : Nat) : (s.count64 lo hi n).timers = s.timers := rfl
@[simp] theorem State.count64_trg (lo hi n : Nat) : (s.count64 lo hi n).trg = s.trg := rfl
@[simp] theorem State.count64_seqs (lo hi n : Nat) : (s.count64 lo hi n).seqs = s.seqs := rfl
@[simp] theorem State.count64_tadpoles (lo hi n : Nat) : (s.count64 lo hi n).tadpoles = s.tadpoles := rfl
@[simp] theorem State.count64_records (lo hi n : Nat) : (s.count64 lo hi n).records = s.records := rfl
@[simp] theorem State.count64_flows (lo hi n : Nat) : (s.count64 lo hi n).flows = s.flows := rfl
@[simp] theorem State.count64_jobs (lo hi n : Nat) : (s.count64 lo hi n).jobs = s.jobs := rfl
@[simp] theorem State.count64_brush (lo hi n : Nat) : (s.count64 lo hi n).brush = s.brush := rfl
@[simp] theorem State.count64_brushQueue (lo hi n : Nat) : (s.count64 lo hi n).brushQueue = s.brushQueue := rfl
@[simp] theorem State.count64_kernels (lo hi n : Nat) : (s.count64 lo hi n).kernels = s.kernels := rfl
@[simp] theorem State.count64_planes (lo hi n : Nat) : (s.count64 lo hi n).planes = s.planes := rfl
@[simp] theorem State.count64_panels (lo hi n : Nat) : (s.count64 lo hi n).panels = s.panels := rfl
@[simp] theorem State.count64_releases (lo hi n : Nat) : (s.count64 lo hi n).releases = s.releases := rfl
@[simp] theorem State.count64_ink (lo hi n : Nat) : (s.count64 lo hi n).ink = s.ink := rfl
@[simp] theorem State.count64_channels (lo hi n : Nat) : (s.count64 lo hi n).channels = s.channels := rfl
@[simp] theorem State.count64_disks (lo hi n : Nat) : (s.count64 lo hi n).disks = s.disks := rfl
@[simp] theorem State.count64_nvme (lo hi n : Nat) : (s.count64 lo hi n).nvme = s.nvme := rfl
@[simp] theorem State.count64_stw (lo hi n : Nat) : (s.count64 lo hi n).stw = s.stw := rfl
@[simp] theorem State.count64_mod (lo hi n : Nat) : (s.count64 lo hi n).mod = s.mod := rfl

/-! ### setSta changes registers only. -/

@[simp] theorem State.setSta_pending (a : Nat) (f : Bits) : (s.setSta a f).pending = s.pending := rfl
@[simp] theorem State.setSta_staged (a : Nat) (f : Bits) : (s.setSta a f).staged = s.staged := rfl
@[simp] theorem State.setSta_latches (a : Nat) (f : Bits) : (s.setSta a f).latches = s.latches := rfl
@[simp] theorem State.setSta_scopes (a : Nat) (f : Bits) : (s.setSta a f).scopes = s.scopes := rfl
@[simp] theorem State.setSta_blocks (a : Nat) (f : Bits) : (s.setSta a f).blocks = s.blocks := rfl
@[simp] theorem State.setSta_rings (a : Nat) (f : Bits) : (s.setSta a f).rings = s.rings := rfl
@[simp] theorem State.setSta_time (a : Nat) (f : Bits) : (s.setSta a f).time = s.time := rfl
@[simp] theorem State.setSta_out (a : Nat) (f : Bits) : (s.setSta a f).out = s.out := rfl
@[simp] theorem State.setSta_fresh (a : Nat) (f : Bits) : (s.setSta a f).fresh = s.fresh := rfl
@[simp] theorem State.setSta_retained (a : Nat) (f : Bits) : (s.setSta a f).retained = s.retained := rfl
@[simp] theorem State.setSta_issuers (a : Nat) (f : Bits) : (s.setSta a f).issuers = s.issuers := rfl
@[simp] theorem State.setSta_nibs (a : Nat) (f : Bits) : (s.setSta a f).nibs = s.nibs := rfl
@[simp] theorem State.setSta_streams (a : Nat) (f : Bits) : (s.setSta a f).streams = s.streams := rfl
@[simp] theorem State.setSta_ports (a : Nat) (f : Bits) : (s.setSta a f).ports = s.ports := rfl
@[simp] theorem State.setSta_tests (a : Nat) (f : Bits) : (s.setSta a f).tests = s.tests := rfl
@[simp] theorem State.setSta_casc (a : Nat) (f : Bits) : (s.setSta a f).casc = s.casc := rfl
@[simp] theorem State.setSta_links (a : Nat) (f : Bits) : (s.setSta a f).links = s.links := rfl
@[simp] theorem State.setSta_clk (a : Nat) (f : Bits) : (s.setSta a f).clk = s.clk := rfl
@[simp] theorem State.setSta_tim (a : Nat) (f : Bits) : (s.setSta a f).tim = s.tim := rfl
@[simp] theorem State.setSta_spikes (a : Nat) (f : Bits) : (s.setSta a f).spikes = s.spikes := rfl
@[simp] theorem State.setSta_zooms (a : Nat) (f : Bits) : (s.setSta a f).zooms = s.zooms := rfl
@[simp] theorem State.setSta_pairs (a : Nat) (f : Bits) : (s.setSta a f).pairs = s.pairs := rfl
@[simp] theorem State.setSta_windows (a : Nat) (f : Bits) : (s.setSta a f).windows = s.windows := rfl
@[simp] theorem State.setSta_sources (a : Nat) (f : Bits) : (s.setSta a f).sources = s.sources := rfl
@[simp] theorem State.setSta_masks (a : Nat) (f : Bits) : (s.setSta a f).masks = s.masks := rfl
@[simp] theorem State.setSta_mecs (a : Nat) (f : Bits) : (s.setSta a f).mecs = s.mecs := rfl
@[simp] theorem State.setSta_timers (a : Nat) (f : Bits) : (s.setSta a f).timers = s.timers := rfl
@[simp] theorem State.setSta_trg (a : Nat) (f : Bits) : (s.setSta a f).trg = s.trg := rfl
@[simp] theorem State.setSta_seqs (a : Nat) (f : Bits) : (s.setSta a f).seqs = s.seqs := rfl
@[simp] theorem State.setSta_tadpoles (a : Nat) (f : Bits) : (s.setSta a f).tadpoles = s.tadpoles := rfl
@[simp] theorem State.setSta_records (a : Nat) (f : Bits) : (s.setSta a f).records = s.records := rfl
@[simp] theorem State.setSta_flows (a : Nat) (f : Bits) : (s.setSta a f).flows = s.flows := rfl
@[simp] theorem State.setSta_jobs (a : Nat) (f : Bits) : (s.setSta a f).jobs = s.jobs := rfl
@[simp] theorem State.setSta_brush (a : Nat) (f : Bits) : (s.setSta a f).brush = s.brush := rfl
@[simp] theorem State.setSta_brushQueue (a : Nat) (f : Bits) : (s.setSta a f).brushQueue = s.brushQueue := rfl
@[simp] theorem State.setSta_kernels (a : Nat) (f : Bits) : (s.setSta a f).kernels = s.kernels := rfl
@[simp] theorem State.setSta_planes (a : Nat) (f : Bits) : (s.setSta a f).planes = s.planes := rfl
@[simp] theorem State.setSta_panels (a : Nat) (f : Bits) : (s.setSta a f).panels = s.panels := rfl
@[simp] theorem State.setSta_releases (a : Nat) (f : Bits) : (s.setSta a f).releases = s.releases := rfl
@[simp] theorem State.setSta_ink (a : Nat) (f : Bits) : (s.setSta a f).ink = s.ink := rfl
@[simp] theorem State.setSta_channels (a : Nat) (f : Bits) : (s.setSta a f).channels = s.channels := rfl
@[simp] theorem State.setSta_disks (a : Nat) (f : Bits) : (s.setSta a f).disks = s.disks := rfl
@[simp] theorem State.setSta_nvme (a : Nat) (f : Bits) : (s.setSta a f).nvme = s.nvme := rfl
@[simp] theorem State.setSta_stw (a : Nat) (f : Bits) : (s.setSta a f).stw = s.stw := rfl
@[simp] theorem State.setSta_mod (a : Nat) (f : Bits) : (s.setSta a f).mod = s.mod := rfl

/-! ### setBlkSta changes registers only. -/

@[simp] theorem State.setBlkSta_pending (b n : Nat) : (s.setBlkSta b n).pending = s.pending := rfl
@[simp] theorem State.setBlkSta_staged (b n : Nat) : (s.setBlkSta b n).staged = s.staged := rfl
@[simp] theorem State.setBlkSta_latches (b n : Nat) : (s.setBlkSta b n).latches = s.latches := rfl
@[simp] theorem State.setBlkSta_scopes (b n : Nat) : (s.setBlkSta b n).scopes = s.scopes := rfl
@[simp] theorem State.setBlkSta_blocks (b n : Nat) : (s.setBlkSta b n).blocks = s.blocks := rfl
@[simp] theorem State.setBlkSta_rings (b n : Nat) : (s.setBlkSta b n).rings = s.rings := rfl
@[simp] theorem State.setBlkSta_time (b n : Nat) : (s.setBlkSta b n).time = s.time := rfl
@[simp] theorem State.setBlkSta_out (b n : Nat) : (s.setBlkSta b n).out = s.out := rfl
@[simp] theorem State.setBlkSta_fresh (b n : Nat) : (s.setBlkSta b n).fresh = s.fresh := rfl
@[simp] theorem State.setBlkSta_retained (b n : Nat) : (s.setBlkSta b n).retained = s.retained := rfl
@[simp] theorem State.setBlkSta_issuers (b n : Nat) : (s.setBlkSta b n).issuers = s.issuers := rfl
@[simp] theorem State.setBlkSta_nibs (b n : Nat) : (s.setBlkSta b n).nibs = s.nibs := rfl
@[simp] theorem State.setBlkSta_streams (b n : Nat) : (s.setBlkSta b n).streams = s.streams := rfl
@[simp] theorem State.setBlkSta_ports (b n : Nat) : (s.setBlkSta b n).ports = s.ports := rfl
@[simp] theorem State.setBlkSta_tests (b n : Nat) : (s.setBlkSta b n).tests = s.tests := rfl
@[simp] theorem State.setBlkSta_casc (b n : Nat) : (s.setBlkSta b n).casc = s.casc := rfl
@[simp] theorem State.setBlkSta_links (b n : Nat) : (s.setBlkSta b n).links = s.links := rfl
@[simp] theorem State.setBlkSta_clk (b n : Nat) : (s.setBlkSta b n).clk = s.clk := rfl
@[simp] theorem State.setBlkSta_tim (b n : Nat) : (s.setBlkSta b n).tim = s.tim := rfl
@[simp] theorem State.setBlkSta_spikes (b n : Nat) : (s.setBlkSta b n).spikes = s.spikes := rfl
@[simp] theorem State.setBlkSta_zooms (b n : Nat) : (s.setBlkSta b n).zooms = s.zooms := rfl
@[simp] theorem State.setBlkSta_pairs (b n : Nat) : (s.setBlkSta b n).pairs = s.pairs := rfl
@[simp] theorem State.setBlkSta_windows (b n : Nat) : (s.setBlkSta b n).windows = s.windows := rfl
@[simp] theorem State.setBlkSta_sources (b n : Nat) : (s.setBlkSta b n).sources = s.sources := rfl
@[simp] theorem State.setBlkSta_masks (b n : Nat) : (s.setBlkSta b n).masks = s.masks := rfl
@[simp] theorem State.setBlkSta_mecs (b n : Nat) : (s.setBlkSta b n).mecs = s.mecs := rfl
@[simp] theorem State.setBlkSta_timers (b n : Nat) : (s.setBlkSta b n).timers = s.timers := rfl
@[simp] theorem State.setBlkSta_trg (b n : Nat) : (s.setBlkSta b n).trg = s.trg := rfl
@[simp] theorem State.setBlkSta_seqs (b n : Nat) : (s.setBlkSta b n).seqs = s.seqs := rfl
@[simp] theorem State.setBlkSta_tadpoles (b n : Nat) : (s.setBlkSta b n).tadpoles = s.tadpoles := rfl
@[simp] theorem State.setBlkSta_records (b n : Nat) : (s.setBlkSta b n).records = s.records := rfl
@[simp] theorem State.setBlkSta_flows (b n : Nat) : (s.setBlkSta b n).flows = s.flows := rfl
@[simp] theorem State.setBlkSta_jobs (b n : Nat) : (s.setBlkSta b n).jobs = s.jobs := rfl
@[simp] theorem State.setBlkSta_brush (b n : Nat) : (s.setBlkSta b n).brush = s.brush := rfl
@[simp] theorem State.setBlkSta_brushQueue (b n : Nat) : (s.setBlkSta b n).brushQueue = s.brushQueue := rfl
@[simp] theorem State.setBlkSta_kernels (b n : Nat) : (s.setBlkSta b n).kernels = s.kernels := rfl
@[simp] theorem State.setBlkSta_planes (b n : Nat) : (s.setBlkSta b n).planes = s.planes := rfl
@[simp] theorem State.setBlkSta_panels (b n : Nat) : (s.setBlkSta b n).panels = s.panels := rfl
@[simp] theorem State.setBlkSta_releases (b n : Nat) : (s.setBlkSta b n).releases = s.releases := rfl
@[simp] theorem State.setBlkSta_ink (b n : Nat) : (s.setBlkSta b n).ink = s.ink := rfl
@[simp] theorem State.setBlkSta_channels (b n : Nat) : (s.setBlkSta b n).channels = s.channels := rfl
@[simp] theorem State.setBlkSta_disks (b n : Nat) : (s.setBlkSta b n).disks = s.disks := rfl
@[simp] theorem State.setBlkSta_nvme (b n : Nat) : (s.setBlkSta b n).nvme = s.nvme := rfl
@[simp] theorem State.setBlkSta_stw (b n : Nat) : (s.setBlkSta b n).stw = s.stw := rfl
@[simp] theorem State.setBlkSta_mod (b n : Nat) : (s.setBlkSta b n).mod = s.mod := rfl

/-! ### accept changes registers only. -/

@[simp] theorem State.accept_pending (a : Nat) (f : Bits) : (s.accept a f).pending = s.pending := rfl
@[simp] theorem State.accept_staged (a : Nat) (f : Bits) : (s.accept a f).staged = s.staged := rfl
@[simp] theorem State.accept_latches (a : Nat) (f : Bits) : (s.accept a f).latches = s.latches := rfl
@[simp] theorem State.accept_scopes (a : Nat) (f : Bits) : (s.accept a f).scopes = s.scopes := rfl
@[simp] theorem State.accept_blocks (a : Nat) (f : Bits) : (s.accept a f).blocks = s.blocks := rfl
@[simp] theorem State.accept_rings (a : Nat) (f : Bits) : (s.accept a f).rings = s.rings := rfl
@[simp] theorem State.accept_time (a : Nat) (f : Bits) : (s.accept a f).time = s.time := rfl
@[simp] theorem State.accept_out (a : Nat) (f : Bits) : (s.accept a f).out = s.out := rfl
@[simp] theorem State.accept_fresh (a : Nat) (f : Bits) : (s.accept a f).fresh = s.fresh := rfl
@[simp] theorem State.accept_retained (a : Nat) (f : Bits) : (s.accept a f).retained = s.retained := rfl
@[simp] theorem State.accept_issuers (a : Nat) (f : Bits) : (s.accept a f).issuers = s.issuers := rfl
@[simp] theorem State.accept_nibs (a : Nat) (f : Bits) : (s.accept a f).nibs = s.nibs := rfl
@[simp] theorem State.accept_streams (a : Nat) (f : Bits) : (s.accept a f).streams = s.streams := rfl
@[simp] theorem State.accept_ports (a : Nat) (f : Bits) : (s.accept a f).ports = s.ports := rfl
@[simp] theorem State.accept_tests (a : Nat) (f : Bits) : (s.accept a f).tests = s.tests := rfl
@[simp] theorem State.accept_casc (a : Nat) (f : Bits) : (s.accept a f).casc = s.casc := rfl
@[simp] theorem State.accept_links (a : Nat) (f : Bits) : (s.accept a f).links = s.links := rfl
@[simp] theorem State.accept_clk (a : Nat) (f : Bits) : (s.accept a f).clk = s.clk := rfl
@[simp] theorem State.accept_tim (a : Nat) (f : Bits) : (s.accept a f).tim = s.tim := rfl
@[simp] theorem State.accept_spikes (a : Nat) (f : Bits) : (s.accept a f).spikes = s.spikes := rfl
@[simp] theorem State.accept_zooms (a : Nat) (f : Bits) : (s.accept a f).zooms = s.zooms := rfl
@[simp] theorem State.accept_pairs (a : Nat) (f : Bits) : (s.accept a f).pairs = s.pairs := rfl
@[simp] theorem State.accept_windows (a : Nat) (f : Bits) : (s.accept a f).windows = s.windows := rfl
@[simp] theorem State.accept_sources (a : Nat) (f : Bits) : (s.accept a f).sources = s.sources := rfl
@[simp] theorem State.accept_masks (a : Nat) (f : Bits) : (s.accept a f).masks = s.masks := rfl
@[simp] theorem State.accept_mecs (a : Nat) (f : Bits) : (s.accept a f).mecs = s.mecs := rfl
@[simp] theorem State.accept_timers (a : Nat) (f : Bits) : (s.accept a f).timers = s.timers := rfl
@[simp] theorem State.accept_trg (a : Nat) (f : Bits) : (s.accept a f).trg = s.trg := rfl
@[simp] theorem State.accept_seqs (a : Nat) (f : Bits) : (s.accept a f).seqs = s.seqs := rfl
@[simp] theorem State.accept_tadpoles (a : Nat) (f : Bits) : (s.accept a f).tadpoles = s.tadpoles := rfl
@[simp] theorem State.accept_records (a : Nat) (f : Bits) : (s.accept a f).records = s.records := rfl
@[simp] theorem State.accept_flows (a : Nat) (f : Bits) : (s.accept a f).flows = s.flows := rfl
@[simp] theorem State.accept_jobs (a : Nat) (f : Bits) : (s.accept a f).jobs = s.jobs := rfl
@[simp] theorem State.accept_brush (a : Nat) (f : Bits) : (s.accept a f).brush = s.brush := rfl
@[simp] theorem State.accept_brushQueue (a : Nat) (f : Bits) : (s.accept a f).brushQueue = s.brushQueue := rfl
@[simp] theorem State.accept_kernels (a : Nat) (f : Bits) : (s.accept a f).kernels = s.kernels := rfl
@[simp] theorem State.accept_planes (a : Nat) (f : Bits) : (s.accept a f).planes = s.planes := rfl
@[simp] theorem State.accept_panels (a : Nat) (f : Bits) : (s.accept a f).panels = s.panels := rfl
@[simp] theorem State.accept_releases (a : Nat) (f : Bits) : (s.accept a f).releases = s.releases := rfl
@[simp] theorem State.accept_ink (a : Nat) (f : Bits) : (s.accept a f).ink = s.ink := rfl
@[simp] theorem State.accept_channels (a : Nat) (f : Bits) : (s.accept a f).channels = s.channels := rfl
@[simp] theorem State.accept_disks (a : Nat) (f : Bits) : (s.accept a f).disks = s.disks := rfl
@[simp] theorem State.accept_nvme (a : Nat) (f : Bits) : (s.accept a f).nvme = s.nvme := rfl
@[simp] theorem State.accept_stw (a : Nat) (f : Bits) : (s.accept a f).stw = s.stw := rfl
@[simp] theorem State.accept_mod (a : Nat) (f : Bits) : (s.accept a f).mod = s.mod := rfl

/-! ### An outward effect, and a free value drawn. -/

@[simp] theorem State.emit_pending (x : Output) : (s.emit x).pending = s.pending := rfl
@[simp] theorem State.emit_regs (x : Output) : (s.emit x).regs = s.regs := rfl
@[simp] theorem State.emit_staged (x : Output) : (s.emit x).staged = s.staged := rfl
@[simp] theorem State.emit_latches (x : Output) : (s.emit x).latches = s.latches := rfl
@[simp] theorem State.emit_scopes (x : Output) : (s.emit x).scopes = s.scopes := rfl
@[simp] theorem State.emit_blocks (x : Output) : (s.emit x).blocks = s.blocks := rfl
@[simp] theorem State.emit_rings (x : Output) : (s.emit x).rings = s.rings := rfl
@[simp] theorem State.emit_time (x : Output) : (s.emit x).time = s.time := rfl
@[simp] theorem State.emit_out (x : Output) : (s.emit x).out = s.out ++ [x] := rfl
@[simp] theorem State.emit_fresh (x : Output) : (s.emit x).fresh = s.fresh := rfl
@[simp] theorem State.emit_retained (x : Output) : (s.emit x).retained = s.retained := rfl
@[simp] theorem State.emit_issuers (x : Output) : (s.emit x).issuers = s.issuers := rfl
@[simp] theorem State.emit_nibs (x : Output) : (s.emit x).nibs = s.nibs := rfl
@[simp] theorem State.emit_streams (x : Output) : (s.emit x).streams = s.streams := rfl
@[simp] theorem State.emit_ports (x : Output) : (s.emit x).ports = s.ports := rfl
@[simp] theorem State.emit_tests (x : Output) : (s.emit x).tests = s.tests := rfl
@[simp] theorem State.emit_casc (x : Output) : (s.emit x).casc = s.casc := rfl
@[simp] theorem State.emit_links (x : Output) : (s.emit x).links = s.links := rfl
@[simp] theorem State.emit_clk (x : Output) : (s.emit x).clk = s.clk := rfl
@[simp] theorem State.emit_tim (x : Output) : (s.emit x).tim = s.tim := rfl
@[simp] theorem State.emit_spikes (x : Output) : (s.emit x).spikes = s.spikes := rfl
@[simp] theorem State.emit_zooms (x : Output) : (s.emit x).zooms = s.zooms := rfl
@[simp] theorem State.emit_pairs (x : Output) : (s.emit x).pairs = s.pairs := rfl
@[simp] theorem State.emit_windows (x : Output) : (s.emit x).windows = s.windows := rfl
@[simp] theorem State.emit_sources (x : Output) : (s.emit x).sources = s.sources := rfl
@[simp] theorem State.emit_masks (x : Output) : (s.emit x).masks = s.masks := rfl
@[simp] theorem State.emit_mecs (x : Output) : (s.emit x).mecs = s.mecs := rfl
@[simp] theorem State.emit_timers (x : Output) : (s.emit x).timers = s.timers := rfl
@[simp] theorem State.emit_trg (x : Output) : (s.emit x).trg = s.trg := rfl
@[simp] theorem State.emit_seqs (x : Output) : (s.emit x).seqs = s.seqs := rfl
@[simp] theorem State.emit_tadpoles (x : Output) : (s.emit x).tadpoles = s.tadpoles := rfl
@[simp] theorem State.emit_records (x : Output) : (s.emit x).records = s.records := rfl
@[simp] theorem State.emit_flows (x : Output) : (s.emit x).flows = s.flows := rfl
@[simp] theorem State.emit_jobs (x : Output) : (s.emit x).jobs = s.jobs := rfl
@[simp] theorem State.emit_brush (x : Output) : (s.emit x).brush = s.brush := rfl
@[simp] theorem State.emit_brushQueue (x : Output) : (s.emit x).brushQueue = s.brushQueue := rfl
@[simp] theorem State.emit_kernels (x : Output) : (s.emit x).kernels = s.kernels := rfl
@[simp] theorem State.emit_planes (x : Output) : (s.emit x).planes = s.planes := rfl
@[simp] theorem State.emit_panels (x : Output) : (s.emit x).panels = s.panels := rfl
@[simp] theorem State.emit_releases (x : Output) : (s.emit x).releases = s.releases := rfl
@[simp] theorem State.emit_ink (x : Output) : (s.emit x).ink = s.ink := rfl
@[simp] theorem State.emit_channels (x : Output) : (s.emit x).channels = s.channels := rfl
@[simp] theorem State.emit_disks (x : Output) : (s.emit x).disks = s.disks := rfl
@[simp] theorem State.emit_nvme (x : Output) : (s.emit x).nvme = s.nvme := rfl
@[simp] theorem State.emit_stw (x : Output) : (s.emit x).stw = s.stw := rfl
@[simp] theorem State.emit_mod (x : Output) : (s.emit x).mod = s.mod := rfl
@[simp] theorem State.draw_pending : (s.draw).2.pending = s.pending := rfl
@[simp] theorem State.draw_regs : (s.draw).2.regs = s.regs := rfl
@[simp] theorem State.draw_staged : (s.draw).2.staged = s.staged := rfl
@[simp] theorem State.draw_latches : (s.draw).2.latches = s.latches := rfl
@[simp] theorem State.draw_scopes : (s.draw).2.scopes = s.scopes := rfl
@[simp] theorem State.draw_blocks : (s.draw).2.blocks = s.blocks := rfl
@[simp] theorem State.draw_rings : (s.draw).2.rings = s.rings := rfl
@[simp] theorem State.draw_time : (s.draw).2.time = s.time := rfl
@[simp] theorem State.draw_out : (s.draw).2.out = s.out := rfl
@[simp] theorem State.draw_fresh : (s.draw).2.fresh = s.fresh + 1 := rfl
@[simp] theorem State.draw_retained : (s.draw).2.retained = s.retained := rfl
@[simp] theorem State.draw_issuers : (s.draw).2.issuers = s.issuers := rfl
@[simp] theorem State.draw_nibs : (s.draw).2.nibs = s.nibs := rfl
@[simp] theorem State.draw_streams : (s.draw).2.streams = s.streams := rfl
@[simp] theorem State.draw_ports : (s.draw).2.ports = s.ports := rfl
@[simp] theorem State.draw_tests : (s.draw).2.tests = s.tests := rfl
@[simp] theorem State.draw_casc : (s.draw).2.casc = s.casc := rfl
@[simp] theorem State.draw_links : (s.draw).2.links = s.links := rfl
@[simp] theorem State.draw_clk : (s.draw).2.clk = s.clk := rfl
@[simp] theorem State.draw_tim : (s.draw).2.tim = s.tim := rfl
@[simp] theorem State.draw_spikes : (s.draw).2.spikes = s.spikes := rfl
@[simp] theorem State.draw_zooms : (s.draw).2.zooms = s.zooms := rfl
@[simp] theorem State.draw_pairs : (s.draw).2.pairs = s.pairs := rfl
@[simp] theorem State.draw_windows : (s.draw).2.windows = s.windows := rfl
@[simp] theorem State.draw_sources : (s.draw).2.sources = s.sources := rfl
@[simp] theorem State.draw_masks : (s.draw).2.masks = s.masks := rfl
@[simp] theorem State.draw_mecs : (s.draw).2.mecs = s.mecs := rfl
@[simp] theorem State.draw_timers : (s.draw).2.timers = s.timers := rfl
@[simp] theorem State.draw_trg : (s.draw).2.trg = s.trg := rfl
@[simp] theorem State.draw_seqs : (s.draw).2.seqs = s.seqs := rfl
@[simp] theorem State.draw_tadpoles : (s.draw).2.tadpoles = s.tadpoles := rfl
@[simp] theorem State.draw_records : (s.draw).2.records = s.records := rfl
@[simp] theorem State.draw_flows : (s.draw).2.flows = s.flows := rfl
@[simp] theorem State.draw_jobs : (s.draw).2.jobs = s.jobs := rfl
@[simp] theorem State.draw_brush : (s.draw).2.brush = s.brush := rfl
@[simp] theorem State.draw_brushQueue : (s.draw).2.brushQueue = s.brushQueue := rfl
@[simp] theorem State.draw_kernels : (s.draw).2.kernels = s.kernels := rfl
@[simp] theorem State.draw_planes : (s.draw).2.planes = s.planes := rfl
@[simp] theorem State.draw_panels : (s.draw).2.panels = s.panels := rfl
@[simp] theorem State.draw_releases : (s.draw).2.releases = s.releases := rfl
@[simp] theorem State.draw_ink : (s.draw).2.ink = s.ink := rfl
@[simp] theorem State.draw_channels : (s.draw).2.channels = s.channels := rfl
@[simp] theorem State.draw_disks : (s.draw).2.disks = s.disks := rfl
@[simp] theorem State.draw_nvme : (s.draw).2.nvme = s.nvme := rfl
@[simp] theorem State.draw_stw : (s.draw).2.stw = s.stw := rfl
@[simp] theorem State.draw_mod : (s.draw).2.mod = s.mod := rfl
@[simp] theorem State.draw_value : s.draw.1 = s.fresh := rfl

/-! ### An event: the flight recorder, and the ring its route names (R70). -/

/-- MSI-X vectors: registers and outward effects only. -/
theorem State.signal_frame (v : Nat) : ∃ r o, s.signal v = { s with regs := r, out := o } := by
  unfold State.signal
  split
  · exact ⟨_, _, rfl⟩
  · split <;> exact ⟨_, _, rfl⟩

theorem State.rringPush_frame (r : Nat) (e : ResultEntry) :
    ∃ x g o, s.rringPush r e = { s with regs := x, rings := g, out := o } := by
  unfold State.rringPush
  dsimp only
  split <;> exact ⟨_, _, _, rfl⟩

/-- The parts of the State that an event routed to a ring may change. -/
theorem State.routed_step (u : State) (f : State → State)
    (hf : ∃ x g o, f u = { u with regs := x, rings := g, out := o })
    (hu : ∃ x g o, u = { s with regs := x, rings := g, out := o }) : ∃ x g o, f u = { s with regs := x, rings := g, out := o } := by
  obtain ⟨x, g, o, h⟩ := hf
  obtain ⟨x', g', o', rfl⟩ := hu
  exact ⟨x, g, o, h⟩

theorem State.routeEvent_frame (id : Nat) (e : EventRecord) :
    ∃ x g o, s.routeEvent id e = { s with regs := x, rings := g, out := o } := by
  unfold State.routeEvent
  extract_lets rt r due s1 c1 u d w1 c2 w
  split
  · exact ⟨_, _, _, rfl⟩
  split
  · exact ⟨_, _, _, rfl⟩
  have hu : ∃ x g o, u = { s with regs := x, rings := g, out := o } := by
    show ∃ x g o, (if due then _ else s) = _
    split
    · exact State.routed_step s (s.rringPush r (.event s.anchorRecord)) (fun t => { t with rings := _ }) ⟨_, _, _, rfl⟩
        (s.rringPush_frame _ _)
    · exact ⟨_, _, _, rfl⟩
  split
  · exact State.routed_step s u (·.dropEvent r) ⟨_, _, _, rfl⟩ hu
  have hw : ∃ x g o, w = { s with regs := x, rings := g, out := o } :=
    State.routed_step s (u.rringPush r (.event { e with dropped := d })) (fun t => { t with rings := _ }) ⟨_, _, _, rfl⟩
      (State.routed_step s u (·.rringPush r (.event { e with dropped := d })) (u.rringPush_frame _ _) hu)
  split
  · refine State.routed_step s w (·.signal _) ?_ hw
    obtain ⟨x, o, h⟩ := w.signal_frame (w.fld rt Fld.GLOBAL.EVT_ROUTE.vector)
    exact ⟨x, _, o, h⟩
  · exact hw

/-- An event changes registers, rings, the retained store and what goes out: nothing else. -/
theorem State.raise_frame (e : EventDef) (arg : Nat) :
    ∃ x g t o, s.raise e arg = { s with regs := x, rings := g, retained := t, out := o } := by
  unfold State.raise
  obtain ⟨x, g, o, h⟩ := State.routeEvent_frame (s.record (s.eventRecord e arg)) e.id (s.eventRecord e arg)
  exact ⟨x, g, _, o, h⟩

@[simp] theorem State.raise_pending (e : EventDef) (arg : Nat) : (s.raise e arg).pending = s.pending := by
  obtain ⟨_, _, _, _, h⟩ := s.raise_frame e arg
  rw [h]
@[simp] theorem State.raise_staged (e : EventDef) (arg : Nat) : (s.raise e arg).staged = s.staged := by
  obtain ⟨_, _, _, _, h⟩ := s.raise_frame e arg
  rw [h]
@[simp] theorem State.raise_latches (e : EventDef) (arg : Nat) : (s.raise e arg).latches = s.latches := by
  obtain ⟨_, _, _, _, h⟩ := s.raise_frame e arg
  rw [h]
@[simp] theorem State.raise_scopes (e : EventDef) (arg : Nat) : (s.raise e arg).scopes = s.scopes := by
  obtain ⟨_, _, _, _, h⟩ := s.raise_frame e arg
  rw [h]
@[simp] theorem State.raise_blocks (e : EventDef) (arg : Nat) : (s.raise e arg).blocks = s.blocks := by
  obtain ⟨_, _, _, _, h⟩ := s.raise_frame e arg
  rw [h]
@[simp] theorem State.raise_time (e : EventDef) (arg : Nat) : (s.raise e arg).time = s.time := by
  obtain ⟨_, _, _, _, h⟩ := s.raise_frame e arg
  rw [h]
@[simp] theorem State.raise_fresh (e : EventDef) (arg : Nat) : (s.raise e arg).fresh = s.fresh := by
  obtain ⟨_, _, _, _, h⟩ := s.raise_frame e arg
  rw [h]
@[simp] theorem State.raise_issuers (e : EventDef) (arg : Nat) : (s.raise e arg).issuers = s.issuers := by
  obtain ⟨_, _, _, _, h⟩ := s.raise_frame e arg
  rw [h]
@[simp] theorem State.raise_nibs (e : EventDef) (arg : Nat) : (s.raise e arg).nibs = s.nibs := by
  obtain ⟨_, _, _, _, h⟩ := s.raise_frame e arg
  rw [h]
@[simp] theorem State.raise_streams (e : EventDef) (arg : Nat) : (s.raise e arg).streams = s.streams := by
  obtain ⟨_, _, _, _, h⟩ := s.raise_frame e arg
  rw [h]
@[simp] theorem State.raise_ports (e : EventDef) (arg : Nat) : (s.raise e arg).ports = s.ports := by
  obtain ⟨_, _, _, _, h⟩ := s.raise_frame e arg
  rw [h]
@[simp] theorem State.raise_tests (e : EventDef) (arg : Nat) : (s.raise e arg).tests = s.tests := by
  obtain ⟨_, _, _, _, h⟩ := s.raise_frame e arg
  rw [h]
@[simp] theorem State.raise_casc (e : EventDef) (arg : Nat) : (s.raise e arg).casc = s.casc := by
  obtain ⟨_, _, _, _, h⟩ := s.raise_frame e arg
  rw [h]
@[simp] theorem State.raise_links (e : EventDef) (arg : Nat) : (s.raise e arg).links = s.links := by
  obtain ⟨_, _, _, _, h⟩ := s.raise_frame e arg
  rw [h]
@[simp] theorem State.raise_clk (e : EventDef) (arg : Nat) : (s.raise e arg).clk = s.clk := by
  obtain ⟨_, _, _, _, h⟩ := s.raise_frame e arg
  rw [h]
@[simp] theorem State.raise_tim (e : EventDef) (arg : Nat) : (s.raise e arg).tim = s.tim := by
  obtain ⟨_, _, _, _, h⟩ := s.raise_frame e arg
  rw [h]
@[simp] theorem State.raise_spikes (e : EventDef) (arg : Nat) : (s.raise e arg).spikes = s.spikes := by
  obtain ⟨_, _, _, _, h⟩ := s.raise_frame e arg
  rw [h]
@[simp] theorem State.raise_zooms (e : EventDef) (arg : Nat) : (s.raise e arg).zooms = s.zooms := by
  obtain ⟨_, _, _, _, h⟩ := s.raise_frame e arg
  rw [h]
@[simp] theorem State.raise_pairs (e : EventDef) (arg : Nat) : (s.raise e arg).pairs = s.pairs := by
  obtain ⟨_, _, _, _, h⟩ := s.raise_frame e arg
  rw [h]
@[simp] theorem State.raise_windows (e : EventDef) (arg : Nat) : (s.raise e arg).windows = s.windows := by
  obtain ⟨_, _, _, _, h⟩ := s.raise_frame e arg
  rw [h]
@[simp] theorem State.raise_sources (e : EventDef) (arg : Nat) : (s.raise e arg).sources = s.sources := by
  obtain ⟨_, _, _, _, h⟩ := s.raise_frame e arg
  rw [h]
@[simp] theorem State.raise_masks (e : EventDef) (arg : Nat) : (s.raise e arg).masks = s.masks := by
  obtain ⟨_, _, _, _, h⟩ := s.raise_frame e arg
  rw [h]
@[simp] theorem State.raise_mecs (e : EventDef) (arg : Nat) : (s.raise e arg).mecs = s.mecs := by
  obtain ⟨_, _, _, _, h⟩ := s.raise_frame e arg
  rw [h]
@[simp] theorem State.raise_timers (e : EventDef) (arg : Nat) : (s.raise e arg).timers = s.timers := by
  obtain ⟨_, _, _, _, h⟩ := s.raise_frame e arg
  rw [h]
@[simp] theorem State.raise_trg (e : EventDef) (arg : Nat) : (s.raise e arg).trg = s.trg := by
  obtain ⟨_, _, _, _, h⟩ := s.raise_frame e arg
  rw [h]
@[simp] theorem State.raise_seqs (e : EventDef) (arg : Nat) : (s.raise e arg).seqs = s.seqs := by
  obtain ⟨_, _, _, _, h⟩ := s.raise_frame e arg
  rw [h]
@[simp] theorem State.raise_tadpoles (e : EventDef) (arg : Nat) : (s.raise e arg).tadpoles = s.tadpoles := by
  obtain ⟨_, _, _, _, h⟩ := s.raise_frame e arg
  rw [h]
@[simp] theorem State.raise_records (e : EventDef) (arg : Nat) : (s.raise e arg).records = s.records := by
  obtain ⟨_, _, _, _, h⟩ := s.raise_frame e arg
  rw [h]
@[simp] theorem State.raise_flows (e : EventDef) (arg : Nat) : (s.raise e arg).flows = s.flows := by
  obtain ⟨_, _, _, _, h⟩ := s.raise_frame e arg
  rw [h]
@[simp] theorem State.raise_jobs (e : EventDef) (arg : Nat) : (s.raise e arg).jobs = s.jobs := by
  obtain ⟨_, _, _, _, h⟩ := s.raise_frame e arg
  rw [h]
@[simp] theorem State.raise_brush (e : EventDef) (arg : Nat) : (s.raise e arg).brush = s.brush := by
  obtain ⟨_, _, _, _, h⟩ := s.raise_frame e arg
  rw [h]
@[simp] theorem State.raise_brushQueue (e : EventDef) (arg : Nat) : (s.raise e arg).brushQueue = s.brushQueue := by
  obtain ⟨_, _, _, _, h⟩ := s.raise_frame e arg
  rw [h]
@[simp] theorem State.raise_kernels (e : EventDef) (arg : Nat) : (s.raise e arg).kernels = s.kernels := by
  obtain ⟨_, _, _, _, h⟩ := s.raise_frame e arg
  rw [h]
@[simp] theorem State.raise_planes (e : EventDef) (arg : Nat) : (s.raise e arg).planes = s.planes := by
  obtain ⟨_, _, _, _, h⟩ := s.raise_frame e arg
  rw [h]
@[simp] theorem State.raise_panels (e : EventDef) (arg : Nat) : (s.raise e arg).panels = s.panels := by
  obtain ⟨_, _, _, _, h⟩ := s.raise_frame e arg
  rw [h]
@[simp] theorem State.raise_releases (e : EventDef) (arg : Nat) : (s.raise e arg).releases = s.releases := by
  obtain ⟨_, _, _, _, h⟩ := s.raise_frame e arg
  rw [h]
@[simp] theorem State.raise_ink (e : EventDef) (arg : Nat) : (s.raise e arg).ink = s.ink := by
  obtain ⟨_, _, _, _, h⟩ := s.raise_frame e arg
  rw [h]
@[simp] theorem State.raise_channels (e : EventDef) (arg : Nat) : (s.raise e arg).channels = s.channels := by
  obtain ⟨_, _, _, _, h⟩ := s.raise_frame e arg
  rw [h]
@[simp] theorem State.raise_disks (e : EventDef) (arg : Nat) : (s.raise e arg).disks = s.disks := by
  obtain ⟨_, _, _, _, h⟩ := s.raise_frame e arg
  rw [h]
@[simp] theorem State.raise_nvme (e : EventDef) (arg : Nat) : (s.raise e arg).nvme = s.nvme := by
  obtain ⟨_, _, _, _, h⟩ := s.raise_frame e arg
  rw [h]
@[simp] theorem State.raise_stw (e : EventDef) (arg : Nat) : (s.raise e arg).stw = s.stw := by
  obtain ⟨_, _, _, _, h⟩ := s.raise_frame e arg
  rw [h]
@[simp] theorem State.raise_mod (e : EventDef) (arg : Nat) : (s.raise e arg).mod = s.mod := by
  obtain ⟨_, _, _, _, h⟩ := s.raise_frame e arg
  rw [h]

@[simp] theorem State.setStaEv_pending (a : Nat) (f : Bits) (e : EventDef) (arg : Nat) : (s.setStaEv a f e arg).pending = s.pending := State.raise_pending _ _ _
@[simp] theorem State.setStaEv_staged (a : Nat) (f : Bits) (e : EventDef) (arg : Nat) : (s.setStaEv a f e arg).staged = s.staged := State.raise_staged _ _ _
@[simp] theorem State.setStaEv_latches (a : Nat) (f : Bits) (e : EventDef) (arg : Nat) : (s.setStaEv a f e arg).latches = s.latches := State.raise_latches _ _ _
@[simp] theorem State.setStaEv_scopes (a : Nat) (f : Bits) (e : EventDef) (arg : Nat) : (s.setStaEv a f e arg).scopes = s.scopes := State.raise_scopes _ _ _
@[simp] theorem State.setStaEv_blocks (a : Nat) (f : Bits) (e : EventDef) (arg : Nat) : (s.setStaEv a f e arg).blocks = s.blocks := State.raise_blocks _ _ _
@[simp] theorem State.setStaEv_time (a : Nat) (f : Bits) (e : EventDef) (arg : Nat) : (s.setStaEv a f e arg).time = s.time := State.raise_time _ _ _
@[simp] theorem State.setStaEv_fresh (a : Nat) (f : Bits) (e : EventDef) (arg : Nat) : (s.setStaEv a f e arg).fresh = s.fresh := State.raise_fresh _ _ _
@[simp] theorem State.setStaEv_issuers (a : Nat) (f : Bits) (e : EventDef) (arg : Nat) : (s.setStaEv a f e arg).issuers = s.issuers := State.raise_issuers _ _ _
@[simp] theorem State.setStaEv_nibs (a : Nat) (f : Bits) (e : EventDef) (arg : Nat) : (s.setStaEv a f e arg).nibs = s.nibs := State.raise_nibs _ _ _
@[simp] theorem State.setStaEv_streams (a : Nat) (f : Bits) (e : EventDef) (arg : Nat) : (s.setStaEv a f e arg).streams = s.streams := State.raise_streams _ _ _
@[simp] theorem State.setStaEv_ports (a : Nat) (f : Bits) (e : EventDef) (arg : Nat) : (s.setStaEv a f e arg).ports = s.ports := State.raise_ports _ _ _
@[simp] theorem State.setStaEv_tests (a : Nat) (f : Bits) (e : EventDef) (arg : Nat) : (s.setStaEv a f e arg).tests = s.tests := State.raise_tests _ _ _
@[simp] theorem State.setStaEv_casc (a : Nat) (f : Bits) (e : EventDef) (arg : Nat) : (s.setStaEv a f e arg).casc = s.casc := State.raise_casc _ _ _
@[simp] theorem State.setStaEv_links (a : Nat) (f : Bits) (e : EventDef) (arg : Nat) : (s.setStaEv a f e arg).links = s.links := State.raise_links _ _ _
@[simp] theorem State.setStaEv_clk (a : Nat) (f : Bits) (e : EventDef) (arg : Nat) : (s.setStaEv a f e arg).clk = s.clk := State.raise_clk _ _ _
@[simp] theorem State.setStaEv_tim (a : Nat) (f : Bits) (e : EventDef) (arg : Nat) : (s.setStaEv a f e arg).tim = s.tim := State.raise_tim _ _ _
@[simp] theorem State.setStaEv_spikes (a : Nat) (f : Bits) (e : EventDef) (arg : Nat) : (s.setStaEv a f e arg).spikes = s.spikes := State.raise_spikes _ _ _
@[simp] theorem State.setStaEv_zooms (a : Nat) (f : Bits) (e : EventDef) (arg : Nat) : (s.setStaEv a f e arg).zooms = s.zooms := State.raise_zooms _ _ _
@[simp] theorem State.setStaEv_pairs (a : Nat) (f : Bits) (e : EventDef) (arg : Nat) : (s.setStaEv a f e arg).pairs = s.pairs := State.raise_pairs _ _ _
@[simp] theorem State.setStaEv_windows (a : Nat) (f : Bits) (e : EventDef) (arg : Nat) : (s.setStaEv a f e arg).windows = s.windows := State.raise_windows _ _ _
@[simp] theorem State.setStaEv_sources (a : Nat) (f : Bits) (e : EventDef) (arg : Nat) : (s.setStaEv a f e arg).sources = s.sources := State.raise_sources _ _ _
@[simp] theorem State.setStaEv_masks (a : Nat) (f : Bits) (e : EventDef) (arg : Nat) : (s.setStaEv a f e arg).masks = s.masks := State.raise_masks _ _ _
@[simp] theorem State.setStaEv_mecs (a : Nat) (f : Bits) (e : EventDef) (arg : Nat) : (s.setStaEv a f e arg).mecs = s.mecs := State.raise_mecs _ _ _
@[simp] theorem State.setStaEv_timers (a : Nat) (f : Bits) (e : EventDef) (arg : Nat) : (s.setStaEv a f e arg).timers = s.timers := State.raise_timers _ _ _
@[simp] theorem State.setStaEv_trg (a : Nat) (f : Bits) (e : EventDef) (arg : Nat) : (s.setStaEv a f e arg).trg = s.trg := State.raise_trg _ _ _
@[simp] theorem State.setStaEv_seqs (a : Nat) (f : Bits) (e : EventDef) (arg : Nat) : (s.setStaEv a f e arg).seqs = s.seqs := State.raise_seqs _ _ _
@[simp] theorem State.setStaEv_tadpoles (a : Nat) (f : Bits) (e : EventDef) (arg : Nat) : (s.setStaEv a f e arg).tadpoles = s.tadpoles := State.raise_tadpoles _ _ _
@[simp] theorem State.setStaEv_records (a : Nat) (f : Bits) (e : EventDef) (arg : Nat) : (s.setStaEv a f e arg).records = s.records := State.raise_records _ _ _
@[simp] theorem State.setStaEv_flows (a : Nat) (f : Bits) (e : EventDef) (arg : Nat) : (s.setStaEv a f e arg).flows = s.flows := State.raise_flows _ _ _
@[simp] theorem State.setStaEv_jobs (a : Nat) (f : Bits) (e : EventDef) (arg : Nat) : (s.setStaEv a f e arg).jobs = s.jobs := State.raise_jobs _ _ _
@[simp] theorem State.setStaEv_brush (a : Nat) (f : Bits) (e : EventDef) (arg : Nat) : (s.setStaEv a f e arg).brush = s.brush := State.raise_brush _ _ _
@[simp] theorem State.setStaEv_brushQueue (a : Nat) (f : Bits) (e : EventDef) (arg : Nat) : (s.setStaEv a f e arg).brushQueue = s.brushQueue := State.raise_brushQueue _ _ _
@[simp] theorem State.setStaEv_kernels (a : Nat) (f : Bits) (e : EventDef) (arg : Nat) : (s.setStaEv a f e arg).kernels = s.kernels := State.raise_kernels _ _ _
@[simp] theorem State.setStaEv_planes (a : Nat) (f : Bits) (e : EventDef) (arg : Nat) : (s.setStaEv a f e arg).planes = s.planes := State.raise_planes _ _ _
@[simp] theorem State.setStaEv_panels (a : Nat) (f : Bits) (e : EventDef) (arg : Nat) : (s.setStaEv a f e arg).panels = s.panels := State.raise_panels _ _ _
@[simp] theorem State.setStaEv_releases (a : Nat) (f : Bits) (e : EventDef) (arg : Nat) : (s.setStaEv a f e arg).releases = s.releases := State.raise_releases _ _ _
@[simp] theorem State.setStaEv_ink (a : Nat) (f : Bits) (e : EventDef) (arg : Nat) : (s.setStaEv a f e arg).ink = s.ink := State.raise_ink _ _ _
@[simp] theorem State.setStaEv_channels (a : Nat) (f : Bits) (e : EventDef) (arg : Nat) : (s.setStaEv a f e arg).channels = s.channels := State.raise_channels _ _ _
@[simp] theorem State.setStaEv_disks (a : Nat) (f : Bits) (e : EventDef) (arg : Nat) : (s.setStaEv a f e arg).disks = s.disks := State.raise_disks _ _ _
@[simp] theorem State.setStaEv_nvme (a : Nat) (f : Bits) (e : EventDef) (arg : Nat) : (s.setStaEv a f e arg).nvme = s.nvme := State.raise_nvme _ _ _
@[simp] theorem State.setStaEv_stw (a : Nat) (f : Bits) (e : EventDef) (arg : Nat) : (s.setStaEv a f e arg).stw = s.stw := State.raise_stw _ _ _
@[simp] theorem State.setStaEv_mod (a : Nat) (f : Bits) (e : EventDef) (arg : Nat) : (s.setStaEv a f e arg).mod = s.mod := State.raise_mod _ _ _

@[simp] theorem State.blkEvent_pending (b n : Nat) (e : EventDef) (arg : Nat) : (s.blkEvent b n e arg).pending = s.pending := State.raise_pending _ _ _
@[simp] theorem State.blkEvent_staged (b n : Nat) (e : EventDef) (arg : Nat) : (s.blkEvent b n e arg).staged = s.staged := State.raise_staged _ _ _
@[simp] theorem State.blkEvent_latches (b n : Nat) (e : EventDef) (arg : Nat) : (s.blkEvent b n e arg).latches = s.latches := State.raise_latches _ _ _
@[simp] theorem State.blkEvent_scopes (b n : Nat) (e : EventDef) (arg : Nat) : (s.blkEvent b n e arg).scopes = s.scopes := State.raise_scopes _ _ _
@[simp] theorem State.blkEvent_blocks (b n : Nat) (e : EventDef) (arg : Nat) : (s.blkEvent b n e arg).blocks = s.blocks := State.raise_blocks _ _ _
@[simp] theorem State.blkEvent_time (b n : Nat) (e : EventDef) (arg : Nat) : (s.blkEvent b n e arg).time = s.time := State.raise_time _ _ _
@[simp] theorem State.blkEvent_fresh (b n : Nat) (e : EventDef) (arg : Nat) : (s.blkEvent b n e arg).fresh = s.fresh := State.raise_fresh _ _ _
@[simp] theorem State.blkEvent_issuers (b n : Nat) (e : EventDef) (arg : Nat) : (s.blkEvent b n e arg).issuers = s.issuers := State.raise_issuers _ _ _
@[simp] theorem State.blkEvent_nibs (b n : Nat) (e : EventDef) (arg : Nat) : (s.blkEvent b n e arg).nibs = s.nibs := State.raise_nibs _ _ _
@[simp] theorem State.blkEvent_streams (b n : Nat) (e : EventDef) (arg : Nat) : (s.blkEvent b n e arg).streams = s.streams := State.raise_streams _ _ _
@[simp] theorem State.blkEvent_ports (b n : Nat) (e : EventDef) (arg : Nat) : (s.blkEvent b n e arg).ports = s.ports := State.raise_ports _ _ _
@[simp] theorem State.blkEvent_tests (b n : Nat) (e : EventDef) (arg : Nat) : (s.blkEvent b n e arg).tests = s.tests := State.raise_tests _ _ _
@[simp] theorem State.blkEvent_casc (b n : Nat) (e : EventDef) (arg : Nat) : (s.blkEvent b n e arg).casc = s.casc := State.raise_casc _ _ _
@[simp] theorem State.blkEvent_links (b n : Nat) (e : EventDef) (arg : Nat) : (s.blkEvent b n e arg).links = s.links := State.raise_links _ _ _
@[simp] theorem State.blkEvent_clk (b n : Nat) (e : EventDef) (arg : Nat) : (s.blkEvent b n e arg).clk = s.clk := State.raise_clk _ _ _
@[simp] theorem State.blkEvent_tim (b n : Nat) (e : EventDef) (arg : Nat) : (s.blkEvent b n e arg).tim = s.tim := State.raise_tim _ _ _
@[simp] theorem State.blkEvent_spikes (b n : Nat) (e : EventDef) (arg : Nat) : (s.blkEvent b n e arg).spikes = s.spikes := State.raise_spikes _ _ _
@[simp] theorem State.blkEvent_zooms (b n : Nat) (e : EventDef) (arg : Nat) : (s.blkEvent b n e arg).zooms = s.zooms := State.raise_zooms _ _ _
@[simp] theorem State.blkEvent_pairs (b n : Nat) (e : EventDef) (arg : Nat) : (s.blkEvent b n e arg).pairs = s.pairs := State.raise_pairs _ _ _
@[simp] theorem State.blkEvent_windows (b n : Nat) (e : EventDef) (arg : Nat) : (s.blkEvent b n e arg).windows = s.windows := State.raise_windows _ _ _
@[simp] theorem State.blkEvent_sources (b n : Nat) (e : EventDef) (arg : Nat) : (s.blkEvent b n e arg).sources = s.sources := State.raise_sources _ _ _
@[simp] theorem State.blkEvent_masks (b n : Nat) (e : EventDef) (arg : Nat) : (s.blkEvent b n e arg).masks = s.masks := State.raise_masks _ _ _
@[simp] theorem State.blkEvent_mecs (b n : Nat) (e : EventDef) (arg : Nat) : (s.blkEvent b n e arg).mecs = s.mecs := State.raise_mecs _ _ _
@[simp] theorem State.blkEvent_timers (b n : Nat) (e : EventDef) (arg : Nat) : (s.blkEvent b n e arg).timers = s.timers := State.raise_timers _ _ _
@[simp] theorem State.blkEvent_trg (b n : Nat) (e : EventDef) (arg : Nat) : (s.blkEvent b n e arg).trg = s.trg := State.raise_trg _ _ _
@[simp] theorem State.blkEvent_seqs (b n : Nat) (e : EventDef) (arg : Nat) : (s.blkEvent b n e arg).seqs = s.seqs := State.raise_seqs _ _ _
@[simp] theorem State.blkEvent_tadpoles (b n : Nat) (e : EventDef) (arg : Nat) : (s.blkEvent b n e arg).tadpoles = s.tadpoles := State.raise_tadpoles _ _ _
@[simp] theorem State.blkEvent_records (b n : Nat) (e : EventDef) (arg : Nat) : (s.blkEvent b n e arg).records = s.records := State.raise_records _ _ _
@[simp] theorem State.blkEvent_flows (b n : Nat) (e : EventDef) (arg : Nat) : (s.blkEvent b n e arg).flows = s.flows := State.raise_flows _ _ _
@[simp] theorem State.blkEvent_jobs (b n : Nat) (e : EventDef) (arg : Nat) : (s.blkEvent b n e arg).jobs = s.jobs := State.raise_jobs _ _ _
@[simp] theorem State.blkEvent_brush (b n : Nat) (e : EventDef) (arg : Nat) : (s.blkEvent b n e arg).brush = s.brush := State.raise_brush _ _ _
@[simp] theorem State.blkEvent_brushQueue (b n : Nat) (e : EventDef) (arg : Nat) : (s.blkEvent b n e arg).brushQueue = s.brushQueue := State.raise_brushQueue _ _ _
@[simp] theorem State.blkEvent_kernels (b n : Nat) (e : EventDef) (arg : Nat) : (s.blkEvent b n e arg).kernels = s.kernels := State.raise_kernels _ _ _
@[simp] theorem State.blkEvent_planes (b n : Nat) (e : EventDef) (arg : Nat) : (s.blkEvent b n e arg).planes = s.planes := State.raise_planes _ _ _
@[simp] theorem State.blkEvent_panels (b n : Nat) (e : EventDef) (arg : Nat) : (s.blkEvent b n e arg).panels = s.panels := State.raise_panels _ _ _
@[simp] theorem State.blkEvent_releases (b n : Nat) (e : EventDef) (arg : Nat) : (s.blkEvent b n e arg).releases = s.releases := State.raise_releases _ _ _
@[simp] theorem State.blkEvent_ink (b n : Nat) (e : EventDef) (arg : Nat) : (s.blkEvent b n e arg).ink = s.ink := State.raise_ink _ _ _
@[simp] theorem State.blkEvent_channels (b n : Nat) (e : EventDef) (arg : Nat) : (s.blkEvent b n e arg).channels = s.channels := State.raise_channels _ _ _
@[simp] theorem State.blkEvent_disks (b n : Nat) (e : EventDef) (arg : Nat) : (s.blkEvent b n e arg).disks = s.disks := State.raise_disks _ _ _
@[simp] theorem State.blkEvent_nvme (b n : Nat) (e : EventDef) (arg : Nat) : (s.blkEvent b n e arg).nvme = s.nvme := State.raise_nvme _ _ _
@[simp] theorem State.blkEvent_stw (b n : Nat) (e : EventDef) (arg : Nat) : (s.blkEvent b n e arg).stw = s.stw := State.raise_stw _ _ _
@[simp] theorem State.blkEvent_mod (b n : Nat) (e : EventDef) (arg : Nat) : (s.blkEvent b n e arg).mod = s.mod := State.raise_mod _ _ _

/-! ### The tables. -/

@[simp] theorem State.setPanel_pending (o : Nat) (v : PanelRun) : (s.setPanel o v).pending = s.pending := rfl
@[simp] theorem State.setPanel_regs (o : Nat) (v : PanelRun) : (s.setPanel o v).regs = s.regs := rfl
@[simp] theorem State.setPanel_time (o : Nat) (v : PanelRun) : (s.setPanel o v).time = s.time := rfl
@[simp] theorem State.setPanel_out (o : Nat) (v : PanelRun) : (s.setPanel o v).out = s.out := rfl
@[simp] theorem State.setPanel_fresh (o : Nat) (v : PanelRun) : (s.setPanel o v).fresh = s.fresh := rfl
@[simp] theorem State.setPanel_ink (o : Nat) (v : PanelRun) : (s.setPanel o v).ink = s.ink := rfl
@[simp] theorem State.setPanel_nibs (o : Nat) (v : PanelRun) : (s.setPanel o v).nibs = s.nibs := rfl
@[simp] theorem State.setPanel_brush (o : Nat) (v : PanelRun) : (s.setPanel o v).brush = s.brush := rfl
@[simp] theorem State.setPanel_retained (o : Nat) (v : PanelRun) : (s.setPanel o v).retained = s.retained := rfl

@[simp] theorem State.setFlow_pending (f : FlowId) (v : Flow) : (s.setFlow f v).pending = s.pending := rfl
@[simp] theorem State.setFlow_regs (f : FlowId) (v : Flow) : (s.setFlow f v).regs = s.regs := rfl
@[simp] theorem State.setFlow_time (f : FlowId) (v : Flow) : (s.setFlow f v).time = s.time := rfl
@[simp] theorem State.setFlow_out (f : FlowId) (v : Flow) : (s.setFlow f v).out = s.out := rfl
@[simp] theorem State.setFlow_fresh (f : FlowId) (v : Flow) : (s.setFlow f v).fresh = s.fresh := rfl
@[simp] theorem State.setFlow_ink (f : FlowId) (v : Flow) : (s.setFlow f v).ink = s.ink := rfl
@[simp] theorem State.setFlow_nibs (f : FlowId) (v : Flow) : (s.setFlow f v).nibs = s.nibs := rfl
@[simp] theorem State.setFlow_brush (f : FlowId) (v : Flow) : (s.setFlow f v).brush = s.brush := rfl
@[simp] theorem State.setFlow_retained (f : FlowId) (v : Flow) : (s.setFlow f v).retained = s.retained := rfl

@[simp] theorem State.setChannel_pending (ch : Nat) (v : Channel) : (s.setChannel ch v).pending = s.pending := rfl
@[simp] theorem State.setChannel_regs (ch : Nat) (v : Channel) : (s.setChannel ch v).regs = s.regs := rfl
@[simp] theorem State.setChannel_time (ch : Nat) (v : Channel) : (s.setChannel ch v).time = s.time := rfl
@[simp] theorem State.setChannel_out (ch : Nat) (v : Channel) : (s.setChannel ch v).out = s.out := rfl
@[simp] theorem State.setChannel_fresh (ch : Nat) (v : Channel) : (s.setChannel ch v).fresh = s.fresh := rfl
@[simp] theorem State.setChannel_ink (ch : Nat) (v : Channel) : (s.setChannel ch v).ink = s.ink := rfl
@[simp] theorem State.setChannel_nibs (ch : Nat) (v : Channel) : (s.setChannel ch v).nibs = s.nibs := rfl
@[simp] theorem State.setChannel_brush (ch : Nat) (v : Channel) : (s.setChannel ch v).brush = s.brush := rfl
@[simp] theorem State.setChannel_retained (ch : Nat) (v : Channel) : (s.setChannel ch v).retained = s.retained := rfl

@[simp] theorem State.setDisk_pending (n : Nat) (v : DiskRun) : (s.setDisk n v).pending = s.pending := rfl
@[simp] theorem State.setDisk_regs (n : Nat) (v : DiskRun) : (s.setDisk n v).regs = s.regs := rfl
@[simp] theorem State.setDisk_time (n : Nat) (v : DiskRun) : (s.setDisk n v).time = s.time := rfl
@[simp] theorem State.setDisk_out (n : Nat) (v : DiskRun) : (s.setDisk n v).out = s.out := rfl
@[simp] theorem State.setDisk_fresh (n : Nat) (v : DiskRun) : (s.setDisk n v).fresh = s.fresh := rfl
@[simp] theorem State.setDisk_ink (n : Nat) (v : DiskRun) : (s.setDisk n v).ink = s.ink := rfl
@[simp] theorem State.setDisk_nibs (n : Nat) (v : DiskRun) : (s.setDisk n v).nibs = s.nibs := rfl
@[simp] theorem State.setDisk_brush (n : Nat) (v : DiskRun) : (s.setDisk n v).brush = s.brush := rfl
@[simp] theorem State.setDisk_retained (n : Nat) (v : DiskRun) : (s.setDisk n v).retained = s.retained := rfl

@[simp] theorem State.setDrive_pending (d : Nat) (v : Drive) : (s.setDrive d v).pending = s.pending := rfl
@[simp] theorem State.setDrive_regs (d : Nat) (v : Drive) : (s.setDrive d v).regs = s.regs := rfl
@[simp] theorem State.setDrive_time (d : Nat) (v : Drive) : (s.setDrive d v).time = s.time := rfl
@[simp] theorem State.setDrive_out (d : Nat) (v : Drive) : (s.setDrive d v).out = s.out := rfl
@[simp] theorem State.setDrive_fresh (d : Nat) (v : Drive) : (s.setDrive d v).fresh = s.fresh := rfl
@[simp] theorem State.setDrive_ink (d : Nat) (v : Drive) : (s.setDrive d v).ink = s.ink := rfl
@[simp] theorem State.setDrive_nibs (d : Nat) (v : Drive) : (s.setDrive d v).nibs = s.nibs := rfl
@[simp] theorem State.setDrive_brush (d : Nat) (v : Drive) : (s.setDrive d v).brush = s.brush := rfl
@[simp] theorem State.setDrive_retained (d : Nat) (v : Drive) : (s.setDrive d v).retained = s.retained := rfl

@[simp] theorem State.setPort_pending (p : Nat) (v : PortHidden) : (s.setPort p v).pending = s.pending := rfl
@[simp] theorem State.setPort_regs (p : Nat) (v : PortHidden) : (s.setPort p v).regs = s.regs := rfl
@[simp] theorem State.setPort_time (p : Nat) (v : PortHidden) : (s.setPort p v).time = s.time := rfl
@[simp] theorem State.setPort_out (p : Nat) (v : PortHidden) : (s.setPort p v).out = s.out := rfl
@[simp] theorem State.setPort_fresh (p : Nat) (v : PortHidden) : (s.setPort p v).fresh = s.fresh := rfl
@[simp] theorem State.setPort_ink (p : Nat) (v : PortHidden) : (s.setPort p v).ink = s.ink := rfl
@[simp] theorem State.setPort_nibs (p : Nat) (v : PortHidden) : (s.setPort p v).nibs = s.nibs := rfl
@[simp] theorem State.setPort_brush (p : Nat) (v : PortHidden) : (s.setPort p v).brush = s.brush := rfl
@[simp] theorem State.setPort_retained (p : Nat) (v : PortHidden) : (s.setPort p v).retained = s.retained := rfl

@[simp] theorem State.setLink_pending (p : Nat) (v : Link) : (s.setLink p v).pending = s.pending := rfl
@[simp] theorem State.setLink_regs (p : Nat) (v : Link) : (s.setLink p v).regs = s.regs := rfl
@[simp] theorem State.setLink_time (p : Nat) (v : Link) : (s.setLink p v).time = s.time := rfl
@[simp] theorem State.setLink_out (p : Nat) (v : Link) : (s.setLink p v).out = s.out := rfl
@[simp] theorem State.setLink_fresh (p : Nat) (v : Link) : (s.setLink p v).fresh = s.fresh := rfl
@[simp] theorem State.setLink_ink (p : Nat) (v : Link) : (s.setLink p v).ink = s.ink := rfl
@[simp] theorem State.setLink_nibs (p : Nat) (v : Link) : (s.setLink p v).nibs = s.nibs := rfl
@[simp] theorem State.setLink_brush (p : Nat) (v : Link) : (s.setLink p v).brush = s.brush := rfl
@[simp] theorem State.setLink_retained (p : Nat) (v : Link) : (s.setLink p v).retained = s.retained := rfl

@[simp] theorem State.setCascade_pending (k : Nat) (v : CascLink) : (s.setCascade k v).pending = s.pending := rfl
@[simp] theorem State.setCascade_regs (k : Nat) (v : CascLink) : (s.setCascade k v).regs = s.regs := rfl
@[simp] theorem State.setCascade_time (k : Nat) (v : CascLink) : (s.setCascade k v).time = s.time := rfl
@[simp] theorem State.setCascade_out (k : Nat) (v : CascLink) : (s.setCascade k v).out = s.out := rfl
@[simp] theorem State.setCascade_fresh (k : Nat) (v : CascLink) : (s.setCascade k v).fresh = s.fresh := rfl
@[simp] theorem State.setCascade_ink (k : Nat) (v : CascLink) : (s.setCascade k v).ink = s.ink := rfl
@[simp] theorem State.setCascade_nibs (k : Nat) (v : CascLink) : (s.setCascade k v).nibs = s.nibs := rfl
@[simp] theorem State.setCascade_brush (k : Nat) (v : CascLink) : (s.setCascade k v).brush = s.brush := rfl
@[simp] theorem State.setCascade_retained (k : Nat) (v : CascLink) : (s.setCascade k v).retained = s.retained := rfl

@[simp] theorem State.setStream_pending (id : Nat) (v : Stream) : (s.setStream id v).pending = s.pending := rfl
@[simp] theorem State.setStream_regs (id : Nat) (v : Stream) : (s.setStream id v).regs = s.regs := rfl
@[simp] theorem State.setStream_time (id : Nat) (v : Stream) : (s.setStream id v).time = s.time := rfl
@[simp] theorem State.setStream_out (id : Nat) (v : Stream) : (s.setStream id v).out = s.out := rfl
@[simp] theorem State.setStream_fresh (id : Nat) (v : Stream) : (s.setStream id v).fresh = s.fresh := rfl
@[simp] theorem State.setStream_ink (id : Nat) (v : Stream) : (s.setStream id v).ink = s.ink := rfl
@[simp] theorem State.setStream_nibs (id : Nat) (v : Stream) : (s.setStream id v).nibs = s.nibs := rfl
@[simp] theorem State.setStream_brush (id : Nat) (v : Stream) : (s.setStream id v).brush = s.brush := rfl
@[simp] theorem State.setStream_retained (id : Nat) (v : Stream) : (s.setStream id v).retained = s.retained := rfl

@[simp] theorem State.setJob_pending (j : Nat) (v : JobRun) : (s.setJob j v).pending = s.pending := rfl
@[simp] theorem State.setJob_regs (j : Nat) (v : JobRun) : (s.setJob j v).regs = s.regs := rfl
@[simp] theorem State.setJob_time (j : Nat) (v : JobRun) : (s.setJob j v).time = s.time := rfl
@[simp] theorem State.setJob_out (j : Nat) (v : JobRun) : (s.setJob j v).out = s.out := rfl
@[simp] theorem State.setJob_fresh (j : Nat) (v : JobRun) : (s.setJob j v).fresh = s.fresh := rfl
@[simp] theorem State.setJob_ink (j : Nat) (v : JobRun) : (s.setJob j v).ink = s.ink := rfl
@[simp] theorem State.setJob_nibs (j : Nat) (v : JobRun) : (s.setJob j v).nibs = s.nibs := rfl
@[simp] theorem State.setJob_brush (j : Nat) (v : JobRun) : (s.setJob j v).brush = s.brush := rfl
@[simp] theorem State.setJob_retained (j : Nat) (v : JobRun) : (s.setJob j v).retained = s.retained := rfl

@[simp] theorem State.setNib_pending (k : Nat) (n : NibSlot) : (s.setNib k n).pending = s.pending := rfl
@[simp] theorem State.setNib_regs (k : Nat) (n : NibSlot) : (s.setNib k n).regs = s.regs := rfl
@[simp] theorem State.setNib_staged (k : Nat) (n : NibSlot) : (s.setNib k n).staged = s.staged := rfl
@[simp] theorem State.setNib_latches (k : Nat) (n : NibSlot) : (s.setNib k n).latches = s.latches := rfl
@[simp] theorem State.setNib_scopes (k : Nat) (n : NibSlot) : (s.setNib k n).scopes = s.scopes := rfl
@[simp] theorem State.setNib_blocks (k : Nat) (n : NibSlot) : (s.setNib k n).blocks = s.blocks := rfl
@[simp] theorem State.setNib_rings (k : Nat) (n : NibSlot) : (s.setNib k n).rings = s.rings := rfl
@[simp] theorem State.setNib_time (k : Nat) (n : NibSlot) : (s.setNib k n).time = s.time := rfl
@[simp] theorem State.setNib_out (k : Nat) (n : NibSlot) : (s.setNib k n).out = s.out := rfl
@[simp] theorem State.setNib_fresh (k : Nat) (n : NibSlot) : (s.setNib k n).fresh = s.fresh := rfl
@[simp] theorem State.setNib_retained (k : Nat) (n : NibSlot) : (s.setNib k n).retained = s.retained := rfl
@[simp] theorem State.setNib_issuers (k : Nat) (n : NibSlot) : (s.setNib k n).issuers = s.issuers := rfl
@[simp] theorem State.setNib_streams (k : Nat) (n : NibSlot) : (s.setNib k n).streams = s.streams := rfl
@[simp] theorem State.setNib_ports (k : Nat) (n : NibSlot) : (s.setNib k n).ports = s.ports := rfl
@[simp] theorem State.setNib_tests (k : Nat) (n : NibSlot) : (s.setNib k n).tests = s.tests := rfl
@[simp] theorem State.setNib_casc (k : Nat) (n : NibSlot) : (s.setNib k n).casc = s.casc := rfl
@[simp] theorem State.setNib_links (k : Nat) (n : NibSlot) : (s.setNib k n).links = s.links := rfl
@[simp] theorem State.setNib_clk (k : Nat) (n : NibSlot) : (s.setNib k n).clk = s.clk := rfl
@[simp] theorem State.setNib_tim (k : Nat) (n : NibSlot) : (s.setNib k n).tim = s.tim := rfl
@[simp] theorem State.setNib_spikes (k : Nat) (n : NibSlot) : (s.setNib k n).spikes = s.spikes := rfl
@[simp] theorem State.setNib_zooms (k : Nat) (n : NibSlot) : (s.setNib k n).zooms = s.zooms := rfl
@[simp] theorem State.setNib_pairs (k : Nat) (n : NibSlot) : (s.setNib k n).pairs = s.pairs := rfl
@[simp] theorem State.setNib_windows (k : Nat) (n : NibSlot) : (s.setNib k n).windows = s.windows := rfl
@[simp] theorem State.setNib_sources (k : Nat) (n : NibSlot) : (s.setNib k n).sources = s.sources := rfl
@[simp] theorem State.setNib_masks (k : Nat) (n : NibSlot) : (s.setNib k n).masks = s.masks := rfl
@[simp] theorem State.setNib_mecs (k : Nat) (n : NibSlot) : (s.setNib k n).mecs = s.mecs := rfl
@[simp] theorem State.setNib_timers (k : Nat) (n : NibSlot) : (s.setNib k n).timers = s.timers := rfl
@[simp] theorem State.setNib_trg (k : Nat) (n : NibSlot) : (s.setNib k n).trg = s.trg := rfl
@[simp] theorem State.setNib_seqs (k : Nat) (n : NibSlot) : (s.setNib k n).seqs = s.seqs := rfl
@[simp] theorem State.setNib_tadpoles (k : Nat) (n : NibSlot) : (s.setNib k n).tadpoles = s.tadpoles := rfl
@[simp] theorem State.setNib_records (k : Nat) (n : NibSlot) : (s.setNib k n).records = s.records := rfl
@[simp] theorem State.setNib_flows (k : Nat) (n : NibSlot) : (s.setNib k n).flows = s.flows := rfl
@[simp] theorem State.setNib_jobs (k : Nat) (n : NibSlot) : (s.setNib k n).jobs = s.jobs := rfl
@[simp] theorem State.setNib_brush (k : Nat) (n : NibSlot) : (s.setNib k n).brush = s.brush := rfl
@[simp] theorem State.setNib_brushQueue (k : Nat) (n : NibSlot) : (s.setNib k n).brushQueue = s.brushQueue := rfl
@[simp] theorem State.setNib_kernels (k : Nat) (n : NibSlot) : (s.setNib k n).kernels = s.kernels := rfl
@[simp] theorem State.setNib_planes (k : Nat) (n : NibSlot) : (s.setNib k n).planes = s.planes := rfl
@[simp] theorem State.setNib_panels (k : Nat) (n : NibSlot) : (s.setNib k n).panels = s.panels := rfl
@[simp] theorem State.setNib_releases (k : Nat) (n : NibSlot) : (s.setNib k n).releases = s.releases := rfl
@[simp] theorem State.setNib_ink (k : Nat) (n : NibSlot) : (s.setNib k n).ink = s.ink := rfl
@[simp] theorem State.setNib_channels (k : Nat) (n : NibSlot) : (s.setNib k n).channels = s.channels := rfl
@[simp] theorem State.setNib_disks (k : Nat) (n : NibSlot) : (s.setNib k n).disks = s.disks := rfl
@[simp] theorem State.setNib_nvme (k : Nat) (n : NibSlot) : (s.setNib k n).nvme = s.nvme := rfl
@[simp] theorem State.setNib_stw (k : Nat) (n : NibSlot) : (s.setNib k n).stw = s.stw := rfl
@[simp] theorem State.setNib_mod (k : Nat) (n : NibSlot) : (s.setNib k n).mod = s.mod := rfl

@[simp] theorem State.setScope_pending (id : ScopeId) (v : ScopeState) : (s.setScope id v).pending = s.pending := rfl
@[simp] theorem State.setScope_regs (id : ScopeId) (v : ScopeState) : (s.setScope id v).regs = s.regs := rfl
@[simp] theorem State.setScope_time (id : ScopeId) (v : ScopeState) : (s.setScope id v).time = s.time := rfl
@[simp] theorem State.setScope_out (id : ScopeId) (v : ScopeState) : (s.setScope id v).out = s.out := rfl
@[simp] theorem State.setScope_fresh (id : ScopeId) (v : ScopeState) : (s.setScope id v).fresh = s.fresh := rfl
@[simp] theorem State.setScope_ink (id : ScopeId) (v : ScopeState) : (s.setScope id v).ink = s.ink := rfl
@[simp] theorem State.setScope_nibs (id : ScopeId) (v : ScopeState) : (s.setScope id v).nibs = s.nibs := rfl
@[simp] theorem State.setScope_brush (id : ScopeId) (v : ScopeState) : (s.setScope id v).brush = s.brush := rfl
@[simp] theorem State.setScope_retained (id : ScopeId) (v : ScopeState) : (s.setScope id v).retained = s.retained := rfl

@[simp] theorem State.setBlk_pending (b : Nat) (v : BlockHidden) : (s.setBlk b v).pending = s.pending := rfl
@[simp] theorem State.setBlk_regs (b : Nat) (v : BlockHidden) : (s.setBlk b v).regs = s.regs := rfl
@[simp] theorem State.setBlk_time (b : Nat) (v : BlockHidden) : (s.setBlk b v).time = s.time := rfl
@[simp] theorem State.setBlk_out (b : Nat) (v : BlockHidden) : (s.setBlk b v).out = s.out := rfl
@[simp] theorem State.setBlk_fresh (b : Nat) (v : BlockHidden) : (s.setBlk b v).fresh = s.fresh := rfl
@[simp] theorem State.setBlk_ink (b : Nat) (v : BlockHidden) : (s.setBlk b v).ink = s.ink := rfl
@[simp] theorem State.setBlk_nibs (b : Nat) (v : BlockHidden) : (s.setBlk b v).nibs = s.nibs := rfl
@[simp] theorem State.setBlk_brush (b : Nat) (v : BlockHidden) : (s.setBlk b v).brush = s.brush := rfl
@[simp] theorem State.setBlk_retained (b : Nat) (v : BlockHidden) : (s.setBlk b v).retained = s.retained := rfl

@[simp] theorem State.stageWrite_pending (a : Nat) (v : Word) : (s.stageWrite a v).pending = s.pending := rfl
@[simp] theorem State.stageWrite_regs (a : Nat) (v : Word) : (s.stageWrite a v).regs = s.regs := rfl
@[simp] theorem State.stageWrite_time (a : Nat) (v : Word) : (s.stageWrite a v).time = s.time := rfl
@[simp] theorem State.stageWrite_out (a : Nat) (v : Word) : (s.stageWrite a v).out = s.out := rfl
@[simp] theorem State.stageWrite_fresh (a : Nat) (v : Word) : (s.stageWrite a v).fresh = s.fresh := rfl
@[simp] theorem State.stageWrite_ink (a : Nat) (v : Word) : (s.stageWrite a v).ink = s.ink := rfl
@[simp] theorem State.stageWrite_nibs (a : Nat) (v : Word) : (s.stageWrite a v).nibs = s.nibs := rfl
@[simp] theorem State.stageWrite_brush (a : Nat) (v : Word) : (s.stageWrite a v).brush = s.brush := rfl
@[simp] theorem State.stageWrite_retained (a : Nat) (v : Word) : (s.stageWrite a v).retained = s.retained := rfl

@[simp] theorem State.setPlane_pending (k : Nat) (v : PlaneRun) : (s.setPlane k v).pending = s.pending := rfl
@[simp] theorem State.setPlane_regs (k : Nat) (v : PlaneRun) : (s.setPlane k v).regs = s.regs := rfl
@[simp] theorem State.setPlane_time (k : Nat) (v : PlaneRun) : (s.setPlane k v).time = s.time := rfl
@[simp] theorem State.setPlane_out (k : Nat) (v : PlaneRun) : (s.setPlane k v).out = s.out := rfl
@[simp] theorem State.setPlane_fresh (k : Nat) (v : PlaneRun) : (s.setPlane k v).fresh = s.fresh := rfl
@[simp] theorem State.setPlane_ink (k : Nat) (v : PlaneRun) : (s.setPlane k v).ink = s.ink := rfl
@[simp] theorem State.setPlane_nibs (k : Nat) (v : PlaneRun) : (s.setPlane k v).nibs = s.nibs := rfl
@[simp] theorem State.setPlane_brush (k : Nat) (v : PlaneRun) : (s.setPlane k v).brush = s.brush := rfl
@[simp] theorem State.setPlane_retained (k : Nat) (v : PlaneRun) : (s.setPlane k v).retained = s.retained := rfl

@[simp] theorem State.setSource_pending (n : Nat) (v : Source) : (s.setSource n v).pending = s.pending := rfl
@[simp] theorem State.setSource_regs (n : Nat) (v : Source) : (s.setSource n v).regs = s.regs := rfl
@[simp] theorem State.setSource_time (n : Nat) (v : Source) : (s.setSource n v).time = s.time := rfl
@[simp] theorem State.setSource_out (n : Nat) (v : Source) : (s.setSource n v).out = s.out := rfl
@[simp] theorem State.setSource_fresh (n : Nat) (v : Source) : (s.setSource n v).fresh = s.fresh := rfl
@[simp] theorem State.setSource_ink (n : Nat) (v : Source) : (s.setSource n v).ink = s.ink := rfl
@[simp] theorem State.setSource_nibs (n : Nat) (v : Source) : (s.setSource n v).nibs = s.nibs := rfl
@[simp] theorem State.setSource_brush (n : Nat) (v : Source) : (s.setSource n v).brush = s.brush := rfl
@[simp] theorem State.setSource_retained (n : Nat) (v : Source) : (s.setSource n v).retained = s.retained := rfl

@[simp] theorem State.setSpike_pending (p : Nat) (v : Spike) : (s.setSpike p v).pending = s.pending := rfl
@[simp] theorem State.setSpike_regs (p : Nat) (v : Spike) : (s.setSpike p v).regs = s.regs := rfl
@[simp] theorem State.setSpike_time (p : Nat) (v : Spike) : (s.setSpike p v).time = s.time := rfl
@[simp] theorem State.setSpike_out (p : Nat) (v : Spike) : (s.setSpike p v).out = s.out := rfl
@[simp] theorem State.setSpike_fresh (p : Nat) (v : Spike) : (s.setSpike p v).fresh = s.fresh := rfl
@[simp] theorem State.setSpike_ink (p : Nat) (v : Spike) : (s.setSpike p v).ink = s.ink := rfl
@[simp] theorem State.setSpike_nibs (p : Nat) (v : Spike) : (s.setSpike p v).nibs = s.nibs := rfl
@[simp] theorem State.setSpike_brush (p : Nat) (v : Spike) : (s.setSpike p v).brush = s.brush := rfl
@[simp] theorem State.setSpike_retained (p : Nat) (v : Spike) : (s.setSpike p v).retained = s.retained := rfl

@[simp] theorem State.setCore_pending (c : Nat) (v : BrushCore) : (s.setCore c v).pending = s.pending := rfl
@[simp] theorem State.setCore_regs (c : Nat) (v : BrushCore) : (s.setCore c v).regs = s.regs := rfl
@[simp] theorem State.setCore_staged (c : Nat) (v : BrushCore) : (s.setCore c v).staged = s.staged := rfl
@[simp] theorem State.setCore_latches (c : Nat) (v : BrushCore) : (s.setCore c v).latches = s.latches := rfl
@[simp] theorem State.setCore_scopes (c : Nat) (v : BrushCore) : (s.setCore c v).scopes = s.scopes := rfl
@[simp] theorem State.setCore_blocks (c : Nat) (v : BrushCore) : (s.setCore c v).blocks = s.blocks := rfl
@[simp] theorem State.setCore_rings (c : Nat) (v : BrushCore) : (s.setCore c v).rings = s.rings := rfl
@[simp] theorem State.setCore_time (c : Nat) (v : BrushCore) : (s.setCore c v).time = s.time := rfl
@[simp] theorem State.setCore_out (c : Nat) (v : BrushCore) : (s.setCore c v).out = s.out := rfl
@[simp] theorem State.setCore_fresh (c : Nat) (v : BrushCore) : (s.setCore c v).fresh = s.fresh := rfl
@[simp] theorem State.setCore_retained (c : Nat) (v : BrushCore) : (s.setCore c v).retained = s.retained := rfl
@[simp] theorem State.setCore_issuers (c : Nat) (v : BrushCore) : (s.setCore c v).issuers = s.issuers := rfl
@[simp] theorem State.setCore_nibs (c : Nat) (v : BrushCore) : (s.setCore c v).nibs = s.nibs := rfl
@[simp] theorem State.setCore_streams (c : Nat) (v : BrushCore) : (s.setCore c v).streams = s.streams := rfl
@[simp] theorem State.setCore_ports (c : Nat) (v : BrushCore) : (s.setCore c v).ports = s.ports := rfl
@[simp] theorem State.setCore_tests (c : Nat) (v : BrushCore) : (s.setCore c v).tests = s.tests := rfl
@[simp] theorem State.setCore_casc (c : Nat) (v : BrushCore) : (s.setCore c v).casc = s.casc := rfl
@[simp] theorem State.setCore_links (c : Nat) (v : BrushCore) : (s.setCore c v).links = s.links := rfl
@[simp] theorem State.setCore_clk (c : Nat) (v : BrushCore) : (s.setCore c v).clk = s.clk := rfl
@[simp] theorem State.setCore_tim (c : Nat) (v : BrushCore) : (s.setCore c v).tim = s.tim := rfl
@[simp] theorem State.setCore_spikes (c : Nat) (v : BrushCore) : (s.setCore c v).spikes = s.spikes := rfl
@[simp] theorem State.setCore_zooms (c : Nat) (v : BrushCore) : (s.setCore c v).zooms = s.zooms := rfl
@[simp] theorem State.setCore_pairs (c : Nat) (v : BrushCore) : (s.setCore c v).pairs = s.pairs := rfl
@[simp] theorem State.setCore_windows (c : Nat) (v : BrushCore) : (s.setCore c v).windows = s.windows := rfl
@[simp] theorem State.setCore_sources (c : Nat) (v : BrushCore) : (s.setCore c v).sources = s.sources := rfl
@[simp] theorem State.setCore_masks (c : Nat) (v : BrushCore) : (s.setCore c v).masks = s.masks := rfl
@[simp] theorem State.setCore_mecs (c : Nat) (v : BrushCore) : (s.setCore c v).mecs = s.mecs := rfl
@[simp] theorem State.setCore_timers (c : Nat) (v : BrushCore) : (s.setCore c v).timers = s.timers := rfl
@[simp] theorem State.setCore_trg (c : Nat) (v : BrushCore) : (s.setCore c v).trg = s.trg := rfl
@[simp] theorem State.setCore_seqs (c : Nat) (v : BrushCore) : (s.setCore c v).seqs = s.seqs := rfl
@[simp] theorem State.setCore_tadpoles (c : Nat) (v : BrushCore) : (s.setCore c v).tadpoles = s.tadpoles := rfl
@[simp] theorem State.setCore_records (c : Nat) (v : BrushCore) : (s.setCore c v).records = s.records := rfl
@[simp] theorem State.setCore_flows (c : Nat) (v : BrushCore) : (s.setCore c v).flows = s.flows := rfl
@[simp] theorem State.setCore_jobs (c : Nat) (v : BrushCore) : (s.setCore c v).jobs = s.jobs := rfl
@[simp] theorem State.setCore_brushQueue (c : Nat) (v : BrushCore) : (s.setCore c v).brushQueue = s.brushQueue := rfl
@[simp] theorem State.setCore_kernels (c : Nat) (v : BrushCore) : (s.setCore c v).kernels = s.kernels := rfl
@[simp] theorem State.setCore_planes (c : Nat) (v : BrushCore) : (s.setCore c v).planes = s.planes := rfl
@[simp] theorem State.setCore_panels (c : Nat) (v : BrushCore) : (s.setCore c v).panels = s.panels := rfl
@[simp] theorem State.setCore_releases (c : Nat) (v : BrushCore) : (s.setCore c v).releases = s.releases := rfl
@[simp] theorem State.setCore_ink (c : Nat) (v : BrushCore) : (s.setCore c v).ink = s.ink := rfl
@[simp] theorem State.setCore_channels (c : Nat) (v : BrushCore) : (s.setCore c v).channels = s.channels := rfl
@[simp] theorem State.setCore_disks (c : Nat) (v : BrushCore) : (s.setCore c v).disks = s.disks := rfl
@[simp] theorem State.setCore_nvme (c : Nat) (v : BrushCore) : (s.setCore c v).nvme = s.nvme := rfl
@[simp] theorem State.setCore_stw (c : Nat) (v : BrushCore) : (s.setCore c v).stw = s.stw := rfl
@[simp] theorem State.setCore_mod (c : Nat) (v : BrushCore) : (s.setCore c v).mod = s.mod := rfl

@[simp] theorem State.setMask_pending (m : Nat) (v : MaskRun) : (s.setMask m v).pending = s.pending := rfl
@[simp] theorem State.setMask_regs (m : Nat) (v : MaskRun) : (s.setMask m v).regs = s.regs := rfl
@[simp] theorem State.setMask_time (m : Nat) (v : MaskRun) : (s.setMask m v).time = s.time := rfl
@[simp] theorem State.setMask_out (m : Nat) (v : MaskRun) : (s.setMask m v).out = s.out := rfl
@[simp] theorem State.setMask_fresh (m : Nat) (v : MaskRun) : (s.setMask m v).fresh = s.fresh := rfl
@[simp] theorem State.setMask_ink (m : Nat) (v : MaskRun) : (s.setMask m v).ink = s.ink := rfl
@[simp] theorem State.setMask_nibs (m : Nat) (v : MaskRun) : (s.setMask m v).nibs = s.nibs := rfl
@[simp] theorem State.setMask_brush (m : Nat) (v : MaskRun) : (s.setMask m v).brush = s.brush := rfl
@[simp] theorem State.setMask_retained (m : Nat) (v : MaskRun) : (s.setMask m v).retained = s.retained := rfl

@[simp] theorem State.setMec_pending (c : Nat) (v : MecRun) : (s.setMec c v).pending = s.pending := rfl
@[simp] theorem State.setMec_regs (c : Nat) (v : MecRun) : (s.setMec c v).regs = s.regs := rfl
@[simp] theorem State.setMec_time (c : Nat) (v : MecRun) : (s.setMec c v).time = s.time := rfl
@[simp] theorem State.setMec_out (c : Nat) (v : MecRun) : (s.setMec c v).out = s.out := rfl
@[simp] theorem State.setMec_fresh (c : Nat) (v : MecRun) : (s.setMec c v).fresh = s.fresh := rfl
@[simp] theorem State.setMec_ink (c : Nat) (v : MecRun) : (s.setMec c v).ink = s.ink := rfl
@[simp] theorem State.setMec_nibs (c : Nat) (v : MecRun) : (s.setMec c v).nibs = s.nibs := rfl
@[simp] theorem State.setMec_brush (c : Nat) (v : MecRun) : (s.setMec c v).brush = s.brush := rfl
@[simp] theorem State.setMec_retained (c : Nat) (v : MecRun) : (s.setMec c v).retained = s.retained := rfl

@[simp] theorem State.setTimer_pending (t : Nat) (v : TimerRun) : (s.setTimer t v).pending = s.pending := rfl
@[simp] theorem State.setTimer_regs (t : Nat) (v : TimerRun) : (s.setTimer t v).regs = s.regs := rfl
@[simp] theorem State.setTimer_time (t : Nat) (v : TimerRun) : (s.setTimer t v).time = s.time := rfl
@[simp] theorem State.setTimer_out (t : Nat) (v : TimerRun) : (s.setTimer t v).out = s.out := rfl
@[simp] theorem State.setTimer_fresh (t : Nat) (v : TimerRun) : (s.setTimer t v).fresh = s.fresh := rfl
@[simp] theorem State.setTimer_ink (t : Nat) (v : TimerRun) : (s.setTimer t v).ink = s.ink := rfl
@[simp] theorem State.setTimer_nibs (t : Nat) (v : TimerRun) : (s.setTimer t v).nibs = s.nibs := rfl
@[simp] theorem State.setTimer_brush (t : Nat) (v : TimerRun) : (s.setTimer t v).brush = s.brush := rfl
@[simp] theorem State.setTimer_retained (t : Nat) (v : TimerRun) : (s.setTimer t v).retained = s.retained := rfl

@[simp] theorem State.setPair_pending (i : Nat) (v : PairRun) : (s.setPair i v).pending = s.pending := rfl
@[simp] theorem State.setPair_regs (i : Nat) (v : PairRun) : (s.setPair i v).regs = s.regs := rfl
@[simp] theorem State.setPair_time (i : Nat) (v : PairRun) : (s.setPair i v).time = s.time := rfl
@[simp] theorem State.setPair_out (i : Nat) (v : PairRun) : (s.setPair i v).out = s.out := rfl
@[simp] theorem State.setPair_fresh (i : Nat) (v : PairRun) : (s.setPair i v).fresh = s.fresh := rfl
@[simp] theorem State.setPair_ink (i : Nat) (v : PairRun) : (s.setPair i v).ink = s.ink := rfl
@[simp] theorem State.setPair_nibs (i : Nat) (v : PairRun) : (s.setPair i v).nibs = s.nibs := rfl
@[simp] theorem State.setPair_brush (i : Nat) (v : PairRun) : (s.setPair i v).brush = s.brush := rfl
@[simp] theorem State.setPair_retained (i : Nat) (v : PairRun) : (s.setPair i v).retained = s.retained := rfl

@[simp] theorem State.setZoom_pending (z : Nat) (v : Zoom) : (s.setZoom z v).pending = s.pending := rfl
@[simp] theorem State.setZoom_regs (z : Nat) (v : Zoom) : (s.setZoom z v).regs = s.regs := rfl
@[simp] theorem State.setZoom_time (z : Nat) (v : Zoom) : (s.setZoom z v).time = s.time := rfl
@[simp] theorem State.setZoom_out (z : Nat) (v : Zoom) : (s.setZoom z v).out = s.out := rfl
@[simp] theorem State.setZoom_fresh (z : Nat) (v : Zoom) : (s.setZoom z v).fresh = s.fresh := rfl
@[simp] theorem State.setZoom_ink (z : Nat) (v : Zoom) : (s.setZoom z v).ink = s.ink := rfl
@[simp] theorem State.setZoom_nibs (z : Nat) (v : Zoom) : (s.setZoom z v).nibs = s.nibs := rfl
@[simp] theorem State.setZoom_brush (z : Nat) (v : Zoom) : (s.setZoom z v).brush = s.brush := rfl
@[simp] theorem State.setZoom_retained (z : Nat) (v : Zoom) : (s.setZoom z v).retained = s.retained := rfl

end Sys2Proof.Machine
end

