-- ==== Sys2Proof/Laws/Registers.lean ====
section
/-! SUPPORT. A read after a write: registers, and the tables of the State. -/

namespace Sys2Proof.Machine

variable {s : State}

/-! ### Registers -/

theorem State.reg_setReg_other {a b : Nat} (h : b ≠ a) (v : Word) : (s.setReg a v).reg b = s.reg b :=
  sparseGet_put_other h

theorem State.reg_setReg_same (g : Registers.wf s.regs = true) (a : Nat) (v : Word) : (s.setReg a v).reg a = v :=
  sparseGet_put_same (by simp only [Registers.wf, sparseWf, Bool.and_eq_true] at g; exact g.1)

theorem State.reg_setFld_other {a b : Nat} (h : b ≠ a) (f : Bits) (v : Nat) : (s.setFld a f v).reg b = s.reg b :=
  State.reg_setReg_other h _

theorem State.reg_count_other {a b : Nat} (h : b ≠ a) (n : Nat) : (s.count a n).reg b = s.reg b :=
  State.reg_setReg_other h _

theorem State.reg_setSta_other {a b : Nat} (h : b ≠ a) (f : Bits) : (s.setSta a f).reg b = s.reg b :=
  State.reg_setReg_other h _

@[simp] theorem State.reg_emit (s : State) (x : Output) (a : Nat) : (s.emit x).reg a = s.reg a := rfl
@[simp] theorem State.reg_draw (s : State) (a : Nat) : s.draw.2.reg a = s.reg a := rfl
@[simp] theorem State.fld_emit (s : State) (x : Output) (a : Nat) (f : Bits) : (s.emit x).fld a f = s.fld a f := rfl
@[simp] theorem State.fld_draw (s : State) (a : Nat) (f : Bits) : s.draw.2.fld a f = s.fld a f := rfl
@[simp] theorem State.reg_setPanel (s : State) (o : Nat) (v : PanelRun) (a : Nat) : (s.setPanel o v).reg a = s.reg a := rfl
@[simp] theorem State.fld_setPanel (s : State) (o : Nat) (v : PanelRun) (a : Nat) (f : Bits) : (s.setPanel o v).fld a f = s.fld a f := rfl
@[simp] theorem State.reg_setFlow (s : State) (f : FlowId) (v : Flow) (a : Nat) : (s.setFlow f v).reg a = s.reg a := rfl
@[simp] theorem State.fld_setFlow (s : State) (x : FlowId) (v : Flow) (a : Nat) (f : Bits) : (s.setFlow x v).fld a f = s.fld a f := rfl
@[simp] theorem State.reg_setChannel (s : State) (ch : Nat) (v : Channel) (a : Nat) : (s.setChannel ch v).reg a = s.reg a := rfl
@[simp] theorem State.fld_setChannel (s : State) (ch : Nat) (v : Channel) (a : Nat) (f : Bits) : (s.setChannel ch v).fld a f = s.fld a f := rfl
@[simp] theorem State.reg_setDisk (s : State) (n : Nat) (v : DiskRun) (a : Nat) : (s.setDisk n v).reg a = s.reg a := rfl
@[simp] theorem State.fld_setDisk (s : State) (n : Nat) (v : DiskRun) (a : Nat) (f : Bits) : (s.setDisk n v).fld a f = s.fld a f := rfl
@[simp] theorem State.reg_setDrive (s : State) (d : Nat) (v : Drive) (a : Nat) : (s.setDrive d v).reg a = s.reg a := rfl
@[simp] theorem State.fld_setDrive (s : State) (d : Nat) (v : Drive) (a : Nat) (f : Bits) : (s.setDrive d v).fld a f = s.fld a f := rfl
@[simp] theorem State.reg_setPort (s : State) (p : Nat) (v : PortHidden) (a : Nat) : (s.setPort p v).reg a = s.reg a := rfl
@[simp] theorem State.fld_setPort (s : State) (p : Nat) (v : PortHidden) (a : Nat) (f : Bits) : (s.setPort p v).fld a f = s.fld a f := rfl
@[simp] theorem State.reg_setLink (s : State) (p : Nat) (v : Link) (a : Nat) : (s.setLink p v).reg a = s.reg a := rfl
@[simp] theorem State.fld_setLink (s : State) (p : Nat) (v : Link) (a : Nat) (f : Bits) : (s.setLink p v).fld a f = s.fld a f := rfl
@[simp] theorem State.reg_setCascade (s : State) (k : Nat) (v : CascLink) (a : Nat) : (s.setCascade k v).reg a = s.reg a := rfl
@[simp] theorem State.fld_setCascade (s : State) (k : Nat) (v : CascLink) (a : Nat) (f : Bits) : (s.setCascade k v).fld a f = s.fld a f := rfl
@[simp] theorem State.reg_setStream (s : State) (id : Nat) (v : Stream) (a : Nat) : (s.setStream id v).reg a = s.reg a := rfl
@[simp] theorem State.fld_setStream (s : State) (id : Nat) (v : Stream) (a : Nat) (f : Bits) : (s.setStream id v).fld a f = s.fld a f := rfl
@[simp] theorem State.reg_setJob (s : State) (j : Nat) (v : JobRun) (a : Nat) : (s.setJob j v).reg a = s.reg a := rfl
@[simp] theorem State.fld_setJob (s : State) (j : Nat) (v : JobRun) (a : Nat) (f : Bits) : (s.setJob j v).fld a f = s.fld a f := rfl
@[simp] theorem State.reg_setNib (s : State) (k : Nat) (n : NibSlot) (a : Nat) : (s.setNib k n).reg a = s.reg a := rfl
@[simp] theorem State.fld_setNib (s : State) (k : Nat) (n : NibSlot) (a : Nat) (f : Bits) : (s.setNib k n).fld a f = s.fld a f := rfl
@[simp] theorem State.reg_setScope (s : State) (id : ScopeId) (v : ScopeState) (a : Nat) : (s.setScope id v).reg a = s.reg a := rfl
@[simp] theorem State.fld_setScope (s : State) (id : ScopeId) (v : ScopeState) (a : Nat) (f : Bits) : (s.setScope id v).fld a f = s.fld a f := rfl
@[simp] theorem State.reg_setBlk (s : State) (b : Nat) (v : BlockHidden) (a : Nat) : (s.setBlk b v).reg a = s.reg a := rfl
@[simp] theorem State.fld_setBlk (s : State) (b : Nat) (v : BlockHidden) (a : Nat) (f : Bits) : (s.setBlk b v).fld a f = s.fld a f := rfl
@[simp] theorem State.reg_setPlane (s : State) (k : Nat) (v : PlaneRun) (a : Nat) : (s.setPlane k v).reg a = s.reg a := rfl
@[simp] theorem State.fld_setPlane (s : State) (k : Nat) (v : PlaneRun) (a : Nat) (f : Bits) : (s.setPlane k v).fld a f = s.fld a f := rfl
@[simp] theorem State.reg_setSource (s : State) (n : Nat) (v : Source) (a : Nat) : (s.setSource n v).reg a = s.reg a := rfl
@[simp] theorem State.fld_setSource (s : State) (n : Nat) (v : Source) (a : Nat) (f : Bits) : (s.setSource n v).fld a f = s.fld a f := rfl
@[simp] theorem State.reg_setSpike (s : State) (p : Nat) (v : Spike) (a : Nat) : (s.setSpike p v).reg a = s.reg a := rfl
@[simp] theorem State.fld_setSpike (s : State) (p : Nat) (v : Spike) (a : Nat) (f : Bits) : (s.setSpike p v).fld a f = s.fld a f := rfl
@[simp] theorem State.reg_setCore (s : State) (c : Nat) (v : BrushCore) (a : Nat) : (s.setCore c v).reg a = s.reg a := rfl
@[simp] theorem State.fld_setCore (s : State) (c : Nat) (v : BrushCore) (a : Nat) (f : Bits) : (s.setCore c v).fld a f = s.fld a f := rfl
@[simp] theorem State.reg_setMask (s : State) (m : Nat) (v : MaskRun) (a : Nat) : (s.setMask m v).reg a = s.reg a := rfl
@[simp] theorem State.fld_setMask (s : State) (m : Nat) (v : MaskRun) (a : Nat) (f : Bits) : (s.setMask m v).fld a f = s.fld a f := rfl
@[simp] theorem State.reg_setMec (s : State) (c : Nat) (v : MecRun) (a : Nat) : (s.setMec c v).reg a = s.reg a := rfl
@[simp] theorem State.fld_setMec (s : State) (c : Nat) (v : MecRun) (a : Nat) (f : Bits) : (s.setMec c v).fld a f = s.fld a f := rfl
@[simp] theorem State.reg_setTimer (s : State) (t : Nat) (v : TimerRun) (a : Nat) : (s.setTimer t v).reg a = s.reg a := rfl
@[simp] theorem State.fld_setTimer (s : State) (t : Nat) (v : TimerRun) (a : Nat) (f : Bits) : (s.setTimer t v).fld a f = s.fld a f := rfl
@[simp] theorem State.reg_setPair (s : State) (i : Nat) (v : PairRun) (a : Nat) : (s.setPair i v).reg a = s.reg a := rfl
@[simp] theorem State.fld_setPair (s : State) (i : Nat) (v : PairRun) (a : Nat) (f : Bits) : (s.setPair i v).fld a f = s.fld a f := rfl
@[simp] theorem State.reg_setZoom (s : State) (z : Nat) (v : Zoom) (a : Nat) : (s.setZoom z v).reg a = s.reg a := rfl
@[simp] theorem State.fld_setZoom (s : State) (z : Nat) (v : Zoom) (a : Nat) (f : Bits) : (s.setZoom z v).fld a f = s.fld a f := rfl

/-! ### Tables -/

@[simp] theorem State.panel_setReg (s : State) (a : Nat) (w : Word) (i : Nat) : (s.setReg a w).panel i = s.panel i := rfl
@[simp] theorem State.panel_setFld (s : State) (a : Nat) (f : Bits) (w : Nat) (i : Nat) : (s.setFld a f w).panel i = s.panel i := rfl
@[simp] theorem State.panel_count (s : State) (a n : Nat) (i : Nat) : (s.count a n).panel i = s.panel i := rfl
@[simp] theorem State.panel_count64 (s : State) (lo hi n : Nat) (i : Nat) : (s.count64 lo hi n).panel i = s.panel i := rfl
@[simp] theorem State.panel_setSta (s : State) (a : Nat) (f : Bits) (i : Nat) : (s.setSta a f).panel i = s.panel i := rfl
@[simp] theorem State.panel_setBlkSta (s : State) (b n : Nat) (i : Nat) : (s.setBlkSta b n).panel i = s.panel i := rfl
@[simp] theorem State.panel_emit (s : State) (x : Output) (i : Nat) : (s.emit x).panel i = s.panel i := rfl
@[simp] theorem State.panel_raise (s : State) (e : EventDef) (arg : Nat) (i : Nat) : (s.raise e arg).panel i = s.panel i := by
  rw [State.panel, State.panel, State.raise_panels]
@[simp] theorem State.panel_setStaEv (s : State) (a : Nat) (f : Bits) (e : EventDef) (arg : Nat) (i : Nat) : (s.setStaEv a f e arg).panel i = s.panel i := by
  rw [State.panel, State.panel, State.setStaEv_panels]
@[simp] theorem State.panel_blkEvent (s : State) (b n : Nat) (e : EventDef) (arg : Nat) (i : Nat) : (s.blkEvent b n e arg).panel i = s.panel i := by
  rw [State.panel, State.panel, State.blkEvent_panels]
theorem State.panel_setPanel_other (s : State) {i j : Nat} (h : j ≠ i) (v : PanelRun) : (s.setPanel i v).panel j = s.panel j :=
  sparseGet_put_other h
theorem State.panel_setPanel_same (g : keysRise s.panels = true) (i : Nat) (v : PanelRun) : (s.setPanel i v).panel i = v :=
  sparseGet_put_same g

@[simp] theorem State.flow_setReg (s : State) (a : Nat) (w : Word) (i : FlowId) : (s.setReg a w).flow i = s.flow i := rfl
@[simp] theorem State.flow_setFld (s : State) (a : Nat) (f : Bits) (w : Nat) (i : FlowId) : (s.setFld a f w).flow i = s.flow i := rfl
@[simp] theorem State.flow_count (s : State) (a n : Nat) (i : FlowId) : (s.count a n).flow i = s.flow i := rfl
@[simp] theorem State.flow_count64 (s : State) (lo hi n : Nat) (i : FlowId) : (s.count64 lo hi n).flow i = s.flow i := rfl
@[simp] theorem State.flow_setSta (s : State) (a : Nat) (f : Bits) (i : FlowId) : (s.setSta a f).flow i = s.flow i := rfl
@[simp] theorem State.flow_setBlkSta (s : State) (b n : Nat) (i : FlowId) : (s.setBlkSta b n).flow i = s.flow i := rfl
@[simp] theorem State.flow_emit (s : State) (x : Output) (i : FlowId) : (s.emit x).flow i = s.flow i := rfl
@[simp] theorem State.flow_raise (s : State) (e : EventDef) (arg : Nat) (i : FlowId) : (s.raise e arg).flow i = s.flow i := by
  rw [State.flow, State.flow, State.raise_flows]
@[simp] theorem State.flow_setStaEv (s : State) (a : Nat) (f : Bits) (e : EventDef) (arg : Nat) (i : FlowId) : (s.setStaEv a f e arg).flow i = s.flow i := by
  rw [State.flow, State.flow, State.setStaEv_flows]
@[simp] theorem State.flow_blkEvent (s : State) (b n : Nat) (e : EventDef) (arg : Nat) (i : FlowId) : (s.blkEvent b n e arg).flow i = s.flow i := by
  rw [State.flow, State.flow, State.blkEvent_flows]

@[simp] theorem State.channel_setReg (s : State) (a : Nat) (w : Word) (i : Nat) : (s.setReg a w).channel i = s.channel i := rfl
@[simp] theorem State.channel_setFld (s : State) (a : Nat) (f : Bits) (w : Nat) (i : Nat) : (s.setFld a f w).channel i = s.channel i := rfl
@[simp] theorem State.channel_count (s : State) (a n : Nat) (i : Nat) : (s.count a n).channel i = s.channel i := rfl
@[simp] theorem State.channel_count64 (s : State) (lo hi n : Nat) (i : Nat) : (s.count64 lo hi n).channel i = s.channel i := rfl
@[simp] theorem State.channel_setSta (s : State) (a : Nat) (f : Bits) (i : Nat) : (s.setSta a f).channel i = s.channel i := rfl
@[simp] theorem State.channel_setBlkSta (s : State) (b n : Nat) (i : Nat) : (s.setBlkSta b n).channel i = s.channel i := rfl
@[simp] theorem State.channel_emit (s : State) (x : Output) (i : Nat) : (s.emit x).channel i = s.channel i := rfl
@[simp] theorem State.channel_raise (s : State) (e : EventDef) (arg : Nat) (i : Nat) : (s.raise e arg).channel i = s.channel i := by
  rw [State.channel, State.channel, State.raise_channels]
@[simp] theorem State.channel_setStaEv (s : State) (a : Nat) (f : Bits) (e : EventDef) (arg : Nat) (i : Nat) : (s.setStaEv a f e arg).channel i = s.channel i := by
  rw [State.channel, State.channel, State.setStaEv_channels]
@[simp] theorem State.channel_blkEvent (s : State) (b n : Nat) (e : EventDef) (arg : Nat) (i : Nat) : (s.blkEvent b n e arg).channel i = s.channel i := by
  rw [State.channel, State.channel, State.blkEvent_channels]
theorem State.channel_setChannel_other (s : State) {i j : Nat} (h : j ≠ i) (v : Channel) : (s.setChannel i v).channel j = s.channel j :=
  sparseGet_put_other h
theorem State.channel_setChannel_same (g : keysRise s.channels = true) (i : Nat) (v : Channel) : (s.setChannel i v).channel i = v :=
  sparseGet_put_same g

@[simp] theorem State.disk_setReg (s : State) (a : Nat) (w : Word) (i : Nat) : (s.setReg a w).disk i = s.disk i := rfl
@[simp] theorem State.disk_setFld (s : State) (a : Nat) (f : Bits) (w : Nat) (i : Nat) : (s.setFld a f w).disk i = s.disk i := rfl
@[simp] theorem State.disk_count (s : State) (a n : Nat) (i : Nat) : (s.count a n).disk i = s.disk i := rfl
@[simp] theorem State.disk_count64 (s : State) (lo hi n : Nat) (i : Nat) : (s.count64 lo hi n).disk i = s.disk i := rfl
@[simp] theorem State.disk_setSta (s : State) (a : Nat) (f : Bits) (i : Nat) : (s.setSta a f).disk i = s.disk i := rfl
@[simp] theorem State.disk_setBlkSta (s : State) (b n : Nat) (i : Nat) : (s.setBlkSta b n).disk i = s.disk i := rfl
@[simp] theorem State.disk_emit (s : State) (x : Output) (i : Nat) : (s.emit x).disk i = s.disk i := rfl
@[simp] theorem State.disk_raise (s : State) (e : EventDef) (arg : Nat) (i : Nat) : (s.raise e arg).disk i = s.disk i := by
  rw [State.disk, State.disk, State.raise_disks]
@[simp] theorem State.disk_setStaEv (s : State) (a : Nat) (f : Bits) (e : EventDef) (arg : Nat) (i : Nat) : (s.setStaEv a f e arg).disk i = s.disk i := by
  rw [State.disk, State.disk, State.setStaEv_disks]
@[simp] theorem State.disk_blkEvent (s : State) (b n : Nat) (e : EventDef) (arg : Nat) (i : Nat) : (s.blkEvent b n e arg).disk i = s.disk i := by
  rw [State.disk, State.disk, State.blkEvent_disks]
theorem State.disk_setDisk_other (s : State) {i j : Nat} (h : j ≠ i) (v : DiskRun) : (s.setDisk i v).disk j = s.disk j :=
  sparseGet_put_other h
theorem State.disk_setDisk_same (g : keysRise s.disks = true) (i : Nat) (v : DiskRun) : (s.setDisk i v).disk i = v :=
  sparseGet_put_same g

@[simp] theorem State.drive_setReg (s : State) (a : Nat) (w : Word) (i : Nat) : (s.setReg a w).drive i = s.drive i := rfl
@[simp] theorem State.drive_setFld (s : State) (a : Nat) (f : Bits) (w : Nat) (i : Nat) : (s.setFld a f w).drive i = s.drive i := rfl
@[simp] theorem State.drive_count (s : State) (a n : Nat) (i : Nat) : (s.count a n).drive i = s.drive i := rfl
@[simp] theorem State.drive_count64 (s : State) (lo hi n : Nat) (i : Nat) : (s.count64 lo hi n).drive i = s.drive i := rfl
@[simp] theorem State.drive_setSta (s : State) (a : Nat) (f : Bits) (i : Nat) : (s.setSta a f).drive i = s.drive i := rfl
@[simp] theorem State.drive_setBlkSta (s : State) (b n : Nat) (i : Nat) : (s.setBlkSta b n).drive i = s.drive i := rfl
@[simp] theorem State.drive_emit (s : State) (x : Output) (i : Nat) : (s.emit x).drive i = s.drive i := rfl
@[simp] theorem State.drive_raise (s : State) (e : EventDef) (arg : Nat) (i : Nat) : (s.raise e arg).drive i = s.drive i := by
  rw [State.drive, State.drive, State.raise_nvme]
@[simp] theorem State.drive_setStaEv (s : State) (a : Nat) (f : Bits) (e : EventDef) (arg : Nat) (i : Nat) : (s.setStaEv a f e arg).drive i = s.drive i := by
  rw [State.drive, State.drive, State.setStaEv_nvme]
@[simp] theorem State.drive_blkEvent (s : State) (b n : Nat) (e : EventDef) (arg : Nat) (i : Nat) : (s.blkEvent b n e arg).drive i = s.drive i := by
  rw [State.drive, State.drive, State.blkEvent_nvme]
theorem State.drive_setDrive_other (s : State) {i j : Nat} (h : j ≠ i) (v : Drive) : (s.setDrive i v).drive j = s.drive j :=
  sparseGet_put_other h
theorem State.drive_setDrive_same (g : keysRise s.nvme = true) (i : Nat) (v : Drive) : (s.setDrive i v).drive i = v :=
  sparseGet_put_same g

@[simp] theorem State.port_setReg (s : State) (a : Nat) (w : Word) (i : Nat) : (s.setReg a w).port i = s.port i := rfl
@[simp] theorem State.port_setFld (s : State) (a : Nat) (f : Bits) (w : Nat) (i : Nat) : (s.setFld a f w).port i = s.port i := rfl
@[simp] theorem State.port_count (s : State) (a n : Nat) (i : Nat) : (s.count a n).port i = s.port i := rfl
@[simp] theorem State.port_count64 (s : State) (lo hi n : Nat) (i : Nat) : (s.count64 lo hi n).port i = s.port i := rfl
@[simp] theorem State.port_setSta (s : State) (a : Nat) (f : Bits) (i : Nat) : (s.setSta a f).port i = s.port i := rfl
@[simp] theorem State.port_setBlkSta (s : State) (b n : Nat) (i : Nat) : (s.setBlkSta b n).port i = s.port i := rfl
@[simp] theorem State.port_emit (s : State) (x : Output) (i : Nat) : (s.emit x).port i = s.port i := rfl
@[simp] theorem State.port_raise (s : State) (e : EventDef) (arg : Nat) (i : Nat) : (s.raise e arg).port i = s.port i := by
  rw [State.port, State.port, State.raise_ports]
@[simp] theorem State.port_setStaEv (s : State) (a : Nat) (f : Bits) (e : EventDef) (arg : Nat) (i : Nat) : (s.setStaEv a f e arg).port i = s.port i := by
  rw [State.port, State.port, State.setStaEv_ports]
@[simp] theorem State.port_blkEvent (s : State) (b n : Nat) (e : EventDef) (arg : Nat) (i : Nat) : (s.blkEvent b n e arg).port i = s.port i := by
  rw [State.port, State.port, State.blkEvent_ports]
theorem State.port_setPort_other (s : State) {i j : Nat} (h : j ≠ i) (v : PortHidden) : (s.setPort i v).port j = s.port j :=
  sparseGet_put_other h
theorem State.port_setPort_same (g : keysRise s.ports = true) (i : Nat) (v : PortHidden) : (s.setPort i v).port i = v :=
  sparseGet_put_same g

@[simp] theorem State.link_setReg (s : State) (a : Nat) (w : Word) (i : Nat) : (s.setReg a w).link i = s.link i := rfl
@[simp] theorem State.link_setFld (s : State) (a : Nat) (f : Bits) (w : Nat) (i : Nat) : (s.setFld a f w).link i = s.link i := rfl
@[simp] theorem State.link_count (s : State) (a n : Nat) (i : Nat) : (s.count a n).link i = s.link i := rfl
@[simp] theorem State.link_count64 (s : State) (lo hi n : Nat) (i : Nat) : (s.count64 lo hi n).link i = s.link i := rfl
@[simp] theorem State.link_setSta (s : State) (a : Nat) (f : Bits) (i : Nat) : (s.setSta a f).link i = s.link i := rfl
@[simp] theorem State.link_setBlkSta (s : State) (b n : Nat) (i : Nat) : (s.setBlkSta b n).link i = s.link i := rfl
@[simp] theorem State.link_emit (s : State) (x : Output) (i : Nat) : (s.emit x).link i = s.link i := rfl
@[simp] theorem State.link_raise (s : State) (e : EventDef) (arg : Nat) (i : Nat) : (s.raise e arg).link i = s.link i := by
  rw [State.link, State.link, State.raise_links]
@[simp] theorem State.link_setStaEv (s : State) (a : Nat) (f : Bits) (e : EventDef) (arg : Nat) (i : Nat) : (s.setStaEv a f e arg).link i = s.link i := by
  rw [State.link, State.link, State.setStaEv_links]
@[simp] theorem State.link_blkEvent (s : State) (b n : Nat) (e : EventDef) (arg : Nat) (i : Nat) : (s.blkEvent b n e arg).link i = s.link i := by
  rw [State.link, State.link, State.blkEvent_links]
theorem State.link_setLink_other (s : State) {i j : Nat} (h : j ≠ i) (v : Link) : (s.setLink i v).link j = s.link j :=
  sparseGet_put_other h
theorem State.link_setLink_same (g : keysRise s.links = true) (i : Nat) (v : Link) : (s.setLink i v).link i = v :=
  sparseGet_put_same g

@[simp] theorem State.cascade_setReg (s : State) (a : Nat) (w : Word) (i : Nat) : (s.setReg a w).cascade i = s.cascade i := rfl
@[simp] theorem State.cascade_setFld (s : State) (a : Nat) (f : Bits) (w : Nat) (i : Nat) : (s.setFld a f w).cascade i = s.cascade i := rfl
@[simp] theorem State.cascade_count (s : State) (a n : Nat) (i : Nat) : (s.count a n).cascade i = s.cascade i := rfl
@[simp] theorem State.cascade_count64 (s : State) (lo hi n : Nat) (i : Nat) : (s.count64 lo hi n).cascade i = s.cascade i := rfl
@[simp] theorem State.cascade_setSta (s : State) (a : Nat) (f : Bits) (i : Nat) : (s.setSta a f).cascade i = s.cascade i := rfl
@[simp] theorem State.cascade_setBlkSta (s : State) (b n : Nat) (i : Nat) : (s.setBlkSta b n).cascade i = s.cascade i := rfl
@[simp] theorem State.cascade_emit (s : State) (x : Output) (i : Nat) : (s.emit x).cascade i = s.cascade i := rfl
@[simp] theorem State.cascade_raise (s : State) (e : EventDef) (arg : Nat) (i : Nat) : (s.raise e arg).cascade i = s.cascade i := by
  rw [State.cascade, State.cascade, State.raise_casc]
@[simp] theorem State.cascade_setStaEv (s : State) (a : Nat) (f : Bits) (e : EventDef) (arg : Nat) (i : Nat) : (s.setStaEv a f e arg).cascade i = s.cascade i := by
  rw [State.cascade, State.cascade, State.setStaEv_casc]
@[simp] theorem State.cascade_blkEvent (s : State) (b n : Nat) (e : EventDef) (arg : Nat) (i : Nat) : (s.blkEvent b n e arg).cascade i = s.cascade i := by
  rw [State.cascade, State.cascade, State.blkEvent_casc]
theorem State.cascade_setCascade_other (s : State) {i j : Nat} (h : j ≠ i) (v : CascLink) : (s.setCascade i v).cascade j = s.cascade j :=
  sparseGet_put_other h
theorem State.cascade_setCascade_same (g : keysRise s.casc = true) (i : Nat) (v : CascLink) : (s.setCascade i v).cascade i = v :=
  sparseGet_put_same g

@[simp] theorem State.stream_setReg (s : State) (a : Nat) (w : Word) (i : Nat) : (s.setReg a w).stream i = s.stream i := rfl
@[simp] theorem State.stream_setFld (s : State) (a : Nat) (f : Bits) (w : Nat) (i : Nat) : (s.setFld a f w).stream i = s.stream i := rfl
@[simp] theorem State.stream_count (s : State) (a n : Nat) (i : Nat) : (s.count a n).stream i = s.stream i := rfl
@[simp] theorem State.stream_count64 (s : State) (lo hi n : Nat) (i : Nat) : (s.count64 lo hi n).stream i = s.stream i := rfl
@[simp] theorem State.stream_setSta (s : State) (a : Nat) (f : Bits) (i : Nat) : (s.setSta a f).stream i = s.stream i := rfl
@[simp] theorem State.stream_setBlkSta (s : State) (b n : Nat) (i : Nat) : (s.setBlkSta b n).stream i = s.stream i := rfl
@[simp] theorem State.stream_emit (s : State) (x : Output) (i : Nat) : (s.emit x).stream i = s.stream i := rfl
@[simp] theorem State.stream_raise (s : State) (e : EventDef) (arg : Nat) (i : Nat) : (s.raise e arg).stream i = s.stream i := by
  rw [State.stream, State.stream, State.raise_streams]
@[simp] theorem State.stream_setStaEv (s : State) (a : Nat) (f : Bits) (e : EventDef) (arg : Nat) (i : Nat) : (s.setStaEv a f e arg).stream i = s.stream i := by
  rw [State.stream, State.stream, State.setStaEv_streams]
@[simp] theorem State.stream_blkEvent (s : State) (b n : Nat) (e : EventDef) (arg : Nat) (i : Nat) : (s.blkEvent b n e arg).stream i = s.stream i := by
  rw [State.stream, State.stream, State.blkEvent_streams]
theorem State.stream_setStream_other (s : State) {i j : Nat} (h : j ≠ i) (v : Stream) : (s.setStream i v).stream j = s.stream j :=
  sparseGet_put_other h
theorem State.stream_setStream_same (g : keysRise s.streams = true) (i : Nat) (v : Stream) : (s.setStream i v).stream i = v :=
  sparseGet_put_same g

@[simp] theorem State.job_setReg (s : State) (a : Nat) (w : Word) (i : Nat) : (s.setReg a w).job i = s.job i := rfl
@[simp] theorem State.job_setFld (s : State) (a : Nat) (f : Bits) (w : Nat) (i : Nat) : (s.setFld a f w).job i = s.job i := rfl
@[simp] theorem State.job_count (s : State) (a n : Nat) (i : Nat) : (s.count a n).job i = s.job i := rfl
@[simp] theorem State.job_count64 (s : State) (lo hi n : Nat) (i : Nat) : (s.count64 lo hi n).job i = s.job i := rfl
@[simp] theorem State.job_setSta (s : State) (a : Nat) (f : Bits) (i : Nat) : (s.setSta a f).job i = s.job i := rfl
@[simp] theorem State.job_setBlkSta (s : State) (b n : Nat) (i : Nat) : (s.setBlkSta b n).job i = s.job i := rfl
@[simp] theorem State.job_emit (s : State) (x : Output) (i : Nat) : (s.emit x).job i = s.job i := rfl
@[simp] theorem State.job_raise (s : State) (e : EventDef) (arg : Nat) (i : Nat) : (s.raise e arg).job i = s.job i := by
  rw [State.job, State.job, State.raise_jobs]
@[simp] theorem State.job_setStaEv (s : State) (a : Nat) (f : Bits) (e : EventDef) (arg : Nat) (i : Nat) : (s.setStaEv a f e arg).job i = s.job i := by
  rw [State.job, State.job, State.setStaEv_jobs]
@[simp] theorem State.job_blkEvent (s : State) (b n : Nat) (e : EventDef) (arg : Nat) (i : Nat) : (s.blkEvent b n e arg).job i = s.job i := by
  rw [State.job, State.job, State.blkEvent_jobs]
theorem State.job_setJob_other (s : State) {i j : Nat} (h : j ≠ i) (v : JobRun) : (s.setJob i v).job j = s.job j :=
  sparseGet_put_other h
theorem State.job_setJob_same (g : keysRise s.jobs = true) (i : Nat) (v : JobRun) : (s.setJob i v).job i = v :=
  sparseGet_put_same g

@[simp] theorem State.nib_setReg (s : State) (a : Nat) (w : Word) (i : Nat) : (s.setReg a w).nib i = s.nib i := rfl
@[simp] theorem State.nib_setFld (s : State) (a : Nat) (f : Bits) (w : Nat) (i : Nat) : (s.setFld a f w).nib i = s.nib i := rfl
@[simp] theorem State.nib_count (s : State) (a n : Nat) (i : Nat) : (s.count a n).nib i = s.nib i := rfl
@[simp] theorem State.nib_count64 (s : State) (lo hi n : Nat) (i : Nat) : (s.count64 lo hi n).nib i = s.nib i := rfl
@[simp] theorem State.nib_setSta (s : State) (a : Nat) (f : Bits) (i : Nat) : (s.setSta a f).nib i = s.nib i := rfl
@[simp] theorem State.nib_setBlkSta (s : State) (b n : Nat) (i : Nat) : (s.setBlkSta b n).nib i = s.nib i := rfl
@[simp] theorem State.nib_emit (s : State) (x : Output) (i : Nat) : (s.emit x).nib i = s.nib i := rfl
@[simp] theorem State.nib_raise (s : State) (e : EventDef) (arg : Nat) (i : Nat) : (s.raise e arg).nib i = s.nib i := by
  rw [State.nib, State.nib, State.raise_nibs]
@[simp] theorem State.nib_setStaEv (s : State) (a : Nat) (f : Bits) (e : EventDef) (arg : Nat) (i : Nat) : (s.setStaEv a f e arg).nib i = s.nib i := by
  rw [State.nib, State.nib, State.setStaEv_nibs]
@[simp] theorem State.nib_blkEvent (s : State) (b n : Nat) (e : EventDef) (arg : Nat) (i : Nat) : (s.blkEvent b n e arg).nib i = s.nib i := by
  rw [State.nib, State.nib, State.blkEvent_nibs]
theorem State.nib_setNib_other (s : State) {i j : Nat} (h : j ≠ i) (v : NibSlot) : (s.setNib i v).nib j = s.nib j :=
  sparseGet_put_other h
theorem State.nib_setNib_same (g : keysRise s.nibs = true) (i : Nat) (v : NibSlot) : (s.setNib i v).nib i = v :=
  sparseGet_put_same g

@[simp] theorem State.blk_setReg (s : State) (a : Nat) (w : Word) (i : Nat) : (s.setReg a w).blk i = s.blk i := rfl
@[simp] theorem State.blk_setFld (s : State) (a : Nat) (f : Bits) (w : Nat) (i : Nat) : (s.setFld a f w).blk i = s.blk i := rfl
@[simp] theorem State.blk_count (s : State) (a n : Nat) (i : Nat) : (s.count a n).blk i = s.blk i := rfl
@[simp] theorem State.blk_count64 (s : State) (lo hi n : Nat) (i : Nat) : (s.count64 lo hi n).blk i = s.blk i := rfl
@[simp] theorem State.blk_setSta (s : State) (a : Nat) (f : Bits) (i : Nat) : (s.setSta a f).blk i = s.blk i := rfl
@[simp] theorem State.blk_setBlkSta (s : State) (b n : Nat) (i : Nat) : (s.setBlkSta b n).blk i = s.blk i := rfl
@[simp] theorem State.blk_emit (s : State) (x : Output) (i : Nat) : (s.emit x).blk i = s.blk i := rfl
@[simp] theorem State.blk_raise (s : State) (e : EventDef) (arg : Nat) (i : Nat) : (s.raise e arg).blk i = s.blk i := by
  rw [State.blk, State.blk, State.raise_blocks]
@[simp] theorem State.blk_setStaEv (s : State) (a : Nat) (f : Bits) (e : EventDef) (arg : Nat) (i : Nat) : (s.setStaEv a f e arg).blk i = s.blk i := by
  rw [State.blk, State.blk, State.setStaEv_blocks]
@[simp] theorem State.blk_blkEvent (s : State) (b n : Nat) (e : EventDef) (arg : Nat) (i : Nat) : (s.blkEvent b n e arg).blk i = s.blk i := by
  rw [State.blk, State.blk, State.blkEvent_blocks]
theorem State.blk_setBlk_other (s : State) {i j : Nat} (h : j ≠ i) (v : BlockHidden) : (s.setBlk i v).blk j = s.blk j :=
  sparseGet_put_other h
theorem State.blk_setBlk_same (g : keysRise s.blocks = true) (i : Nat) (v : BlockHidden) : (s.setBlk i v).blk i = v :=
  sparseGet_put_same g

@[simp] theorem State.plane_setReg (s : State) (a : Nat) (w : Word) (i : Nat) : (s.setReg a w).plane i = s.plane i := rfl
@[simp] theorem State.plane_setFld (s : State) (a : Nat) (f : Bits) (w : Nat) (i : Nat) : (s.setFld a f w).plane i = s.plane i := rfl
@[simp] theorem State.plane_count (s : State) (a n : Nat) (i : Nat) : (s.count a n).plane i = s.plane i := rfl
@[simp] theorem State.plane_count64 (s : State) (lo hi n : Nat) (i : Nat) : (s.count64 lo hi n).plane i = s.plane i := rfl
@[simp] theorem State.plane_setSta (s : State) (a : Nat) (f : Bits) (i : Nat) : (s.setSta a f).plane i = s.plane i := rfl
@[simp] theorem State.plane_setBlkSta (s : State) (b n : Nat) (i : Nat) : (s.setBlkSta b n).plane i = s.plane i := rfl
@[simp] theorem State.plane_emit (s : State) (x : Output) (i : Nat) : (s.emit x).plane i = s.plane i := rfl
@[simp] theorem State.plane_raise (s : State) (e : EventDef) (arg : Nat) (i : Nat) : (s.raise e arg).plane i = s.plane i := by
  rw [State.plane, State.plane, State.raise_planes]
@[simp] theorem State.plane_setStaEv (s : State) (a : Nat) (f : Bits) (e : EventDef) (arg : Nat) (i : Nat) : (s.setStaEv a f e arg).plane i = s.plane i := by
  rw [State.plane, State.plane, State.setStaEv_planes]
@[simp] theorem State.plane_blkEvent (s : State) (b n : Nat) (e : EventDef) (arg : Nat) (i : Nat) : (s.blkEvent b n e arg).plane i = s.plane i := by
  rw [State.plane, State.plane, State.blkEvent_planes]
theorem State.plane_setPlane_other (s : State) {i j : Nat} (h : j ≠ i) (v : PlaneRun) : (s.setPlane i v).plane j = s.plane j :=
  sparseGet_put_other h
theorem State.plane_setPlane_same (g : keysRise s.planes = true) (i : Nat) (v : PlaneRun) : (s.setPlane i v).plane i = v :=
  sparseGet_put_same g

@[simp] theorem State.issuer_setReg (s : State) (a : Nat) (w : Word) (i : Nat) : (s.setReg a w).issuer i = s.issuer i := rfl
@[simp] theorem State.issuer_setFld (s : State) (a : Nat) (f : Bits) (w : Nat) (i : Nat) : (s.setFld a f w).issuer i = s.issuer i := rfl
@[simp] theorem State.issuer_count (s : State) (a n : Nat) (i : Nat) : (s.count a n).issuer i = s.issuer i := rfl
@[simp] theorem State.issuer_count64 (s : State) (lo hi n : Nat) (i : Nat) : (s.count64 lo hi n).issuer i = s.issuer i := rfl
@[simp] theorem State.issuer_setSta (s : State) (a : Nat) (f : Bits) (i : Nat) : (s.setSta a f).issuer i = s.issuer i := rfl
@[simp] theorem State.issuer_setBlkSta (s : State) (b n : Nat) (i : Nat) : (s.setBlkSta b n).issuer i = s.issuer i := rfl
@[simp] theorem State.issuer_emit (s : State) (x : Output) (i : Nat) : (s.emit x).issuer i = s.issuer i := rfl
@[simp] theorem State.issuer_raise (s : State) (e : EventDef) (arg : Nat) (i : Nat) : (s.raise e arg).issuer i = s.issuer i := by
  rw [State.issuer, State.issuer, State.raise_issuers]
@[simp] theorem State.issuer_setStaEv (s : State) (a : Nat) (f : Bits) (e : EventDef) (arg : Nat) (i : Nat) : (s.setStaEv a f e arg).issuer i = s.issuer i := by
  rw [State.issuer, State.issuer, State.setStaEv_issuers]
@[simp] theorem State.issuer_blkEvent (s : State) (b n : Nat) (e : EventDef) (arg : Nat) (i : Nat) : (s.blkEvent b n e arg).issuer i = s.issuer i := by
  rw [State.issuer, State.issuer, State.blkEvent_issuers]

@[simp] theorem State.source_setReg (s : State) (a : Nat) (w : Word) (i : Nat) : (s.setReg a w).source i = s.source i := rfl
@[simp] theorem State.source_setFld (s : State) (a : Nat) (f : Bits) (w : Nat) (i : Nat) : (s.setFld a f w).source i = s.source i := rfl
@[simp] theorem State.source_count (s : State) (a n : Nat) (i : Nat) : (s.count a n).source i = s.source i := rfl
@[simp] theorem State.source_count64 (s : State) (lo hi n : Nat) (i : Nat) : (s.count64 lo hi n).source i = s.source i := rfl
@[simp] theorem State.source_setSta (s : State) (a : Nat) (f : Bits) (i : Nat) : (s.setSta a f).source i = s.source i := rfl
@[simp] theorem State.source_setBlkSta (s : State) (b n : Nat) (i : Nat) : (s.setBlkSta b n).source i = s.source i := rfl
@[simp] theorem State.source_emit (s : State) (x : Output) (i : Nat) : (s.emit x).source i = s.source i := rfl
@[simp] theorem State.source_raise (s : State) (e : EventDef) (arg : Nat) (i : Nat) : (s.raise e arg).source i = s.source i := by
  rw [State.source, State.source, State.raise_sources]
@[simp] theorem State.source_setStaEv (s : State) (a : Nat) (f : Bits) (e : EventDef) (arg : Nat) (i : Nat) : (s.setStaEv a f e arg).source i = s.source i := by
  rw [State.source, State.source, State.setStaEv_sources]
@[simp] theorem State.source_blkEvent (s : State) (b n : Nat) (e : EventDef) (arg : Nat) (i : Nat) : (s.blkEvent b n e arg).source i = s.source i := by
  rw [State.source, State.source, State.blkEvent_sources]
theorem State.source_setSource_other (s : State) {i j : Nat} (h : j ≠ i) (v : Source) : (s.setSource i v).source j = s.source j :=
  sparseGet_put_other h
theorem State.source_setSource_same (g : keysRise s.sources = true) (i : Nat) (v : Source) : (s.setSource i v).source i = v :=
  sparseGet_put_same g

@[simp] theorem State.spike_setReg (s : State) (a : Nat) (w : Word) (i : Nat) : (s.setReg a w).spike i = s.spike i := rfl
@[simp] theorem State.spike_setFld (s : State) (a : Nat) (f : Bits) (w : Nat) (i : Nat) : (s.setFld a f w).spike i = s.spike i := rfl
@[simp] theorem State.spike_count (s : State) (a n : Nat) (i : Nat) : (s.count a n).spike i = s.spike i := rfl
@[simp] theorem State.spike_count64 (s : State) (lo hi n : Nat) (i : Nat) : (s.count64 lo hi n).spike i = s.spike i := rfl
@[simp] theorem State.spike_setSta (s : State) (a : Nat) (f : Bits) (i : Nat) : (s.setSta a f).spike i = s.spike i := rfl
@[simp] theorem State.spike_setBlkSta (s : State) (b n : Nat) (i : Nat) : (s.setBlkSta b n).spike i = s.spike i := rfl
@[simp] theorem State.spike_emit (s : State) (x : Output) (i : Nat) : (s.emit x).spike i = s.spike i := rfl
@[simp] theorem State.spike_raise (s : State) (e : EventDef) (arg : Nat) (i : Nat) : (s.raise e arg).spike i = s.spike i := by
  rw [State.spike, State.spike, State.raise_spikes]
@[simp] theorem State.spike_setStaEv (s : State) (a : Nat) (f : Bits) (e : EventDef) (arg : Nat) (i : Nat) : (s.setStaEv a f e arg).spike i = s.spike i := by
  rw [State.spike, State.spike, State.setStaEv_spikes]
@[simp] theorem State.spike_blkEvent (s : State) (b n : Nat) (e : EventDef) (arg : Nat) (i : Nat) : (s.blkEvent b n e arg).spike i = s.spike i := by
  rw [State.spike, State.spike, State.blkEvent_spikes]
theorem State.spike_setSpike_other (s : State) {i j : Nat} (h : j ≠ i) (v : Spike) : (s.setSpike i v).spike j = s.spike j :=
  sparseGet_put_other h
theorem State.spike_setSpike_same (g : keysRise s.spikes = true) (i : Nat) (v : Spike) : (s.setSpike i v).spike i = v :=
  sparseGet_put_same g

@[simp] theorem State.seqr_setReg (s : State) (a : Nat) (w : Word) (i : Nat) : (s.setReg a w).seqr i = s.seqr i := rfl
@[simp] theorem State.seqr_setFld (s : State) (a : Nat) (f : Bits) (w : Nat) (i : Nat) : (s.setFld a f w).seqr i = s.seqr i := rfl
@[simp] theorem State.seqr_count (s : State) (a n : Nat) (i : Nat) : (s.count a n).seqr i = s.seqr i := rfl
@[simp] theorem State.seqr_count64 (s : State) (lo hi n : Nat) (i : Nat) : (s.count64 lo hi n).seqr i = s.seqr i := rfl
@[simp] theorem State.seqr_setSta (s : State) (a : Nat) (f : Bits) (i : Nat) : (s.setSta a f).seqr i = s.seqr i := rfl
@[simp] theorem State.seqr_setBlkSta (s : State) (b n : Nat) (i : Nat) : (s.setBlkSta b n).seqr i = s.seqr i := rfl
@[simp] theorem State.seqr_emit (s : State) (x : Output) (i : Nat) : (s.emit x).seqr i = s.seqr i := rfl
@[simp] theorem State.seqr_raise (s : State) (e : EventDef) (arg : Nat) (i : Nat) : (s.raise e arg).seqr i = s.seqr i := by
  rw [State.seqr, State.seqr, State.raise_seqs]
@[simp] theorem State.seqr_setStaEv (s : State) (a : Nat) (f : Bits) (e : EventDef) (arg : Nat) (i : Nat) : (s.setStaEv a f e arg).seqr i = s.seqr i := by
  rw [State.seqr, State.seqr, State.setStaEv_seqs]
@[simp] theorem State.seqr_blkEvent (s : State) (b n : Nat) (e : EventDef) (arg : Nat) (i : Nat) : (s.blkEvent b n e arg).seqr i = s.seqr i := by
  rw [State.seqr, State.seqr, State.blkEvent_seqs]

@[simp] theorem State.core_setReg (s : State) (a : Nat) (w : Word) (i : Nat) : (s.setReg a w).core i = s.core i := rfl
@[simp] theorem State.core_setFld (s : State) (a : Nat) (f : Bits) (w : Nat) (i : Nat) : (s.setFld a f w).core i = s.core i := rfl
@[simp] theorem State.core_count (s : State) (a n : Nat) (i : Nat) : (s.count a n).core i = s.core i := rfl
@[simp] theorem State.core_count64 (s : State) (lo hi n : Nat) (i : Nat) : (s.count64 lo hi n).core i = s.core i := rfl
@[simp] theorem State.core_setSta (s : State) (a : Nat) (f : Bits) (i : Nat) : (s.setSta a f).core i = s.core i := rfl
@[simp] theorem State.core_setBlkSta (s : State) (b n : Nat) (i : Nat) : (s.setBlkSta b n).core i = s.core i := rfl
@[simp] theorem State.core_emit (s : State) (x : Output) (i : Nat) : (s.emit x).core i = s.core i := rfl
@[simp] theorem State.core_raise (s : State) (e : EventDef) (arg : Nat) (i : Nat) : (s.raise e arg).core i = s.core i := by
  rw [State.core, State.core, State.raise_brush]
@[simp] theorem State.core_setStaEv (s : State) (a : Nat) (f : Bits) (e : EventDef) (arg : Nat) (i : Nat) : (s.setStaEv a f e arg).core i = s.core i := by
  rw [State.core, State.core, State.setStaEv_brush]
@[simp] theorem State.core_blkEvent (s : State) (b n : Nat) (e : EventDef) (arg : Nat) (i : Nat) : (s.blkEvent b n e arg).core i = s.core i := by
  rw [State.core, State.core, State.blkEvent_brush]
theorem State.core_setCore_other (s : State) {i j : Nat} (h : j ≠ i) (v : BrushCore) : (s.setCore i v).core j = s.core j :=
  sparseGet_put_other h
theorem State.core_setCore_same (g : keysRise s.brush = true) (i : Nat) (v : BrushCore) : (s.setCore i v).core i = v :=
  sparseGet_put_same g

@[simp] theorem State.mask_setReg (s : State) (a : Nat) (w : Word) (i : Nat) : (s.setReg a w).mask i = s.mask i := rfl
@[simp] theorem State.mask_setFld (s : State) (a : Nat) (f : Bits) (w : Nat) (i : Nat) : (s.setFld a f w).mask i = s.mask i := rfl
@[simp] theorem State.mask_count (s : State) (a n : Nat) (i : Nat) : (s.count a n).mask i = s.mask i := rfl
@[simp] theorem State.mask_count64 (s : State) (lo hi n : Nat) (i : Nat) : (s.count64 lo hi n).mask i = s.mask i := rfl
@[simp] theorem State.mask_setSta (s : State) (a : Nat) (f : Bits) (i : Nat) : (s.setSta a f).mask i = s.mask i := rfl
@[simp] theorem State.mask_setBlkSta (s : State) (b n : Nat) (i : Nat) : (s.setBlkSta b n).mask i = s.mask i := rfl
@[simp] theorem State.mask_emit (s : State) (x : Output) (i : Nat) : (s.emit x).mask i = s.mask i := rfl
@[simp] theorem State.mask_raise (s : State) (e : EventDef) (arg : Nat) (i : Nat) : (s.raise e arg).mask i = s.mask i := by
  rw [State.mask, State.mask, State.raise_masks]
@[simp] theorem State.mask_setStaEv (s : State) (a : Nat) (f : Bits) (e : EventDef) (arg : Nat) (i : Nat) : (s.setStaEv a f e arg).mask i = s.mask i := by
  rw [State.mask, State.mask, State.setStaEv_masks]
@[simp] theorem State.mask_blkEvent (s : State) (b n : Nat) (e : EventDef) (arg : Nat) (i : Nat) : (s.blkEvent b n e arg).mask i = s.mask i := by
  rw [State.mask, State.mask, State.blkEvent_masks]
theorem State.mask_setMask_other (s : State) {i j : Nat} (h : j ≠ i) (v : MaskRun) : (s.setMask i v).mask j = s.mask j :=
  sparseGet_put_other h
theorem State.mask_setMask_same (g : keysRise s.masks = true) (i : Nat) (v : MaskRun) : (s.setMask i v).mask i = v :=
  sparseGet_put_same g

@[simp] theorem State.mec_setReg (s : State) (a : Nat) (w : Word) (i : Nat) : (s.setReg a w).mec i = s.mec i := rfl
@[simp] theorem State.mec_setFld (s : State) (a : Nat) (f : Bits) (w : Nat) (i : Nat) : (s.setFld a f w).mec i = s.mec i := rfl
@[simp] theorem State.mec_count (s : State) (a n : Nat) (i : Nat) : (s.count a n).mec i = s.mec i := rfl
@[simp] theorem State.mec_count64 (s : State) (lo hi n : Nat) (i : Nat) : (s.count64 lo hi n).mec i = s.mec i := rfl
@[simp] theorem State.mec_setSta (s : State) (a : Nat) (f : Bits) (i : Nat) : (s.setSta a f).mec i = s.mec i := rfl
@[simp] theorem State.mec_setBlkSta (s : State) (b n : Nat) (i : Nat) : (s.setBlkSta b n).mec i = s.mec i := rfl
@[simp] theorem State.mec_emit (s : State) (x : Output) (i : Nat) : (s.emit x).mec i = s.mec i := rfl
@[simp] theorem State.mec_raise (s : State) (e : EventDef) (arg : Nat) (i : Nat) : (s.raise e arg).mec i = s.mec i := by
  rw [State.mec, State.mec, State.raise_mecs]
@[simp] theorem State.mec_setStaEv (s : State) (a : Nat) (f : Bits) (e : EventDef) (arg : Nat) (i : Nat) : (s.setStaEv a f e arg).mec i = s.mec i := by
  rw [State.mec, State.mec, State.setStaEv_mecs]
@[simp] theorem State.mec_blkEvent (s : State) (b n : Nat) (e : EventDef) (arg : Nat) (i : Nat) : (s.blkEvent b n e arg).mec i = s.mec i := by
  rw [State.mec, State.mec, State.blkEvent_mecs]
theorem State.mec_setMec_other (s : State) {i j : Nat} (h : j ≠ i) (v : MecRun) : (s.setMec i v).mec j = s.mec j :=
  sparseGet_put_other h
theorem State.mec_setMec_same (g : keysRise s.mecs = true) (i : Nat) (v : MecRun) : (s.setMec i v).mec i = v :=
  sparseGet_put_same g

@[simp] theorem State.timer_setReg (s : State) (a : Nat) (w : Word) (i : Nat) : (s.setReg a w).timer i = s.timer i := rfl
@[simp] theorem State.timer_setFld (s : State) (a : Nat) (f : Bits) (w : Nat) (i : Nat) : (s.setFld a f w).timer i = s.timer i := rfl
@[simp] theorem State.timer_count (s : State) (a n : Nat) (i : Nat) : (s.count a n).timer i = s.timer i := rfl
@[simp] theorem State.timer_count64 (s : State) (lo hi n : Nat) (i : Nat) : (s.count64 lo hi n).timer i = s.timer i := rfl
@[simp] theorem State.timer_setSta (s : State) (a : Nat) (f : Bits) (i : Nat) : (s.setSta a f).timer i = s.timer i := rfl
@[simp] theorem State.timer_setBlkSta (s : State) (b n : Nat) (i : Nat) : (s.setBlkSta b n).timer i = s.timer i := rfl
@[simp] theorem State.timer_emit (s : State) (x : Output) (i : Nat) : (s.emit x).timer i = s.timer i := rfl
@[simp] theorem State.timer_raise (s : State) (e : EventDef) (arg : Nat) (i : Nat) : (s.raise e arg).timer i = s.timer i := by
  rw [State.timer, State.timer, State.raise_timers]
@[simp] theorem State.timer_setStaEv (s : State) (a : Nat) (f : Bits) (e : EventDef) (arg : Nat) (i : Nat) : (s.setStaEv a f e arg).timer i = s.timer i := by
  rw [State.timer, State.timer, State.setStaEv_timers]
@[simp] theorem State.timer_blkEvent (s : State) (b n : Nat) (e : EventDef) (arg : Nat) (i : Nat) : (s.blkEvent b n e arg).timer i = s.timer i := by
  rw [State.timer, State.timer, State.blkEvent_timers]
theorem State.timer_setTimer_other (s : State) {i j : Nat} (h : j ≠ i) (v : TimerRun) : (s.setTimer i v).timer j = s.timer j :=
  sparseGet_put_other h
theorem State.timer_setTimer_same (g : keysRise s.timers = true) (i : Nat) (v : TimerRun) : (s.setTimer i v).timer i = v :=
  sparseGet_put_same g

@[simp] theorem State.pair_setReg (s : State) (a : Nat) (w : Word) (i : Nat) : (s.setReg a w).pair i = s.pair i := rfl
@[simp] theorem State.pair_setFld (s : State) (a : Nat) (f : Bits) (w : Nat) (i : Nat) : (s.setFld a f w).pair i = s.pair i := rfl
@[simp] theorem State.pair_count (s : State) (a n : Nat) (i : Nat) : (s.count a n).pair i = s.pair i := rfl
@[simp] theorem State.pair_count64 (s : State) (lo hi n : Nat) (i : Nat) : (s.count64 lo hi n).pair i = s.pair i := rfl
@[simp] theorem State.pair_setSta (s : State) (a : Nat) (f : Bits) (i : Nat) : (s.setSta a f).pair i = s.pair i := rfl
@[simp] theorem State.pair_setBlkSta (s : State) (b n : Nat) (i : Nat) : (s.setBlkSta b n).pair i = s.pair i := rfl
@[simp] theorem State.pair_emit (s : State) (x : Output) (i : Nat) : (s.emit x).pair i = s.pair i := rfl
@[simp] theorem State.pair_raise (s : State) (e : EventDef) (arg : Nat) (i : Nat) : (s.raise e arg).pair i = s.pair i := by
  rw [State.pair, State.pair, State.raise_pairs]
@[simp] theorem State.pair_setStaEv (s : State) (a : Nat) (f : Bits) (e : EventDef) (arg : Nat) (i : Nat) : (s.setStaEv a f e arg).pair i = s.pair i := by
  rw [State.pair, State.pair, State.setStaEv_pairs]
@[simp] theorem State.pair_blkEvent (s : State) (b n : Nat) (e : EventDef) (arg : Nat) (i : Nat) : (s.blkEvent b n e arg).pair i = s.pair i := by
  rw [State.pair, State.pair, State.blkEvent_pairs]
theorem State.pair_setPair_other (s : State) {i j : Nat} (h : j ≠ i) (v : PairRun) : (s.setPair i v).pair j = s.pair j :=
  sparseGet_put_other h
theorem State.pair_setPair_same (g : keysRise s.pairs = true) (i : Nat) (v : PairRun) : (s.setPair i v).pair i = v :=
  sparseGet_put_same g

@[simp] theorem State.zoom_setReg (s : State) (a : Nat) (w : Word) (i : Nat) : (s.setReg a w).zoom i = s.zoom i := rfl
@[simp] theorem State.zoom_setFld (s : State) (a : Nat) (f : Bits) (w : Nat) (i : Nat) : (s.setFld a f w).zoom i = s.zoom i := rfl
@[simp] theorem State.zoom_count (s : State) (a n : Nat) (i : Nat) : (s.count a n).zoom i = s.zoom i := rfl
@[simp] theorem State.zoom_count64 (s : State) (lo hi n : Nat) (i : Nat) : (s.count64 lo hi n).zoom i = s.zoom i := rfl
@[simp] theorem State.zoom_setSta (s : State) (a : Nat) (f : Bits) (i : Nat) : (s.setSta a f).zoom i = s.zoom i := rfl
@[simp] theorem State.zoom_setBlkSta (s : State) (b n : Nat) (i : Nat) : (s.setBlkSta b n).zoom i = s.zoom i := rfl
@[simp] theorem State.zoom_emit (s : State) (x : Output) (i : Nat) : (s.emit x).zoom i = s.zoom i := rfl
@[simp] theorem State.zoom_raise (s : State) (e : EventDef) (arg : Nat) (i : Nat) : (s.raise e arg).zoom i = s.zoom i := by
  rw [State.zoom, State.zoom, State.raise_zooms]
@[simp] theorem State.zoom_setStaEv (s : State) (a : Nat) (f : Bits) (e : EventDef) (arg : Nat) (i : Nat) : (s.setStaEv a f e arg).zoom i = s.zoom i := by
  rw [State.zoom, State.zoom, State.setStaEv_zooms]
@[simp] theorem State.zoom_blkEvent (s : State) (b n : Nat) (e : EventDef) (arg : Nat) (i : Nat) : (s.blkEvent b n e arg).zoom i = s.zoom i := by
  rw [State.zoom, State.zoom, State.blkEvent_zooms]
theorem State.zoom_setZoom_other (s : State) {i j : Nat} (h : j ≠ i) (v : Zoom) : (s.setZoom i v).zoom j = s.zoom j :=
  sparseGet_put_other h
theorem State.zoom_setZoom_same (g : keysRise s.zooms = true) (i : Nat) (v : Zoom) : (s.setZoom i v).zoom i = v :=
  sparseGet_put_same g

end Sys2Proof.Machine
end

