-- ==== Sys2Proof/Tests/Slice0.lean ====
section
/-! SUPPORT. Well-formedness refuses what it should, and small steps of commands against the spec's own words and examples. -/

open Sys2Proof Sys2Proof.Machine

namespace Sys2Proof.Tests

set_option maxRecDepth 100000
set_option Elab.async false

/-! ## Well-formedness: one ill-formed command for each check, and a well-formed one beside it -/

/-- A field frame of n line bits. -/
def fieldFrame (n : Nat) : FieldFrame := ⟨0, 0, 0xF2C4, 0, List.replicate n false, 0⟩
/-- A cascade frame of n line bits. -/
def cascFrame (n : Nat) : CascFrame := ⟨0, 0, 0xF2C4, 0, List.replicate n false, 0⟩
/-- Host data of a chain whose two links lie at the same address. -/
def badChain : HostData := ⟨[(0, 16, 64), (0, 16, 0)], []⟩

theorem test_wf_fieldFrame : (Instr.sampleFrame (fieldFrame 2159)).wf = false ∧ (Instr.idleFrame (fieldFrame 2161)).wf = false ∧
    (Instr.ack (fieldFrame 2160)).wf = true := by decide +kernel
theorem test_wf_cascFrame : (Instr.trigFrame (cascFrame 0)).wf = false ∧ (Instr.densityFrame (cascFrame 2160)).wf = true := by
  decide +kernel
theorem test_wf_scope : (Instr.unitDrainEnd ⟨.pair, 128⟩).wf = false ∧ (Instr.unitDrainEnd ⟨.pair, 127⟩).wf = true := by
  decide +kernel
theorem test_wf_registerWrite : (Instr.registerWrite .hostBar0 2 [(0, 0xF)]).wf = false ∧
    (Instr.registerWrite .hostBar0 4 []).wf = false ∧ (Instr.registerWrite .hostBar0 4 [(0, 0xF)]).wf = true := by decide
theorem test_wf_aligned : (Instr.staClear .hostBar0 1 0).wf = false ∧ (Instr.counterLowRead .hostBar0 2).wf = false ∧
    (Instr.xdomTimeout .hostBar0 3 true).wf = false := by decide
theorem test_wf_inkErr : (Instr.inkRead 0 0 1 [⟨0, 8, 1, 0⟩]).wf = false ∧ (Instr.inkRead 0 0 1 [⟨0, 7, 0, 0⟩]).wf = false ∧
    (Instr.inkRead 0 0 1 [⟨0, 7, 1, 0⟩]).wf = true := by decide
theorem test_wf_inkLength : (Instr.inkRead 0 0 0 []).wf = false ∧ (Instr.inkWrite 0 0 [] []).wf = false := by decide
theorem test_wf_hostData : (Instr.progLoad 0 badChain true).wf = false ∧ (Instr.kernelLoad 0 badChain true).wf = false := by decide
theorem test_wf_netFrames : (Instr.netRxFrame (List.replicate 13 0) true).wf = false ∧
    (Instr.netTxFrame (List.replicate 13 0)).wf = false ∧ (Instr.netTxFrame (List.replicate 14 0)).wf = true := by decide
theorem test_wf_syncPulse : (Instr.syncPulse 0 0 0).wf = false ∧ (Instr.syncPulse 0 0 1).wf = true := by decide
theorem test_wf_bar2 : (Instr.bar2Access 0 2 (some [(0, true)]) []).wf = false ∧
    (Instr.bar2Access 0 1 (some [(0, true)]) []).wf = true := by decide
theorem test_wf_attach : (Instr.attachGo 0 [[0]] []).wf = false ∧ (Instr.attachGo 0 [] [[0]]).wf = false := by decide
theorem test_wf_calRunEnd : (Instr.calRunEnd [1] [] true (0, 0)).wf = false ∧ (Instr.calRunEnd [] [] true (0, 0)).wf = false := by decide
theorem test_wf_paceRead : (Instr.paceRead [(6400, 1)]).wf = false ∧ (Instr.paceRead [(6399, 1)]).wf = true := by decide
theorem test_wf_powerUp : (Instr.powerUp false false 0 [6 * 65536]).wf = false := by decide
theorem test_wf_jtag : (Instr.jtagBypass []).wf = false ∧ (Instr.jtagSamplePreload [] [true]).wf = false ∧
    (Instr.jtagIdcode [true]).wf = true := by decide

/-! ## Steps -/

/-- The State that an outcome answers, or the one it began in. -/
def after (s : State) (o : Host.Outcome State Fault Refusal) : State :=
  match o with
  | .next t => t
  | _ => s

/-- A slot that runs with two registers set. -/
def running2 (a b : Word) : State :=
  { State.reset with nibs := [(0, ({ NibSlot.vacant with state := .running } : NibSlot).set 1 a |>.set 2 b)] }
/-- What register 3 of slot 0 holds. -/
def r3 (s : State) : Word := (s.nib 0).get 3

/-- R86: ADD wraps modulo 2^32. -/
theorem test_nibAdd_wraps : let s := running2 0xFFFFFFFF 2
    r3 (after s (exec (.nibAdd 0 3 1 2) s)) = 1 := by decide +kernel
/-- R86: SRA copies the sign bit, SRL does not. -/
theorem test_nibShift_sign : let s := running2 0x80000000 31
    r3 (after s (exec (.nibSra 0 3 1 2) s)) = 0xFFFFFFFF ∧ r3 (after s (exec (.nibSrl 0 3 1 2) s)) = 1 := by decide +kernel
/-- R86: MULH is the signed, MULHU the unsigned high half. -/
theorem test_nibMulh_sign : let s := running2 0xFFFFFFFF 0xFFFFFFFF
    r3 (after s (exec (.nibMulh 0 3 1 2) s)) = 0 ∧ r3 (after s (exec (.nibMulhu 0 3 1 2) s)) = 0xFFFFFFFE := by decide +kernel
/-- R83: a store of a word and a load of its upper halfword see little-endian bytes. -/
theorem test_nibStore_littleEndian : let s := running2 0x12345678 100
    let t := after s (exec (.nibSw 0 1 2 0) s)
    r3 (after t (exec (.nibLhu 0 3 2 2) t)) = 0x1234 ∧ r3 (after t (exec (.nibLb 0 3 2 0) t)) = 0x78 := by decide +kernel
/-- R85 and R103: a misaligned word load changes no register and records ALIGN. -/
theorem test_nibLoad_misaligned : let s := running2 0 2
    let t := after s (exec (.nibLw 0 3 2 0) s)
    r3 t = 0 ∧ (t.nib 0).state = .exceptionHalt := by decide +kernel

/-- R60: a stale clear clears nothing and is counted. -/
theorem test_staClear_stale : let s := State.reset.setSta (Reg.HDR.BLK_STA 5) ⟨0, 0⟩
    let t := after s (exec (.staClear .hostBar0 (5 * 0x80000 + 0xC) 1) s)
    (t.reg (Reg.HDR.BLK_STA 5)).toNat = 0x01000001 ∧ (t.reg (Reg.HDR.STALE_CLEAR_CNT 5)).toNat = 1 := by decide +kernel
/-- R60: a clear with the current SEQ clears the bit and keeps SEQ. -/
theorem test_staClear_current : let s := State.reset.setSta (Reg.HDR.BLK_STA 5) ⟨0, 0⟩
    let t := after s (exec (.staClear .hostBar0 (5 * 0x80000 + 0xC) 0x01000001) s)
    (t.reg (Reg.HDR.BLK_STA 5)).toNat = 0x01000000 := by decide +kernel

/-- R110 to R116: a frame decodes to what was encoded. -/
theorem test_frame_roundTrip :
    let line := (encodeFrame 3 2 200 true false [1, 2, 3]).drop 16
    let d := decodeFrame false 200 3 line
    line.length = 2160 ∧ headerType d.1 = 2 ∧ headerSeq d.1 = 200 ∧ d.2.1.take 3 = [1, 2, 3] ∧ d.2.2 = true := by decide +kernel
/-- R117: an inverted line decodes with the polarity correction. -/
theorem test_frame_inverted :
    let line := ((encodeFrame 0 0 1 false false [9]).drop 16).map (fun b => !b)
    (decodeFrame true 1 0 line).2.1.take 1 = [9] := by decide +kernel

/-- The CRC-32C of the nine digits is E3069283 (the check value of the Castagnoli polynomial that R63 names). -/
theorem test_crc32c_check : crc32c [0x31, 0x32, 0x33, 0x34, 0x35, 0x36, 0x37, 0x38, 0x39] = 0xE3069283 := by decide +kernel

/-- R366: VADDS saturates at the largest Q1.31 value. -/
theorem test_q31_saturates : q31 (2 ^ 31) = (0x7FFFFFFF, 1) ∧ q31 (-(2 ^ 31) - 1) = (0x80000000, 1) ∧ q31 (-1) = (0xFFFFFFFF, 0) := by
  decide

/-- The queue is first in, first out. -/
theorem test_step_order : let s : State := { State.reset with pending := [.ppsOutEnd, .keepalive] }
    (after s (step s)).pending = [.keepalive] := by decide +kernel

end Sys2Proof.Tests
end

