-- ==== Sys2Proof/Tests/Witness.lean ====
section
/-! SUPPORT. For every statement with hypotheses, one theorem that shows concrete states and operands meeting them, clause by
clause. -/

open Sys2Proof Sys2Proof.Machine

namespace Sys2Proof.Tests

set_option maxRecDepth 100000
set_option Elab.async false

/-- The reset state with some blocks enabled. -/
def on (l : List Nat) : State := l.foldl (fun s b => s.setBlockState b 1) State.reset

/-- A state with every clock domain running. -/
def clocked (s : State) : State := s.setReg Reg.CLK.DOMAIN_RUN 0x3FFFF

/-- The reset state with program slot 3 as given. -/
def slot3 (n : NibSlot) : State := { State.reset with nibs := [(3, n)] }

/-- A program slot whose core runs from address 0 with every register 0. -/
def runs : NibSlot := { NibSlot.vacant with state := .running }

/-- A program slot that issues its next instruction and does not squash it. -/
def ready (n : NibSlot) : Bool := n.issues && !n.squashed

/-- A state with one register field changed. -/
def put (a : Nat) (f : Bits) (v : Nat) (s : State := State.reset) : State := s.setFld a f v

/-- The line bits of an encoded frame after its sync word. -/
def lineOf (lane type seq : Nat) (payload : List Byte) : List Bool := (encodeFrame lane type seq false false payload).drop 16

/-- A state whose program slot 0 holds the given bindings, each declared with a parameter, and all of the Inkwell. -/
def holding (l : List (Binding × Nat)) (s : State) : State :=
  { s with nibs := [(0, { runs with
    bindings := l.zipIdx.map (fun e => (e.2, e.1.1)), decls := l.zipIdx.map (fun e => ⟨0, 0, e.2, e.1.2⟩), inkMiB := 65536 })] }

/-- A head's stream with the given samples. -/
def headStream (p o : Nat) (l : List Sample) : Stream :=
  { Stream.vacant with source := some (.head p o), hist := l, delivered := l.length }

/-- A sample without marks. -/
def sample (i : Int) (tbs : Nat) : Sample := ⟨i, 0, tbs, Marks.none⟩

theorem witness_StepRunsFront :
    ({ State.reset with pending := [.keepalive] } : State).pending = .keepalive :: [] ∧ State.reset.pending = [] ∧
    (clocked State.reset).running .samp = true ∧ State.reset.running .samp = false := by decide +kernel

theorem witness_ResetState : (0 : Nat) % 0x80000 ≠ 0x2C ∧ (0 : Nat) % 0x80000 ≠ 0x30 := by decide

theorem witness_StepKeepsGood : (⟨[.keepalive], [], []⟩ : List Instr × List (Nat × Word) × List Host.Cell).1.all Instr.wf = true ∧
    ({ State.reset with pending := [.keepalive] } : State).Good ∧
    ∃ t, step { State.reset with pending := [.keepalive] } = .next t :=
  ⟨by decide, ⟨by decide, by decide, by decide⟩, _, rfl⟩
theorem witness_RegisterAccesses :
    16 < (List.replicate 17 ((0 : Word), (0xF : BitVec 4))).length ∧ (0xC00000 : BitVec 24).toNat / 4 * 4 / 0x80000 < 25 ∧
    ∀ k : Fin 12, State.reset.nibReq k.val = .hostBar0 → (State.reset.nib k.val).issues = false := by decide +kernel

theorem witness_ConfigurationWrites :
    let a := Reg.FLANE.PORT_CFG 7
    let s := State.reset.setFld (Reg.FLANE.PORT_STATE 7) Fld.FLANE.PORT_STATE.state 1
    (lookupReg a).any (fun r => !hasClass .sta r.row && hasClass .cfg r.row && s.scopeOn r && !State.reset.scopeOn r &&
      (rowMask (fun c => c = .cfg) r.row).getLsbD 3 && !(rowMask (fun c => c = .cfg) r.row).getLsbD 31) = true ∧
    Registers.wf s.regs = true ∧ Memory.wf s.ink.mem = true ∧ s.queueWf = true := by decide +kernel

theorem witness_StatusBits :
    let a := Reg.FLANE.PORT_STA 7
    (lookupReg a).any (fun r => hasClass .sta r.row && decide (Reg.HDR.STALE_CLEAR_CNT r.block ≠ a)) = true ∧
    State.reset.Good ∧ (23 : Nat) < 24 ∧
    (0x00FFFFFF : Word).toNat / 2 ^ 24 = (State.reset.reg a).toNat / 2 ^ 24 ∧
    (0xFF000001 : Word).toNat / 2 ^ 24 ≠ (State.reset.reg a).toNat / 2 ^ 24 :=
  ⟨by decide +kernel, ⟨by decide, by decide, by decide⟩, by decide, by decide +kernel, by decide +kernel⟩

theorem witness_CounterRule : State.reset.Good ∧ Reg.INK.INK_RMW_CNT_LO ≠ Reg.INK.INK_RMW_CNT_HI :=
  ⟨⟨by decide, by decide, by decide⟩, by decide⟩

theorem witness_BlockScopeCommands :
    (on [24]).blockOn 24 = true ∧ State.reset.blockOn 24 = false ∧
    (let s := State.reset.setBlockState 9 2
     s.blockState 9 = 2 ∧ ∀ id ∈ scopesOfBlock 9, s.live id = false) ∧
    (let s := (State.reset.setBlockState 9 2).setFld (Reg.XFORM.XF_STATE 127) Fld.XFORM.XF_STATE.state 3
     s.blockState 9 = 2 ∧ ∃ id ∈ scopesOfBlock 9, s.live id = true) := by decide +kernel

theorem witness_ConfigurationCheck :
    let s := State.reset
    let p : State := { s with staged := [(Reg.CAL.CAL_CFG, some 1)] }
    let x : State := { p with blocks := [(20, ⟨true, 0, true⟩)] }
    s.stagePending 20 = false ∧ p.stagePending 20 = true ∧ (p.blk 20).holdExpired = false ∧ (x.blk 20).holdExpired = true ∧
    s.crcLive 20 = s.reg (Reg.HDR.CRC_COMMITTED 20) ∧
    (let d := s.setReg (Reg.HDR.CRC_COMMITTED 20) 0
     d.crcLive 20 ≠ d.reg (Reg.HDR.CRC_COMMITTED 20)) ∧
    (let d := (s.setFld (Reg.HDR.BLK_STA 20) Fld.HDR.BLK_STA.CFG_DRIFT 1)
     let r := d.restoreBlock d.retained.live 20
     let t := r.setBlk 20 { r.blk 20 with scrubbing := true }
     d.fld (Reg.HDR.BLK_STA 20) Fld.HDR.BLK_STA.CFG_DRIFT ≠ 0 ∧ crcOfBlock d.liveReg 20 = d.reg (Reg.HDR.CRC_COMMITTED 20) ∧
       t.crcLive 20 = t.reg (Reg.HDR.CRC_COMMITTED 20)) := by decide +kernel

theorem witness_EventRouting :
    let s := State.reset
    let rt := Reg.GLOBAL.EVT_ROUTE 5
    let bad := putField Fld.GLOBAL.EVT_ROUTE.ring 3072 (putField Fld.GLOBAL.EVT_ROUTE.route_en 1 0)
    (∀ i, i < 1024 → s.routeOk (s.stagedReg (Reg.GLOBAL.EVT_ROUTE i)) = true) ∧
    (let t : State := { s with staged := [(Reg.GLOBAL.EVT_ROUTE 1023, some bad)] }
     ∃ i, i < 1024 ∧ t.routeOk (t.stagedReg (Reg.GLOBAL.EVT_ROUTE i)) = false) ∧
    s.fld rt Fld.GLOBAL.EVT_ROUTE.route_en = 0 ∧
    (let t := s.setReg rt bad
     t.fld rt Fld.GLOBAL.EVT_ROUTE.route_en ≠ 0 ∧ 3072 ≤ t.fld rt Fld.GLOBAL.EVT_ROUTE.ring) ∧
    s.retained.flight.length + 2 ≤ flightDepth := by decide +kernel
theorem nibReady_of_ready (n : NibSlot) (h : ready n = true) : (slot3 n).nibReady 3 := by
  have e : (slot3 n).nib 3 = n := rfl
  unfold State.nibReady
  rw [e]
  simp only [ready, Bool.and_eq_true, Bool.not_eq_true'] at h
  exact h

theorem witness_NibAluResults : (slot3 runs).nibReady 3 ∧
    (let z := 32
     z ≤ 32 ∧ (runs.get 1).toNat < 2 ^ (32 - z)) ∧
    (let n := runs.set 31 0xFFFFFFFF
     (slot3 n).nibReady 3 ∧ (n.get 31).toNat < 2 ^ (32 - 0) ∧ 2 ^ (31 - 0) ≤ (n.get 31).toNat) :=
  ⟨nibReady_of_ready _ (by decide), by decide, nibReady_of_ready _ (by decide), by decide, by decide⟩

theorem witness_NibPredicatesAndImmediates : (slot3 runs).nibReady 3 ∧ (7 : BitVec 5).toNat < 8 ∧ 8 ≤ (8 : BitVec 5).toNat ∧
    (31 : BitVec 16).toNat < 32 ∧ 32 ≤ (32 : BitVec 16).toNat ∧ (63 : BitVec 16).toNat < 64 ∧ 64 ≤ (64 : BitVec 16).toNat ∧
    (95 : BitVec 16).toNat < 96 ∧ 96 ≤ (96 : BitVec 16).toNat :=
  ⟨nibReady_of_ready _ (by decide), by decide⟩

theorem witness_NibLoadStore :
    let n := runs.set 1 65532
    let h : NibSlot := { runs with eccHard := [3] }
    let c (base : Word) (off : BitVec 16) : Nat := (BitVec.ofInt 32 (base.toInt + off.toInt)).toNat
    (slot3 n).nibReady 3 ∧ (slot3 h).nibReady 3 ∧
    (c (n.get 1) 0 % 4 = 0 ∧ c (n.get 1) 0 + 4 ≤ 65536 ∧ ¬ ∃ i, i < 4 ∧ c (n.get 1) 0 + i ∈ n.eccHard) ∧
    c (n.get 1) 1 % 2 ≠ 0 ∧ (c (n.get 1) 4 % 4 = 0 ∧ 65536 < c (n.get 1) 4 + 1) ∧
    (c (h.get 0) 0 % 4 = 0 ∧ c (h.get 0) 0 + 4 ≤ 65536 ∧ ∃ i, i < 4 ∧ c (h.get 0) 0 + i ∈ h.eccHard) :=
  ⟨nibReady_of_ready _ (by decide), nibReady_of_ready _ (by decide), by decide⟩

theorem witness_NibControlFlow :
    let n : NibSlot := { runs.set 1 5 with pc := 0xFFF4 }
    let f : LoopFrame := ⟨0, 2, 0, 8, 0, 1⟩
    let nest : NibSlot := { runs with loops := [f, f, f, f] }
    (slot3 n).nibReady 3 ∧ (slot3 nest).nibReady 3 ∧
    n.pred 0 = true ∧ n.pred 1 ≠ true ∧
    ((65532 : Nat) : Int) = n.pc.toNat + 4 * (2 : BitVec 22).toInt ∧ 65532 < 65536 ∧
    (65536 : Int) ≤ n.pc.toNat + 4 * (3 : BitVec 22).toInt ∧ (runs.pc.toNat + 4 * (-1 : BitVec 22).toInt : Int) < 0 ∧
    (n.get 0).toNat % 4 = 0 ∧ (n.get 0).toNat < 65536 ∧ (n.get 1).toNat % 4 ≠ 0 ∧
    (n.loops.length < 4 ∧ n.pc.toNat + 4 + 4 * (2 : BitVec 12).toNat ≤ 65536 ∧ n.get 2 = 0 ∧ n.get 1 ≠ 0) ∧
    (n.loops.all (fun f => decide (f.stages = 0)) = true ∧ n.sbndCount (n.pc.toNat + 4) 2 = (0 : BitVec 2).toNat) ∧
    4 ≤ nest.loops.length :=
  ⟨nibReady_of_ready _ (by decide), nibReady_of_ready _ (by decide), by decide⟩

theorem witness_NibSystemAndWaits :
    let h : NibSlot := { runs with state := .inHandler }
    let w (v : NibWait) : State := slot3 { runs with state := .waiting, wait := some v }
    let t : NibWait := ⟨.time 0 0, 1, 0, false⟩
    let u : NibWait := ⟨.time 2 5, 0, 0, false⟩
    (slot3 runs).nibReady 3 ∧ (slot3 h).nibReady 3 ∧ h.state = .inHandler ∧ runs.state ≠ .inHandler ∧
    5 < (6 : BitVec 5).toNat ∧ (2 : BitVec 5) ≠ 1 ∧ (0 < (30 : BitVec 5).toNat ∧ (30 : BitVec 5).toNat < 31) ∧
    ((2 : BitVec 5).toNat < 3 ∧ (2 : BitVec 5) ≠ 1) ∧ ((clocked (slot3 runs)).running .mach = true) ∧
    (((w t).nib 3).state = .waiting ∧ ((w t).nib 3).wait = some t ∧ (w t).arrived 3 t false = true) ∧
    ((w u).arrived 3 u false = false ∧ u.left = 0) ∧
    (let v := { u with left := 1 }
     ((w v).nib 3).wait = some v ∧ (w v).arrived 3 v false = false ∧ 0 < v.left ∧ v.left ≠ 0xFFFFFFFF) ∧
    ((w { t with left := 0 }).arrived 3 { t with left := 0 } false = true) :=
  ⟨nibReady_of_ready _ (by decide), nibReady_of_ready _ (by decide), by decide +kernel⟩

theorem witness_NibUnitsRingsAndBarriers :
    let bound (b : Binding) (n : NibSlot) : NibSlot := { n with bindings := [(1023, b)] }
    let n := bound (.unit 9 135 false) (runs.set 1 65532)
    let ring (s : State) : State := s.setFld (Reg.HOSTQ.RRING_STATE 3071) Fld.HOSTQ.RRING_STATE.state 1
    let p : Binding := .resultRing 3071 false
    let k : Binding := .unit 18 1 true
    let msg : NibSlot := { runs with dmem := [(0, 248)], bindings := [(1023, k)] }
    let up := (slot3 msg).setFld (Reg.CASC.LINK_STATE 1) Fld.CASC.LINK_STATE.state 2
    (slot3 n).nibReady 3 ∧ (slot3 (bound p runs)).nibReady 3 ∧ (slot3 msg).nibReady 3 ∧
    (n.bound 1023 = some (.unit 9 135 false) ∧ (Binding.unit 9 135 false).isUnitItem = true ∧ n.stageWrite 7 = false) ∧
    ((Binding.unit 9 135 false).window.isSome = true ∧ unitScope 9 135 = some ⟨.win, 7⟩ ∧ (0 : Nat) < 1 ∧
      n.rangeTrap (n.get 1).toNat (n.get 2).toNat 4 = none ∧ n.eccSoft = []) ∧
    ((bound p runs).bound 1023 = some p ∧ runs.rangeTrap 0 32 32 = none ∧
      (ring (slot3 (bound p runs))).rringRuns 3071 = true ∧ (ring (slot3 (bound p runs))).rringFull 3071 = false ∧
      State.reset.rringRuns 3071 = false) ∧
    (bound (.resultRing 0 true) runs).bound 1023 = some (.resultRing 0 true) ∧
    (msg.bound 1023 = some k ∧ msg.rangeTrap 0 8 8 = none ∧ msg.rangeTrap 8 248 8 = none ∧
      msg.loadLe 0 2 = 248 ∧ up.linkUp 1 = true ∧ (up.cascade 1).msgs.length < 8) ∧
    (let b := slot3 (bound (.barrier 1) runs)
     (bound (.barrier 1) runs).bound 1023 = some (.barrier 1) ∧ 1 ≤ (b.barrierWaiters 3 1023).length + 1) ∧
    (let b := slot3 (bound (.barrier 2) runs)
     (b.barrierWaiters 3 1023).length + 1 < 2) :=
  ⟨nibReady_of_ready _ (by decide), nibReady_of_ready _ (by decide), nibReady_of_ready _ (by decide), by decide +kernel⟩

theorem witness_NibExceptionEntry :
    let n : NibSlot := { runs with handler := some 65532 }
    (((slot3 n).nib 3).state ≠ .inHandler ∧ ((slot3 n).nib 3).handler = some 65532) ∧
    ((slot3 { n with state := .inHandler }).nib 3).state = .inHandler ∧ ((slot3 runs).nib 3).handler = none := by decide

theorem witness_NibRegisterFile : keysRise (runs.set 31 1).regs = true ∧ 16 ≤ (30 : BitVec 5).toNat ∧ (30 : BitVec 5).toNat < 31 ∧
    (31 : BitVec 5) ≠ 0 ∧ (16 : BitVec 5) ≠ 31 := by decide

theorem witness_NibFrame : (4 : Nat) ≠ (3 : Fin 12).val ∧ Reg.NIB.PROG_ICNT_LO 4 ≠ Reg.NIB.PROG_ICNT_LO (3 : Fin 12).val ∧
    Reg.NIB.PROG_ICNT_LO 4 ≠ Reg.NIB.PROG_ICNT_HI (3 : Fin 12).val := by decide

theorem witness_ProgramStart : (0 : Nat) < 8 ∧ progDataLen runs.image ≤ 0 ∧
    (let l : List Byte := List.replicate 2000 255
     0 < progDataLen l ∧ 0 < progCodeLen l / 4) := by decide +kernel

theorem witness_LaneBringUp :
    let st := Reg.FLANE.LANE_STATE 7 4
    let s (v : Nat) : State := put st Fld.FLANE.LANE_STATE.far_index 4 (put st Fld.FLANE.LANE_STATE.state v)
    let lane : Lane := .field 7 4
    (s 3).laneState lane = 3 ∧
    ((put st Fld.FLANE.LANE_STATE.lock 1 (s 4)).fld st Fld.FLANE.LANE_STATE.lock ≠ 0 ∧ (s 4).laneState lane ≠ 7) ∧
    (s 7).laneState lane = 7 ∧ (s 0).laneState lane = 0 ∧
    (put (Reg.FLANE.PORT_STATE 7) Fld.FLANE.PORT_STATE.state 1).portState 7 ≠ 0 ∧
    (put st Fld.FLANE.LANE_STATE.los 0).flag st Fld.FLANE.LANE_STATE.los = false ∧
    (s 1).laneState lane = 1 ∧ (s 2).laneState lane = 2 ∧ (s 4).laneState lane = 4 ∧ ((s 4).port 7).next = none ∧
    (let c := Reg.CASC.LANE_STATE 1 1
     let t := put c Fld.CASC.LANE_STATE.far_index 1 (put c Fld.CASC.LANE_STATE.state 4)
     t.laneState (.casc 1 1) = 4 ∧ t.fld c Fld.CASC.LANE_STATE.far_index ≠ 7) ∧
    ((170 : Nat) < 171 ∧ (s 4).fld st Fld.FLANE.LANE_STATE.far_index ≠ 7) ∧
    (let h := Reg.FLANE.LANE_ADAPT 7 4
     State.reset.flag h Fld.FLANE.LANE_ADAPT.hold = false ∧
     (put h Fld.FLANE.LANE_ADAPT.hold 1).flag (lane.reg Reg.FLANE.LANE_ADAPT) Fld.FLANE.LANE_ADAPT.hold = true) ∧
    (let t := put (Reg.FLANE.DFE_TAPS_A 7 4) Fld.FLANE.DFE_TAPS_A.taps1_4 (64 * 128 ^ 3)
     t.fld (lane.reg Reg.FLANE.DFE_TAPS_A) Fld.FLANE.DFE_TAPS_A.taps1_4 / 128 ^ 3 % 128 = 64) := by decide +kernel

theorem witness_PortAndLinkRetraining :
    let s (v : Nat) : State := put (Reg.FLANE.PORT_STATE 7) Fld.FLANE.PORT_STATE.state v
    let k (v : Nat) : State := put (Reg.CASC.LINK_STATE 1) Fld.CASC.LINK_STATE.state v
    (s 0).portState 7 = 0 ∧ (s 1).portState 7 ≠ 0 ∧ (k 0).linkState 1 = 0 ∧
    ((k 1).linkState 1 ≠ 0 ∧ (k 1).linkUp 1 = false) ∧ ((k 2).linkState 1 ≠ 0 ∧ (k 2).linkUp 1 = true) ∧
    (let t := [0, 1, 2, 3].foldl (fun u l => put (Reg.FLANE.LANE_STATE 7 l) Fld.FLANE.LANE_STATE.state 5 u) (s 3)
     t.portState 7 = 3 ∧
     4 ≤ ((List.range 5).filter (fun i => decide (t.fld (Reg.FLANE.LANE_STATE 7 i) Fld.FLANE.LANE_STATE.state = 5))).length ∧
     4 ≤ ((List.range 5).filter (fun l => (t.port 7).txOk.getD l true)).length) := by decide +kernel

theorem witness_LaneTests :
    let lane : Lane := .field 0 3
    let s := on [4]
    let r := s.setScope lane.testScope .run
    let stt := lane.reg Reg.FLANE.TEST_STATE
    (put (lane.reg Reg.FLANE.TEST_INJ) Fld.FLANE.TEST_INJ.rate_en 1).flag (lane.reg Reg.FLANE.TEST_INJ) Fld.FLANE.TEST_INJ.rate_en = true ∧
    (s.blockOn lane.testScope.kind.block = true ∧ s.testOn lane = false ∧ s.testable lane = true) ∧
    (put (Reg.FLANE.PORT_STATE 0) Fld.FLANE.PORT_STATE.state 2 s).testable lane = false ∧
    (r.testOn lane = true ∧ (put (lane.reg Reg.FLANE.TEST_CFG) Fld.FLANE.TEST_CFG.chk_en 1 r).flag (lane.reg Reg.FLANE.TEST_CFG)
      Fld.FLANE.TEST_CFG.chk_en = true) ∧
    (put stt Fld.FLANE.TEST_STATE.chk_lock 1 r).fld stt Fld.FLANE.TEST_STATE.chk_lock ≠ 0 := by decide +kernel

theorem witness_CascadeFrames :
    let st := Reg.CASC.LANE_STATE 1 1
    let s := put st Fld.CASC.LANE_STATE.far_index 0 <| put st Fld.CASC.LANE_STATE.lock 1 (put (Reg.CASC.LINK_STATE 1) Fld.CASC.LINK_STATE.state 2)
    let line := lineOf 0 3 9 []
    s.fld ((Lane.casc 1 1).reg Reg.FLANE.LANE_STATE) Fld.FLANE.LANE_STATE.lock ≠ 0 ∧ s.linkUp 1 = true ∧
    s.flag st Fld.FLANE.LANE_STATE.inverted = false ∧ line.length = 2160 ∧
    (let d := decodeFrame false 9 (s.fld st Fld.FLANE.LANE_STATE.far_index) line
     d.2.2 = true ∧ headerParity d.1 = true ∧ headerType d.1 = 3 ∧ headerType (headerWord 2 9 false false) = 2 ∧
     headerType (headerWord 1 9 false false) = 1) ∧
    State.reset.fld st Fld.FLANE.LANE_STATE.lock = 0 ∧ State.reset.linkUp 1 = false := by decide +kernel
theorem witness_FieldFrames :
    let st := Reg.FLANE.LANE_STATE 7 4
    let s := put st Fld.FLANE.LANE_STATE.far_index 4 (put st Fld.FLANE.LANE_STATE.lock 1 (put st Fld.FLANE.LANE_STATE.state 4))
    let lane : Lane := .field 7 4
    State.reset.fld (lane.reg Reg.FLANE.LANE_STATE) Fld.FLANE.LANE_STATE.lock = 0 ∧
    (s.fld (lane.reg Reg.FLANE.LANE_STATE) Fld.FLANE.LANE_STATE.lock ≠ 0 ∧ s.laneState lane ≠ 7) ∧
    (0 : BitVec 16) ≠ syncWord ∧
    (let z := List.replicate 2160 false
     (decodeFrame false 0 0 z).2.2 = false) ∧
    (∀ e ∈ [(1, ([] : List Byte)), (2, [8, 0])],
      let line := lineOf (s.farIndex 7 4) e.1 127 e.2
      let d := decodeFrame false 127 (s.farIndex 7 4) line
      line.length = 2160 ∧ d.2.2 = true ∧ headerParity d.1 = true ∧ headerType d.1 = e.1 ∧
        ¬ 128 ≤ (headerSeq d.1 + 256 - 0) % 256 ∧ beAt d.2.1 0 1 = beAt e.2 0 1 ∧ beAt d.2.1 1 1 = beAt e.2 1 1) ∧
    (headerType (headerWord 0 0 false false) = 0 ∧ headerType (headerWord 3 0 false false) = 3 ∧
      headerType (headerWord 4 0 false false) = 4 ∧ (beAt [3, 1] 1 1).testBit 0 = true) ∧
    128 ≤ (headerSeq (headerWord 1 128 false false) + 256 - 0) % 256 ∧
    headerParity (headerWord 1 0 false false - 1) = false := by decide +kernel

theorem witness_FieldMessages :
    let head (type flags seq ack : Nat) (body : List Byte) : List Byte :=
      beBytes 1 type ++ beBytes 1 flags ++ beBytes 2 body.length ++ beBytes 2 seq ++ beBytes 2 ack ++ body
    ((0 : Nat) = 0 ∧ 8 < 9 ∧ (9 : Nat) < 256 ∧ (32767 : Nat) < 32768 ∧ (List.replicate 244 (0 : Byte)).length ≤ 244) ∧
    crc32c (head 8 0 32767 0 (List.replicate 8 1)) ≠ 0 ∧
    (headBodyOk 8 8 = true ∧ headBodyOk 8 9 = false ∧ headBodyOk 2 32 = true ∧ headBodyOk 6 8 = true) ∧
    (0 = (State.reset.link 7).rxNext ∧ 32767 ≠ (State.reset.link 7).rxNext) := by decide +kernel

theorem witness_RoundTripDelay :
    let k : Link := { Link.fresh with t1 := some 1000, t4 := some 5000, turn := some 100 }
    let s (k : Link) : State := { State.reset with links := [(7, k)] }
    let far : Link := { k with history := [99999], rejects := 15 }
    let v := (s far).setReg (Reg.FLINK.DELAY 7) 99999
    (((s k).link 7).t1 = some 1000 ∧ ((s k).link 7).t4 = some 5000 ∧ ((s k).link 7).turn = some 100 ∧
      ((s k).link 7).history = []) ∧
    ((v.link 7).history ≠ [] ∧ 393216 < 100 * ((1950 : Int) - v.delay 7).natAbs ∧ 16 ≤ (v.link 7).rejects + 1) ∧
    (({ far with rejects := 14 } : Link).rejects + 1 < 16) ∧
    100 * ((3932 : Int) - (State.reset).delay 7).natAbs ≤ 393216 ∧ 393216 < 100 * ((3933 : Int) - State.reset.delay 7).natAbs := by
  decide +kernel

theorem witness_HeadLedger :
    let b : List Byte := List.replicate 32 1
    let e : LedgerEntry := ⟨beAt b 0 8, [0, 5, 16843009, 4294967295], [0, 0, 0, 0], [], [], []⟩
    let s : State := { State.reset with
      links := [(7, { Link.fresh with uid := some (beAt b 0 8) })],
      retained := { State.reset.retained with ledger := [e] } }
    (s.link 7).uid = some (beAt b 0 8) ∧ s.ledgerGet (beAt b 0 8) = some e ∧ e.counters.length = 4 := by decide +kernel

theorem witness_HeadCommands :
    let up := put (Reg.FLANE.PORT_STATE 7) Fld.FLANE.PORT_STATE.state 2
    let s (k : Link) : State := { up with links := [(7, k)] }
    let m : SentMsg := ⟨0, 4, [], 7⟩
    (up.portUp 7 = true ∧ (up.link 7).known = false) ∧
    (((s { Link.fresh with cmd := some (3, 0) }).link 7).cmd = some (3, 0) ∧ (∀ m ∈ (Link.fresh).unacked, m.type ≠ 3)) ∧
    (Link.fresh.cmd = none ∧ ({ Link.fresh with cmd := some (3, 1) } : Link).cmd = some (3, 1)) ∧
    ((s { Link.fresh with ackDue := true }).link 7).ackDue = true ∧
    (((s { Link.fresh with unacked := [m] }).link 7).unacked = m :: [] ∧ m.resends < 8 ∧ 8 ≤ ({ m with resends := 8 } : SentMsg).resends) ∧
    (put (Reg.FLINK.LINK_CFG 7) Fld.FLINK.LINK_CFG.standby_en 1).flag (Reg.FLINK.LINK_CFG 7) Fld.FLINK.LINK_CFG.standby_en = true ∧
    State.reset.flag (Reg.FLINK.LINK_CFG 7) Fld.FLINK.LINK_CFG.standby_en = false ∧
    (let t := { put (Reg.FLANE.PORT_STATE 0) Fld.FLANE.PORT_STATE.state 2 with
       links := [(0, { Link.fresh with takenBy := some 7, started := true })] }
     let q := t.fld (Reg.FLINK.LINK_CFG 7) Fld.FLINK.LINK_CFG.standby_for
     (t.link q).takenBy = some (7 : Fin 8).val ∧ (t.link q).started = true ∧ t.portUp q = true) ∧
    (State.reset.link 0).started = false := by decide +kernel

/-- Measuring a synthesiser leaves its state. -/
theorem pll_measurePll (s : State) (y : Nat) : (s.measurePll y).pll y = s.pll y := by
  have h1 : Reg.CLK.PLL_STATE y ≠ Reg.CLK.PLL_PHERR y := by simp only [Reg.CLK.PLL_STATE, Reg.CLK.PLL_PHERR]; omega
  have h2 : Reg.CLK.PLL_STATE y ≠ Reg.CLK.PLL_MEAS y := by simp only [Reg.CLK.PLL_STATE, Reg.CLK.PLL_MEAS]; omega
  simp only [State.measurePll, State.pll, State.fld, State.reg_setFld_other h1, State.reg_setFld_other h2, State.reg_draw]

/-- A state with synthesiser y in state v. -/
def pllIn (y v : Nat) : State := put (Reg.CLK.PLL_STATE y) Fld.CLK.PLL_STATE.state v (on [6])

theorem witness_ClockCommands_relock : (pllIn 0 3).refPresent 0 = true ∧ ((pllIn 0 3).measurePll 0).pll 0 = 3 ∧
    (pllIn 1 1).refPresent 1 = true ∧ ((pllIn 1 1).measurePll 1).pll 1 = 1 :=
  ⟨by decide +kernel, by rw [pll_measurePll]; decide +kernel, by decide +kernel, by rw [pll_measurePll]; decide +kernel⟩

theorem witness_ClockCommands :
    (let t := put (Reg.CLK.BAND 2 63) Fld.CLK.BAND.fmin 9600 (put (Reg.CLK.BAND 2 63) Fld.CLK.BAND.fmax 9600 (on [6]))
     2 ≤ (2 : Fin 4).val ∧ t.pll 2 = 0 ∧ t.blockOn 6 = true ∧ t.pfdOk 2 0 = true ∧ t.findBand 2 0 = some 63) ∧
    (let t := put (Reg.CLK.PLL_CFG 3) Fld.CLK.PLL_CFG.rdiv 255 (on [6])
     t.pll 3 = 0 ∧ t.blockOn 6 = true ∧ t.pfdOk 3 0 = false) ∧
    (pllIn 2 3).pll 2 ≠ 0 ∧ (pllIn 2 3).pll 2 ≠ 4 ∧ State.reset.blockOn 6 = false ∧
    (let t := put (Reg.CLK.PLL_STATE 0) Fld.CLK.PLL_STATE.twin_locked 1 (pllIn 0 3)
     t.pll 0 = 3 ∧ t.flag (Reg.CLK.PLL_STATE 0) Fld.CLK.PLL_STATE.twin_locked = true) ∧
    (let t := put (Reg.CLK.PLL_STATE 0) Fld.CLK.PLL_STATE.ref_in_use 1 (pllIn 0 3)
     let sel := t.fld (Reg.CLK.PLL_CFG 0) Fld.CLK.PLL_CFG.ref_sel
     t.pll 0 ≠ 0 ∧ t.fld (Reg.CLK.PLL_STATE 0) Fld.CLK.PLL_STATE.ref_in_use ≠ sel ∧ sel = 0 ∧ t.clk.refclkLost = false) ∧
    (let t := put (Reg.CLK.PLL_CFG 0) Fld.CLK.PLL_CFG.ref_sel 2 (pllIn 0 3)
     t.pairOut 0 6 = 6 ∧ outUsed 0 6 = true ∧ t.live (outScope 0 6) = false ∧ t.pll 0 ≠ 0 ∧
       t.fld (Reg.CLK.PLL_CFG 0) Fld.CLK.PLL_CFG.ref_sel = 2) ∧
    (State.reset.pairOut 3 1 = 1 ∧ outUsed 3 1 = true ∧ ¬ ((3 : Fin 4).val = 2 ∧ (1 : Fin 8).val = 0)) ∧
    (let t := put (Reg.CLK.OUT_STATE 3 1) Fld.CLK.OUT_STATE.running 1 (put (Reg.CLK.OUT_DELAY 3 1) Fld.CLK.OUT_DELAY.delay 5)
     let u := put (Reg.CLK.OUT_CFG 3 1) Fld.CLK.OUT_CFG.div 5
       { t with staged := [(Reg.CLK.OUT_DELAY 3 1, some 0)] }
     u.pairOut 3 1 = 1 ∧ u.outRuns 3 1 = true ∧ u.fld (Reg.CLK.OUT_CFG 3 1) Fld.CLK.OUT_CFG.div + 1 < 7 ∧
       u.stagedFld (Reg.CLK.OUT_DELAY 3 1) Fld.CLK.OUT_DELAY.delay < u.fld (Reg.CLK.OUT_DELAY 3 1) Fld.CLK.OUT_DELAY.delay) ∧
    (¬ State.reset.outRuns 3 1 = true) ∧
    ((pllIn 0 3).clk.refclkLost = false ∧ (pllIn 0 3).pll 0 ≠ 0 ∧
      (pllIn 0 3).fld (Reg.CLK.PLL_CFG 0) Fld.CLK.PLL_CFG.ref_sel = 0) ∧
    ((pllIn 1 3).clk.mclkLost = false ∧ (pllIn 1 3).pll 1 ≠ 0) ∧
    (pllIn 3 2).pll 3 = 2 ∧ (pllIn 1 4).pll 1 = 4 ∧ (pllIn 1 5).pll 1 = 5 := by decide +kernel
theorem witness_TimeBaseCommands :
    let c := clocked State.reset
    let edge (lo : Word) : State := { c with staged := [(Reg.TIME.TB_W_INCR_LO, some lo)] }
    let incr (t : State) : Nat := (t.stagedReg Reg.TIME.TB_W_INCR_LO).toNat + 2 ^ 32 * (t.stagedReg Reg.TIME.TB_W_INCR_HI).toNat
    (c.running .ref = true ∧ c.running .samp = true ∧ State.reset.running .ref = false) ∧
    incrOk (incr (edge 42949672)) = true ∧ incrOk (incr (edge 42949673)) = false ∧
    (let t : State := { c with tim := { c.tim with turnLoad := some 7 } }
     t.tim.turnLoad = some 7 ∧ t.running .mach = true) ∧
    (let f (b : BitVec 16) (y : BitVec 4) : State := put Reg.TIME.TBM_CFG Fld.TIME.TBM_CFG.fid_sel 8
       { clocked (on [7]) with time := { State.reset.time with bucket := b, cycle := y } }
     let fb := (f 0 0).fld Reg.TIME.TBM_HARM Fld.TIME.TBM_HARM.fid_bucket
     ((8 : BitVec 5) ≠ 0 ∧ (f 0 0).fld Reg.TIME.TBM_CFG Fld.TIME.TBM_CFG.fid_sel = (8 : BitVec 5).toNat ∧
       (f 0 0).running .mach = true ∧ (f 0 0).blockOn 7 = true) ∧
     ((f 0 0).time.bucket.toNat = fb ∧ (f 0 0).time.cycle = 0) ∧ ¬ ((f 0 1).time.bucket.toNat = fb ∧ (f 0 1).time.cycle = 0) ∧
     (let s := f 0 1
      ((s.count Reg.TIME.TBM_SLIP_CNT 1).blkEvent 7 10 Ev.TIME.TBM_SLIP 0).flag Reg.TIME.TBM_CFG Fld.TIME.TBM_CFG.fid_realign = false) ∧
     (let s := put Reg.TIME.TBM_CFG Fld.TIME.TBM_CFG.fid_realign 1 (f 0 1)
      ((s.count Reg.TIME.TBM_SLIP_CNT 1).blkEvent 7 10 Ev.TIME.TBM_SLIP 0).flag Reg.TIME.TBM_CFG Fld.TIME.TBM_CFG.fid_realign = true)) ∧
    State.reset.fld Reg.TIME.TBM_CFG Fld.TIME.TBM_CFG.fid_sel ≠ (1 : BitVec 5).toNat := by decide +kernel

theorem witness_TdcCommands :
    let s := clocked (on [7])
    let e := s.setScope ⟨.tdc, 7⟩ .run
    let arm := s.setScope ⟨.ival, 3⟩ .run
    let gate := s.setScope ⟨.regr, 3⟩ .run
    s.blockOn 7 = true ∧ State.reset.blockOn 7 = false ∧ 8 ≤ (8 : Fin 20).val ∧ (7 : Fin 20).val < 8 ∧
    (e.tdcStamped 7 false 0 0 0).1 = true ∧
    (arm.hiddenScope ⟨.ival, 3⟩ = .run ∧ (put (Reg.TIME.IVAL_CFG 3) Fld.TIME.IVAL_CFG.timeout 1 arm).fld (Reg.TIME.IVAL_CFG 3)
      Fld.TIME.IVAL_CFG.timeout ≠ 0) ∧
    State.reset.fld (Reg.TIME.IVAL_CFG 3) Fld.TIME.IVAL_CFG.timeout = 0 ∧
    s.hiddenScope ⟨.regr, 3⟩ ≠ .run ∧ gate.hiddenScope ⟨.regr, 3⟩ = .run ∧ (3 : Fin 4) ≠ 0 ∧
    (let p : State := put Reg.TIME.PPS_CFG Fld.TIME.PPS_CFG.in_en 1 { s with tim := { s.tim with ppsLast := some 0 } }
     let q (n : Nat) : State := { p with time := { p.time with tick := n } }
     p.flag Reg.TIME.PPS_CFG Fld.TIME.PPS_CFG.in_en = true ∧ p.running .ref = true ∧ p.blockOn 7 = true ∧
       p.tim.ppsLast = some 0 ∧ (q 9999999).time.tick < 0 + 10000000 ∧ 0 + 10000000 ≤ (q 10000000).time.tick) ∧
    (let p : State := put Reg.TIME.PPS_CFG Fld.TIME.PPS_CFG.out_en 1 (put Reg.TIME.TIME_STATE Fld.TIME.TIME_STATE.tbw_set 1
       { s with tim := { s.tim with ppsCross := true } })
     p.tim.ppsCross = true ∧ p.tim.ppsOut = false ∧ p.flag Reg.TIME.PPS_CFG Fld.TIME.PPS_CFG.out_en = true ∧
       p.flag Reg.TIME.TIME_STATE Fld.TIME.TIME_STATE.tbw_set = true ∧ p.blockOn 7 = true) ∧
    ({ s with tim := { s.tim with ppsOut := true } } : State).tim.ppsOut = true := by decide +kernel

theorem witness_NetworkPort :
    let s := put Reg.NET.NET_STATE Fld.NET.NET_STATE.link_up 1 (clocked (on [23]))
    let plain : List Byte := List.replicate 6 255 ++ List.replicate 58 0
    let ptp : List Byte := List.replicate 6 255 ++ List.replicate 6 0 ++ [0x88, 0xF7, 3, 2] ++ List.replicate 44 0
    let e : CommandEntry := List.replicate 8 0 ++ leBytes 4 60 ++ List.replicate 20 0
    let ring := s.fld Reg.NET.NET_CFG Fld.NET.NET_CFG.tx_ring
    let t : State := put (cring ring).stateReg Fld.HOSTQ.CRING_STATE.state 1 (put (cring ring).cfg Fld.HOSTQ.CRING_CFG.type 3
      { s with rings := { s.rings with command := [(ring, [e])] } })
    let busy : State := { s with tim := { s.tim with netRx := some ⟨[], 0, 0⟩, netTx := some ⟨[], 0, 0⟩ } }
    s.netUp = true ∧ State.reset.netUp = false ∧ s.netAddressed (List.replicate 14 1) = false ∧ s.netAddressed plain = true ∧
    ptpEvent plain = none ∧ (ptpEvent ptp).isSome = true ∧ s.netAddressed ptp = true ∧ s.tim.netRx = none ∧
    busy.tim.netRx.isSome = true ∧
    (t.crEntries ring = e :: [] ∧ t.netUp = true ∧ t.ringState (cring ring) = 1 ∧ t.ringType (cring ring) = 3 ∧
      ptpEvent (bytesAt plain 0 (leAt e 8 4)) = none ∧ (ptpEvent (bytesAt ptp 0 (leAt e 8 4))).isSome = true) ∧
    s.flag Reg.NET.NET_STATE Fld.NET.NET_STATE.link_up = true ∧
    ((clocked (on [23])).blockOn 23 = true ∧ (clocked (on [23])).running .net = true ∧
      (clocked (on [23])).flag Reg.NET.NET_STATE Fld.NET.NET_STATE.link_up = false) := by decide +kernel

end Sys2Proof.Tests
end

/-! PROOF. Bit fields of a word: what a field reads after it, or another field, was replaced. -/

namespace Sys2Proof.Machine

/-- The bits of a field, by its ends and by its width. -/
theorem lt_fieldWidth_iff (f : Bits) (h : f.lo ≤ f.hi) (i : Nat) :
    (f.lo ≤ i ∧ i - f.lo < fieldWidth f) ↔ (f.lo ≤ i ∧ i ≤ f.hi) := by
  rw [fieldWidth]
  omega

theorem getLsbD_fieldMask (f : Bits) (h : f.lo ≤ f.hi) {i : Nat} (hi : i < 32) :
    (BitVec.ofNat 32 (fieldMask f)).getLsbD i = decide (f.lo ≤ i ∧ i ≤ f.hi) := by
  rw [BitVec.getLsbD_ofNat, fieldMask, Nat.testBit_mul_two_pow, Nat.testBit_two_pow_sub_one, ← Bool.decide_and,
    decide_eq_true hi, Bool.true_and, decide_eq_decide]
  exact lt_fieldWidth_iff f h i

/-- The bits of a word with one field replaced: the field's from the value, the others from the word. -/
theorem getLsbD_putField (f : Bits) (h : f.lo ≤ f.hi) (v : Nat) (w : Word) {i : Nat} (hi : i < 32) :
    (putField f v w).getLsbD i = if f.lo ≤ i ∧ i ≤ f.hi then v.testBit (i - f.lo) else w.getLsbD i := by
  rw [putField, BitVec.getLsbD_or, BitVec.getLsbD_and, BitVec.getLsbD_not, getLsbD_fieldMask f h hi, BitVec.getLsbD_ofNat,
    Nat.testBit_mul_two_pow, Nat.testBit_mod_two_pow, ← Bool.and_assoc (decide (f.lo ≤ i)), ← Bool.decide_and]
  simp only [lt_fieldWidth_iff f h i]
  by_cases hin : f.lo ≤ i ∧ i ≤ f.hi
  · simp [hi, hin]
  · simp [hi, hin]

theorem testBit_getField (f : Bits) (w : Word) (i : Nat) :
    (getField f w).testBit i = (decide (i < fieldWidth f) && w.getLsbD (f.lo + i)) := by
  rw [getField, Nat.testBit_mod_two_pow, Nat.testBit_div_two_pow, BitVec.testBit_toNat, Nat.add_comm]

/-- A field just replaced holds the value, modulo the field's size. -/
theorem getField_putField_same (f : Bits) (h : f.lo ≤ f.hi) (hf : f.hi < 32) (v : Nat) (w : Word) :
    getField f (putField f v w) = v % 2 ^ fieldWidth f := by
  apply Nat.eq_of_testBit_eq
  intro i
  rw [testBit_getField, Nat.testBit_mod_two_pow]
  by_cases hi : i < fieldWidth f
  · have hr : f.lo + i ≤ f.hi := by rw [fieldWidth] at hi; omega
    rw [getLsbD_putField f h v w (by omega), if_pos ⟨by omega, hr⟩, Nat.add_sub_cancel_left]
  · simp [hi]

/-- A field is not changed by the replacement of one that lies below it. -/
theorem getField_putField_below (f g : Bits) (h : f.lo ≤ f.hi) (hfg : f.hi < g.lo) (hg : g.hi < 32) (v : Nat) (w : Word) :
    getField g (putField f v w) = getField g w := by
  apply Nat.eq_of_testBit_eq
  intro i
  rw [testBit_getField, testBit_getField]
  by_cases hi : i < fieldWidth g
  · have hr : g.lo + i ≤ g.hi := by rw [fieldWidth] at hi; omega
    rw [getLsbD_putField f h v w (by omega), if_neg (by omega)]
  · simp [hi]

/-! ### The SEQ field of a status register -/

/-- SEQ is the highest byte of its register (R50). -/
theorem getField_seqBits (w : Word) : getField seqBits w = w.toNat / 2 ^ 24 := by
  have hw := w.isLt
  simp only [getField, seqBits, fieldWidth]
  omega

theorem getField_seqBits_putField (v : Nat) (w : Word) : getField seqBits (putField seqBits v w) = v % 256 :=
  getField_putField_same seqBits (by decide) (by decide) v w

/-- A bit below SEQ is not changed by a new SEQ. -/
theorem getLsbD_putField_seqBits (v : Nat) (w : Word) {i : Nat} (hi : i < 24) :
    (putField seqBits v w).getLsbD i = w.getLsbD i := by
  rw [getLsbD_putField seqBits (by decide) v w (by omega), if_neg (by simp only [seqBits]; omega)]

theorem getLsbD_belowSeq (i : Nat) : (0x00FFFFFF : Word).getLsbD i = decide (i < 24) := by
  rw [show (0x00FFFFFF : Word) = BitVec.ofNat 32 (2 ^ 24 - 1) from rfl, BitVec.getLsbD_ofNat, Nat.testBit_two_pow_sub_one,
    ← Bool.decide_and, decide_eq_decide]
  omega

/-- A status clear changes a bit only where it is written as 1 and lies below SEQ (R60). -/
theorem getLsbD_clearBits (w v : Word) {i : Nat} (hi : i < 32) :
    (w &&& ~~~ (v &&& 0x00FFFFFF)).getLsbD i = (w.getLsbD i && !(v.getLsbD i && decide (i < 24))) := by
  rw [BitVec.getLsbD_and, BitVec.getLsbD_not, BitVec.getLsbD_and, getLsbD_belowSeq, decide_eq_true hi, Bool.true_and]

/-- A status clear leaves SEQ (R60). -/
theorem getField_seqBits_clearBits (w v : Word) : getField seqBits (w &&& ~~~ (v &&& 0x00FFFFFF)) = getField seqBits w := by
  apply Nat.eq_of_testBit_eq
  intro i
  rw [testBit_getField, testBit_getField]
  by_cases hi : i < fieldWidth seqBits
  · have hr : seqBits.lo + i < 32 := by simp only [seqBits, fieldWidth] at hi ⊢; omega
    have hseq : ¬ seqBits.lo + i < 24 := by simp only [seqBits]; omega
    rw [getLsbD_clearBits w v hr, decide_eq_false hseq, Bool.and_false, Bool.not_false, Bool.and_true]
  · simp [hi]

end Sys2Proof.Machine

/-! PROOF. The rules of status registers and counters (R40, R50, R60): what each operation leaves in the register it is for. -/

namespace Sys2Proof.Machine

variable {s : State}

/-! ### Status registers -/

/-- A status register once hardware has set a bit: the bit, and the next SEQ (R50). -/
theorem State.reg_setSta_same (g : Registers.wf s.regs = true) (a : Nat) (f : Bits) :
    (s.setSta a f).reg a = putField seqBits (getField seqBits (putField f 1 (s.reg a)) + 1) (putField f 1 (s.reg a)) :=
  State.reg_setReg_same g a _

/-- Below SEQ, hardware sets the one bit and leaves the others (R50). -/
theorem State.getLsbD_setSta (g : Registers.wf s.regs = true) (a : Nat) {n i : Nat} (hi : i < 24) :
    ((s.setSta a ⟨n, n⟩).reg a).getLsbD i = if i = n then true else (s.reg a).getLsbD i := by
  rw [State.reg_setSta_same g, getLsbD_putField_seqBits _ _ hi, getLsbD_putField ⟨n, n⟩ (Nat.le_refl n) 1 _ (by omega)]
  by_cases h : i = n
  · simp [h]
  · rw [if_neg (by simp only; omega), if_neg h]

/-- SEQ advances by 1 modulo 256 when hardware sets a bit (R50). -/
theorem State.seq_setSta (g : Registers.wf s.regs = true) (a : Nat) {n : Nat} (hn : n < 24) :
    getField seqBits ((s.setSta a ⟨n, n⟩).reg a) = (getField seqBits (s.reg a) + 1) % 256 := by
  rw [State.reg_setSta_same g, getField_seqBits_putField,
    getField_putField_below ⟨n, n⟩ seqBits (Nat.le_refl n) hn (by decide)]

/-- A software clear that carries the current SEQ (R60). -/
theorem State.clearSta_current {a cnt : Nat} {v : Word} (h : getField seqBits v = getField seqBits (s.reg a)) :
    s.clearSta a cnt v = s.setReg a (s.reg a &&& ~~~ (v &&& 0x00FFFFFF)) := if_pos h

/-- A software clear that carries another SEQ (R60). -/
theorem State.clearSta_stale {a cnt : Nat} {v : Word} (h : getField seqBits v ≠ getField seqBits (s.reg a)) :
    s.clearSta a cnt v = s.count cnt 1 := if_neg h

/-- A write to a register with STA fields is a clear by the sequence rule, which completes (R60). -/
theorem State.writeFields_sta (req : Requester) (a : Nat) {r : RegRef} (v : Word) (h : hasClass .sta r.row = true) :
    s.writeFields req a r v = (.ok, s.clearSta a (Reg.HDR.STALE_CLEAR_CNT r.block) v) := if_pos h

/-! ### Counters -/

/-- A 32-bit counter stops at 0xFFFF_FFFF (R40). -/
theorem State.reg_count_same (g : Registers.wf s.regs = true) (a n : Nat) :
    ((s.count a n).reg a).toNat = min ((s.reg a).toNat + n) 0xFFFFFFFF := by
  rw [State.count, State.reg_setReg_same g, BitVec.toNat_ofNat]
  omega

theorem State.reg_count64_other {lo hi b : Nat} (hlo : b ≠ lo) (hhi : b ≠ hi) (n : Nat) :
    (s.count64 lo hi n).reg b = s.reg b := by
  rw [State.count64, State.setReg64, State.reg_setReg_other hhi, State.reg_setReg_other hlo]

/-- A register pair holds what it was set to, modulo 2^64. -/
theorem State.reg64_setReg64 (g : Registers.wf s.regs = true) {lo hi : Nat} (h : lo ≠ hi) (v : Nat) :
    (s.setReg64 lo hi v).reg64 lo hi = v % 2 ^ 64 := by
  have glo : Registers.wf (s.setReg lo (BitVec.ofNat 32 v)).regs = true := Registers.wf_put lo _ g
  rw [State.reg64, State.setReg64, State.reg_setReg_same glo, State.reg_setReg_other h, State.reg_setReg_same g,
    BitVec.toNat_ofNat, BitVec.toNat_ofNat]
  omega

/-- The two halves of every 64-bit counter kept per unit are consecutive registers, low half first (R40). -/
theorem unitCounterPairs_consecutive (i : Nat) :
    Reg.NIB.PROG_ICNT_HI i = Reg.NIB.PROG_ICNT_LO i + 4 ∧ Reg.BLOT.PL_HITS_HI i = Reg.BLOT.PL_HITS_LO i + 4 ∧
    Reg.DMA.DMA_BYTES_HI i = Reg.DMA.DMA_BYTES_LO i + 4 ∧ Reg.STOR.DRV_WRITTEN_HI i = Reg.STOR.DRV_WRITTEN_LO i + 4 ∧
    Reg.XFORM.XF_FRAMES_HI i = Reg.XFORM.XF_FRAMES_LO i + 4 ∧ Reg.BRUSH.CORE_ICNT_HI i = Reg.BRUSH.CORE_ICNT_LO i + 4 := by
  simp only [Reg.NIB.PROG_ICNT_HI, Reg.NIB.PROG_ICNT_LO, Reg.BLOT.PL_HITS_HI, Reg.BLOT.PL_HITS_LO, Reg.DMA.DMA_BYTES_HI,
    Reg.DMA.DMA_BYTES_LO, Reg.STOR.DRV_WRITTEN_HI, Reg.STOR.DRV_WRITTEN_LO, Reg.XFORM.XF_FRAMES_HI, Reg.XFORM.XF_FRAMES_LO,
    Reg.BRUSH.CORE_ICNT_HI, Reg.BRUSH.CORE_ICNT_LO]
  omega

/-- The same of the counters of a lane under test, of port p and lane l. -/
theorem laneCounterPairs_consecutive (p l : Nat) :
    Reg.FLANE.TEST_BITS_HI p l = Reg.FLANE.TEST_BITS_LO p l + 4 ∧ Reg.FLANE.TEST_ERR_HI p l = Reg.FLANE.TEST_ERR_LO p l + 4 := by
  simp only [Reg.FLANE.TEST_BITS_HI, Reg.FLANE.TEST_BITS_LO, Reg.FLANE.TEST_ERR_HI, Reg.FLANE.TEST_ERR_LO]
  omega

end Sys2Proof.Machine

/-! PROOF. The obligations on status bits and counters (R40, R50, R60). -/

section

open Sys2Proof Sys2Proof.Machine

/-- Settles O7: the bits of the register follow from those of `putField`, SEQ from its place above them; a write is then
judged by whether it carries the current SEQ. -/
theorem statusBits : Obligations.StatusBits := by
  unfold Obligations.StatusBits
  simp only [← getField_seqBits]
  refine ⟨fun s a n good hn => ?hardwareSet, fun s a v req r good hsta hcnt => ?softwareClear⟩
  case hardwareSet =>
    have g := good.registers
    refine ⟨?_, fun i hi hne => ?_, State.seq_setSta g a hn, fun b hb => State.reg_setSta_other hb _, s.setSta_ink a _,
      s.setSta_out a _⟩
    · rw [State.getLsbD_setSta g a hn, if_pos rfl]
    · rw [State.getLsbD_setSta g a hi, if_neg hne]
  case softwareClear =>
    have g := good.registers
    rw [State.writeFields_sta req a v hsta]
    refine ⟨rfl, fun hseq => ?current, fun hseq => ?stale⟩
    case current =>
      rw [State.clearSta_current hseq, State.reg_setReg_same g]
      refine ⟨fun i hi => ?_, getField_seqBits_clearBits _ v, fun b hb => State.reg_setReg_other hb _⟩
      rw [getLsbD_clearBits _ v (by omega), decide_eq_true hi, Bool.and_true]
    case stale =>
      rw [State.clearSta_stale hseq]
      exact ⟨State.reg_count_other hcnt.symm 1, State.reg_count_same g _ 1, fun b _ hb => State.reg_count_other hb 1⟩

/-- Settles O8, from what a counter reads after it is raised: `reg_count_same` for 32 bits, `reg64_setReg64` for a pair. -/
theorem counterRule : Obligations.CounterRule := by
  unfold Obligations.CounterRule
  intro s a lo hi n good hne
  exact ⟨State.reg_count_same good.registers a n, fun b hb => State.reg_count_other hb n,
    State.reg64_setReg64 good.registers hne _, fun b hlo hhi => State.reg_count64_other hlo hhi n, rfl,
    unitCounterPairs_consecutive, laneCounterPairs_consecutive, rfl⟩

end

/-! PROOF. More laws of sparse maps: what a write at consecutive keys and a table written key by key read as. -/

namespace Sys2Proof.Machine

variable {α : Type} [DecidableEq α] {d : Nat → α}

/-- A write keeps the keys rising. -/
theorem keysRise_put {k : Nat} {v : α} {m : List (Nat × α)} (hm : keysRise m = true) : keysRise (sparsePut d k v m) = true := by
  cases m with
  | nil => rw [sparsePut]; split <;> rfl
  | cons e t =>
    obtain ⟨k', v'⟩ := e
    rw [keysRise] at hm
    rw [sparsePut]
    split
    case isTrue hlt => split <;> simp [keysRise, keysAbove, hm, hlt]
    case isFalse hge =>
      split
      case isTrue heq =>
        subst heq
        split
        · exact keysRise_of_above hm
        · exact hm
      case isFalse hne => exact keysAbove_put (by omega) hm

/-- After a write of consecutive values from key k on, key k + i reads as the value at place i, or as before past the last. -/
theorem sparseGet_putN {l : List α} {k i : Nat} {m : List (Nat × α)} (hm : keysRise m = true) :
    sparseGet d (sparsePutN d m k l) (k + i) = l.getD i (sparseGet d m (k + i)) := by
  induction l generalizing k i m with
  | nil => rfl
  | cons v t ih =>
    rw [sparsePutN]
    cases i with
    | zero => rw [sparseGet_putN_other (.inl (by omega)), Nat.add_zero, sparseGet_put_same hm, List.getD_cons_zero]
    | succ i =>
      rw [show k + (i + 1) = k + 1 + i by omega, ih (keysRise_put hm), sparseGet_put_other (by omega), List.getD_cons_succ]

/-- A table of n entries, written key by key in rising order. -/
theorem keysRise_foldl_put (f : Nat → α) (n : Nat) :
    keysRise ((List.range n).foldl (fun m i => sparsePut d i (f i) m) []) = true := by
  induction n with
  | zero => rfl
  | succ n ih => rw [List.range_succ, List.foldl_concat]; exact keysRise_put ih

theorem sparseGet_foldl_put (f : Nat → α) {n i : Nat} (h : i < n) :
    sparseGet d ((List.range n).foldl (fun m i => sparsePut d i (f i) m) []) i = f i := by
  induction n with
  | zero => omega
  | succ n ih =>
    rw [List.range_succ, List.foldl_concat]
    by_cases hi : i = n
    · rw [hi, sparseGet_put_same (keysRise_foldl_put f n)]
    · rw [sparseGet_put_other hi, ih (by omega)]

/-- A byte of a slice of a list of bytes; bytes past the end of either are 0. -/
theorem getD_bytesAt (l : List Byte) (a n i : Nat) : (bytesAt l a n).getD i 0 = if i < n then l.getD (a + i) 0 else 0 := by
  rw [bytesAt]
  simp only [List.getD_eq_getElem?_getD, List.getElem?_append, List.length_take, List.length_drop, List.getElem?_take,
    List.getElem?_drop, List.getElem?_replicate]
  by_cases hn : i < n
  · by_cases hl : a + i < l.length
    · rw [if_pos (by omega), if_pos hn, if_pos hn]
    · rw [if_neg (by omega), if_pos (by omega), if_pos hn, List.getElem?_eq_none (by omega)]
      rfl
  · rw [if_neg (by omega), if_neg (by omega), if_neg hn]
    rfl

end Sys2Proof.Machine

/-! PROOF. The Nib's register file (R81, R82): what a register or a predicate reads after a write or a rotation. -/

namespace Sys2Proof.Machine

variable (n : NibSlot)

/-! ### The physical register behind a name -/

theorem NibSlot.phys_fixed {k : Nat} (h : k < 16) : n.phys k = k := if_pos h

theorem NibSlot.phys_rotating {k : Nat} (h : 16 ≤ k) : n.phys k = 16 + (k - 16 + n.rrb.toNat) % 16 := if_neg (by omega)

/-- Two names reach different physical registers. -/
theorem NibSlot.phys_injective {j k : BitVec 5} (h : n.phys j.toNat = n.phys k.toNat) : j = k := by
  have hj := j.isLt
  have hk := k.isLt
  apply BitVec.eq_of_toNat_eq
  simp only [NibSlot.phys] at h
  split at h <;> split at h <;> omega

/-- Once RRB has fallen by 1, the next name reaches the register (R82). -/
theorem NibSlot.phys_succ_rotated {m : NibSlot} (hm : m.rrb = n.rrb - 1) {k : Nat} (h : 16 ≤ k) :
    m.phys (k + 1) = n.phys k := by
  rw [m.phys_rotating (by omega), n.phys_rotating h, hm]
  bv_omega

/-- Once RRB has fallen by 1, n16 reaches what n31 reached (R82). -/
theorem NibSlot.phys_wrap_rotated {m : NibSlot} (hm : m.rrb = n.rrb - 1) : m.phys 16 = n.phys 31 := by
  rw [m.phys_rotating (by omega), n.phys_rotating (by omega), hm]
  bv_omega

/-! ### Registers -/

@[simp] theorem NibSlot.get_zero : n.get 0 = 0 := rfl

@[simp] theorem NibSlot.set_zero (v : Word) : n.set 0 v = n := rfl

variable {n} {j k : BitVec 5}

theorem NibSlot.get_of_ne_zero (h : k ≠ 0) : n.get k = sparseGet (fun _ => 0) n.regs (n.phys k.toNat) := if_neg h

theorem NibSlot.set_of_ne_zero (h : k ≠ 0) (v : Word) :
    n.set k v = { n with regs := sparsePut (fun _ => 0) (n.phys k.toNat) v n.regs } := if_neg h

theorem NibSlot.set_regs (h : k ≠ 0) (v : Word) : (n.set k v).regs = sparsePut (fun _ => 0) (n.phys k.toNat) v n.regs := by
  rw [NibSlot.set_of_ne_zero h]

@[simp] theorem NibSlot.set_rrb (k : BitVec 5) (v : Word) : (n.set k v).rrb = n.rrb := by
  by_cases h : k = 0
  · rw [h, NibSlot.set_zero]
  · rw [NibSlot.set_of_ne_zero h]

@[simp] theorem NibSlot.set_phys (k : BitVec 5) (v : Word) (i : Nat) : (n.set k v).phys i = n.phys i := by
  rw [NibSlot.phys, NibSlot.phys, NibSlot.set_rrb]

theorem NibSlot.set_keysRise (g : keysRise n.regs = true) (k : BitVec 5) (v : Word) : keysRise (n.set k v).regs = true := by
  by_cases h : k = 0
  · rwa [h, NibSlot.set_zero]
  · rw [NibSlot.set_regs h]
    exact keysRise_put g

/-- A value written to nk reads under every name that then reaches the same physical register. -/
theorem NibSlot.get_of_phys_eq (g : keysRise n.regs = true) {m : NibSlot} (v : Word) (hregs : m.regs = (n.set k v).regs)
    (hj : j ≠ 0) (hk : k ≠ 0) (hphys : m.phys j.toNat = n.phys k.toNat) : m.get j = v := by
  rw [NibSlot.get_of_ne_zero hj, hregs, NibSlot.set_regs hk, hphys, sparseGet_put_same g]

theorem NibSlot.get_set_same (g : keysRise n.regs = true) (h : k ≠ 0) (v : Word) : (n.set k v).get k = v :=
  NibSlot.get_of_phys_eq g v rfl h h (NibSlot.set_phys ..)

theorem NibSlot.get_set_other (h : j ≠ k) (v : Word) : (n.set k v).get j = n.get j := by
  by_cases hk : k = 0
  · rw [hk, NibSlot.set_zero]
  by_cases hj : j = 0
  · rw [hj, NibSlot.get_zero, NibSlot.get_zero]
  rw [NibSlot.get_of_ne_zero hj, NibSlot.get_of_ne_zero hj, NibSlot.set_phys, NibSlot.set_regs hk,
    sparseGet_put_other fun hp => h (n.phys_injective hp)]

/-! ### Predicates -/

@[simp] theorem NibSlot.pred_zero : n.pred 0 = true := rfl

@[simp] theorem NibSlot.setPred_zero (b : Bool) : n.setPred 0 b = n := rfl

theorem NibSlot.pred_pos {i : Nat} (h : 0 < i) : n.pred i = n.preds.getLsbD i := by
  rw [NibSlot.pred, decide_eq_false (by omega), Bool.false_or]

end Sys2Proof.Machine

/-! PROOF. A program at its start (R80): its instruction and data memory, its registers and its predicates. -/

namespace Sys2Proof.Machine

variable (n : NibSlot)

theorem sparseGet_progWords (l : List Byte) {i : Nat} (h : i < progCodeLen l / 4) :
    sparseGet (fun _ => 0) (progWords l) i = BitVec.ofNat 32 (leAt l (progCodeAt l + 4 * i) 4) :=
  sparseGet_foldl_put (fun i => BitVec.ofNat 32 (leAt l (progCodeAt l + 4 * i) 4)) h

/-- A byte of data memory at the start: the data of the image, and 0 past its length. -/
theorem NibSlot.start_dmem (i : Nat) : sparseGet (fun _ => 0) n.start.dmem i =
    if i < progDataLen n.image then n.image.getD (progDataAt n.image + i) 0 else 0 := by
  have hput := sparseGet_putN (d := fun _ => (0 : Byte)) (l := progData n.image) (k := 0) (i := i) (m := []) rfl
  rw [Nat.zero_add] at hput
  exact hput.trans (getD_bytesAt n.image _ _ i)

theorem NibSlot.start_get (k : BitVec 5) : n.start.get k = 0 := by
  by_cases h : k = 0
  · rw [h, NibSlot.get_zero]
  · exact NibSlot.get_of_ne_zero h

theorem NibSlot.start_pred {i : Nat} (h : 0 < i) : n.start.pred i = false := by
  rw [NibSlot.pred_pos h]
  have hpreds : n.start.preds = 1#8 := rfl
  rw [hpreds, BitVec.getLsbD_one, decide_eq_false (by omega : ¬ i = 0), Bool.and_false]

end Sys2Proof.Machine

/-! PROOF. The obligations on the Nib's register file and on the start of a program (R80, R82). -/

section

open Sys2Proof Sys2Proof.Machine

/-- Settles O19: two names never reach one physical register (`phys_injective`), and a rotation moves each name to the register
of the one before it (`phys_succ_rotated`, `phys_wrap_rotated`). -/
theorem nibRegisterFile : Obligations.NibRegisterFile := by
  unfold Obligations.NibRegisterFile
  intro n k j v g
  have hne {k : BitVec 5} (h : 16 ≤ k.toNat) : k ≠ 0 := by rintro rfl; exact absurd h (by decide)
  refine ⟨fun h => ?get, fun h => ?set, NibSlot.set_keysRise g k v, n.get_zero, n.set_zero v, NibSlot.pred_zero,
    NibSlot.setPred_zero, fun h => NibSlot.get_set_same g h v, fun h => NibSlot.get_set_other h v,
    fun hlo hhi => ?next, ?wrap⟩
  case get => rw [NibSlot.get_of_ne_zero (hne h), n.phys_rotating h]
  case set => rw [NibSlot.set_regs (hne h), n.phys_rotating h]
  case next =>
    have hk : (k + 1).toNat = k.toNat + 1 := by bv_omega
    refine NibSlot.get_of_phys_eq g v rfl (hne (by omega)) (hne hlo) ?_
    rw [hk]
    exact n.phys_succ_rotated rfl hlo
  case wrap => exact NibSlot.get_of_phys_eq g v rfl (by decide) (by decide) (n.phys_wrap_rotated rfl)

/-- Settles O60: the memories from what the writes of code and data leave at each address, the registers and predicates from
their start values. -/
theorem programStart : Obligations.ProgramStart := by
  unfold Obligations.ProgramStart
  intro n
  exact ⟨fun i hi => sparseGet_progWords n.image hi, fun i hi => (n.start_dmem i).trans (if_pos hi),
    fun i hi => (n.start_dmem i).trans (if_neg (by omega)), n.start_get, NibSlot.pred_zero, fun k hk _ => n.start_pred hk,
    rfl, rfl, rfl⟩

end

/-! PROOF. What every command and every step keeps (R558): the queue, the ticks, what went out, and the good form. -/

namespace Sys2Proof.Machine

/-- Each command answers a next state that keeps the queue, the ticks, what went out and the canonical forms. -/
theorem exec_keeps (c : Instr) (s : State) : KeepsOn s (exec c s) := by
  cases c with
  | registerWrite req addr data => exact execRegisterWrite_keeps req addr data s
  | staClear req addr data => exact execStaClear_keeps req addr data s
  | counterLowRead req addr => exact execCounterLowRead_keeps req addr s
  | xdomTimeout req addr write => exact execXdomTimeout_keeps req addr write s
  | blockEnable block => exact execBlockEnable_keeps block s
  | blockDisable block => exact execBlockDisable_keeps block s
  | blockDrainEnd block => exact execBlockDrainEnd_keeps block s
  | unitDrainEnd scope => exact execUnitDrainEnd_keeps scope s
  | crcCommit block => exact execCrcCommit_keeps block s
  | rescrubGo block => exact execRescrubGo_keeps block s
  | rescrub block => exact execRescrub_keeps block s
  | compareHoldExpiry block => exact execCompareHoldExpiry_keeps block s
  | driftRepair block => exact execDriftRepair_keeps block s
  | evtRouteCommit => exact execEvtRouteCommit_keeps s
  | progLoad ring data signatureOk => exact execProgLoad_keeps ring data signatureOk s
  | progUnload ring data => exact execProgUnload_keeps ring data s
  | progStop slot => exact execProgStop_keeps slot s
  | progRestart slot => exact execProgRestart_keeps slot s
  | nibAdd slot rd ra rb => exact execNibAdd_keeps slot rd ra rb s
  | nibSub slot rd ra rb => exact execNibSub_keeps slot rd ra rb s
  | nibAnd slot rd ra rb => exact execNibAnd_keeps slot rd ra rb s
  | nibOr slot rd ra rb => exact execNibOr_keeps slot rd ra rb s
  | nibXor slot rd ra rb => exact execNibXor_keeps slot rd ra rb s
  | nibSll slot rd ra rb => exact execNibSll_keeps slot rd ra rb s
  | nibSrl slot rd ra rb => exact execNibSrl_keeps slot rd ra rb s
  | nibSra slot rd ra rb => exact execNibSra_keeps slot rd ra rb s
  | nibMul slot rd ra rb => exact execNibMul_keeps slot rd ra rb s
  | nibMulh slot rd ra rb => exact execNibMulh_keeps slot rd ra rb s
  | nibMulhu slot rd ra rb => exact execNibMulhu_keeps slot rd ra rb s
  | nibMin slot rd ra rb => exact execNibMin_keeps slot rd ra rb s
  | nibMax slot rd ra rb => exact execNibMax_keeps slot rd ra rb s
  | nibMinu slot rd ra rb => exact execNibMinu_keeps slot rd ra rb s
  | nibMaxu slot rd ra rb => exact execNibMaxu_keeps slot rd ra rb s
  | nibClz slot rd ra rb => exact execNibClz_keeps slot rd ra rb s
  | nibCmpeq slot rd ra rb => exact execNibCmpeq_keeps slot rd ra rb s
  | nibCmpne slot rd ra rb => exact execNibCmpne_keeps slot rd ra rb s
  | nibCmplt slot rd ra rb => exact execNibCmplt_keeps slot rd ra rb s
  | nibCmpltu slot rd ra rb => exact execNibCmpltu_keeps slot rd ra rb s
  | nibCmpge slot rd ra rb => exact execNibCmpge_keeps slot rd ra rb s
  | nibCmpgeu slot rd ra rb => exact execNibCmpgeu_keeps slot rd ra rb s
  | nibPand slot rd ra rb => exact execNibPand_keeps slot rd ra rb s
  | nibPor slot rd ra rb => exact execNibPor_keeps slot rd ra rb s
  | nibPnot slot rd ra rb => exact execNibPnot_keeps slot rd ra rb s
  | nibJr slot ra => exact execNibJr_keeps slot ra s
  | nibNop slot => exact execNibNop_keeps slot s
  | nibHalt slot => exact execNibHalt_keeps slot s
  | nibMfs slot rd ra => exact execNibMfs_keeps slot rd ra s
  | nibMts slot rd ra => exact execNibMts_keeps slot rd ra s
  | nibSbnd slot => exact execNibSbnd_keeps slot s
  | nibEret slot => exact execNibEret_keeps slot s
  | nibTread slot rd rb => exact execNibTread_keeps slot rd rb s
  | nibTwait slot rd ra rb => exact execNibTwait_keeps slot rd ra rb s
  | nibAddi slot rd ra imm => exact execNibAddi_keeps slot rd ra imm s
  | nibAndi slot rd ra imm => exact execNibAndi_keeps slot rd ra imm s
  | nibOri slot rd ra imm => exact execNibOri_keeps slot rd ra imm s
  | nibXori slot rd ra imm => exact execNibXori_keeps slot rd ra imm s
  | nibLui slot rd imm => exact execNibLui_keeps slot rd imm s
  | nibShi slot rd ra imm => exact execNibShi_keeps slot rd ra imm s
  | nibCmpeqi slot rd ra imm => exact execNibCmpeqi_keeps slot rd ra imm s
  | nibCmplti slot rd ra imm => exact execNibCmplti_keeps slot rd ra imm s
  | nibCmpltui slot rd ra imm => exact execNibCmpltui_keeps slot rd ra imm s
  | nibLw slot rd base off => exact execNibLw_keeps slot rd base off s
  | nibLh slot rd base off => exact execNibLh_keeps slot rd base off s
  | nibLhu slot rd base off => exact execNibLhu_keeps slot rd base off s
  | nibLb slot rd base off => exact execNibLb_keeps slot rd base off s
  | nibLbu slot rd base off => exact execNibLbu_keeps slot rd base off s
  | nibSw slot rd base off => exact execNibSw_keeps slot rd base off s
  | nibSh slot rd base off => exact execNibSh_keeps slot rd base off s
  | nibSb slot rd base off => exact execNibSb_keeps slot rd base off s
  | nibBr slot pred sense off => exact execNibBr_keeps slot pred sense off s
  | nibCall slot pred sense off => exact execNibCall_keeps slot pred sense off s
  | nibLoop slot count len stages => exact execNibLoop_keeps slot count len stages s
  | nibLoopm slot count len stages => exact execNibLoopm_keeps slot count len stages s
  | ucmdEnable slot handle a sp => exact execUcmdEnable_keeps slot handle a sp s
  | ucmdDisable slot handle a sp => exact execUcmdDisable_keeps slot handle a sp s
  | ucmdArm slot handle a sp => exact execUcmdArm_keeps slot handle a sp s
  | ucmdDisarm slot handle a sp => exact execUcmdDisarm_keeps slot handle a sp s
  | ucmdStart slot handle a sp => exact execUcmdStart_keeps slot handle a sp s
  | ucmdStop slot handle a sp => exact execUcmdStop_keeps slot handle a sp s
  | ucmdFlush slot handle a sp => exact execUcmdFlush_keeps slot handle a sp s
  | ucmdHoldReset slot handle a sp => exact execUcmdHoldReset_keeps slot handle a sp s
  | pop slot handle a sp => exact execPop_keeps slot handle a sp s
  | ustage slot handle a area sp => exact execUstage_keeps slot handle a area sp s
  | ucommit slot handle a sp => exact execUcommit_keeps slot handle a sp s
  | uwait slot handle a cond sp arrived => exact execUwait_keeps slot handle a cond sp arrived s
  | uread slot handle a sp => exact execUread_keeps slot handle a sp s
  | uwrite slot handle a sp => exact execUwrite_keeps slot handle a sp s
  | post slot handle a sel sp => exact execPost_keeps slot handle a sel sp s
  | postCascade slot handle a sp => exact execPostCascade_keeps slot handle a sp s
  | barrier slot handle a sp => exact execBarrier_keeps slot handle a sp s
  | waitDecision slot arrived => exact execWaitDecision_keeps slot arrived s
  | waitTimeout slot arrived => exact execWaitTimeout_keeps slot arrived s
  | sampleFrame f => exact execSampleFrame_keeps f s
  | idleFrame f => exact execIdleFrame_keeps f s
  | rttMark f => exact execRttMark_keeps f s
  | frameLock lane inverted => exact execFrameLock_keeps lane inverted s
  | lossOfLock lane framesLost => exact execLossOfLock_keeps lane framesLost s
  | losAssert p l => exact execLosAssert_keeps p l s
  | losDeassert p l => exact execLosDeassert_keeps p l s
  | optLow p l => exact execOptLow_keeps p l s
  | dfeTapStep lane up => exact execDfeTapStep_keeps lane up s
  | dfeRail lane => exact execDfeRail_keeps lane s
  | cdrLock lane => exact execCdrLock_keeps lane s
  | tapsSettled lane => exact execTapsSettled_keeps lane s
  | seqFound lane seq farIndex => exact execSeqFound_keeps lane seq farIndex s
  | laneReady lane skewSteps => exact execLaneReady_keeps lane skewSteps s
  | portRestore p => exact execPortRestore_keeps p s
  | portRetrain p => exact execPortRetrain_keeps p s
  | singleGo lane => exact execSingleGo_keeps lane s
  | burstGo lane => exact execBurstGo_keeps lane s
  | rateInject lane => exact execRateInject_keeps lane s
  | testEnable lane => exact execTestEnable_keeps lane s
  | testDisable lane => exact execTestDisable_keeps lane s
  | checkerLock lane => exact execCheckerLock_keeps lane s
  | checkerLoss lane bits errors => exact execCheckerLoss_keeps lane bits errors s
  | cascSlip k l => exact execCascSlip_keeps k l s
  | linkRetrain k => exact execLinkRetrain_keeps k s
  | trigFrame f => exact execTrigFrame_keeps f s
  | trigFrameSend k => exact execTrigFrameSend_keeps k s
  | densityFrame f => exact execDensityFrame_keeps f s
  | nibmsgFrame f => exact execNibmsgFrame_keeps f s
  | headId f => exact execHeadId_keeps f s
  | headIdTimeout p => exact execHeadIdTimeout_keeps p s
  | headLife f => exact execHeadLife_keeps f s
  | headSilent p => exact execHeadSilent_keeps p s
  | headCfg f => exact execHeadCfg_keeps f s
  | headCfgTimeout p => exact execHeadCfgTimeout_keeps p s
  | headCal f => exact execHeadCal_keeps f s
  | laneMap f => exact execLaneMap_keeps f s
  | rttReply f => exact execRttReply_keeps f s
  | rttMeasure p t1 => exact execRttMeasure_keeps p t1 s
  | rttAbandon p => exact execRttAbandon_keeps p s
  | headImageStatus f => exact execHeadImageStatus_keeps f s
  | alarm f => exact execAlarm_keeps f s
  | ack f => exact execAck_keeps f s
  | ackSend p => exact execAckSend_keeps p s
  | msgResend p => exact execMsgResend_keeps p s
  | idReqGo p => exact execIdReqGo_keeps p s
  | imageActivateGo p => exact execImageActivateGo_keeps p s
  | takeoverGo q => exact execTakeoverGo_keeps q s
  | revertGo q => exact execRevertGo_keeps q s
  | rttResetGo p => exact execRttResetGo_keeps p s
  | headImage ring data signatureOk => exact execHeadImage_keeps ring data signatureOk s
  | pllEnable y mclk => exact execPllEnable_keeps y mclk s
  | pllDisable y => exact execPllDisable_keeps y s
  | twinSwapGo => exact execTwinSwapGo_keeps s
  | refRevertGo => exact execRefRevertGo_keeps s
  | outEnable y o => exact execOutEnable_keeps y o s
  | outDisable y o => exact execOutDisable_keeps y o s
  | delayCommit y o => exact execDelayCommit_keeps y o s
  | refLoss r => exact execRefLoss_keeps r s
  | pllLock y twin => exact execPllLock_keeps y twin s
  | settleEnd y => exact execSettleEnd_keeps y s
  | pllLol y twin => exact execPllLol_keeps y twin s
  | holdoverExpiry => exact execHoldoverExpiry_keeps s
  | refReturn r => exact execRefReturn_keeps r s
  | snapGo => exact execSnapGo_keeps s
  | incrCommitGo => exact execIncrCommitGo_keeps s
  | onceGo => exact execOnceGo_keeps s
  | tbmCommitGo => exact execTbmCommitGo_keeps s
  | turnLoadApply => exact execTurnLoadApply_keeps s
  | fiducial input => exact execFiducial_keeps input s
  | tdcStamp c falling tbs coarse fine => exact execTdcStamp_keeps c falling tbs coarse fine s
  | tdcPop c => exact execTdcPop_keeps c s
  | tdcEnable c => exact execTdcEnable_keeps c s
  | tdcDisable c => exact execTdcDisable_keeps c s
  | ivalArm u => exact execIvalArm_keeps u s
  | ivalTimeout u => exact execIvalTimeout_keeps u s
  | freqStart r => exact execFreqStart_keeps r s
  | freqStop r => exact execFreqStop_keeps r s
  | gateEnd r => exact execGateEnd_keeps r s
  | ppsIn => exact execPpsIn_keeps s
  | ppsOutPulse => exact execPpsOutPulse_keeps s
  | ppsOutEnd => exact execPpsOutEnd_keeps s
  | netRxFrame frame fcsOk => exact execNetRxFrame_keeps frame fcsOk s
  | netTxFrame frame => exact execNetTxFrame_keeps frame s
  | txtsPop => exact execTxtsPop_keeps s
  | netLinkDown => exact execNetLinkDown_keeps s
  | netLinkUp => exact execNetLinkUp_keeps s
  | spkEnable p => exact execSpkEnable_keeps p s
  | spkDisable p => exact execSpkDisable_keeps p s
  | spkCommit p => exact execSpkCommit_keeps p s
  | spikeBlockEnd p o => exact execSpikeBlockEnd_keeps p o s
  | zcEnable z => exact execZcEnable_keeps z s
  | zcDisable z => exact execZcDisable_keeps z s
  | zcCommit z => exact execZcCommit_keeps z s
  | zoomBlockBoundary z => exact execZoomBlockBoundary_keeps z s
  | fadeEnd z => exact execFadeEnd_keeps z s
  | zoomOutput z => exact execZoomOutput_keeps z s
  | xfEnable u => exact execXfEnable_keeps u s
  | alignStart u => exact execAlignStart_keeps u s
  | xfDisable u => exact execXfDisable_keeps u s
  | xfCommit u => exact execXfCommit_keeps u s
  | xfHoldReset u => exact execXfHoldReset_keeps u s
  | transformFrame u => exact execTransformFrame_keeps u s
  | winEnable w => exact execWinEnable_keeps w s
  | winDisable w => exact execWinDisable_keeps w s
  | maskEnable m => exact execMaskEnable_keeps m s
  | maskDisable m => exact execMaskDisable_keeps m s
  | maskCommit m => exact execMaskCommit_keeps m s
  | mecEnable c => exact execMecEnable_keeps c s
  | mecDisable c => exact execMecDisable_keeps c s
  | mecCommit c => exact execMecCommit_keeps c s
  | mecMatch c turn tbs => exact execMecMatch_keeps c turn tbs s
  | tmrEnable t => exact execTmrEnable_keeps t s
  | tmrDisable t => exact execTmrDisable_keeps t s
  | timerFire t => exact execTimerFire_keeps t s
  | swFire => exact execSwFire_keeps s
  | trigOutEnable o => exact execTrigOutEnable_keeps o s
  | trigOutDisable o => exact execTrigOutDisable_keeps o s
  | seqEnable q => exact execSeqEnable_keeps q s
  | seqDisable q => exact execSeqDisable_keeps q s
  | seqArm q => exact execSeqArm_keeps q s
  | seqDisarm q => exact execSeqDisarm_keeps q s
  | seqCommit q => exact execSeqCommit_keeps q s
  | seqCommitApply q => exact execSeqCommitApply_keeps q s
  | arcA q => exact execArcA_keeps q s
  | arcT q => exact execArcT_keeps q s
  | tadpoleCommit q => exact execTadpoleCommit_keeps q s
  | qualLimit q => exact execQualLimit_keeps q s
  | trigOutPulseEnd o => exact execTrigOutPulseEnd_keeps o s
  | syncTrgDrive line => exact execSyncTrgDrive_keeps line s
  | syncPulse line cycle len => exact execSyncPulse_keeps line cycle len s
  | epochGo => exact execEpochGo_keeps s
  | syncPhaseMeasure tf tr => exact execSyncPhaseMeasure_keeps tf tr s
  | busPhaseLost => exact execBusPhaseLost_keeps s
  | rawCellWrite stream => exact execRawCellWrite_keeps stream s
  | recordAssembly errs => exact execRecordAssembly_keeps errs s
  | throttleDouble f => exact execThrottleDouble_keeps f s
  | throttleHalve f => exact execThrottleHalve_keeps f s
  | tplEnable t => exact execTplEnable_keeps t s
  | tplDisable t => exact execTplDisable_keeps t s
  | tplRestart t => exact execTplRestart_keeps t s
  | lbSubmit j => exact execLbSubmit_keeps j s
  | lbCancel j => exact execLbCancel_keeps j s
  | lbDone j errs => exact execLbDone_keeps j errs s
  | brNop c w => exact execBrNop_keeps c w s
  | brEnd c w => exact execBrEnd_keeps c w s
  | brBrz c w => exact execBrBrz_keeps c w s
  | brBrnz c w => exact execBrBrnz_keeps c w s
  | brBrlt c w => exact execBrBrlt_keeps c w s
  | brRep c w => exact execBrRep_keeps c w s
  | brMfs c w => exact execBrMfs_keeps c w s
  | brWaitin c w => exact execBrWaitin_keeps c w s
  | brSadd c w => exact execBrSadd_keeps c w s
  | brSaddi c w => exact execBrSaddi_keeps c w s
  | brSsub c w => exact execBrSsub_keeps c w s
  | brSmul c w => exact execBrSmul_keeps c w s
  | brSand c w => exact execBrSand_keeps c w s
  | brSor c w => exact execBrSor_keeps c w s
  | brSxor c w => exact execBrSxor_keeps c w s
  | brSsh c w => exact execBrSsh_keeps c w s
  | brSld c w => exact execBrSld_keeps c w s
  | brSst c w => exact execBrSst_keeps c w s
  | brVext c w => exact execBrVext_keeps c w s
  | brVins c w => exact execBrVins_keeps c w s
  | brVadd c w => exact execBrVadd_keeps c w s
  | brVadds c w => exact execBrVadds_keeps c w s
  | brVsub c w => exact execBrVsub_keeps c w s
  | brVsubs c w => exact execBrVsubs_keeps c w s
  | brVmul c w => exact execBrVmul_keeps c w s
  | brVmax c w => exact execBrVmax_keeps c w s
  | brVmin c w => exact execBrVmin_keeps c w s
  | brVabs c w => exact execBrVabs_keeps c w s
  | brVand c w => exact execBrVand_keeps c w s
  | brVor c w => exact execBrVor_keeps c w s
  | brVxor c w => exact execBrVxor_keeps c w s
  | brVshl c w => exact execBrVshl_keeps c w s
  | brVsra c w => exact execBrVsra_keeps c w s
  | brVspl c w => exact execBrVspl_keeps c w s
  | brVcmplt c w => exact execBrVcmplt_keeps c w s
  | brVcmpeq c w => exact execBrVcmpeq_keeps c w s
  | brVsel c w => exact execBrVsel_keeps c w s
  | brNorm c w => exact execBrNorm_keeps c w s
  | brExpx c w => exact execBrExpx_keeps c w s
  | brVshlv c w => exact execBrVshlv_keeps c w s
  | brVrot c w => exact execBrVrot_keeps c w s
  | brMsetn c w => exact execBrMsetn_keeps c w s
  | brAclr c w => exact execBrAclr_keeps c w s
  | brVmac c w => exact execBrVmac_keeps c w s
  | brVmsu c w => exact execBrVmsu_keeps c w s
  | brVdot c w => exact execBrVdot_keeps c w s
  | brAcadd c w => exact execBrAcadd_keeps c w s
  | brAcx c w => exact execBrAcx_keeps c w s
  | brAcred c w => exact execBrAcred_keeps c w s
  | brAcxf c w => exact execBrAcxf_keeps c w s
  | brAcxd c w => exact execBrAcxd_keeps c w s
  | brVcvtf c w => exact execBrVcvtf_keeps c w s
  | brVfadd c w => exact execBrVfadd_keeps c w s
  | brVfmul c w => exact execBrVfmul_keeps c w s
  | brVfmax c w => exact execBrVfmax_keeps c w s
  | brVfmin c w => exact execBrVfmin_keeps c w s
  | brVcvtq c w => exact execBrVcvtq_keeps c w s
  | brAcfadd c w => exact execBrAcfadd_keeps c w s
  | brVld c w => exact execBrVld_keeps c w s
  | brVst c w => exact execBrVst_keeps c w s
  | brVldi c w => exact execBrVldi_keeps c w s
  | brVsti c w => exact execBrVsti_keeps c w s
  | brInblk c w => exact execBrInblk_keeps c w s
  | brOute c w => exact execBrOute_keeps c w s
  | inblkDone c errs => exact execInblkDone_keeps c errs s
  | invocationStart kernel => exact execInvocationStart_keeps kernel s
  | krnTime c => exact execKrnTime_keeps c s
  | invocationCancel c => exact execInvocationCancel_keeps c s
  | kernelLoad ring data signatureOk => exact execKernelLoad_keeps ring data signatureOk s
  | plEnable k => exact execPlEnable_keeps k s
  | plDisable k => exact execPlDisable_keeps k s
  | plCommit k => exact execPlCommit_keeps k s
  | plClear k => exact execPlClear_keeps k s
  | plSnap k => exact execPlSnap_keeps k s
  | plRestart k => exact execPlRestart_keeps k s
  | snapDone k => exact execSnapDone_keeps k s
  | persistTick k => exact execPersistTick_keeps k s
  | dispCommit => exact execDispCommit_keeps s
  | layerRelease => exact execLayerRelease_keeps s
  | touchGo => exact execTouchGo_keeps s
  | dpEnable o => exact execDpEnable_keeps o s
  | dpDisable o => exact execDpDisable_keeps o s
  | replayHoldGo o => exact execReplayHoldGo_keeps o s
  | replayExitGo o => exact execReplayExitGo_keeps o s
  | dispFrameStart o errs => exact execDispFrameStart_keeps o errs s
  | dpLinkLost o hpd => exact execDpLinkLost_keeps o hpd s
  | dpLinkRetry o => exact execDpLinkRetry_keeps o s
  | dpLinkUp o replayCap => exact execDpLinkUp_keeps o replayCap s
  | inkRead src addr len errs => exact execInkRead_keeps src addr len errs s
  | inkWrite src addr data errs => exact execInkWrite_keeps src addr data errs s
  | patrolScrub errs => exact execPatrolScrub_keeps errs s
  | scrubGo => exact execScrubGo_keeps s
  | refreshDue c busy paid => exact execRefreshDue_keeps c busy paid s
  | tempStatusRead c rate => exact execTempStatusRead_keeps c rate s
  | requestPromote c k => exact execRequestPromote_keeps c k s
  | driftRead c osc away => exact execDriftRead_keeps c osc away s
  | rowRemapped c bank row => exact execRowRemapped_keeps c bank row s
  | bankSpared c bank => exact execBankSpared_keeps c bank s
  | channelFailed c => exact execChannelFailed_keeps c s
  | channelRetrained => exact execChannelRetrained_keeps s
  | inkRetrain => exact execInkRetrain_keeps s
  | xlateGo => exact execXlateGo_keeps s
  | elogPop => exact execElogPop_keeps s
  | trnRun c fail => exact execTrnRun_keeps c fail s
  | doorbell offset len data entries => exact execDoorbell_keeps offset len data entries s
  | ringEnable r => exact execRingEnable_keeps r s
  | ringDisable r => exact execRingDisable_keeps r s
  | ringResume r => exact execRingResume_keeps r s
  | ringReset r => exact execRingReset_keeps r s
  | hqCommit => exact execHqCommit_keeps s
  | winCommit => exact execWinCommit_keeps s
  | bar2Access offset len data errs => exact execBar2Access_keeps offset len data errs s
  | ctrlNop ring data => exact execCtrlNop_keeps ring data s
  | readRetry r => exact execReadRetry_keeps r s
  | coalTimer r => exact execCoalTimer_keeps r s
  | dmaBurst ch bad => exact execDmaBurst_keeps ch bad s
  | flushTimer ch => exact execFlushTimer_keeps ch s
  | freelistRetry ch => exact execFreelistRetry_keeps ch s
  | dmaEnable ch => exact execDmaEnable_keeps ch s
  | dmaDisable ch => exact execDmaDisable_keeps ch s
  | dmaPromote ch => exact execDmaPromote_keeps ch s
  | dmaResume ch => exact execDmaResume_keeps ch s
  | hostReset kind => exact execHostReset_keeps kind s
  | linkRate gen width => exact execLinkRate_keeps gen width s
  | attachGo d labels journal => exact execAttachGo_keeps d labels journal s
  | formatGo d => exact execFormatGo_keeps d s
  | measureGo d => exact execMeasureGo_keeps d s
  | retireGo d => exact execRetireGo_keeps d s
  | detachGo d => exact execDetachGo_keeps d s
  | dsEnable n => exact execDsEnable_keeps n s
  | dsDisable n => exact execDsDisable_keeps n s
  | dsRestart n => exact execDsRestart_keeps n s
  | readGo => exact execReadGo_keeps s
  | readDone data => exact execReadDone_keeps data s
  | extentWrite n bad => exact execExtentWrite_keeps n bad s
  | journalFlush d => exact execJournalFlush_keeps d s
  | journalBlockDone d => exact execJournalBlockDone_keeps d s
  | drvLost d timeout => exact execDrvLost_keeps d timeout s
  | driveLinkUp d gen width lbaSize metadata blocks => exact execDriveLinkUp_keeps d gen width lbaSize metadata blocks s
  | measureEnd d mbs => exact execMeasureEnd_keeps d mbs s
  | wearRead d used crit => exact execWearRead_keeps d used crit s
  | drvSlow d => exact execDrvSlow_keeps d s
  | calGo => exact execCalGo_keeps s
  | calCommit => exact execCalCommit_keeps s
  | calRunEnd values1 values2 held q => exact execCalRunEnd_keeps values1 values2 held q s
  | calRetry => exact execCalRetry_keeps s
  | calBackground => exact execCalBackground_keeps s
  | calRun ring data => exact execCalRun_keeps ring data s
  | handoverStart block kind inst cause => exact execHandoverStart_keeps block kind inst cause s
  | shadowCompare block gap agree => exact execShadowCompare_keeps block gap agree s
  | handoverSwitch block => exact execHandoverSwitch_keeps block s
  | unitFailure block kind inst => exact execUnitFailure_keeps block kind inst s
  | spareSelftest kind num pass => exact execSpareSelftest_keeps kind num pass s
  | spareCommit => exact execSpareCommit_keeps s
  | spareRetest ring data pass => exact execSpareRetest_keeps ring data pass s
  | paceRead margins => exact execPaceRead_keeps margins s
  | keepalive => exact execKeepalive_keeps s
  | keepaliveTimeout => exact execKeepaliveTimeout_keeps s
  | avsCommit => exact execAvsCommit_keeps s
  | liveImageUpdate => exact execLiveImageUpdate_keeps s
  | sessionCommit ring data written => exact execSessionCommit_keeps ring data written s
  | sessionClear ring data written => exact execSessionClear_keeps ring data written s
  | keyChange ring data signatureOk => exact execKeyChange_keeps ring data signatureOk s
  | fwUpdate ring data signatureOk => exact execFwUpdate_keeps ring data signatureOk s
  | fwSwitch => exact execFwSwitch_keeps s
  | fwConfirm => exact execFwConfirm_keeps s
  | serviceBundle ring data maker => exact execServiceBundle_keeps ring data maker s
  | holdGo => exact execHoldGo_keeps s
  | resumeGo => exact execResumeGo_keeps s
  | discardGo => exact execDiscardGo_keeps s
  | holdWindowEnd => exact execHoldWindowEnd_keeps s
  | stewardTakeover => exact execStewardTakeover_keeps s
  | standbyReady => exact execStandbyReady_keeps s
  | powerUp resumeInh service bad badCal => exact execPowerUp_keeps resumeInh service bad badCal s
  | perstRelease => exact execPerstRelease_keeps s
  | perstTimeout => exact execPerstTimeout_keeps s
  | vinLow vaux => exact execVinLow_keeps vaux s
  | thermWarn case_ junction optical dram => exact execThermWarn_keeps case_ junction optical dram s
  | thermalShutdown => exact execThermalShutdown_keeps s
  | railFault => exact execRailFault_keeps s
  | phaseCheck bad => exact execPhaseCheck_keeps bad s
  | smbusRegRead code => exact execSmbusRegRead_keeps code s
  | smbusIdent => exact execSmbusIdent_keeps s
  | smbusAra => exact execSmbusAra_keeps s
  | jtagBypass tdi => exact execJtagBypass_keeps tdi s
  | jtagIdcode tdi => exact execJtagIdcode_keeps tdi s
  | jtagSamplePreload pins tdi => exact execJtagSamplePreload_keeps pins tdi s
  | jtagExtest pins tdi => exact execJtagExtest_keeps pins tdi s
  | jtagClamp tdi => exact execJtagClamp_keeps tdi s
  | jtagHighz tdi => exact execJtagHighz_keeps tdi s
  | hostLinkUp gen width => exact execHostLinkUp_keeps gen width s
  | vauxWithinRange => exact execVauxWithinRange_keeps s

variable {s t : State}

/-- A change that keeps what every command keeps, on a State in good form, leaves it in good form. -/
theorem State.Good.of_keeps (g : s.Good) (k : Keeps s t) : t.Good :=
  ⟨k.registers g.registers, k.memory g.memory, by rw [State.queueWf, k.pending]; exact g.queue⟩

/-- A State in good form stays so when ticks alone pass. -/
theorem State.Good.ticked (g : s.Good) : s.ticked.Good := ⟨g.registers, g.memory, g.queue⟩

/-- Taking the front command off the queue leaves the good form. -/
theorem State.Good.tail (g : s.Good) {c : Instr} {rest : List Instr} (h : s.pending = c :: rest) :
    ({ s with pending := rest } : State).Good := by
  have hq := g.queue
  rw [State.queueWf, h, List.all_cons, Bool.and_eq_true] at hq
  exact ⟨g.registers, g.memory, hq.2⟩

end Sys2Proof.Machine

/-! PROOF. The obligations on every step and every command (O3, O4). -/

section

open Sys2Proof Sys2Proof.Machine

/-- Settles O4, command by command. -/
theorem everyCommandCompletes : Obligations.EveryCommandCompletes := by
  unfold Obligations.EveryCommandCompletes
  exact exec_keeps

/-- Settles O3: a step is an idle tick, which keeps all but the tick, or the front command run on the queue's rest. -/
theorem stepKeepsGood : Obligations.StepKeepsGood := by
  unfold Obligations.StepKeepsGood
  intro s t g hstep
  rw [step] at hstep
  split at hstep
  case h_1 =>
    cases hstep
    exact g.ticked.of_keeps (State.idle_keeps s)
  case h_2 c rest hpending =>
    obtain ⟨u, hu, k⟩ := exec_keeps c { s with pending := rest }
    cases hu.symm.trans hstep
    exact (g.tail hpending).of_keeps k

end

/-! PROOF. How a Nib instruction runs on a slot that is ready (R84, R98, R104), and what its operations on words give (R85, R86). -/

namespace Sys2Proof.Machine

variable {s : State} {k : Nat}

/-- Two meanings that answer the same next state. -/
theorem State.next_eq {t : State} (h : s = t) : (.next s : Host.Outcome State Fault Refusal) = .next t := congrArg _ h

/-! ### The instruction wrapper -/

theorem nibStep_of_done (h : s.nibReady k) {body : NibSlot → NibRes} {n : NibSlot} (hb : body (s.nib k) = .done n) :
    nibStep k body s = s.nibTakes k n := by
  obtain ⟨hissues, hsquashed⟩ := h
  simp [nibStep, hissues, hsquashed, hb, State.nibTakes]

theorem nibStep_of_trap (h : s.nibReady k) {body : NibSlot → NibRes} {e : NibExc} (hb : body (s.nib k) = .trap e) :
    nibStep k body s = s.nibExcept k e := by
  obtain ⟨hissues, hsquashed⟩ := h
  simp [nibStep, hissues, hsquashed, hb]

theorem nibStepS_of_ok (h : s.nibReady k) {body : NibSlot → State → Except NibExc State} {t : State}
    (hb : body (s.nib k) s = .ok t) : nibStepS k body s = t.retire k := by
  obtain ⟨hissues, hsquashed⟩ := h
  simp [nibStepS, hissues, hsquashed, hb]

theorem nibStepS_of_error (h : s.nibReady k) {body : NibSlot → State → Except NibExc State} {e : NibExc}
    (hb : body (s.nib k) s = .error e) : nibStepS k body s = s.nibExcept k e := by
  obtain ⟨hissues, hsquashed⟩ := h
  simp [nibStepS, hissues, hsquashed, hb]

/-- A register operation of a ready slot gives rd its value and goes on. -/
theorem nibAlu_of_value {k : Fin 12} (h : s.nibReady k) {rd ra rb : BitVec 5} {f : Word → Word → Word} {v : Word}
    (hv : f ((s.nib k).get ra) ((s.nib k).get rb) = v) : nibAlu k rd ra rb f s = s.nibTakes k ((s.nib k).set rd v).advance :=
  nibStep_of_done h (by rw [← hv]; rfl)

/-- An immediate operation of a ready slot gives rd its value and goes on. -/
theorem nibImm_of_value {k : Fin 12} (h : s.nibReady k) {rd ra : BitVec 5} {f : Word → Word} {v : Word}
    (hv : f ((s.nib k).get ra) = v) : nibImm k rd ra f s = s.nibTakes k ((s.nib k).set rd v).advance :=
  nibStep_of_done h (by rw [← hv]; rfl)

/-- A predicate result of a ready slot: ILLEGAL for a field above 7, PRED_STAGE for an active stage predicate, else the value. -/
theorem nibStep_of_predResult (h : s.nibReady k) {body : NibSlot → NibRes} {rd : BitVec 5} {v : Bool}
    (hb : body (s.nib k) = (s.nib k).predResult rd v) :
    nibStep k body s = if 8 ≤ rd.toNat then s.nibExcept k .illegal
      else if (s.nib k).stageWrite rd.toNat then s.nibExcept k .predStage
      else s.nibTakes k ((s.nib k).setPred rd.toNat v).advance := by
  rw [NibSlot.predResult] at hb
  split at hb
  case isTrue hrd => rw [if_pos hrd, nibStep_of_trap h hb]
  case isFalse hrd =>
    rw [if_neg hrd]
    split at hb
    case isTrue hstage => rw [if_pos hstage, nibStep_of_trap h hb]
    case isFalse hstage => rw [if_neg hstage, nibStep_of_done h hb]

theorem nibCmp_of_value {k : Fin 12} (h : s.nibReady k) {rd ra rb : BitVec 5} {f : Word → Word → Bool} {v : Bool}
    (hv : f ((s.nib k).get ra) ((s.nib k).get rb) = v) :
    nibCmp k rd ra rb f s = if 8 ≤ rd.toNat then s.nibExcept k .illegal
      else if (s.nib k).stageWrite rd.toNat then s.nibExcept k .predStage
      else s.nibTakes k ((s.nib k).setPred rd.toNat v).advance :=
  nibStep_of_predResult h (by rw [hv])

theorem nibCmpImm_of_value {k : Fin 12} (h : s.nibReady k) {rd ra : BitVec 5} {f : Word → Bool} {v : Bool}
    (hv : f ((s.nib k).get ra) = v) :
    nibCmpImm k rd ra f s = if 8 ≤ rd.toNat then s.nibExcept k .illegal
      else if (s.nib k).stageWrite rd.toNat then s.nibExcept k .predStage
      else s.nibTakes k ((s.nib k).setPred rd.toNat v).advance :=
  nibStep_of_predResult h (by rw [hv])

/-- A predicate operation whose fields name predicates. -/
theorem nibPredOp_of_fields {k : Fin 12} (h : s.nibReady k) {rd ra rb : BitVec 5} {two : Bool} {f : Bool → Bool → Bool}
    (ha : ra.toNat < 8) (hb : two = true → rb.toNat < 8) :
    nibPredOp k rd ra rb two f s = if 8 ≤ rd.toNat then s.nibExcept k .illegal
      else if (s.nib k).stageWrite rd.toNat then s.nibExcept k .predStage
      else s.nibTakes k ((s.nib k).setPred rd.toNat (f ((s.nib k).pred ra.toNat) ((s.nib k).pred rb.toNat))).advance := by
  refine nibStep_of_predResult h (if_neg ?_)
  cases two
  · simpa using ha
  · simpa using ⟨ha, hb rfl⟩

/-- A predicate operation with a field above 7 (R86). -/
theorem nibPredOp_illegal {k : Fin 12} (h : s.nibReady k) {rd ra rb : BitVec 5} {two : Bool} {f : Bool → Bool → Bool}
    (hf : 8 ≤ ra.toNat ∨ (two = true ∧ 8 ≤ rb.toNat)) : nibPredOp k rd ra rb two f s = s.nibExcept k .illegal :=
  nibStep_of_trap h (if_pos (by simpa using hf))

/-! ### Words -/

theorem shiftLeft_eq_ofNat (a : Word) (n : Nat) : a <<< n = BitVec.ofNat 32 (a.toNat * 2 ^ n) := by
  apply BitVec.eq_of_toNat_eq
  rw [BitVec.toNat_shiftLeft, BitVec.toNat_ofNat, Nat.shiftLeft_eq]

theorem ushiftRight_eq_ofNat (a : Word) (n : Nat) : a >>> n = BitVec.ofNat 32 (a.toNat / 2 ^ n) := by
  rw [← Nat.shiftRight_eq_div_pow, ← BitVec.toNat_ushiftRight, BitVec.ofNat_toNat, BitVec.setWidth_eq]

theorem sshiftRight_eq_ofInt (a : Word) (n : Nat) : a.sshiftRight n = BitVec.ofInt 32 (a.toInt / 2 ^ n) := by
  rw [← BitVec.ofInt_toInt (x := a.sshiftRight n), BitVec.toInt_sshiftRight, Int.shiftRight_eq_div_pow]
  norm_cast

/-- The high half of a 64-bit word is its quotient by 2^32. -/
theorem extractHigh_eq_ofInt (p : DWord) : BitVec.extractLsb' 32 32 p = BitVec.ofInt 32 (p.toInt / 2 ^ 32) := by
  have hp := p.isLt
  apply BitVec.eq_of_toNat_eq
  rw [BitVec.extractLsb'_toNat, BitVec.toNat_ofInt, Nat.shiftRight_eq_div_pow, BitVec.toInt]
  split <;> omega

theorem mulhSigned_eq (a b : Word) : mulhSigned a b = BitVec.ofInt 32 (a.toInt * b.toInt / 2 ^ 32) := by
  have ha := BitVec.toInt_signExtend_of_le (x := a) (v := 64) (by omega)
  have hb := BitVec.toInt_signExtend_of_le (x := b) (v := 64) (by omega)
  have hlo := BitVec.le_toInt_mul_toInt (x := a) (y := b)
  have hhi := BitVec.toInt_mul_toInt_le (x := a) (y := b)
  rw [mulhSigned, extractHigh_eq_ofInt, BitVec.toInt_mul, ha, hb, Int.bmod_eq_of_le (by omega) (by omega)]

theorem mulhUnsigned_eq (a b : Word) : mulhUnsigned a b = BitVec.ofNat 32 (a.toNat * b.toNat / 2 ^ 32) := by
  have ha := a.isLt
  have hb := b.isLt
  have hp : a.toNat * b.toNat < 2 ^ 64 := by nlinarith
  apply BitVec.eq_of_toNat_eq
  rw [mulhUnsigned, BitVec.extractLsb'_toNat, Nat.shiftRight_eq_div_pow, BitVec.toNat_mul,
    BitVec.toNat_setWidth_of_le (by omega), BitVec.toNat_setWidth_of_le (by omega), Nat.mod_eq_of_lt hp, BitVec.toNat_ofNat]

/-- A word whose bits from m on are 0 and whose bit below is set, if there is one, has n - m leading zeros of its low n bits. -/
theorem leadingZeros_of_top (w : Word) {m : Nat} (hlt : w.toNat < 2 ^ m) (htop : m = 0 ∨ 2 ^ (m - 1) ≤ w.toNat) (d : Nat) :
    leadingZeros w (m + d) = d := by
  induction d with
  | zero =>
    cases m with
    | zero => rfl
    | succ m =>
      have hbit : w.getLsbD m = true := by
        rw [BitVec.getLsbD, Nat.testBit_eq_decide_div_mod_eq, decide_eq_true_iff]
        have h1 : 2 ^ m ≤ w.toNat := by simpa using htop
        rw [pow_succ] at hlt
        rw [Nat.div_eq_of_lt_le (k := 1) (by omega) (by omega)]
      rw [Nat.add_zero, leadingZeros, if_pos hbit]
  | succ d ih =>
    have hbit : w.getLsbD (m + d) = false :=
      Nat.testBit_lt_two_pow (lt_of_lt_of_le hlt (Nat.pow_le_pow_right (by omega) (by omega)))
    rw [← Nat.add_assoc, leadingZeros, hbit, ih]
    rfl

theorem ite_lt_eq_min (a b : Word) : (if a < b then a else b) = BitVec.ofNat 32 (min a.toNat b.toNat) := by
  split
  case isTrue h => rw [Nat.min_eq_left (Nat.le_of_lt h), BitVec.ofNat_toNat, BitVec.setWidth_eq]
  case isFalse h => rw [Nat.min_eq_right (Nat.le_of_not_lt h), BitVec.ofNat_toNat, BitVec.setWidth_eq]

theorem ite_lt_eq_max (a b : Word) : (if a < b then b else a) = BitVec.ofNat 32 (max a.toNat b.toNat) := by
  split
  case isTrue h => rw [Nat.max_eq_right (Nat.le_of_lt h), BitVec.ofNat_toNat, BitVec.setWidth_eq]
  case isFalse h => rw [Nat.max_eq_left (Nat.le_of_not_lt h), BitVec.ofNat_toNat, BitVec.setWidth_eq]

theorem ite_slt_eq_min (a b : Word) : (if a.slt b then a else b) = BitVec.ofInt 32 (min a.toInt b.toInt) := by
  rw [BitVec.slt]
  split
  case isTrue h => rw [Int.min_eq_left (Int.le_of_lt (of_decide_eq_true h)), BitVec.ofInt_toInt]
  case isFalse h => rw [Int.min_eq_right (Int.not_lt.mp (of_decide_eq_false (by simpa using h))), BitVec.ofInt_toInt]

theorem ite_slt_eq_max (a b : Word) : (if a.slt b then b else a) = BitVec.ofInt 32 (max a.toInt b.toInt) := by
  rw [BitVec.slt]
  split
  case isTrue h => rw [Int.max_eq_right (Int.le_of_lt (of_decide_eq_true h)), BitVec.ofInt_toInt]
  case isFalse h => rw [Int.max_eq_left (Int.not_lt.mp (of_decide_eq_false (by simpa using h))), BitVec.ofInt_toInt]

/-! ### Immediates -/

theorem add_signExtend_eq (a : Word) (imm : BitVec 16) : a + imm.signExtend 32 = BitVec.ofInt 32 (a.toInt + imm.toInt) := by
  rw [BitVec.ofInt_add, BitVec.ofInt_toInt, BitVec.signExtend]

theorem setWidth_eq_ofNat (imm : BitVec 16) : imm.setWidth 32 = BitVec.ofNat 32 imm.toNat :=
  (BitVec.ofNat_toNat 32 imm).symm

theorem lui_eq_ofNat (imm : BitVec 16) : imm.setWidth 32 <<< 16 = BitVec.ofNat 32 (imm.toNat * 65536) := by
  rw [shiftLeft_eq_ofNat, BitVec.toNat_setWidth_of_le (by omega), show 2 ^ 16 = 65536 from rfl]

theorem eq_signExtend_iff (a : Word) (imm : BitVec 16) : a = imm.signExtend 32 ↔ a.toInt = imm.toInt := by
  rw [← BitVec.toInt_inj, BitVec.toInt_signExtend_of_le (by omega)]

theorem slt_signExtend_iff (a : Word) (imm : BitVec 16) : a.slt (imm.signExtend 32) = true ↔ a.toInt < imm.toInt := by
  rw [BitVec.slt, decide_eq_true_iff, BitVec.toInt_signExtend_of_le (by omega)]

theorem lt_setWidth_iff (a : Word) (imm : BitVec 16) : a < imm.setWidth 32 ↔ a.toNat < imm.toNat := by
  rw [BitVec.lt_def, BitVec.toNat_setWidth_of_le (by omega)]

/-- SHI of kind 0 shifts left (R85). -/
theorem shiftImm_left {imm : BitVec 16} (h : imm.toNat < 32) (a : Word) :
    shiftImm imm a = some (BitVec.ofNat 32 (a.toNat * 2 ^ (imm.toNat % 32))) := by
  rw [shiftImm, if_neg (by omega), show imm.toNat / 32 % 4 = 0 by omega, ← shiftLeft_eq_ofNat]
  rfl

/-- SHI of kind 1 shifts right, filling with 0 (R85). -/
theorem shiftImm_right {imm : BitVec 16} (hlo : 32 ≤ imm.toNat) (hhi : imm.toNat < 64) (a : Word) :
    shiftImm imm a = some (BitVec.ofNat 32 (a.toNat / 2 ^ (imm.toNat % 32))) := by
  rw [shiftImm, if_neg (by omega), show imm.toNat / 32 % 4 = 1 by omega, ← ushiftRight_eq_ofNat]
  rfl

/-- SHI of kind 2 shifts right, filling with the sign (R85). -/
theorem shiftImm_arithmetic {imm : BitVec 16} (hlo : 64 ≤ imm.toNat) (hhi : imm.toNat < 96) (a : Word) :
    shiftImm imm a = some (BitVec.ofInt 32 (a.toInt / 2 ^ (imm.toNat % 32))) := by
  rw [shiftImm, if_neg (by omega), show imm.toNat / 32 % 4 = 2 by omega, ← sshiftRight_eq_ofInt]
  rfl

/-- SHI with kind 3 or a bit above the kind set is undefined (R85). -/
theorem shiftImm_undefined {imm : BitVec 16} (h : 96 ≤ imm.toNat) (a : Word) : shiftImm imm a = none := by
  rw [shiftImm]
  by_cases hhigh : imm.toNat / 128 ≠ 0
  · rw [if_pos hhigh]
  · rw [if_neg hhigh, show imm.toNat / 32 % 4 = 3 by omega]
    rfl

/-- SHI of a defined kind on a ready slot. -/
theorem execNibShi_of_value {k : Fin 12} (h : s.nibReady k) {rd ra : BitVec 5} {imm : BitVec 16} {v : Word}
    (hv : shiftImm imm ((s.nib k).get ra) = some v) :
    execNibShi k rd ra imm s = .next (s.nibTakes k ((s.nib k).set rd v).advance) :=
  State.next_eq (nibStep_of_done h (by rw [hv]; rfl))

end Sys2Proof.Machine

/-! PROOF. The obligations on the Nib's register, predicate and immediate operations (R84 to R86). -/

section

open Sys2Proof Sys2Proof.Machine

/-- Settles O12: each operation runs by `nibAlu_of_value`, and its result on words is the table's. -/
theorem nibAluResults : Obligations.NibAluResults := by
  unfold Obligations.NibAluResults
  intro k rd ra rb s h
  have gives {f : Word → Word → Word} {v : Word} (hv : f ((s.nib k).get ra) ((s.nib k).get rb) = v) :=
    State.next_eq (nibAlu_of_value h (rd := rd) hv)
  refine ⟨gives ?add, gives ?sub, gives rfl, gives rfl, gives rfl, gives (shiftLeft_eq_ofNat _ _),
    gives (ushiftRight_eq_ofNat _ _), gives (sshiftRight_eq_ofInt _ _), gives ?mul, gives (mulhSigned_eq _ _),
    gives (mulhUnsigned_eq _ _), gives (ite_slt_eq_min _ _), gives (ite_slt_eq_max _ _), gives (ite_lt_eq_min _ _),
    gives (ite_lt_eq_max _ _), fun z hz hlt htop => gives ?clz⟩
  case add => rw [BitVec.ofNat_add, BitVec.ofNat_toNat, BitVec.ofNat_toNat, BitVec.setWidth_eq, BitVec.setWidth_eq]
  case sub => rw [Int.sub_eq_add_neg, BitVec.ofInt_add, BitVec.ofInt_neg, BitVec.ofInt_toInt, BitVec.ofInt_toInt, BitVec.sub_eq_add_neg]
  case mul => rw [BitVec.ofNat_mul, BitVec.ofNat_toNat, BitVec.ofNat_toNat, BitVec.setWidth_eq, BitVec.setWidth_eq]
  case clz =>
    have hz' := leadingZeros_of_top _ hlt (by rw [show 32 - z - 1 = 31 - z by omega]; omega) z
    rw [Nat.sub_add_cancel hz] at hz'
    rw [hz']

/-- Settles O13: the compares and predicate operations by `nibStep_of_predResult`, the immediate operations by `nibImm_of_value`. -/
theorem nibPredicatesAndImmediates : Obligations.NibPredicatesAndImmediates := by
  unfold Obligations.NibPredicatesAndImmediates
  refine ⟨fun k rd ra rb s h => ?predicates, fun k rd ra imm s h => ?immediates⟩
  case predicates =>
    have gives {f : Word → Word → Bool} {v : Bool} (hv : f ((s.nib k).get ra) ((s.nib k).get rb) = v) :=
      State.next_eq (nibCmp_of_value h (rd := rd) hv)
    refine ⟨gives rfl, gives rfl, gives rfl, gives rfl, gives ?cmpge, gives rfl,
      fun ha hb => State.next_eq (nibPredOp_of_fields h ha fun _ => hb),
      fun ha hb => State.next_eq (nibPredOp_of_fields h ha fun _ => hb),
      fun ha => State.next_eq (nibPredOp_of_fields (rb := rb) h ha (by simp)),
      fun hf => State.next_eq (nibPredOp_illegal h (by simpa using hf)),
      fun hf => State.next_eq (nibPredOp_illegal h (by simpa using hf)),
      fun ha => State.next_eq (nibPredOp_illegal h (.inl ha))⟩
    case cmpge => rw [BitVec.slt, ← decide_not, decide_eq_decide, Int.not_lt]
  case immediates =>
    have gives {f : Word → Word} {v : Word} (hv : f ((s.nib k).get ra) = v) :=
      State.next_eq (nibImm_of_value h (rd := rd) hv)
    have holds {f : Word → Bool} {v : Bool} (hv : f ((s.nib k).get ra) = v) :=
      State.next_eq (nibCmpImm_of_value h (rd := rd) hv)
    refine ⟨gives (add_signExtend_eq _ _), gives ?andi, gives ?ori, gives ?xori,
      State.next_eq (nibImm_of_value (ra := 0) h (lui_eq_ofNat imm)),
      fun hi => execNibShi_of_value h (shiftImm_left hi _), fun lo hi => execNibShi_of_value h (shiftImm_right lo hi _),
      fun lo hi => execNibShi_of_value h (shiftImm_arithmetic lo hi _),
      fun lo => State.next_eq (nibStep_of_trap h (by rw [shiftImm_undefined lo])), holds ?cmpeqi, holds ?cmplti, holds ?cmpltui⟩
    case andi => rw [setWidth_eq_ofNat]
    case ori => rw [setWidth_eq_ofNat]
    case xori => rw [setWidth_eq_ofNat]
    case cmpeqi => exact decide_eq_decide.mpr (eq_signExtend_iff _ _)
    case cmplti => exact decide_eq_decide.mpr (slt_signExtend_iff _ _)
    case cmpltui => exact decide_eq_decide.mpr (lt_setWidth_iff _ _)

end

/-! PROOF. More laws of sparse maps: a value that is not the default reads back, and replaces an earlier one, whatever the keys. -/

namespace Sys2Proof.Machine

variable {α : Type} [DecidableEq α] {d : Nat → α}

theorem sparsePut_put {k : Nat} {v w : α} (hw : w ≠ d k) : ∀ {m : List (Nat × α)},
    sparsePut d k v (sparsePut d k w m) = sparsePut d k v m
  | [] => by simp [sparsePut, hw]
  | (k', v') :: t => by
    have ih := sparsePut_put (v := v) hw (m := t)
    by_cases hlt : k < k'
    · simp [sparsePut, hw, hlt]
    by_cases heq : k = k'
    · subst heq; simp [sparsePut, hw]
    · simp [sparsePut, hlt, heq, ih]

theorem sparseGet_put_of_ne_default {k : Nat} {v : α} (hv : v ≠ d k) : ∀ {m : List (Nat × α)},
    sparseGet d (sparsePut d k v m) k = v
  | [] => by simp [sparsePut, sparseGet, hv]
  | (k', v') :: t => by
    have ih := sparseGet_put_of_ne_default hv (m := t)
    by_cases hlt : k < k'
    · simp [sparsePut, sparseGet, hv, hlt]
    by_cases heq : k = k'
    · subst heq; simp [sparsePut, sparseGet, hv]
    · simp [sparsePut, sparseGet, hlt, heq, Ne.symm heq, ih]

end Sys2Proof.Machine

/-! PROOF. The Nib's loads and stores (R83, R85): the address, what an access raises, and the corrected errors of its range. -/

namespace Sys2Proof.Machine

/-! ### What an instruction leaves of its own slot -/

variable {n : NibSlot}

@[simp] theorem NibSlot.setPred_state (k : Nat) (b : Bool) : (n.setPred k b).state = n.state := by
  rw [NibSlot.setPred]; split <;> rfl

@[simp] theorem NibSlot.setPred_eccSoft (k : Nat) (b : Bool) : (n.setPred k b).eccSoft = n.eccSoft := by
  rw [NibSlot.setPred]; split <;> rfl

@[simp] theorem NibSlot.set_state (k : BitVec 5) (v : Word) : (n.set k v).state = n.state := by
  rw [NibSlot.set]; split <;> rfl

@[simp] theorem NibSlot.set_eccSoft (k : BitVec 5) (v : Word) : (n.set k v).eccSoft = n.eccSoft := by
  rw [NibSlot.set]; split <;> rfl

@[simp] theorem NibSlot.stagePreds_state (f : LoopFrame) (i : Nat) : (n.stagePreds f i).state = n.state := by
  induction i with
  | zero => rfl
  | succ i ih => rw [NibSlot.stagePreds, NibSlot.setPred_state, ih]

@[simp] theorem NibSlot.stagePreds_eccSoft (f : LoopFrame) (i : Nat) : (n.stagePreds f i).eccSoft = n.eccSoft := by
  induction i with
  | zero => rfl
  | succ i ih => rw [NibSlot.stagePreds, NibSlot.setPred_eccSoft, ih]

/-- Falling through to an address changes neither the slot's state nor its error marks. -/
theorem arriveAt_state_eccSoft (l : List LoopFrame) : ∀ (n : NibSlot) (a : Nat),
    (arriveAt n l a).state = n.state ∧ (arriveAt n l a).eccSoft = n.eccSoft := by
  induction l with
  | nil => exact fun _ _ => ⟨rfl, rfl⟩
  | cons f t ih =>
    intro n a
    rw [arriveAt]
    split
    case isFalse => exact ⟨rfl, rfl⟩
    case isTrue => split <;> split <;> simp [ih]

@[simp] theorem NibSlot.advance_state : n.advance.state = n.state := (arriveAt_state_eccSoft _ n _).1

@[simp] theorem NibSlot.advance_eccSoft : n.advance.eccSoft = n.eccSoft := (arriveAt_state_eccSoft _ n _).2

theorem NibSlot.issues_congr {m : NibSlot} (h : m.state = n.state) : m.issues = n.issues := by
  rw [NibSlot.issues, NibSlot.issues, h]

/-- A slot that issues is not vacant. -/
theorem NibSlot.ne_vacant_of_issues (h : n.issues = true) : n ≠ NibSlot.vacant := by
  rintro rfl; exact absurd h (by decide)

variable {s : State} {k : Nat}

/-! ### A slot of the State after it is set -/

theorem State.nib_setNib_of_issues (h : n.issues = true) : (s.setNib k n).nib k = n :=
  sparseGet_put_of_ne_default (NibSlot.ne_vacant_of_issues h)

theorem State.setNib_setNib_of_issues (h : n.issues = true) (m : NibSlot) : (s.setNib k n).setNib k m = s.setNib k m := by
  simp only [State.setNib, sparsePut_put (d := fun _ => NibSlot.vacant) (NibSlot.ne_vacant_of_issues h)]

/-! ### Accesses -/

theorem nibAddr_eq (n : NibSlot) (base : BitVec 5) (off : BitVec 16) :
    nibAddr n base off = (BitVec.ofInt 32 ((n.get base).toInt + off.toInt)).toNat := by
  rw [nibAddr, add_signExtend_eq]

theorem any_range_contains_iff (l : List Nat) (a w : Nat) :
    (List.range w).any (fun i => l.contains (a + i)) = true ↔ ∃ i, i < w ∧ a + i ∈ l := by
  simp

theorem NibSlot.dataTrap_align {a w : Nat} (h : a % w ≠ 0) : n.dataTrap a w = some .align := if_pos h

theorem NibSlot.dataTrap_addrRange {a w : Nat} (h : a % w = 0) (hr : 65536 < a + w) : n.dataTrap a w = some .addrRange := by
  rw [NibSlot.dataTrap, if_neg (by omega), if_pos hr]

theorem NibSlot.dataTrap_ecc {a w : Nat} (h : a % w = 0) (hr : a + w ≤ 65536) (he : ∃ i, i < w ∧ a + i ∈ n.eccHard) :
    n.dataTrap a w = some .ecc := by
  rw [NibSlot.dataTrap, if_neg (by omega), if_neg (by omega), if_pos ((any_range_contains_iff _ a w).mpr he)]

theorem NibSlot.dataTrap_none {a w : Nat} (h : a % w = 0) (hr : a + w ≤ 65536) (he : ¬ ∃ i, i < w ∧ a + i ∈ n.eccHard) :
    n.dataTrap a w = none := by
  rw [NibSlot.dataTrap, if_neg (by omega), if_neg (by omega), if_neg (mt (any_range_contains_iff _ a w).mp he)]

/-- A slot of the State that takes the core m, once a load or a store has been made of the w bytes at a: a corrected error of the
range is written back, counted and raised (R83). -/
def State.nibAccessed (s : State) (k a w : Nat) (m : NibSlot) : State :=
  if (List.range w).any (fun i => (s.nib k).eccSoft.contains (a + i)) then
    (((s.setNib k { m with
      eccSoft := (s.nib k).eccSoft.filter (fun x => !(decide (a ≤ x) && decide (x < a + w))) }).count
      Reg.NIB.ECC_CORR_CNT 1).raise Ev.NIB.ECC_CORR k).retire k
  else s.nibTakes k m

theorem retire_eccScrub_setNib {m : NibSlot} (hm : m.issues = true) (he : m.eccSoft = (s.nib k).eccSoft) (a w : Nat) :
    (eccScrub k a w (s.setNib k m)).retire k = s.nibAccessed k a w m := by
  rw [eccScrub, State.nibAccessed, State.nib_setNib_of_issues hm, he]
  split
  · rw [State.setNib_setNib_of_issues hm]
  · rfl

section

variable {k : Fin 12} {rd base : BitVec 5} {off : BitVec 16} {a w : Nat}

/-- A load that may be made (R85). -/
theorem nibLoad_of_ok (h : s.nibReady k) (ha : nibAddr (s.nib k) base off = a) (ht : (s.nib k).dataTrap a w = none)
    {ext : Nat → Word} {v : Word} (hv : ext ((s.nib k).loadLe a w) = v) :
    nibLoad k rd base off w ext s = s.nibAccessed k a w ((s.nib k).set rd v).advance := by
  rw [nibLoad, nibStepS_of_ok h (by simp only [ha, ht]; rfl), hv, retire_eccScrub_setNib]
  · rw [NibSlot.issues_congr (n := s.nib k) (by simp)]; exact h.1
  · simp

/-- A store that may be made (R85). -/
theorem nibStore_of_ok (h : s.nibReady k) (ha : nibAddr (s.nib k) base off = a) (ht : (s.nib k).dataTrap a w = none) :
    nibStore k rd base off w s = s.nibAccessed k a w ((s.nib k).storeLe a w ((s.nib k).get rd).toNat).advance := by
  rw [nibStore, nibStepS_of_ok h (by simp only [ha, ht]; rfl), retire_eccScrub_setNib]
  · rw [NibSlot.issues_congr (n := s.nib k) (by simp [NibSlot.storeLe])]; exact h.1
  · simp [NibSlot.storeLe]

theorem nibLoad_of_trap (h : s.nibReady k) (ha : nibAddr (s.nib k) base off = a) {e : NibExc}
    (ht : (s.nib k).dataTrap a w = some e) (ext : Nat → Word) : nibLoad k rd base off w ext s = s.nibExcept k e :=
  nibStepS_of_error h (by simp only [ha, ht])

theorem nibStore_of_trap (h : s.nibReady k) (ha : nibAddr (s.nib k) base off = a) {e : NibExc}
    (ht : (s.nib k).dataTrap a w = some e) : nibStore k rd base off w s = s.nibExcept k e :=
  nibStepS_of_error h (by simp only [ha, ht])

end

/-! ### Loaded values -/

variable (n)

theorem NibSlot.loadLe_one (a : Nat) : n.loadLe a 1 = (sparseGet (fun _ => (0 : Byte)) n.dmem a).toNat := by
  simp [NibSlot.loadLe, sparseGetN, leNat]

theorem NibSlot.loadLe_two (a : Nat) : n.loadLe a 2 =
    (sparseGet (fun _ => (0 : Byte)) n.dmem a).toNat + 256 * (sparseGet (fun _ => (0 : Byte)) n.dmem (a + 1)).toNat := by
  simp [NibSlot.loadLe, sparseGetN, leNat]

theorem NibSlot.loadLe_four (a : Nat) : n.loadLe a 4 =
    (sparseGet (fun _ => (0 : Byte)) n.dmem a).toNat + 256 * (sparseGet (fun _ => (0 : Byte)) n.dmem (a + 1)).toNat +
      65536 * (sparseGet (fun _ => (0 : Byte)) n.dmem (a + 2)).toNat +
      16777216 * (sparseGet (fun _ => (0 : Byte)) n.dmem (a + 3)).toNat := by
  rw [show a + 2 = a + 1 + 1 from rfl, show a + 3 = a + 1 + 1 + 1 from rfl]
  simp only [NibSlot.loadLe, sparseGetN, leNat]
  omega

theorem signExt_byte {v : Nat} (h : v < 256) : signExt 8 v = BitVec.ofInt 32 (if v < 128 then v else (v : Int) - 256) := by
  rw [signExt, signedOf, Nat.mod_eq_of_lt (show v < 2 ^ 8 from h)]
  by_cases hv : v < 128
  · rw [if_neg (by omega), if_pos hv]
  · rw [if_pos (by omega), if_neg hv]; rfl

theorem signExt_half {v : Nat} (h : v < 65536) : signExt 16 v = BitVec.ofInt 32 (if v < 32768 then v else (v : Int) - 65536) := by
  rw [signExt, signedOf, Nat.mod_eq_of_lt (show v < 2 ^ 16 from h)]
  by_cases hv : v < 32768
  · rw [if_neg (by omega), if_pos hv]
  · rw [if_pos (by omega), if_neg hv]; rfl

end Sys2Proof.Machine

/-! PROOF. The obligation on the Nib's loads and stores (R83, R85). -/

section

open Sys2Proof Sys2Proof.Machine

/-- Settles O14: a load or a store raises what `dataTrap` says, or else accesses the bytes and scrubs their range. -/
theorem nibLoadStore : Obligations.NibLoadStore := by
  unfold Obligations.NibLoadStore
  intro k rd base off s h n a hard ok done ld st b half words halves bytes
  have ha : nibAddr n base off = a := nibAddr_eq n base off
  have free {w : Nat} (hok : ok w) : n.dataTrap a w = none := NibSlot.dataTrap_none hok.1 hok.2.1 hok.2.2
  refine ⟨fun hok => State.next_eq (nibLoad_of_ok h ha (free hok) ?lw),
    fun hok => State.next_eq (nibLoad_of_ok h ha (free hok) ?lh),
    fun hok => State.next_eq (nibLoad_of_ok h ha (free hok) ?lhu),
    fun hok => State.next_eq (nibLoad_of_ok h ha (free hok) ?lb),
    fun hok => State.next_eq (nibLoad_of_ok h ha (free hok) ?lbu),
    fun hok => State.next_eq (nibStore_of_ok h ha (free hok)),
    fun hok => State.next_eq (nibStore_of_ok h ha (free hok)),
    fun hok => State.next_eq (nibStore_of_ok h ha (free hok)), ?traps⟩
  case lw => rw [n.loadLe_four]; rfl
  case lhu => rw [n.loadLe_two]; rfl
  case lbu => rw [n.loadLe_one]; rfl
  case lb => rw [n.loadLe_one, signExt_byte (BitVec.isLt _)]; rfl
  case lh =>
    have hlo := (sparseGet (fun _ => (0 : Byte)) n.dmem a).isLt
    have hhi := (sparseGet (fun _ => (0 : Byte)) n.dmem (a + 1)).isLt
    rw [n.loadLe_two, signExt_half (by omega)]; rfl
  case traps =>
    have raises : ∀ e ∈ [(4, words), (2, halves), (1, bytes)], ∀ c ∈ e.2, ∀ x, n.dataTrap a e.1 = some x →
        exec c s = .next (s.nibExcept k x) := by
      simp only [words, halves, bytes, List.forall_mem_cons, List.not_mem_nil, false_imp_iff, implies_true, and_true]
      exact ⟨⟨fun _ hx => State.next_eq (nibLoad_of_trap h ha hx _), fun _ hx => State.next_eq (nibStore_of_trap h ha hx)⟩,
        ⟨fun _ hx => State.next_eq (nibLoad_of_trap h ha hx _), fun _ hx => State.next_eq (nibLoad_of_trap h ha hx _),
          fun _ hx => State.next_eq (nibStore_of_trap h ha hx)⟩,
        ⟨fun _ hx => State.next_eq (nibLoad_of_trap h ha hx _), fun _ hx => State.next_eq (nibLoad_of_trap h ha hx _),
          fun _ hx => State.next_eq (nibStore_of_trap h ha hx)⟩⟩
    exact fun e he c hc => ⟨fun h1 => raises e he c hc _ (NibSlot.dataTrap_align h1),
      fun h1 h2 => raises e he c hc _ (NibSlot.dataTrap_addrRange h1 h2),
      fun h1 h2 h3 => raises e he c hc _ (NibSlot.dataTrap_ecc h1 h2 h3)⟩

end

/-! PROOF. The obligations on the Nib's control flow, its exceptions and what an instruction leaves unchanged (R85, R98, R103, R105). -/

namespace Sys2Proof.Machine

variable {s : State} {k : Nat}

theorem branchTarget_inside {pc : BitVec 16} {off : BitVec 22} {t : Nat} (h : (t : Int) = pc.toNat + 4 * off.toInt)
    (ht : t < 65536) : branchTarget pc off = some t := by
  rw [branchTarget, ← h, if_pos (by omega), Int.toNat_natCast]

theorem branchTarget_outside {pc : BitVec 16} {off : BitVec 22}
    (h : (pc.toNat : Int) + 4 * off.toInt < 0 ∨ 65536 ≤ (pc.toNat : Int) + 4 * off.toInt) : branchTarget pc off = none :=
  if_neg (by omega)

section

variable {k : Fin 12} {c : BitVec 5} {len : BitVec 12}

/-- A loop is not entered with four loops active (R98). -/
theorem nibLoopEntry_full (h : s.nibReady k) (hlen : len ≠ 0) (hfull : 4 ≤ (s.nib k).loops.length) (stages : Nat) :
    nibLoopEntry k c len stages false s = s.nibExcept k .loopNest := by
  have hlen' : ¬ (decide (len = 0) || false) = true := by simpa using hlen
  exact nibStep_of_trap h ((if_neg hlen').trans (if_pos (by simp [hfull])))

/-- The frame of a loop at its first pass (R98, R99). -/
def NibSlot.firstPass (n : NibSlot) (c : BitVec 5) (len : BitVec 12) (stages : Nat) : LoopFrame :=
  ⟨stages, (n.get c).toNat, n.pc.toNat + 4, n.pc.toNat + 4 + 4 * len.toNat, 0,
    (if stages = 0 then (n.get c).toNat else (n.get c).toNat + stages - 1) - 1⟩

/-- A loop that may be entered: a count of 0 skips its body, any other begins its first pass (R98 to R100). -/
theorem nibLoopEntry_enters (h : s.nibReady k) {stages : Nat} (hlen : len ≠ 0) (hroom : (s.nib k).loops.length < 4)
    (hnest : stages = 0 ∨ (s.nib k).loops.all (fun f => decide (f.stages = 0)) = true)
    (hstop : (s.nib k).pc.toNat + 4 + 4 * len.toNat ≤ 65536)
    (hform : stages = 0 ∨ (s.nib k).sbndCount ((s.nib k).pc.toNat + 4) len.toNat = stages - 1) :
    nibLoopEntry k c len stages false s = s.nibTakes k (if (s.nib k).get c = 0 then
        arriveAt (s.nib k) (s.nib k).loops ((s.nib k).pc.toNat + 4 + 4 * len.toNat)
      else { (s.nib k).stagePreds ((s.nib k).firstPass c len stages) stages with
        loops := (s.nib k).firstPass c len stages :: (s.nib k).loops, pc := BitVec.ofNat 16 ((s.nib k).pc.toNat + 4) }) := by
  have hlen' : ¬ (decide (len = 0) || false) = true := by simpa using hlen
  have hnest' : ¬ (decide (4 ≤ (s.nib k).loops.length) ||
      (decide (stages ≠ 0) && (s.nib k).loops.any (fun f => decide (f.stages ≠ 0)))) = true := by
    simp only [List.all_eq_true, decide_eq_true_eq] at hnest
    simp only [ne_eq, Bool.or_eq_true, Bool.and_eq_true, decide_eq_true_eq, List.any_eq_true]
    rintro (hlong | ⟨hstages, f, hf, hne⟩)
    · omega
    · exact hne (hnest.resolve_left hstages f hf)
  have hform' : ¬ (decide (stages ≠ 0) && decide ((s.nib k).sbndCount ((s.nib k).pc.toNat + 4) len.toNat ≠ stages - 1)) = true := by
    simpa using fun hstages => hform.resolve_left hstages
  refine nibStep_of_done h ((if_neg hlen').trans ((if_neg hnest').trans ((if_neg (by omega)).trans ((if_neg hform').trans ?_))))
  by_cases hc : (s.nib k).get c = 0
  · rw [if_pos hc, if_pos (by rw [hc]; rfl)]
  · have hcount : ((s.nib k).get c).toNat ≠ 0 := fun h0 => hc (BitVec.eq_of_toNat_eq h0)
    rw [if_neg hc, if_neg hcount]
    rfl

end

end Sys2Proof.Machine

section

open Sys2Proof Sys2Proof.Machine

/-- Settles O15: a branch by where its target lies, a loop by its count and the loops already active. -/
theorem nibControlFlow : Obligations.NibControlFlow := by
  unfold Obligations.NibControlFlow
  intro k p sense off ra s h n goes target jr
  refine ⟨fun hp => ⟨?br_not, ?call_not⟩, fun t hp ht hlt => ⟨?br, ?call⟩, fun hp hout => ⟨?br_out, ?call_out⟩,
    fun hal hlt => ?jr, fun hal => ?jr_align, State.next_eq (nibStep_of_done h rfl), State.next_eq (nibStep_of_done h rfl),
    fun c len hlen hroom hstop => ⟨fun hc => ?skip, fun hc => ?loop⟩, fun c len st hlen hroom hnest hstop hform hc => ?loopm,
    fun hfull c len st hlen => ⟨State.next_eq (nibLoopEntry_full h hlen hfull 0),
      State.next_eq (nibLoopEntry_full h hlen hfull _)⟩⟩
  case br_not => exact State.next_eq (nibStep_of_done h (if_neg hp))
  case call_not => exact State.next_eq (nibStep_of_done h (if_neg hp))
  case br => exact State.next_eq (nibStep_of_done h (by rw [if_pos hp, branchTarget_inside ht hlt]))
  case call => exact State.next_eq (nibStep_of_done h (by rw [if_pos hp, branchTarget_inside ht hlt]))
  case br_out => exact State.next_eq (nibStep_of_trap h (by rw [if_pos hp, branchTarget_outside hout]))
  case call_out => exact State.next_eq (nibStep_of_trap h (by rw [if_pos hp, branchTarget_outside hout]))
  case jr => exact State.next_eq (nibStep_of_done h ((if_neg (not_not.mpr hal)).trans (if_neg (Nat.not_le.mpr hlt))))
  case jr_align => exact State.next_eq (nibStep_of_trap h (if_pos hal))
  case skip =>
    exact State.next_eq ((nibLoopEntry_enters h hlen hroom (.inl rfl) hstop (.inl rfl)).trans (by rw [if_pos hc]))
  case loop =>
    exact State.next_eq ((nibLoopEntry_enters h hlen hroom (.inl rfl) hstop (.inl rfl)).trans
      (by rw [if_neg hc]; rfl))
  case loopm =>
    exact State.next_eq ((nibLoopEntry_enters h hlen hroom (.inr hnest) hstop (.inr hform)).trans
      (by rw [if_neg hc]; rfl))

/-- Settles O18: the handler is entered where there is one and the program is outside it; otherwise the program halts. -/
theorem nibExceptionEntry : Obligations.NibExceptionEntry := by
  unfold Obligations.NibExceptionEntry
  intro s k e n c ev
  refine ⟨fun h hout hhandler => ?enters, fun hnone => ?halts⟩
  case enters => simp [State.nibExcept, n, c, ev, hout, hhandler]
  case halts =>
    rcases hnone with hin | hnone
    · simp [State.nibExcept, n, c, ev, hin]
    · simp [State.nibExcept, n, c, ev, hnone]

/-- Settles O20: the slot's core is one entry of the slots' table, and the count of its instructions two registers. -/
theorem nibFrame : Obligations.NibFrame := by
  unfold Obligations.NibFrame
  intro k j n s hj
  exact ⟨sparseGet_put_other hj, rfl, rfl, rfl, fun a hlo hhi => State.reg_count64_other hlo hhi 1⟩

end

/-! PROOF. The Nib's unit, ring, cascade and barrier instructions on a handle that serves them (R84, R88, R92 to R95, R137). -/

namespace Sys2Proof.Machine

variable {s t : State} {k : Fin 12} {a : BitVec 5} {sp : BitVec 3} {two : Bool} {u : Nat}

/-- The State once a unit instruction has ended with a condition code: UCC and the status predicate are written, and the program
goes on (R84, R94). -/
def State.unitEnds (t : State) (k sp u : Nat) : State := t.nibTakes k ((t.nib k).conclude sp u).advance

theorem nibUnit_of_ok (h : s.nibReady k) (htwo : two = true → 0 < a.toNat ∧ a.toNat < 31)
    (hsp : (s.nib k).stageWrite sp.toNat = false) {body : NibSlot → State → Except NibExc (Nat × State)}
    (hb : body (s.nib k) s = .ok (u, t)) : nibUnit k a sp two body s = t.unitEnds k sp.toNat u := by
  have hargs : ¬ (two && (decide (a = 0) || decide (a = 31))) = true := by
    simp only [Bool.and_eq_true, Bool.or_eq_true, decide_eq_true_eq]
    rintro ⟨ht, rfl | rfl⟩
    · exact absurd (htwo ht).1 (by decide)
    · exact absurd (htwo ht).2 (by decide)
  refine nibStepS_of_ok h ?_
  simp only [if_neg hargs, hsp, hb]
  rfl

theorem nibUnitOn_of_ok (h : s.nibReady k) (htwo : two = true → 0 < a.toNat ∧ a.toNat < 31)
    (hsp : (s.nib k).stageWrite sp.toNat = false) {handle : BitVec 10} {b : Binding}
    (hbound : (s.nib k).bound handle.toNat = some b) (hitem : b.isUnitItem = true)
    {body : Binding → NibSlot → State → Except NibExc (Nat × State)} (hb : body b (s.nib k) s = .ok (u, t)) :
    nibUnitOn k handle a sp two body s = t.unitEnds k sp.toNat u :=
  nibUnit_of_ok h htwo hsp (by simp only [hbound, hitem, if_true, hb])

/-- Where no corrected error waits, an access scrubs nothing. -/
theorem eccScrub_clean {k : Nat} (h : (s.nib k).eccSoft = []) (m w : Nat) : eccScrub k m w s = s := by
  rw [eccScrub, h]
  exact if_neg (by simp)

/-- A POST on a bound handle (R88). -/
theorem nibPost_of_ok (h : s.nibReady k) (hsp : (s.nib k).stageWrite sp.toNat = false) {handle : BitVec 10} {b : Binding}
    (hbound : (s.nib k).bound handle.toNat = some b) {sel : Nat} (hsel : sel < 2)
    (hb : (if sel = 0 then s.postEntry k b (s.nib k) ((s.nib k).get a).toNat
      else s.postMessage k b (s.nib k) ((s.nib k).get a).toNat) = .ok (u, t)) :
    nibPost k handle a sel sp s = t.unitEnds k sp.toNat u :=
  nibUnit_of_ok h (by simp) hsp (by simp only [if_neg (Nat.not_le.mpr hsel), hbound, hb])

section

variable {k m : Nat} {n : NibSlot} {r : Nat}

/-- POST of an entry to a result ring that runs with room writes it (R92). -/
theorem postEntry_written (hecc : (s.nib k).eccSoft = []) (hm : n.rangeTrap m 32 32 = none) (hruns : s.rringRuns r = true)
    (hroom : s.rringFull r = false) : s.postEntry k (.resultRing r false) n m =
      .ok (0, s.rringWrite r (.posted (sparseGetN (fun _ => 0) n.dmem m 32))) := by
  simp [State.postEntry, hm, eccScrub_clean hecc, hruns, hroom]

/-- POST of an entry to a result ring that does not run or is full ends with FULL (R92). -/
theorem postEntry_full (hecc : (s.nib k).eccSoft = []) (hm : n.rangeTrap m 32 32 = none)
    (h : s.rringRuns r = false ∨ s.rringFull r = true) : s.postEntry k (.resultRing r false) n m = .ok (3, s) := by
  have hc : (!s.rringRuns r || s.rringFull r) = true := by simpa using h
  simp [State.postEntry, hm, eccScrub_clean hecc, hc]

/-- POST to an EVENT ring is refused (R92). -/
theorem postEntry_event (hecc : (s.nib k).eccSoft = []) (hm : n.rangeTrap m 32 32 = none) :
    s.postEntry k (.resultRing r true) n m = .ok (7, s) := by
  simp [State.postEntry, hm, eccScrub_clean hecc]

/-- POST of a message of 1 to 248 bytes to a cascade link that is up queues it where the queue has room (R137). -/
theorem postMessage_queued (hecc : (s.nib k).eccSoft = []) {link : Nat} {only : Bool} (hlink : link < 2)
    (hm : n.rangeTrap m 8 8 = none) (h0 : 0 < n.loadLe m 2) (h248 : n.loadLe m 2 ≤ 248)
    (hlen : n.rangeTrap m (8 + n.loadLe m 2) 8 = none) (hup : s.linkUp link = true) (hq : (s.cascade link).msgs.length < 8) :
    s.postMessage k (.unit 18 link only) n m = .ok (0, s.setCascade link { s.cascade link with
      msgs := (s.cascade link).msgs ++ [beBytes 2 (n.loadLe m 2) ++ beBytes 1 (n.loadLe (m + 2) 1 % 16) ++
        beBytes 1 (n.loadLe (m + 3) 1) ++ beBytes 2 (n.loadLe (m + 4) 2) ++
        beBytes 1 (s.fld Reg.SYNC.SYNC_CFG Fld.SYNC.SYNC_CFG.module) ++ beBytes 1 k ++
        sparseGetN (fun _ => 0) n.dmem (m + 8) (n.loadLe m 2)] }) := by
  have hsend : ¬ (decide (n.loadLe m 2 = 0) || decide (248 < n.loadLe m 2) || !s.linkUp link) = true := by
    simp [hup]; omega
  simp only [State.postMessage, if_neg (Nat.not_le.mpr hlink), hm, if_neg hsend, hlen, eccScrub_clean hecc,
    if_neg (Nat.not_le.mpr hq)]

end

end Sys2Proof.Machine

section

open Sys2Proof Sys2Proof.Machine

/-- Settles O17: a unit instruction ends as `nibUnitOn_of_ok` says with what its own work gives, a POST as `nibPost_of_ok`. -/
theorem nibUnitsRingsAndBarriers : Obligations.NibUnitsRingsAndBarriers := by
  unfold Obligations.NibUnitsRingsAndBarriers
  refine ⟨?units, ?rings⟩
  case units =>
    intro k h a sp s b hready n hbound hitem hsp ends cmd
    have one {body : Binding → NibSlot → State → Except NibExc (Nat × State)} {u : Nat} {t : State}
        (hb : body b n s = .ok (u, t)) :=
      State.next_eq (nibUnitOn_of_ok (a := a) (two := false) hready (by simp) hsp hbound hitem hb)
    have two (h0 : 0 < a.toNat) (h31 : a.toNat < 31) {body : Binding → NibSlot → State → Except NibExc (Nat × State)} {u : Nat}
        {t : State} (hb : body b n s = .ok (u, t)) :=
      State.next_eq (nibUnitOn_of_ok (a := a) (two := true) hready (fun _ => ⟨h0, h31⟩) hsp hbound hitem hb)
    refine ⟨one rfl, one rfl, one rfl, one rfl, one rfl, one rfl, one rfl, one rfl, one rfl, one rfl,
      fun h0 h31 hw => ⟨two h0 h31 ?uread, two h0 h31 ?uwrite⟩, fun c arrived hc => ?uwait,
      fun area i w h0 h31 hb hscope harea hrange hecc => two h0 h31 ?ustage⟩
    case uread => simp [Option.isNone_eq_false_iff.mpr hw]
    case uwrite => simp [Option.isNone_eq_false_iff.mpr hw]
    case uwait =>
      refine State.next_eq (nibStepS_of_ok hready ?_)
      simp [n, hsp, hbound, hitem, hc]
    case ustage =>
      subst hb harea
      simp only [hrange, hscope, eccScrub_clean hecc, if_true]
  case rings =>
    intro k h a sp s hready n hsp hecc m ends
    refine ⟨fun r hb hm => ⟨fun hruns hroom => ?written, fun hnot => ?full⟩, fun r hb hm => ?event,
      fun link only hb hlink hm h0 h248 hlen hup hq => ?message, ?barrier⟩
    case written => exact State.next_eq (nibPost_of_ok hready hsp hb (by decide) (postEntry_written hecc hm hruns hroom))
    case full => exact State.next_eq (nibPost_of_ok hready hsp hb (by decide) (postEntry_full hecc hm hnot))
    case event => exact State.next_eq (nibPost_of_ok hready hsp hb (by decide) (postEntry_event hecc hm))
    case message =>
      exact State.next_eq (nibPost_of_ok hready hsp hb (by decide) (postMessage_queued (only := only) hecc hlink hm h0 h248 hlen hup hq))
    case barrier =>
      intro p hb l w
      refine ⟨fun hp => State.next_eq (nibStepS_of_ok hready ?_), fun hp => State.next_eq (nibStepS_of_ok hready ?_)⟩
      · have hlast : p ≤ (s.barrierWaiters k h.toNat).length + 1 := hp
        simp [n, l, w, hsp, hb, hlast]
      · have hmore : ¬ p ≤ (s.barrierWaiters k h.toNat).length + 1 := Nat.not_le.mpr hp
        simp [n, w, hsp, hb, hmore]

end

/-! PROOF. What an idle tick does to sample time (R199), and the obligations on the step, the reset state and the configuration check. -/

namespace Sys2Proof.Machine

variable {s : State}

/-! ### What leaves the time bases as they are -/

theorem State.foldl_time {α : Type} {f : State → α → State} (h : ∀ s x, (f s x).time = s.time) (l : List α) (s : State) :
    (l.foldl f s).time = s.time := by
  induction l generalizing s with
  | nil => rfl
  | cons x t ih => rw [List.foldl_cons, ih, h]

@[simp] theorem State.commitScope_time (s : State) (id : ScopeId) : (s.commitScope id).time = s.time := by
  have hfold := State.foldl_time (f := fun (s : State) (e : Nat × Option Word) => s.setReg e.1 (e.2.getD (s.reg e.1)))
    (fun _ _ => rfl)
  rw [State.commitScope, State.commitWhere]
  split <;> simp only [State.setBlk_time, State.commitCrc, State.setReg_time, hfold]

theorem State.mecApply_time (s : State) (c turn : Nat) : (s.mecApply c turn).time = s.time := by
  rw [State.mecApply]
  split
  · split
    · rfl
    · rw [State.setMec_time, State.commitScope_time]
  · rfl

@[simp] theorem State.crConsume_time (s : State) (c : Nat) : (s.crConsume c).time = s.time := by
  rw [State.crConsume]; split <;> rfl

theorem State.rxBuffer_time (s : State) (l n : Nat) : (s.rxBuffer l n).2.time = s.time := by
  induction n generalizing s with
  | zero => rfl
  | succ n ih =>
    rw [State.rxBuffer]
    split
    · rfl
    · split
      · exact State.crConsume_time s l
      · rw [ih, State.count_time, State.crConsume_time]

theorem State.signal_time (s : State) (v : Nat) : (s.signal v).time = s.time := by
  rw [State.signal]; split
  · rfl
  · split <;> rfl

theorem State.coalesce_time (s : State) (r : Nat) : (s.coalesce r).time = s.time := by
  rw [State.coalesce]; split
  · rfl
  · dsimp only
    split
    · exact State.signal_time _ _
    · rfl

@[simp] theorem State.rringWrite_time (s : State) (r : Nat) (e : ResultEntry) : (s.rringWrite r e).time = s.time := by
  rw [State.rringWrite]; split
  · rfl
  · rw [State.coalesce_time, State.rringPush]
    split <;> rfl

@[simp] theorem State.rxDeliver_time (s : State) (f : List Byte) (flags : Nat) (stamp : Option Nat) :
    (s.rxDeliver f flags stamp).time = s.time := by
  rw [State.rxDeliver]
  split
  next hb =>
    have hs : ∀ (c : Bool) (l n : Nat), (if c then s.rxBuffer l n else (none, s)).2.time = s.time := by
      intro c l n
      split
      · exact s.rxBuffer_time l n
      · rfl
    split
    · rw [State.count_time, ← hs, hb]
    · rw [State.rringWrite_time, State.emit_time, State.draw_time, ← hs, hb]

@[simp] theorem State.txtsPush_time (s : State) (e : Nat × Nat × Nat × Nat) : (s.txtsPush e).time = s.time := by
  rw [State.txtsPush]; split
  · rw [State.blkEvent_time, State.count_time]
  · rfl

/-- The receive half of the stamps completed in a tick. -/
def State.rxStamped (s : State) : State :=
  match s.tim.netRx with
  | some x => ({ s with tim := { s.tim with netRx := none } } : State).rxDeliver x.frame 3 (some x.stamp)
  | none => s

/-- The transmit half of the stamps completed in a tick. -/
def State.txStamped (s : State) : State :=
  match s.tim.netTx with
  | some x =>
    let t : State := { s with tim := { s.tim with netTx := none } }
    match ptpEvent x.frame with
    | some (m, q) => if 65536 ≤ x.tag then t.txtsPush (x.stamp, m, q, x.tag % 65536) else t
    | none => t
  | none => s

theorem State.netStamps_eq (s : State) : s.netStamps = s.rxStamped.txStamped := rfl

theorem State.rxStamped_time (s : State) : s.rxStamped.time = s.time := by
  rw [State.rxStamped]; split
  · exact State.rxDeliver_time _ _ _ _
  · rfl

theorem State.txStamped_time (s : State) : s.txStamped.time = s.time := by
  rw [State.txStamped]; split
  · dsimp only
    split
    · split
      · exact State.txtsPush_time _ _
      · rfl
    · rfl
  · rfl

theorem State.netStamps_time (s : State) : s.netStamps.time = s.time := by
  rw [State.netStamps_eq, State.txStamped_time, State.rxStamped_time]

/-! ### What a tick does to TB-S -/

theorem State.turnPassed_tbs (s : State) : s.turnPassed.time.tbs = s.time.tbs := by
  rw [State.turnPassed]; split <;> rfl

theorem State.addTbw_tbs (s : State) (d : Int) : (s.addTbw d).time.tbs = s.time.tbs := rfl

theorem State.advanceBuckets_tbs (s : State) (n : Nat) : (s.advanceBuckets n).time.tbs = s.time.tbs := by
  rw [State.advanceBuckets]; split <;> rfl

/-- A tick moves TB-S by 12 SAMP edges while SAMP runs, and not at all while it is stopped (R199). -/
theorem State.advanceTime_tbs (s : State) : s.advanceTime.time.tbs = if s.running .samp then s.time.tbs + 196608 else s.time.tbs := by
  delta State.advanceTime
  extract_lets bases samp ref mpb cycles bases' mach
  have hsamp : samp.time.tbs = if s.running .samp then s.time.tbs + 196608 else s.time.tbs := by
    simp only [samp]; split <;> rfl
  have href : ref.time.tbs = samp.time.tbs := by
    simp only [ref]
    split
    · exact State.addTbw_tbs _ _
    · rfl
  have hmach : mach.time.tbs = ref.time.tbs := by
    simp only [mach]; split
    · exact State.advanceBuckets_tbs _ _
    · rfl
  exact hmach.trans (href.trans hsamp)

theorem State.idle_tbs (s : State) : s.idle.time.tbs = if s.running .samp then s.time.tbs + 196608 else s.time.tbs := by
  rw [State.idle]
  rw [State.netStamps_time, State.foldl_time fun s c => s.mecApply_time c _, apply_ite State.time, ← s.advanceTime_tbs]
  split
  · rfl
  · exact State.turnPassed_tbs _

end Sys2Proof.Machine

section

open Sys2Proof Sys2Proof.Machine

/-- Settles O1: the step is by cases on the queue, and an idle tick keeps what `idle_keeps` says and moves TB-S by `idle_tbs`. -/
theorem stepRunsFront : Obligations.StepRunsFront := by
  unfold Obligations.StepRunsFront
  refine ⟨fun c rest s h => by rw [step, h], fun s h => by rw [step, h], fun s => ?_⟩
  have k := State.idle_keeps s
  exact ⟨k.pending, k.tick, k.sent, fun h => by rw [s.idle_tbs, if_pos h], fun h => by rw [s.idle_tbs, if_neg (by simp [h])]⟩

/-- Settles O2: an empty register file reads the reset value everywhere, and the table's values are computed from it. -/
theorem resetState : Obligations.ResetState := by
  unfold Obligations.ResetState
  refine ⟨⟨rfl, rfl, rfl⟩, rfl, rfl, fun _ => rfl, fun a href hcom => ?_, ?_⟩
  · rw [resetWord, if_neg (by simp [href, hcom])]
  · refine ⟨by decide +kernel, by decide +kernel, by decide +kernel, by decide +kernel, by decide +kernel, by decide +kernel,
      by decide +kernel, by decide +kernel, by decide +kernel, by decide +kernel, by decide +kernel, by decide +kernel,
      by decide +kernel, by decide +kernel, by decide +kernel, by decide +kernel, by decide +kernel⟩

/-- Settles O10: each command of the configuration check, by its guard. -/
theorem configurationCheck : Obligations.ConfigurationCheck := by
  unfold Obligations.ConfigurationCheck
  intro b s drift scrubbed
  refine ⟨fun h => ?commit, fun h => ?pending, rfl, fun hp hh => ?held, fun h => ⟨fun heq => ?same, fun hne => ?drifts⟩,
    fun h => if_pos h, fun hd hc => ?repair⟩
  case commit => exact State.next_eq (if_neg (Bool.eq_false_iff.mp h))
  case pending => exact State.next_eq (if_pos h)
  case held => exact if_pos (by simp [hp, hh])
  case same => exact (if_neg (by rcases h with h | h <;> simp [h])).trans (if_pos heq)
  case drifts => exact (if_neg (by rcases h with h | h <;> simp [h])).trans (if_neg hne)
  case repair =>
    intro r t ht
    refine (if_neg hd).trans ((if_pos ?_).trans ?_)
    · simp only [hc, if_true, decide_true, Bool.true_and, decide_eq_true_eq]; exact ht
    · simp only [hc, if_true]; rfl

end

/-! PROOF. The obligations on lanes: bring-up, restore and retraining, and pattern tests (R117 to R133, R139 to R141). -/

namespace Sys2Proof.Machine

/-! ### Guards -/

theorem or_ne_true {a b : Bool} (ha : ¬ a = true) (hb : ¬ b = true) : ¬ (a || b) = true := by
  rw [Bool.or_eq_true]; exact not_or.mpr ⟨ha, hb⟩

theorem and_ne_true_left {a b : Bool} (ha : ¬ a = true) : ¬ (a && b) = true := by
  rw [Bool.and_eq_true]; exact fun h => ha h.1

theorem and_ne_true_right {a b : Bool} (hb : ¬ b = true) : ¬ (a && b) = true := by
  rw [Bool.and_eq_true]; exact fun h => hb h.2

theorem and_true_intro {a b : Bool} (ha : a = true) (hb : b = true) : (a && b) = true := by rw [ha, hb]; rfl

theorem not_ne_true {a : Bool} (ha : a = true) : ¬ (!a) = true := by rw [ha]; exact Bool.false_ne_true

theorem decide_ne_true {p : Prop} [Decidable p] (h : ¬ p) : ¬ decide p = true := mt of_decide_eq_true h

/-! ### Lanes -/

/-- The command register of a lane's test is not the one that sets its injection. -/
theorem Lane.testInj_ne_testCmd (lane : Lane) : lane.reg Reg.FLANE.TEST_INJ ≠ lane.reg Reg.FLANE.TEST_CMD := by
  cases lane <;> simp [Lane.reg, Reg.FLANE.TEST_INJ, Reg.FLANE.TEST_CMD, Reg.FLANE.LANE_STATE]

/-- The state register of a cascade lane stands at the place that a field lane's has. -/
theorem Lane.reg_casc_laneState (k i : Fin 2) : (Lane.casc k i).reg Reg.FLANE.LANE_STATE = Reg.CASC.LANE_STATE k i := by
  rw [Lane.reg, Nat.sub_self, Nat.add_zero]

end Sys2Proof.Machine

section

open Sys2Proof Sys2Proof.Machine

/-- Settles O21: each bring-up command by the lane state its guard asks for; the taps by whether they are held. -/
theorem laneBringUp : Obligations.LaneBringUp := by
  unfold Obligations.LaneBringUp
  refine ⟨?lane, ?taps⟩
  case lane =>
    intro lane p l s st sta
    refine ⟨fun inv h => ?frameLock, fun lost hlock hstate => ?lossOfLock,
      ⟨fun h => State.next_eq (if_neg h), fun h => State.next_eq (if_pos h)⟩,
      ⟨fun h0 hp => State.next_eq (if_pos ?deassert), fun h => State.next_eq (if_neg ?stays)⟩,
      fun h => State.next_eq (if_neg (Bool.eq_false_iff.mp h)), fun h => State.next_eq (if_pos h),
      fun h => State.next_eq (if_pos h), fun seq far h => ?seqFound, fun k i n h hfar => ?cascReady, fun n hn h hfar => ?skew⟩
    case frameLock => exact if_neg (not_not.mpr h)
    case lossOfLock => exact if_neg (or_ne_true (decide_ne_true hlock) (decide_ne_true hstate))
    case deassert => exact and_true_intro (decide_eq_true h0) (decide_eq_true hp)
    case stays => exact and_ne_true_left (decide_ne_true h)
    case seqFound =>
      intro t ht
      exact (if_neg (not_not.mpr h)).trans (State.next_eq (if_pos (Option.isNone_iff_eq_none.mpr ht)))
    case cascReady =>
      rw [← Lane.reg_casc_laneState] at hfar
      exact if_neg (or_ne_true (decide_ne_true (not_not.mpr h)) (decide_ne_true hfar))
    case skew =>
      exact (if_neg (or_ne_true (decide_ne_true (not_not.mpr h)) (decide_ne_true hfar))).trans (if_pos hn)
  case taps =>
    intro lane up s a b
    refine ⟨fun h => if_neg (Bool.eq_false_iff.mp h), fun h => if_pos h, fun i hi h => State.next_eq (if_pos ?_)⟩
    refine List.any_eq_true.mpr ⟨_, List.mem_append_left _ (List.mem_map_of_mem (List.mem_range.mpr hi)), ?_⟩
    simpa using h

/-- Settles O22: each command by the state of its port or link. -/
theorem portAndLinkRetraining : Obligations.PortAndLinkRetraining := by
  unfold Obligations.PortAndLinkRetraining
  intro p k s
  refine ⟨⟨fun h => if_pos h, fun h => if_neg h⟩,
    ⟨fun h => if_pos h, fun h hup => (if_neg h).trans (State.next_eq (if_neg (Bool.eq_false_iff.mp hup))),
      fun h hup => (if_neg h).trans (State.next_eq (if_pos hup))⟩, ?restore, fun l hup => if_neg ?slip⟩
  case slip => exact not_ne_true hup
  case restore =>
    intro t good fill rx tx hstate hrx htx
    exact if_neg (or_ne_true (or_ne_true (decide_ne_true (not_not.mpr hstate)) (decide_ne_true (Nat.not_lt.mpr hrx)))
      (decide_ne_true (Nat.not_lt.mpr htx)))

/-- Settles O23: each test command by its guard; the burst's length lies in another register than its command. -/
theorem laneTests : Obligations.LaneTests := by
  unfold Obligations.LaneTests
  intro lane s cmd stt
  refine ⟨rfl, ?burst, fun h => State.next_eq (if_pos h), ?enable, fun h => State.next_eq (if_pos h),
    fun ht hc => State.next_eq (if_pos ?checker), fun bits errors h => if_neg h⟩
  case burst =>
    have hinj := congrArg (getField Fld.FLANE.TEST_INJ.burst)
      (State.reg_setFld_other (s := s) lane.testInj_ne_testCmd Fld.FLANE.TEST_CMD.burst_go 0)
    exact State.next_eq (congrArg _ hinj.symm)
  case checker => exact and_true_intro ht hc
  case enable =>
    intro t hb ht
    have hguard := or_ne_true (not_ne_true hb) (Bool.eq_false_iff.mp ht)
    exact ⟨fun h => (if_neg hguard).trans (if_pos h), fun h => (if_neg hguard).trans (if_neg (Bool.eq_false_iff.mp h))⟩

end

/-! PROOF. The ledger of the heads (R156 to R158): what changes it, and what a life record leaves in it. -/

namespace Sys2Proof.Machine

variable {s : State}

/-- A part of the State that no step of a fold changes, the fold leaves. -/
theorem State.foldl_field {α β : Type} (g : State → β) {f : State → α → State} (h : ∀ s x, g (f s x) = g s) (l : List α)
    (s : State) : g (l.foldl f s) = g s := by
  induction l generalizing s with
  | nil => rfl
  | cons x t ih => rw [List.foldl_cons, ih, h]

theorem State.ledger_setReg_retained (s : State) {r : Retained} (h : r.ledger = s.retained.ledger) (a : Nat) (v : Word) :
    (({ s with retained := r } : State).setReg a v).retained.ledger = s.retained.ledger := h

theorem State.record_ledger (s : State) (e : EventRecord) : (s.record e).retained.ledger = s.retained.ledger := by
  delta State.record
  exact State.ledger_setReg_retained s (by rfl) _ _

theorem State.ledgerGet_congr {s t : State} (h : t.retained.ledger = s.retained.ledger) (uid : Nat) :
    t.ledgerGet uid = s.ledgerGet uid := by
  rw [State.ledgerGet, State.ledgerGet, h]

theorem State.raise_ledger (s : State) (e : EventDef) (arg : Nat) : (s.raise e arg).retained.ledger = s.retained.ledger := by
  obtain ⟨_, _, _, h⟩ := State.routeEvent_frame (s := s.record (s.eventRecord e arg)) e.id (s.eventRecord e arg)
  rw [State.raise, h]
  exact s.record_ledger _

theorem State.takeover_ledger (s : State) (q p : Nat) : (s.takeover q p).retained.ledger = s.retained.ledger := by
  delta State.takeover
  split
  · rfl
  · extract_lets joined off s1 s2 s3 k s4
    have hjoined : joined.retained.ledger = s.retained.ledger := by
      refine State.foldl_field (fun s => s.retained.ledger) (fun t e => ?_) _ s
      dsimp only
      split <;> rfl
    exact (State.raise_ledger _ _ _).trans hjoined

/-- A head's entry put into the ledger is the one found there. -/
theorem State.ledgerGet_ledgerPut (s : State) (e : LedgerEntry) : (s.ledgerPut e).ledgerGet e.uid = some e := by
  have hrest : ∀ l : List LedgerEntry, (∀ x ∈ l, x.uid ≠ e.uid) → (l ++ [e]).find? (fun x => decide (x.uid = e.uid)) = some e := by
    intro l hl
    rw [List.find?_append, List.find?_eq_none.mpr (by simpa using hl)]
    simp
  delta State.ledgerPut
  extract_lets rest rest' r
  have hmem : ∀ x ∈ rest, x.uid ≠ e.uid := fun x hx => by simpa using (List.mem_filter.mp hx).2
  have hmem' : ∀ x ∈ rest', x.uid ≠ e.uid := by
    intro x hx
    simp only [rest'] at hx
    split at hx
    · split at hx
      · exact hmem x (List.mem_of_mem_filter hx)
      · exact hmem x hx
    · exact hmem x hx
  exact hrest rest' hmem'

/-- The crossings of a head's limits leave its counters and limits in the ledger. -/
theorem State.ledgerGet_checkLimits (s : State) (p : Nat) (e : LedgerEntry) :
    ∃ e', (s.checkLimits p e).ledgerGet e.uid = some e' ∧ e'.counters = e.counters ∧ e'.limits = e.limits := by
  delta State.checkLimits
  extract_lets step before
  have hstep : ∀ (r : State × LedgerEntry) i, (step r i).2.uid = r.2.uid ∧ (step r i).2.counters = r.2.counters ∧
      (step r i).2.limits = r.2.limits := by
    intro r i
    simp only [step]
    split <;> split <;> exact ⟨rfl, rfl, rfl⟩
  have hfold : ∀ (l : List Nat) (r : State × LedgerEntry), (l.foldl step r).2.uid = r.2.uid ∧
      (l.foldl step r).2.counters = r.2.counters ∧ (l.foldl step r).2.limits = r.2.limits := by
    intro l
    induction l with
    | nil => exact fun _ => ⟨rfl, rfl, rfl⟩
    | cons i t ih =>
      intro r
      obtain ⟨huid, hcounters, hlimits⟩ := ih (step r i)
      obtain ⟨huid', hcounters', hlimits'⟩ := hstep r i
      exact ⟨huid.trans huid', hcounters.trans hcounters', hlimits.trans hlimits'⟩
  obtain ⟨huid, hcounters, hlimits⟩ := hfold [0, 1, 2, 3] (s, e)
  rcases hr : [0, 1, 2, 3].foldl step (s, e) with ⟨s', e'⟩
  rw [hr] at huid hcounters hlimits
  refine ⟨e', ?_, hcounters, hlimits⟩
  simp -zeta only
  extract_lets put pct s1 s2 s3 s4 s5 s6 shown k from_
  have hfrom : from_.retained.ledger = put.retained.ledger := by
    simp only [from_]
    split <;> rfl
  rw [State.ledgerGet_congr (s := put)]
  · exact huid ▸ s'.ledgerGet_ledgerPut e'
  · split
    · split
      · exact (State.takeover_ledger _ _ _).trans hfrom
      · exact hfrom
    · exact hfrom

theorem State.uid_of_ledgerGet {s : State} {uid : Nat} {e : LedgerEntry} (h : s.ledgerGet uid = some e) : e.uid = uid := by
  simpa using List.find?_some h

/-- A ledger entry with the counters of a life record taken in (R156). -/
def LedgerEntry.withLife (e : LedgerEntry) (b : List Byte) : LedgerEntry :=
  { e with counters := (e.counters.zip [beAt b 8 4, beAt b 12 4, beAt b 16 4, beAt b 20 4]).map (fun x => max x.1 x.2) }

/-- Each counter becomes the larger of the two (R156). -/
theorem LedgerEntry.getD_withLife (e : LedgerEntry) (b : List Byte) (hlen : e.counters.length = 4) {i : Nat} (hi : i < 4) :
    (e.withLife b).counters.getD i 0 = max (e.counters.getD i 0) (beAt b (8 + 4 * i) 4) := by
  obtain ⟨c0, c1, c2, c3, hc⟩ := List.length_eq_four.mp hlen
  simp only [LedgerEntry.withLife, hc]
  match i, hi with
  | 0, _ => rfl
  | 1, _ => rfl
  | 2, _ => rfl
  | 3, _ => rfl

/-- A life record of the attached head, one that the ledger knows. -/
theorem State.onHeadLife_ledgered {s : State} {p : Nat} {b : List Byte} {e : LedgerEntry}
    (huid : (s.link p).uid = some (beAt b 0 8)) (he : s.ledgerGet (beAt b 0 8) = some e) :
    s.onHeadLife p b = (s.setLink p { s.link p with silent := false }).checkLimits p (e.withLife b) := by
  have hget : (s.setLink p { s.link p with silent := false }).ledgerGet (beAt b 0 8) = some e := he
  rw [State.onHeadLife, if_neg (not_not.mpr huid)]
  simp only [hget]
  rfl

end Sys2Proof.Machine

/-! PROOF. Round-trip delay (R150, R151): a quotient whose rounding is not stated. -/

namespace Sys2Proof.Machine

theorem State.delay_setReg_rttLast (s : State) (p : Nat) (v : Word) : (s.setReg (Reg.FLINK.RTT_LAST p) v).delay p = s.delay p := by
  rw [State.delay, State.delay, State.reg_setReg_other (by simp only [Reg.FLINK.DELAY, Reg.FLINK.RTT_LAST]; omega)]

/-- A measurement with its stamps and its turnaround (R150, R151). -/
theorem State.tryRtt_measured {s : State} {p t1 t4 turn : Nat} (h1 : (s.link p).t1 = some t1) (h4 : (s.link p).t4 = some t4)
    (hturn : (s.link p).turn = some turn) :
    let k := s.link p
    let rtt : Int := (t4 : Int) - t1 - turn
    let d := freeDiv 1 rtt 2 + signedOf 24 (s.fld (Reg.FLINK.LINK_ASYM p) Fld.FLINK.LINK_ASYM.asym)
    let t := s.setReg (Reg.FLINK.RTT_LAST p) (BitVec.ofInt 32 rtt)
    let h := (k.history ++ [d]).drop ((k.history ++ [d]).length - 16)
    s.tryRtt p =
      if k.history ≠ [] ∧ 393216 < 100 * (d - s.delay p).natAbs then
        if 16 ≤ k.rejects + 1 then
          (((t.count (Reg.FLINK.RTT_OUTLIER_CNT p) 1).setLink p { k with
            t1 := none, t4 := none, turn := none, rejects := 0, history := [] }).setSta (Reg.FLINK.LINK_STA p)
              Fld.FLINK.LINK_STA.DELAY_STEP).raise Ev.FLINK.DELAY_STEP (p * 256)
        else (t.count (Reg.FLINK.RTT_OUTLIER_CNT p) 1).setLink p { k with
          t1 := none, t4 := none, turn := none, rejects := k.rejects + 1 }
      else ((t.setReg (Reg.FLINK.DELAY p) (BitVec.ofInt 32 (freeDiv 2 h.sum h.length))).setLink p { k with
        t1 := none, t4 := none, turn := none, rejects := 0, history := h, accepted := k.accepted + 1 }).tryStart p := by
  rw [State.tryRtt]
  simp only [h1, h4, hturn, State.delay_setReg_rttLast, Bool.and_eq_true, decide_eq_true_eq]

/-- A free quotient lies less than one unit from the exact one. -/
theorem freeDiv_near (site : Nat) (a : Int) {b : Nat} (hb : 0 < b) :
    (freeDiv site a b * b - a).natAbs < b := by
  have hdiv := Int.mul_fdiv_add_fmod a b
  have hlo := Int.fmod_nonneg_of_pos a (b := (b : Int)) (by omega)
  have hhi := Int.fmod_lt_of_pos a (b := (b : Int)) (by omega)
  rw [freeDiv]
  split
  · rw [mul_comm]; omega
  · split
    · rw [mul_comm, mul_add]; omega
    · rw [mul_comm, mul_add]; omega

end Sys2Proof.Machine

/-! PROOF. Messages of a head (R144, R145): their bytes read back, and what a received message does. -/

namespace Sys2Proof.Machine

theorem beNat_reverse (l : List Byte) : beNat l.reverse = leNat l := by
  rw [beNat, List.foldl_reverse]
  induction l with
  | nil => rfl
  | cons b t ih => rw [List.foldr_cons, ih, leNat]; omega

theorem leNat_leBytes (n v : Nat) : leNat (leBytes n v) = v % 256 ^ n := by
  induction n generalizing v with
  | zero => simp [leBytes, leNat, Nat.mod_one]
  | succ n ih => 
    rw [leBytes, leNat, ih, BitVec.toNat_ofNat, Nat.pow_succ' (m := 256)]
    exact Nat.mod_mul.symm

@[simp] theorem leBytes_length (n v : Nat) : (leBytes n v).length = n := by
  induction n generalizing v with
  | zero => rfl
  | succ n ih => rw [leBytes, List.length_cons, ih]

@[simp] theorem beBytes_length (n v : Nat) : (beBytes n v).length = n := by rw [beBytes, List.length_reverse, leBytes_length]

theorem beNat_beBytes {n v : Nat} (h : v < 256 ^ n) : beNat (beBytes n v) = v := by
  rw [beBytes, beNat_reverse, leNat_leBytes, Nat.mod_eq_of_lt h]

/-- A number written in n bytes reads back where it starts. -/
theorem beAt_beBytes_append {n v : Nat} (h : v < 256 ^ n) (l : List Byte) : beAt (beBytes n v ++ l) 0 n = v := by
  rw [beAt, List.drop_zero, List.take_left' (beBytes_length n v), beNat_beBytes h]

/-- Bytes before a position are passed over. -/
theorem beAt_append_skip {a l : List Byte} {i n : Nat} (h : a.length ≤ i) : beAt (a ++ l) i n = beAt l (i - a.length) n := by
  rw [beAt, beAt, List.drop_append, List.drop_eq_nil_of_le h, List.nil_append]

/-- The bytes of a message up to its CRC (R144). -/
def headBytes (type flags seq ack : Nat) (body : List Byte) : List Byte :=
  beBytes 1 type ++ beBytes 1 flags ++ beBytes 2 body.length ++ beBytes 2 seq ++ beBytes 2 ack ++ body

section

variable {type flags seq ack : Nat} {body : List Byte} {crc : BitVec 32}

theorem headBytes_length : (headBytes type flags seq ack body).length = 8 + body.length := by
  simp only [headBytes, List.length_append, beBytes_length]

/-- The fields of a message read back (R144). -/
theorem headBytes_fields (ht : type < 256) (hf : flags < 4) (hs : seq < 32768) (ha : ack < 32768) (hb : body.length ≤ 244)
    (l : List Byte) : let m := headBytes type flags seq ack body ++ l
    beAt m 0 1 = type ∧ beAt m 1 1 = flags ∧ beAt m 2 2 = body.length ∧ beAt m 4 2 = seq ∧ beAt m 6 2 = ack := by
  simp only [headBytes, List.append_assoc]
  refine ⟨beAt_beBytes_append (by omega) _, ?_, ?_, ?_, ?_⟩
  · rw [beAt_append_skip (by simp), beBytes_length, beAt_beBytes_append (by omega)]
  · rw [beAt_append_skip (by simp), beAt_append_skip (by simp)]
    simp only [beBytes_length, Nat.reduceSub]
    rw [beAt_beBytes_append (by omega)]
  · rw [beAt_append_skip (by simp), beAt_append_skip (by simp), beAt_append_skip (by simp)]
    simp only [beBytes_length, Nat.reduceSub]
    rw [beAt_beBytes_append (by omega)]
  · rw [beAt_append_skip (by simp), beAt_append_skip (by simp), beAt_append_skip (by simp), beAt_append_skip (by simp)]
    simp only [beBytes_length, Nat.reduceSub]
    rw [beAt_beBytes_append (by omega)]

theorem headBytes_body (l : List Byte) : ((headBytes type flags seq ack body ++ l).drop 8).take body.length = body := by
  have h8 : (beBytes 1 type ++ beBytes 1 flags ++ beBytes 2 body.length ++ beBytes 2 seq ++ beBytes 2 ack).length = 8 := by
    simp only [List.length_append, beBytes_length]
  rw [headBytes, List.append_assoc, List.drop_left' h8, List.take_left' rfl]

theorem beAt_crc : beAt (headBytes type flags seq ack body ++ beBytes 4 crc.toNat) (8 + body.length) 4 = crc.toNat := by
  have hcrc := crc.isLt
  have h := beAt_beBytes_append (n := 4) (v := crc.toNat) (by omega) []
  rw [beAt_append_skip (by rw [headBytes_length]), headBytes_length, Nat.sub_self]
  rwa [List.append_nil] at h

/-- What a received message does, by its fields (R144, R145). -/
theorem rxMessage_headBytes (s : State) (p : Nat) (ht : type < 256) (hf : flags < 4) (hs : seq < 32768) (ha : ack < 32768)
    (hb : body.length ≤ 244) : s.rxMessage p (headBytes type flags seq ack body ++ beBytes 4 crc.toNat) =
    if type = 0 ∨ 8 < type then s.count (Reg.FLINK.MSG_DROP_CNT p) 1
    else if (if flags % 2 = 1 then body ≠ [] else headBodyOk type body.length = false) ∨ crc ≠ crc32c (headBytes type flags seq ack body)
      then s.count (Reg.FLINK.MSG_BAD_CNT p) 1
    else if flags % 2 = 1 then s.onAck p ack
    else if type = 2 ∨ type = 6 then (s.onAck p ack).onMessage p type body
    else if seq ≠ ((s.onAck p ack).link p).rxNext then
      (s.onAck p ack).setLink p { (s.onAck p ack).link p with ackDue := true }
    else ((s.onAck p ack).setLink p { (s.onAck p ack).link p with
      rxNext := (((s.onAck p ack).link p).rxNext + 1) % 32768, rxAny := true, ackDue := true }).onMessage p type body := by
  obtain ⟨htype, hflags, hlen, hseq, hack⟩ := headBytes_fields ht hf hs ha hb (beBytes 4 crc.toNat)
  have hodd : flags.testBit 0 = decide (flags % 2 = 1) := Nat.testBit_zero flags
  have hcrc : (crc32c (headBytes type flags seq ack body)).toNat ≠ crc.toNat ↔ crc ≠ crc32c (headBytes type flags seq ack body) := by
    rw [ne_eq, BitVec.toNat_inj, ne_comm]
  rw [State.rxMessage]
  simp only [htype, hflags, hlen, hseq, hack, hodd, headBytes_body, beAt_crc, List.take_left' headBytes_length, hcrc]
  by_cases hpar : flags % 2 = 1
  · simp [hpar, Nat.not_lt.mpr hb]
  · simp [hpar, Nat.not_lt.mpr hb]

end

/-! ### Commands of a port that turn on what the link waits for -/

variable {s : State} {p : Fin 8}

/-- The timeout of a HEAD_CFG that was acknowledged (R153). -/
theorem execHeadCfgTimeout_of_cmd {cmd tries : Nat} (hcmd : (s.link p).cmd = some (cmd, tries))
    (hnone : ∀ m ∈ (s.link p).unacked, m.type ≠ 3) : execHeadCfgTimeout p s =
      .next (if tries = 0 then s.sendHeadCfg p cmd 1 else s.msgFail p 3) := by
  simp only [execHeadCfgTimeout, hcmd]
  rw [if_neg (by simpa using hnone)]

/-- A resend with a message unacknowledged (R145). -/
theorem execMsgResend_of_unacked {m : SentMsg} {l : List SentMsg} (h : (s.link p).unacked = m :: l) :
    let k := s.link p
    let sent := (k.unacked.take messageWindow).map (fun m => { m with resends := m.resends + 1 })
    execMsgResend p s = if 8 ≤ m.resends then .next (s.msgFail p m.type)
      else .next (sent.foldl (fun t m => t.transmit p m) ((s.setLink p { k with
        unacked := sent ++ k.unacked.drop messageWindow }).count (Reg.FLINK.RETX_CNT p) sent.length)) := by
  simp only [execMsgResend, h]

end Sys2Proof.Machine

/-! PROOF. The obligations on heads: messages, round-trip delay, the ledger and the commands of a port (R144 to R168). -/

section

open Sys2Proof Sys2Proof.Machine

/-- Settles O26, from what `rxMessage_headBytes` says of a message by its fields. -/
theorem fieldMessages : Obligations.FieldMessages := by
  unfold Obligations.FieldMessages
  intro p type flags seq ack body crc s ht hf hs ha hb head m t
  have hrx : s.rxMessage p m = _ := rxMessage_headBytes s p ht hf hs ha hb
  rw [hrx]
  refine ⟨fun h => if_pos h, fun h0 h8 hbad => ?badCrc, fun h0 h8 hcrc => ?goodCrc⟩
  case badCrc => rw [if_neg (by omega), if_pos (.inr hbad)]
  case goodCrc =>
    have hgood : ¬ crc ≠ crc32c (headBytes type flags seq ack body) := not_not.mpr hcrc
    rw [if_neg (by omega)]
    refine ⟨fun hodd hempty => ?ack, fun heven hlen => ?badLength, fun heven hlen => ?message⟩
    case ack => rw [if_neg (not_or.mpr ⟨by simp [hodd, hempty], hgood⟩), if_pos hodd]
    case badLength => rw [if_pos (.inl (by simp [heven, hlen]))]
    case message =>
      rw [if_neg (not_or.mpr ⟨by simp [heven, hlen], hgood⟩), if_neg (by omega)]
      refine ⟨fun h => if_pos h, fun h2 h6 hnext => ?inOrder, fun h2 h6 hnext => ?outOfOrder⟩
      case inOrder => rw [if_neg (by omega), if_neg (not_not.mpr hnext), hnext]
      case outOfOrder => rw [if_neg (by omega), if_pos hnext]

/-- Settles O28: the entry put back holds the larger counters, and the limits' crossings leave it so. -/
theorem headLedger : Obligations.HeadLedger := by
  unfold Obligations.HeadLedger
  intro s p b e huid he hlen
  have heuid := State.uid_of_ledgerGet he
  have hlife := State.onHeadLife_ledgered huid he
  obtain ⟨e', hget, hcounters, hlimits⟩ := (s.setLink p { s.link p with silent := false }).ledgerGet_checkLimits p (e.withLife b)
  rw [← hlife, show (e.withLife b).uid = beAt b 0 8 from heuid] at hget
  refine ⟨e', hget, hlimits, fun i hi => ?_⟩
  rw [hcounters]
  exact e.getD_withLife b hlen hi

/-- Settles O27: the quotients that the model leaves free lie within a unit (`freeDiv_near`), and the branches of `tryRtt` are
those of the statement. -/
theorem roundTripDelay : Obligations.RoundTripDelay := by
  unfold Obligations.RoundTripDelay
  intro s p t1 t4 turn k ht1 ht4 hturn rtt a measured
  have hhalf := freeDiv_near 1 rtt (b := 2) (by decide)
  have htry := State.tryRtt_measured ht1 ht4 hturn
  refine ⟨freeDiv 1 rtt 2 + a, by omega, by omega, fun hne hfar hfew => ?outlier, fun hne hfar hmany => ?stepped, fun hnear => ?accepted⟩
  case outlier => exact (htry.trans (if_pos ⟨hne, hfar⟩)).trans (if_neg (Nat.not_le.mpr hfew))
  case stepped => exact (htry.trans (if_pos ⟨hne, hfar⟩)).trans (if_pos hmany)
  case accepted =>
    have hlen : (k.history ++ [freeDiv 1 rtt 2 + a]).length = k.history.length + 1 := by simp
    intro h
    refine ⟨freeDiv 2 h.sum h.length, freeDiv_near 2 h.sum ?pos, (htry.trans (if_neg ?near)).trans ?mean⟩
    case pos => simp only [h, List.length_drop, hlen]; omega
    case near => rintro ⟨hne, hfar⟩; exact hnear.elim hne (Nat.not_le.mpr hfar)
    case mean => simp only [h, ← hlen]; rfl

/-- Settles O29: each command by the guard of its port. -/
theorem headCommands : Obligations.HeadCommands := by
  unfold Obligations.HeadCommands
  intro p s k go
  refine ⟨fun hup => ⟨fun hk => State.next_eq (if_pos ?idTimeout), State.next_eq (if_pos hup), fun t1 => State.next_eq (if_pos hup)⟩,
    fun hup => State.next_eq (if_pos hup), fun hup => State.next_eq (if_pos hup), fun cmd tries hcmd hnone => ⟨fun h => ?first, fun h => ?again⟩,
    rfl, fun h => State.next_eq (if_pos h), fun m l hl => ⟨fun h => ?fails, fun h => ?resend⟩,
    ⟨fun h => State.next_eq (if_pos h), fun h => State.next_eq (if_neg (Bool.eq_false_iff.mp h))⟩,
    ⟨fun htaken hst hup => if_pos ?reverts, fun h => if_neg ?stays⟩, rfl⟩
  case idTimeout => exact and_true_intro hup (by rw [hk]; rfl)
  case first => exact (execHeadCfgTimeout_of_cmd hcmd hnone).trans (State.next_eq (if_pos h))
  case again => exact (execHeadCfgTimeout_of_cmd hcmd hnone).trans (State.next_eq (if_neg h))
  case fails => exact (execMsgResend_of_unacked hl).trans (if_pos h)
  case resend => exact (execMsgResend_of_unacked hl).trans (if_neg (Nat.not_le.mpr h))
  case reverts => exact and_true_intro (and_true_intro (decide_eq_true htaken) hst) hup
  case stays => exact and_ne_true_left (and_ne_true_right (Bool.eq_false_iff.mp h))

end

/-! PROOF. The time bases (R205): a signed step of TB-W is exact modulo 2^96. -/

namespace Sys2Proof.Machine

/-- TB-W in 2^-32 ns. -/
def State.wallUnits (s : State) : Nat := s.time.tbwNs.toNat * 2 ^ 32 + s.time.tbwFrac.toNat

theorem State.wallUnits_addTbw (s : State) (d : Int) : ((s.addTbw d).wallUnits : Int) = (s.wallUnits + d) % (2 ^ 96 : Nat) := by
  have hlo : 0 ≤ ((s.wallUnits : Int) + d) % (2 ^ 96 : Nat) := Int.emod_nonneg _ (by decide)
  have hhi : ((s.wallUnits : Int) + d) % (2 ^ 96 : Nat) < (2 ^ 96 : Nat) := Int.emod_lt_of_pos _ (by decide)
  obtain ⟨v, hv⟩ := Int.eq_ofNat_of_zero_le hlo
  have hns : (s.addTbw d).time.tbwNs = BitVec.ofNat 64 (v / 2 ^ 32) :=
    congrArg (fun x : Int => BitVec.ofNat 64 (x.toNat / 2 ^ 32)) hv
  have hfrac : (s.addTbw d).time.tbwFrac = BitVec.ofNat 32 v := congrArg (fun x : Int => BitVec.ofNat 32 x.toNat) hv
  rw [hv] at hhi ⊢
  rw [State.wallUnits, hns, hfrac, BitVec.toNat_ofNat, BitVec.toNat_ofNat]
  omega

theorem execNetRxFrame_of_addressed {frame : List Byte} {s : State} (hup : s.netUp = true) (ha : s.netAddressed frame = true) :
    execNetRxFrame frame true s = match ptpEvent frame with
      | none => .next (s.rxDeliver frame 0 none)
      | some _ =>
        if s.tim.netRx.isSome then .next (s.stampMiss.rxDeliver frame 5 none)
        else
          let d := s.ptpStamp (s.fld Reg.NET.NET_RX_COMP Fld.NET.NET_RX_COMP.comp)
          .next { d.2 with tim := { d.2.tim with netRx := some ⟨frame, d.1, 0⟩ } } :=
  (if_neg (not_ne_true hup)).trans (if_neg (or_ne_true Bool.false_ne_true (not_ne_true ha)))

theorem execNetTxFrame_of_ready {frame e : List Byte} {s : State} {l : List (List Byte)}
    (hl : s.crEntries (s.fld Reg.NET.NET_CFG Fld.NET.NET_CFG.tx_ring) = e :: l)
    (hgo : ¬ (!s.netUp || decide (s.ringState (cring (s.fld Reg.NET.NET_CFG Fld.NET.NET_CFG.tx_ring)) ≠ 1) ||
      decide (s.ringType (cring (s.fld Reg.NET.NET_CFG Fld.NET.NET_CFG.tx_ring)) ≠ 3)) = true) :
    let f := bytesAt frame 0 (leAt e 8 4)
    let t := (s.crConsume (s.fld Reg.NET.NET_CFG Fld.NET.NET_CFG.tx_ring)).emit (.netFrame f)
    (ptpEvent f = none → execNetTxFrame frame s = .next t) ∧
      (∀ x, ptpEvent f = some x → t.tim.netTx.isSome = true → execNetTxFrame frame s = .next t.stampMiss) := by
  intro f t
  refine ⟨fun hev => ?plain, fun x hev hbusy => ?busy⟩
  case plain => simp only [execNetTxFrame, hl, if_neg hgo]; rw [show ptpEvent (bytesAt frame 0 (leAt e 8 4)) = none from hev]
  case busy =>
    simp only [execNetTxFrame, hl, if_neg hgo]
    rw [show ptpEvent (bytesAt frame 0 (leAt e 8 4)) = some x from hev]
    exact if_pos hbusy

end Sys2Proof.Machine

/-! PROOF. The obligations on the time bases and the network port (R201 to R208, R220 to R229). -/

section

open Sys2Proof Sys2Proof.Machine

/-- Settles O31: each command by the domains that run; the one-time step is exact by `wallUnits_addTbw`. -/
theorem timeBaseCommands : Obligations.TimeBaseCommands := by
  unfold Obligations.TimeBaseCommands
  refine ⟨?wall, ?machine⟩
  case wall =>
    intro s cmd
    refine ⟨fun href hsamp => ?snap, fun href => ⟨fun hok => ?incr, fun hbad => ?range⟩, fun href => ?once, fun d => ?exact,
      fun href => ⟨if_pos ?noSnap, if_pos ?noIncr, if_pos ?noOnce⟩⟩
    case snap => exact if_neg (not_ne_true (and_true_intro href hsamp))
    case incr => exact (if_neg (not_ne_true href)).trans (if_pos hok)
    case range => exact (if_neg (not_ne_true href)).trans (if_neg (Bool.eq_false_iff.mp hbad))
    case once =>
      refine (if_neg (not_ne_true href)).trans ?_
      simp only [bit, decide_eq_true_eq]
      rfl
    case exact =>
      intro w
      have hw (t : State) : w t = t.wallUnits := by simp only [w, State.wallUnits]; push_cast; rfl
      rw [hw, hw, s.wallUnits_addTbw d]
      exact Int.emod_emod_of_dvd _ (by norm_num)
    case noSnap => simp [href]
    case noIncr => simp [href]
    case noOnce => simp [href]
  case machine =>
    intro input s
    refine ⟨rfl, fun l hl hmach => ?apply, fun hin hsel hmach hon => ?fiducial, fun h => ?ignored⟩
    case apply =>
      have hgo : execTurnLoadApply s = if !s.running .mach then .next s else .next (({ s with
          time := { s.time with bucket := 0, cycle := 0, turn := l },
          tim := { s.tim with turnLoad := none } } : State).setFld Reg.TIME.TIME_STATE Fld.TIME.TIME_STATE.tbm_estimated 0) := by
        simp only [execTurnLoadApply, hl]
      exact hgo.trans (if_neg (not_ne_true hmach))
    case fiducial =>
      intro fb slip
      have hguard := or_ne_true (or_ne_true (or_ne_true (decide_ne_true hin) (decide_ne_true (not_not.mpr hsel)))
        (not_ne_true hmach)) (not_ne_true hon)
      refine ⟨fun hat => (if_neg hguard).trans (if_pos ?confirms), fun hoff => ?slips⟩
      case confirms => exact and_true_intro (decide_eq_true hat.1) (decide_eq_true hat.2)
      case slips =>
        have hmiss : ¬ (decide (s.time.bucket.toNat = fb) && decide (s.time.cycle = 0)) = true := by
          rw [← Bool.decide_and]; exact decide_ne_true hoff
        exact ⟨fun hno => (if_neg hguard).trans ((if_neg hmiss).trans (if_neg (Bool.eq_false_iff.mp hno))),
          fun hre => (if_neg hguard).trans ((if_neg hmiss).trans (if_pos hre))⟩
    case ignored => exact if_pos (by rcases h with h | h <;> simp [h])

/-- Settles O33: a received frame by its check and its address, a transmitted one by whether it is a PTP event. -/
theorem networkPort : Obligations.NetworkPort := by
  unfold Obligations.NetworkPort
  intro frame s st ring
  refine ⟨fun hup => ⟨?badCheck, fun ha => ?notAddressed, fun ha => ⟨fun hev => ?plain, fun e he hbusy => ?busy, fun e he hfree => ?stamped⟩⟩,
    fun hdown ok => if_pos (by rw [hdown]; rfl), fun e l hl hup hst htype => ?transmit, rfl, fun hup => if_neg (not_ne_true hup),
    fun hon hrun hdown => if_neg ?linkUp⟩
  case linkUp => exact or_ne_true (or_ne_true (not_ne_true hon) (not_ne_true hrun)) (Bool.eq_false_iff.mp hdown)
  case badCheck => exact (if_neg (not_ne_true hup)).trans (if_pos rfl)
  case notAddressed => exact (if_neg (not_ne_true hup)).trans (if_pos (by rw [ha]; rfl))
  case plain => exact (execNetRxFrame_of_addressed hup ha).trans (by rw [hev])
  case busy => exact (execNetRxFrame_of_addressed hup ha).trans (by simp only [he, hbusy, if_true])
  case stamped => exact (execNetRxFrame_of_addressed hup ha).trans (by simp only [he, hfree]; rfl)
  case transmit =>
    exact execNetTxFrame_of_ready hl (or_ne_true (or_ne_true (not_ne_true hup) (decide_ne_true (not_not.mpr hst)))
      (decide_ne_true (not_not.mpr htype)))

end

/-! PROOF. Reads and writes of the Inkwell leave every stored byte but those written (R418, R421 to R423). -/

namespace Sys2Proof.Machine

variable {s : State}

theorem State.ite_mem {c : Prop} [Decidable c] {t u : State} {m : List Host.Cell} (ht : t.ink.mem = m) (hu : u.ink.mem = m) :
    (if c then t else u).ink.mem = m := by
  split
  · exact ht
  · exact hu

theorem foldl_mem {α : Type} {f : State → α → State} (h : ∀ t x, (f t x).ink.mem = t.ink.mem) (l : List α) (s : State) :
    (l.foldl f s).ink.mem = s.ink.mem := by
  induction l generalizing s with
  | nil => rfl
  | cons x l ih => exact (ih (f s x)).trans (h s x)

theorem foldl_snd_mem {α β : Type} {f : β × State → α → β × State} (h : ∀ p x, (f p x).2.ink.mem = p.2.ink.mem) (l : List α)
    (p : β × State) : (l.foldl f p).2.ink.mem = p.2.ink.mem := by
  induction l generalizing p with
  | nil => rfl
  | cons x l ih => exact (ih (f p x)).trans (h p x)

theorem State.raise_mem (e : EventDef) (arg : Nat) : (s.raise e arg).ink.mem = s.ink.mem := congrArg Ink.mem (State.raise_ink s e arg)

theorem State.blkEvent_mem (b n : Nat) (e : EventDef) (arg : Nat) : (s.blkEvent b n e arg).ink.mem = s.ink.mem :=
  congrArg Ink.mem (State.blkEvent_ink s b n e arg)

theorem State.rowNote_mem (cell n : Nat) : (s.rowNote cell n).ink.mem = s.ink.mem := by
  unfold State.rowNote
  refine State.ite_mem rfl ?_
  split
  exact State.ite_mem (State.raise_mem _ _) rfl

theorem State.elogHead_mem : s.elogHead.ink.mem = s.ink.mem := rfl

theorem State.inkLog_mem (src kind cell k : Nat) (syn : BitVec 14) : (s.inkLog src kind cell k syn).ink.mem = s.ink.mem := by
  unfold State.inkLog
  split
  refine State.ite_mem ((State.blkEvent_mem ..).trans ?_) ((State.blkEvent_mem ..).trans ?_) <;>
    exact State.ite_mem (State.blkEvent_mem ..) State.elogHead_mem

theorem State.readCodeword_mem (src kind cell k : Nat) (errs : List InkErr) :
    (s.readCodeword src kind cell k errs).2.ink.mem = s.ink.mem := by
  unfold State.readCodeword
  extract_lets
  split
  case isTrue => exact (State.rowNote_mem ..).trans (State.inkLog_mem ..)
  case isFalse => split <;> rfl

theorem State.countCorrected_mem (cell n : Nat) : (s.countCorrected cell n).ink.mem = s.ink.mem :=
  State.ite_mem rfl (State.rowNote_mem ..)

theorem State.readCell_mem (src kind cell : Nat) (errs : List InkErr) :
    (s.readCell src kind cell errs).2.ink.mem = s.ink.mem := by
  unfold State.readCell
  extract_lets own addr t soft u
  split
  case isTrue => rfl
  case isFalse =>
    split
    case isTrue => exact (State.rowNote_mem ..).trans (State.inkLog_mem ..)
    case isFalse =>
      refine (foldl_snd_mem (fun p k => ?_) _ _).trans (State.countCorrected_mem ..)
      exact State.readCodeword_mem ..

/-- The codewords of a written cell, and the end of its write. -/
def State.cellWritten (s : State) (cell : Nat) (poison : Nat → Bool) : State :=
  let u : State := ((List.range 7).foldl (fun t k => t.setPoison (cell * 7 + k) (poison k)) s).setBad cell false
  if u.orphan cell then { u with ink := { u.ink with filled := sparsePut (fun _ => false) cell true u.ink.filled } } else u

theorem State.cellWritten_mem (cell : Nat) (poison : Nat → Bool) : (s.cellWritten cell poison).ink.mem = s.ink.mem := by
  have h : ((List.range 7).foldl (fun t k => State.setPoison t (cell * 7 + k) (poison k)) s).ink.mem = s.ink.mem :=
    foldl_mem (f := fun t k => State.setPoison t (cell * 7 + k) (poison k)) (fun _ _ => rfl) _ s
  exact State.ite_mem h h

theorem State.writeCell_eq (src cell a n : Nat) (errs : List InkErr) :
    s.writeCell src cell a n errs =
      let lo := cell * cellBytes
      let r := if decide (a ≤ lo) && decide (lo + cellBytes ≤ a + n) then (List.replicate 7 false, s)
        else (s.count64 Reg.INK.INK_RMW_CNT_LO Reg.INK.INK_RMW_CNT_HI 1).readCell src 4 cell errs
      r.2.cellWritten cell (fun k => !(decide (a ≤ lo + 8 * k) && decide (lo + 8 * k + 8 ≤ a + n)) && r.1.getD k false) := rfl

theorem State.writeCell_mem (src cell a n : Nat) (errs : List InkErr) :
    (s.writeCell src cell a n errs).ink.mem = s.ink.mem := by
  rw [State.writeCell_eq]
  refine (State.cellWritten_mem ..).trans ?_
  split
  · rfl
  · exact State.readCell_mem ..

theorem State.inkWrite_mem (src a : Nat) (l : List Byte) (errs : List InkErr) :
    (s.inkWrite src a l errs).ink.mem = sparsePutN (fun _ => 0) s.ink.mem a l := by
  unfold State.inkWrite
  split
  case isTrue h => rw [List.eq_nil_of_length_eq_zero h]; rfl
  case isFalse => exact congrArg (sparsePutN _ · a l) (foldl_mem (fun _ _ => State.writeCell_mem ..) _ s)

/-- The cells of a read, one after the other: which codewords are in error, and the State after them. -/
def State.cellsRead (s : State) (src first cells : Nat) (errs : List InkErr) : List Bool × State :=
  (List.range cells).foldl (fun r d => (r.1 ++ (r.2.readCell src 0 (first + d) errs).1, (r.2.readCell src 0 (first + d) errs).2)) ([], s)

theorem State.cellsRead_mem (src first cells : Nat) (errs : List InkErr) : (s.cellsRead src first cells errs).2.ink.mem = s.ink.mem :=
  foldl_snd_mem (f := fun r d => (r.1 ++ (r.2.readCell src 0 (first + d) errs).1, (r.2.readCell src 0 (first + d) errs).2))
    (fun _ _ => State.readCell_mem ..) _ _

theorem State.inkRead_eq (src a : Nat) {n : Nat} (errs : List InkErr) (h : n ≠ 0) :
    s.inkRead src a n errs =
      let first := a / cellBytes
      let r := s.cellsRead src first ((a + n - 1) / cellBytes + 1 - first) errs
      ((List.range n).map (fun d =>
        let e := r.1.getD ((a + d) / 8 - first * 7) false
        (if e then 0 else sparseGet (fun _ => 0) r.2.ink.mem (a + d), e)), r.2) := by
  unfold State.inkRead
  rw [if_neg h]
  rfl

theorem State.inkRead_mem (src a n : Nat) (errs : List InkErr) : (s.inkRead src a n errs).2.ink.mem = s.ink.mem := by
  by_cases h : n = 0
  · rw [h]; rfl
  · rw [State.inkRead_eq src a errs h]
    exact State.cellsRead_mem ..

/-- A byte of a read: the stored byte, or 0 where its codeword is in error (R423). -/
theorem State.inkRead_getD (src a : Nat) {n : Nat} (errs : List InkErr) {i : Nat} (h : i < n) :
    ∃ e, (s.inkRead src a n errs).1.getD i (0, true) = (if e = true then 0 else sparseGet (fun _ => 0) s.ink.mem (a + i), e) := by
  rw [State.inkRead_eq src a errs (by omega)]
  simp only [State.cellsRead_mem, List.getD_eq_getElem?_getD, List.getElem?_map, List.getElem?_range h, Option.map_some,
    Option.getD_some]
  exact ⟨_, rfl⟩

end Sys2Proof.Machine

/-! PROOF. The obligation on the bytes of the Inkwell. -/

section

open Sys2Proof Sys2Proof.Machine

/-- Settles O49: only `sparsePutN` changes the stored bytes, and the State's canonical form makes it a write at its keys. -/
theorem inkwellBytes : Obligations.InkwellBytes := by
  unfold Obligations.InkwellBytes
  intro src addr data len errs s hs byte
  refine ⟨fun hin => ⟨_, State.next_eq (if_pos hin), fun i hi => ?written, fun a ha => ?others⟩, fun hout => State.next_eq (if_neg (by omega)),
    fun hin => ⟨_, State.next_eq (if_pos hin), State.inkRead_mem .., fun i hi => ?read⟩, fun hout => State.next_eq (if_neg (by omega))⟩
  case written =>
    have hrise : keysRise s.ink.mem = true := by
      obtain ⟨-, hmem, -⟩ := hs
      simp only [Memory.wf, sparseWf, Bool.and_eq_true] at hmem
      exact hmem.1
    simp only [byte, State.inkWrite_mem]
    rw [sparseGet_putN hrise, List.getD_eq_getElem _ _ hi, List.getD_eq_getElem _ _ hi]
  case others =>
    simp only [byte, State.inkWrite_mem]
    exact sparseGet_putN_other ha
  case read =>
    obtain ⟨e, he⟩ := s.inkRead_getD src.val addr.toNat errs hi
    rw [he]
    cases e with
    | false => exact ⟨fun _ => rfl, fun h => absurd h Bool.false_ne_true⟩
    | true => exact ⟨fun h => absurd h.symm Bool.false_ne_true, fun _ => rfl⟩

end

/-! PROOF. The spike filter: the end of a block, and the replacement of one sample (R230 to R233). -/

namespace Sys2Proof.Machine

variable {s : State}

/-- The start of the next spike block on one stream: its threshold, and its last block while the filter drains. -/
def State.spikeNext (s : State) (p o : Nat) (r : SpikeRun) : Host.Outcome State Fault Refusal :=
  let drain := s.hiddenScope ⟨.spk, p⟩ = .draining
  let next := r.start + 8192
  let r' : SpikeRun := { r with
    start := next, last := if drain then some next else none,
    thrs := (next, s.fld (Reg.COND.SPK_THR p) Fld.COND.SPK_THR.thr) :: r.thrs }
  let runs := (o, r') :: (s.spike p).runs.filter (fun e => e.1 ≠ o)
  let s : State := s.setSpike p { s.spike p with runs := runs }
  if drain && runs.all (fun e => e.2.last.isSome) then
    .next ((s.setFld (Reg.COND.SPK_STATE p) Fld.COND.SPK_STATE.enabled 0).setScope ⟨.spk, p⟩ .off)
  else .next s

theorem State.spikeNext_running {p o : Nat} {r : SpikeRun} (hd : s.hiddenScope ⟨.spk, p⟩ ≠ .draining) :
    s.spikeNext p o r = .next (s.setSpike p { s.spike p with
      runs := (o, { r with
        start := r.start + 8192,
        last := none, thrs := (r.start + 8192, s.fld (Reg.COND.SPK_THR p) Fld.COND.SPK_THR.thr) :: r.thrs }) ::
        (s.spike p).runs.filter (fun e => e.1 ≠ o) }) := by
  unfold State.spikeNext
  simp only [hd, decide_false, Bool.false_and, Bool.false_eq_true, if_false]

/-- The end of a spike block with 8192 samples out: its count, the burst event above a limit, a commit, and the next block. -/
theorem execSpikeBlockEnd_full {p : Fin 8} {o : Fin 4} {id : Nat} (hid : (s.portStreams p).getD o none = some id)
    (hfull : 8192 ≤ ((s.filtered p o (s.stream id) (s.spikeRun p o).start).take 8192).length)
    (hon : s.flag (Reg.COND.SPK_STATE p) Fld.COND.SPK_STATE.enabled = true) (hlast : (s.spikeRun p o).last = none) :
    execSpikeBlockEnd p o s =
      let n := ((s.filtered p o (s.stream id) (s.spikeRun p o).start).take 8192).countP (·.2)
      let t : State := (s.setSpkLast p o n).count (Reg.COND.SPK_REPL_CNT p) n
      let lim := t.fld (Reg.COND.SPK_BURST p) Fld.COND.SPK_BURST.limit
      let u : State := if lim ≠ 0 && decide (lim < n) then t.blkEvent 8 8 Ev.COND.SPIKE_BURST (p * 256 + o) else t
      let v : State := if (u.spike p).commit then
        (u.commitScope ⟨.spk, p⟩).setSpike p { u.spike p with commit := false } else u
      v.spikeNext p o (s.spikeRun p o) := by
  unfold execSpikeBlockEnd
  simp only [hid]
  exact if_neg (or_ne_true (or_ne_true (decide_ne_true (by omega)) (not_ne_true hon)) (by rw [hlast]; exact Bool.false_ne_true))

theorem execSpikeBlockEnd_short {p : Fin 8} {o : Fin 4} {id : Nat} (hid : (s.portStreams p).getD o none = some id)
    (hshort : ((s.filtered p o (s.stream id) (s.spikeRun p o).start).take 8192).length < 8192) :
    execSpikeBlockEnd p o s = .next s := by
  unfold execSpikeBlockEnd
  simp only [hid]
  exact if_pos (by rw [decide_eq_true hshort]; rfl)

/-- The same where no commit waits and the filter does not drain, for the State u after the count and its event. -/
theorem execSpikeBlockEnd_running {p : Fin 8} {o : Fin 4} {id : Nat} {u : State} (hid : (s.portStreams p).getD o none = some id)
    (hfull : 8192 ≤ ((s.filtered p o (s.stream id) (s.spikeRun p o).start).take 8192).length)
    (hon : s.flag (Reg.COND.SPK_STATE p) Fld.COND.SPK_STATE.enabled = true) (hlast : (s.spikeRun p o).last = none)
    (hu : (let n := ((s.filtered p o (s.stream id) (s.spikeRun p o).start).take 8192).countP (·.2)
      let t : State := (s.setSpkLast p o n).count (Reg.COND.SPK_REPL_CNT p) n
      let lim := t.fld (Reg.COND.SPK_BURST p) Fld.COND.SPK_BURST.limit
      if lim ≠ 0 && decide (lim < n) then t.blkEvent 8 8 Ev.COND.SPIKE_BURST (p * 256 + o) else t) = u)
    (hc : (u.spike p).commit = false) (hd : u.hiddenScope ⟨.spk, p⟩ ≠ .draining) :
    execSpikeBlockEnd p o s = .next (u.setSpike p { u.spike p with
      runs := (o.val, { s.spikeRun p o with
        start := (s.spikeRun p o).start + 8192, last := none,
        thrs := ((s.spikeRun p o).start + 8192, u.fld (Reg.COND.SPK_THR p) Fld.COND.SPK_THR.thr) :: (s.spikeRun p o).thrs }) ::
        (u.spike p).runs.filter (fun e => e.1 ≠ o.val) }) := by
  subst hu
  rw [execSpikeBlockEnd_full hid hfull hon hlast]
  exact (congrArg (State.spikeNext · p o _) (if_neg (Bool.eq_false_iff.mp hc))).trans (State.spikeNext_running hd)

theorem State.spkDisable_on {p : Nat} (hon : s.flag (Reg.COND.SPK_STATE p) Fld.COND.SPK_STATE.enabled = true) :
    s.spkDisable p = if (s.portStreams p).all (·.isNone) then
      ((s.setSpike p Spike.fresh).setFld (Reg.COND.SPK_STATE p) Fld.COND.SPK_STATE.enabled 0).setScope ⟨.spk, p⟩ .off
    else s.setScope ⟨.spk, p⟩ .draining := if_pos hon

/-- One part of a sample: the rank value where the sample is more than the threshold away from it, else the sample. -/
theorem spikePart_fst (k thr : Nat) (c : Int) (win : List Int) :
    (spikePart k thr c win).1 = if thr < (c - rankValue k win).natAbs then rankValue k win else c := by
  unfold spikePart
  extract_lets
  split <;> rfl

theorem spikePart_snd (k thr : Nat) (c : Int) (win : List Int) :
    (spikePart k thr c win).2 = true ↔ thr < (c - rankValue k win).natAbs := by
  unfold spikePart
  extract_lets
  split
  case isTrue h => exact ⟨fun _ => h, fun _ => rfl⟩
  case isFalse h => exact ⟨fun h' => absurd h' Bool.false_ne_true, fun h' => absurd h' h⟩

/-- Whether a sample is unsettled: in the first window, or near a gap (R232). -/
def spikeUnsettled (w : Nat) (r : SpikeRun) (i : Nat) (before win : List Sample) : Bool :=
  decide (i < r.first + w) || before.any (fun x => x.marks.gap) || win.any (fun x => x.marks.gap)

theorem spikeUnsettled_iff (w : Nat) (r : SpikeRun) (i : Nat) (before win : List Sample) :
    spikeUnsettled w r i before win = true ↔
      i < r.first + w ∨ (∃ x ∈ before, x.marks.gap = true) ∨ ∃ x ∈ win, x.marks.gap = true := by
  simp only [spikeUnsettled, Bool.or_eq_true, decide_eq_true_eq, List.any_eq_true, or_assoc]

theorem spikeOut_unsettled {w k i : Nat} {r : SpikeRun} {before win : List Sample} (c : Sample)
    (h : spikeUnsettled w r i before win = true) :
    spikeOut w k r i before win c =
      ({ c with marks := { c.marks with unsettled := c.marks.unsettled || !c.marks.gap } }, false) := if_pos h

theorem spikeOut_settled {w k i : Nat} {r : SpikeRun} {before win : List Sample} (c : Sample)
    (h : ¬ spikeUnsettled w r i before win = true) :
    spikeOut w k r i before win c =
      let a := spikePart k (r.thr i) c.i (win.map (·.i))
      let b := spikePart k (r.thr i) c.q (win.map (·.q))
      ({ c with i := a.1, q := b.1 }, a.2 || b.2) := if_neg h

end Sys2Proof.Machine

/-! PROOF. The obligation on the spike filter. -/

section

open Sys2Proof Sys2Proof.Machine

/-- Settles O34: the commands by the filter's state, a block end by `execSpikeBlockEnd_full`, a sample by `spikeUnsettled_iff`. -/
theorem spikeFilter : Obligations.SpikeFilter := by
  unfold Obligations.SpikeFilter
  refine ⟨?filter, ?sample⟩
  case filter =>
    intro p o s cmd st on
    refine ⟨fun hblk hoff => ?enable, fun hon => ⟨fun hid => ?drain, fun hno => ?off⟩, ⟨fun hon => ?staged, fun hoff => ?commit⟩,
      fun id hid hon hlast hcommit hscope => ⟨fun hshort => ?short, fun hfull hlim hc hd => ?quiet, fun hfull hlim hn hc hd => ?burst⟩⟩
    case enable =>
      exact State.next_eq (if_neg (or_ne_true (not_ne_true hblk) (Bool.eq_false_iff.mp hoff)))
    case drain =>
      refine State.next_eq ((State.spkDisable_on hon).trans (if_neg fun hall => ?_))
      obtain ⟨id, hid⟩ := hid
      exact absurd (List.all_eq_true.mp hall _ hid) Bool.false_ne_true
    case off =>
      refine State.next_eq ((State.spkDisable_on hon).trans (if_pos (List.all_eq_true.mpr fun x hx => ?_)))
      cases x with
      | none => rfl
      | some id => exact absurd hx (hno id)
    case staged => exact State.next_eq (if_pos hon)
    case commit => exact State.next_eq (if_neg (Bool.eq_false_iff.mp hoff))
    case short => exact execSpikeBlockEnd_short hid hshort
    case quiet =>
      refine execSpikeBlockEnd_running hid hfull hon hlast (if_neg ?_) hc hd
      rcases hlim with hlim | hlim
      · exact and_ne_true_left (decide_ne_true (not_not.mpr hlim))
      · exact and_ne_true_right (decide_ne_true (Nat.not_lt.mpr hlim))
    case burst =>
      exact execSpikeBlockEnd_running hid hfull hon hlast (if_pos (and_true_intro (decide_eq_true hlim) (decide_eq_true hn))) hc hd
  case sample =>
    intro w k r i before win c
    refine ⟨fun h => ?unsettled, fun hi hb hw => ?settled⟩
    case unsettled =>
      rw [spikeOut_unsettled c ((spikeUnsettled_iff ..).mpr h)]
      exact ⟨rfl, rfl, rfl, fun hgap => by simp [hgap]⟩
    case settled =>
      have h : ¬ spikeUnsettled w r i before win = true := by
        rw [spikeUnsettled_iff]
        rintro (h | ⟨x, hx, hg⟩ | ⟨x, hx, hg⟩)
        · omega
        · exact absurd hg (Bool.eq_false_iff.mp (hb x hx))
        · exact absurd hg (Bool.eq_false_iff.mp (hw x hx))
      rw [spikeOut_settled c h]
      exact ⟨rfl, rfl, spikePart_fst .., spikePart_fst .., by simp only [Bool.or_eq_true, spikePart_snd]⟩

end

/-! PROOF. Lanes and accumulators of a Brush core under the mask, and saturation (R362 to R364). -/

namespace Sys2Proof.Machine

theorem clampInt_eq {lo hi : Int} (h : lo ≤ hi) (v : Int) : clampInt lo hi v = max lo (min hi v) := by
  unfold clampInt
  split
  case isTrue hlt => omega
  case isFalse hge => split <;> omega

theorem q31_inside {v : Int} (hlo : -(2 ^ 31) ≤ v) (hhi : v < 2 ^ 31) : q31 v = (BitVec.ofInt 32 v, 0) := by
  have h : clampInt (-(2 ^ 31)) (2 ^ 31 - 1) v = v := by rw [clampInt_eq (by decide)]; omega
  simp only [q31, h, if_true]

theorem q31_above {v : Int} (h : 2 ^ 31 ≤ v) : q31 v = (0x7FFFFFFF, 1) := by
  have hv : clampInt (-(2 ^ 31)) (2 ^ 31 - 1) v = 2 ^ 31 - 1 := by rw [clampInt_eq (by decide)]; omega
  have hne : (2 ^ 31 - 1 : Int) ≠ v := by omega
  simp only [q31, hv, if_neg hne]
  rfl

theorem q31_below {v : Int} (h : v < -(2 ^ 31)) : q31 v = (0x80000000, 1) := by
  have hv : clampInt (-(2 ^ 31)) (2 ^ 31 - 1) v = -(2 ^ 31) := by rw [clampInt_eq (by decide)]; omega
  have hne : (-(2 ^ 31) : Int) ≠ v := by omega
  simp only [q31, hv, if_neg hne]
  rfl

/-- The first n values of a register of lanes in a sparse map, written where p has the lane, with the flags they raise. -/
def lanePuts {α : Type} [DecidableEq α] (z : α) (p : Nat → Bool) (base : Nat) (g : Nat → α) (flag : Nat → Nat) (m : List (Nat × α))
    (n : Nat) : List (Nat × α) × Nat :=
  (List.range n).foldl (fun r l => if p l then (sparsePut (fun _ => z) (base + l) (g l) r.1, r.2 ||| flag l) else r) (m, 0)

section

variable {α : Type} [DecidableEq α] {z : α} {p : Nat → Bool} {base : Nat} {g : Nat → α} {flag : Nat → Nat} {m : List (Nat × α)}

theorem lanePuts_succ (n : Nat) : lanePuts z p base g flag m (n + 1) = if p n then
    (sparsePut (fun _ => z) (base + n) (g n) (lanePuts z p base g flag m n).1, (lanePuts z p base g flag m n).2 ||| flag n)
    else lanePuts z p base g flag m n := by
  rw [lanePuts, List.range_succ, List.foldl_concat]
  rfl

theorem keysRise_lanePuts (h : keysRise m = true) (n : Nat) : keysRise (lanePuts z p base g flag m n).1 = true := by
  induction n with
  | zero => exact h
  | succ n ih =>
    rw [lanePuts_succ]
    split
    · exact keysRise_put ih
    · exact ih

theorem sparseGet_lanePuts_other {n a : Nat} (h : a < base ∨ base + n ≤ a) :
    sparseGet (fun _ => z) (lanePuts z p base g flag m n).1 a = sparseGet (fun _ => z) m a := by
  induction n with
  | zero => rfl
  | succ n ih =>
    have ih := ih (by omega)
    rw [lanePuts_succ]
    split
    · exact (sparseGet_put_other (by omega)).trans ih
    · exact ih

theorem sparseGet_lanePuts (h : keysRise m = true) {n l : Nat} (hl : l < n) :
    sparseGet (fun _ => z) (lanePuts z p base g flag m n).1 (base + l) =
      if p l then g l else sparseGet (fun _ => z) m (base + l) := by
  induction n with
  | zero => omega
  | succ n ih =>
    rw [lanePuts_succ]
    by_cases hln : l = n
    · subst hln
      split
      · exact sparseGet_put_same (keysRise_lanePuts h l)
      · exact sparseGet_lanePuts_other (.inr (Nat.le_refl _))
    · have ih := ih (by omega)
      split
      · exact (sparseGet_put_other (by omega)).trans ih
      · exact ih

theorem lanePuts_flags (n i : Nat) :
    (lanePuts z p base g flag m n).2.testBit i = true ↔ ∃ l, l < n ∧ p l = true ∧ (flag l).testBit i = true := by
  induction n with
  | zero => simp [lanePuts]
  | succ n ih =>
    rw [lanePuts_succ]
    split
    case isTrue hp =>
      rw [Nat.testBit_or, Bool.or_eq_true, ih]
      constructor
      · rintro (⟨l, hl, h⟩ | h)
        · exact ⟨l, by omega, h⟩
        · exact ⟨n, by omega, hp, h⟩
      · rintro ⟨l, hl, h⟩
        rcases Nat.lt_succ_iff_lt_or_eq.mp hl with hl | rfl
        · exact .inl ⟨l, hl, h⟩
        · exact .inr h.2
    case isFalse hp =>
      rw [ih]
      constructor
      · rintro ⟨l, hl, h⟩
        exact ⟨l, by omega, h⟩
      · rintro ⟨l, hl, h⟩
        rcases Nat.lt_succ_iff_lt_or_eq.mp hl with hl | rfl
        · exact ⟨l, hl, h⟩
        · exact absurd h.1 hp

theorem lanePuts_flags_ne_zero (n : Nat) :
    (lanePuts z p base g flag m n).2 ≠ 0 ↔ ∃ l, l < n ∧ p l = true ∧ flag l ≠ 0 := by
  constructor
  · intro h
    obtain ⟨i, hi⟩ := Nat.exists_testBit_of_ne_zero h
    obtain ⟨l, hl, hp, hf⟩ := (lanePuts_flags n i).mp hi
    exact ⟨l, hl, hp, fun h0 => by simp [h0] at hf⟩
  · rintro ⟨l, hl, hp, hf⟩
    obtain ⟨i, hi⟩ := Nat.exists_testBit_of_ne_zero hf
    have h := (lanePuts_flags (z := z) (base := base) (g := g) (m := m) n i).mpr ⟨l, hl, hp, hi⟩
    exact fun h0 => by simp [h0] at h

end

namespace BrushCore

theorem lanes_eq (k : BrushCore) (d m : Nat) (f : Nat → Word × Nat) :
    k.lanes d m f =
      let r := lanePuts 0 (k.mask m).testBit (d * 16) (fun l => (f l).1) (fun l => (f l).2) k.v 16
      ({ k with v := r.1 }, r.2) := by
  suffices h : ∀ n, (List.range n).foldl (fun r l =>
      if (k.mask m).testBit l then (r.1.setVec d l (f l).1, r.2 ||| (f l).2) else r) (k, 0) =
      ({ k with v := (lanePuts 0 (k.mask m).testBit (d * 16) (fun l => (f l).1) (fun l => (f l).2) k.v n).1 },
        (lanePuts 0 (k.mask m).testBit (d * 16) (fun l => (f l).1) (fun l => (f l).2) k.v n).2) from h 16
  intro n
  induction n with
  | zero => rfl
  | succ n ih =>
    rw [List.range_succ, List.foldl_concat, ih, lanePuts_succ]
    split <;> rfl

/-- The flag of an accumulator lane: AOV where 72 bits cannot hold the value. -/
def accFlag (v : Int) : Nat := if clampInt (-(2 ^ 71)) (2 ^ 71 - 1) v = v then 0 else flagAov

theorem accFlag_ne_zero (v : Int) : accFlag v ≠ 0 ↔ v < -(2 ^ 71) ∨ 2 ^ 71 ≤ v := by
  unfold accFlag
  rw [clampInt_eq (by decide)]
  split
  case isTrue h => exact ⟨fun h0 => absurd rfl h0, fun h0 => by omega⟩
  case isFalse h => exact ⟨fun _ => by omega, fun _ => by decide⟩

theorem accLanes_eq (k : BrushCore) (d m : Nat) (f : Nat → Int) :
    k.accLanes d m f =
      let r := lanePuts 0 (k.mask m).testBit (d * 16) (fun l => clampInt (-(2 ^ 71)) (2 ^ 71 - 1) (f l)) (fun l => accFlag (f l)) k.a 16
      ({ k with a := r.1 }, r.2) := by
  suffices h : ∀ n, (List.range n).foldl (fun r l =>
      if (k.mask m).testBit l then
        (r.1.setAcc d l (clampInt (-(2 ^ 71)) (2 ^ 71 - 1) (f l)), r.2 ||| accFlag (f l))
      else r) (k, 0) =
      ({ k with a := (lanePuts 0 (k.mask m).testBit (d * 16) (fun l => clampInt (-(2 ^ 71)) (2 ^ 71 - 1) (f l)) (fun l => accFlag (f l)) k.a n).1 },
        (lanePuts 0 (k.mask m).testBit (d * 16) (fun l => clampInt (-(2 ^ 71)) (2 ^ 71 - 1) (f l)) (fun l => accFlag (f l)) k.a n).2) from h 16
  intro n
  induction n with
  | zero => rfl
  | succ n ih =>
    rw [List.range_succ, List.foldl_concat, ih, lanePuts_succ]
    split <;> rfl

end BrushCore

/-! ### The frame of one instruction: what does not issue, what faults, what a REP repeats -/

variable {s : State} {c : Fin 40} {j : BrushJob} {w : BrushWord}

theorem issues_false (h : s.coreState c ≠ 2 ∨ (s.core c).job = none ∨ (s.core c).waiting = true) : s.issues c = false := by
  unfold State.issues
  rcases h with h | h | h <;> simp [h]

/-- A core in RUN with an invocation and no wait issues. -/
theorem issues_true (hst : s.coreState c = 2) (hj : (s.core c).job = some j) (hw : (s.core c).waiting = false) : s.issues c = true := by
  simp [State.issues, hst, hj, hw]

theorem brush1_uncorrectable {u : Uses} {body : BrushCore → BrushRes} (hi : s.issues c = true) (hj : (s.core c).job = some j)
    (he : w.ecc = .uncorrectable) (hl : w.legal u = true) : s.brush1 c w u body = s.brushFault c 4 := by
  simp [State.brush1, hj, hi, State.brushEcc, he, hl]

/-- A body that neither faults nor raises a flag, n times. -/
theorem brushRepeat_ok (g : BrushCore → BrushCore) (n : Nat) (k : BrushCore) (f : Nat) :
    brushRepeat (fun k => .ok (g k, 0)) n k f = .ok ((List.range n).foldl (fun k _ => g k) k, f) := by
  induction n generalizing k with
  | zero => rfl
  | succ n ih =>
    rw [brushRepeat]
    simp only [Nat.or_zero]
    rw [ih, List.range_succ_eq_map, List.foldl_cons, List.foldl_map]

/-- An instruction after a REP, on a legal word. -/
theorem brush1_rep {u : Uses} {n : Nat} (g : BrushCore → BrushCore) (hi : s.issues c = true) (hj : (s.core c).job = some j)
    (he : w.ecc = .clean) (hr : (s.core c).rep = some n) (hl : w.legal u = true) :
    s.brush1 c w u (fun k => .ok (g k, 0)) =
      let t := (s.setCore c ((List.range n).foldl (fun k _ => g k) { s.core c with rep := none })).raiseFlags c 0
      (t.setCorePc c (s.corePc c + 8)).tadCount64 j (Reg.BRUSH.CORE_ICNT_LO c) n := by
  simp only [State.brush1, hj, hi, State.brushEcc, he, hl, hr, Option.getD_some, brushRepeat_ok, Bool.not_true,
    Bool.false_eq_true, if_false]

/-- Each instruction of R366 and R368 without an immediate field is one `brush1` that leaves imm unused. -/
theorem exec_brush1_of_regs (s : State) : ∀ i ∈ [Instr.brNop c w, .brSadd c w, .brSsub c w, .brSmul c w, .brSand c w, .brSor c w,
      .brSxor c w, .brSsh c w, .brVadd c w, .brVadds c w, .brVsub c w, .brVsubs c w, .brVmul c w, .brVmax c w, .brVmin c w,
      .brVabs c w, .brVand c w, .brVor c w, .brVxor c w, .brVshl c w, .brVsra c w, .brVspl c w, .brVcmplt c w, .brVcmpeq c w,
      .brVsel c w, .brNorm c w, .brExpx c w, .brVshlv c w, .brMsetn c w, .brAclr c w, .brVmac c w, .brVmsu c w, .brVdot c w,
      .brAcadd c w, .brAcx c w, .brAcred c w, .brAcxf c w, .brVcvtf c w, .brVfadd c w, .brVfmul c w, .brVfmax c w,
      .brVfmin c w, .brVcvtq c w, .brAcfadd c w],
    ∃ u body, u.imm = false ∧ exec i s = .next (s.brush1 c w u body) := by
  intro i h
  fin_cases h <;> exact ⟨_, _, rfl, rfl⟩

/-- Each scalar operation of two sources. -/
theorem exec_brush1_of_scalars (s : State) : ∀ i ∈ [Instr.brSadd c w, .brSsub c w, .brSmul c w, .brSand c w, .brSor c w, .brSxor c w],
    ∃ body, exec i s = .next (s.brush1 c w scalarUses body) := by
  intro i h
  fin_cases h <;> exact ⟨_, rfl⟩

/-- A word with an immediate is illegal for an instruction that uses none. -/
theorem legal_false_of_imm {u : Uses} (hu : u.imm = false) (h : w.imm ≠ 0) : w.legal u = false := by
  simp only [BrushWord.legal, hu, Bool.false_or, decide_eq_false h, Bool.and_false]

end Sys2Proof.Machine

/-! PROOF. The obligation on the rules of every Brush instruction. -/

section

open Sys2Proof Sys2Proof.Machine

/-- Settles O45: the lanes by `lanePuts`, the frame by one lemma for each way an instruction ends. -/
theorem brushRules : Obligations.BrushRules := by
  unfold Obligations.BrushRules
  refine ⟨?lanes, ?accs, fun v => ⟨q31_inside, q31_above, q31_below⟩, ?frame⟩
  case lanes =>
    intro k d m f hk
    rw [BrushCore.lanes_eq]
    exact ⟨keysRise_lanePuts hk 16, fun l hl => sparseGet_lanePuts hk hl,
      fun r l hl hr => sparseGet_lanePuts_other (by omega), rfl, rfl, rfl, rfl, lanePuts_flags 16⟩
  case accs =>
    intro k d m f hk
    rw [BrushCore.accLanes_eq]
    refine ⟨keysRise_lanePuts hk 16, fun l hl => ?_, ?_, rfl, rfl, rfl⟩
    · rw [← clampInt_eq (by decide)]
      exact sparseGet_lanePuts hk hl
    · exact (lanePuts_flags_ne_zero 16).trans (by simp only [BrushCore.accFlag_ne_zero])
  case frame =>
    intro c w j s regs
    refine ⟨fun hready himm i hi => ?illegal, fun hst hj hw hecc hl i hi => ?ecc, fun hidle i hi => ?idle,
      fun n hst hj hw hecc hrep hl => State.next_eq (brush1_rep _ (issues_true hst hj hw) hj hecc hrep hl)⟩
    case illegal =>
      obtain ⟨u, body, hu, he⟩ := exec_brush1_of_regs s i hi
      exact he.trans (State.next_eq (brush1_illegal hready (legal_false_of_imm hu himm)))
    case ecc =>
      obtain ⟨body, he⟩ := exec_brush1_of_scalars s i hi
      exact he.trans (State.next_eq (brush1_uncorrectable (issues_true hst hj hw) hj hecc hl))
    case idle =>
      obtain ⟨u, body, -, he⟩ := exec_brush1_of_regs s i hi
      exact he.trans (State.next_eq (brush1_idle (issues_false hidle)))

end

/-! PROOF. One Brush instruction on a ready core: its body's result, and what its operations on words give (R366, R369). -/

namespace Sys2Proof.Machine

variable {s : State} {c : Fin 40} {j : BrushJob} {w : BrushWord} {u : Uses}

theorem brush1_of_ok (h : s.brushReady c j w) (hl : w.legal u = true) {body : BrushCore → BrushRes} {r : BrushCore × Nat}
    (hb : body (s.core c) = .ok r) : s.brush1 c w u body = s.brushTakes c j r := by
  rw [brush1_ready h hl, hb]

theorem brush1_of_error (h : s.brushReady c j w) (hl : w.legal u = true) {body : BrushCore → BrushRes} {e : Nat}
    (hb : body (s.core c) = .error e) : s.brush1 c w u body = s.brushFault c e := by
  rw [brush1_ready h hl, hb]

theorem brush2_of_ok (h : s.brushReady c j w) (hl : w.legal u = true) {body : BrushJob → State → Except Nat State} {t : State}
    (hb : body j s = .ok t) : s.brush2 c w u body = t := by
  rw [brush2_ready h hl, hb]

theorem brush2_of_error (h : s.brushReady c j w) (hl : w.legal u = true) {body : BrushJob → State → Except Nat State} {e : Nat}
    (hb : body j s = .error e) : s.brush2 c w u body = s.brushFault c e := by
  rw [brush2_ready h hl, hb]

/-! ### Branches -/

/-- A branch of a ready core that is not taken. -/
theorem brushBranch_falls (h : s.brushReady c j w) (hl : w.legal u = true) {p : BrushCore → Bool} (hp : p (s.core c) = false) :
    s.brushBranch c w u p = (s.brushRetire c j).setCorePc c (s.corePc c + 8) :=
  brush2_of_ok h hl (if_pos (by rw [hp]; rfl))

/-- A branch taken to an address inside the code. -/
theorem brushBranch_goes (h : s.brushReady c j w) (hl : w.legal u = true) {p : BrushCore → Bool} (hp : p (s.core c) = true) {t : Nat}
    (ht : (t : Int) = s.corePc c + 8 * w.imm.toInt) (hin : t < s.codeLen j.kernel) :
    s.brushBranch c w u p = (s.brushRetire c j).setCorePc c t := by
  refine brush2_of_ok h hl ((if_neg (not_ne_true hp)).trans ?_)
  simp only [← ht]
  exact if_neg (or_ne_true (decide_ne_true (by omega)) (decide_ne_true (by omega)))

/-- A branch taken out of the code faults (R376). -/
theorem brushBranch_faults (h : s.brushReady c j w) (hl : w.legal u = true) {p : BrushCore → Bool} (hp : p (s.core c) = true)
    (hout : (s.corePc c : Int) + 8 * w.imm.toInt < 0 ∨ (s.codeLen j.kernel : Int) ≤ s.corePc c + 8 * w.imm.toInt) :
    s.brushBranch c w u p = s.brushFault c 3 := by
  refine brush2_of_error h hl ((if_neg (not_ne_true hp)).trans (if_pos ?_))
  rwa [Bool.or_eq_true, decide_eq_true_iff, decide_eq_true_iff]

/-! ### Words -/

theorem add_eq_ofNat (x y : Word) : x + y = BitVec.ofNat 32 (x.toNat + y.toNat) := BitVec.add_def ..

theorem mul_eq_ofNat (x y : Word) : x * y = BitVec.ofNat 32 (x.toNat * y.toNat) := BitVec.mul_def ..

theorem add_eq_ofInt (x y : Word) : x + y = BitVec.ofInt 32 (x.toInt + y.toInt) := by
  rw [BitVec.ofInt_add, BitVec.ofInt_toInt, BitVec.ofInt_toInt]

theorem sub_eq_ofInt (x y : Word) : x - y = BitVec.ofInt 32 (x.toInt - y.toInt) := by
  rw [Int.sub_eq_add_neg, BitVec.ofInt_add, BitVec.ofInt_neg, BitVec.ofInt_toInt, BitVec.ofInt_toInt, BitVec.sub_eq_add_neg]

/-! ### Vector memory -/

theorem addr_eq (k : BrushCore) (w : BrushWord) : k.addr w = ((k.scalar w.a.toNat).toNat + w.imm.toNat) % 2 ^ 32 :=
  BitVec.toNat_add ..

theorem memFault_none {a align n : Nat} (h : a % align = 0) (hr : a + n ≤ 131072) : memFault a align n = none :=
  (if_neg (not_not.mpr h)).trans (if_neg (by omega))

theorem memFault_align {a align n : Nat} (h : a % align ≠ 0) : memFault a align n = some 2 := if_pos h

theorem memFault_range {a align n : Nat} (h : a % align = 0) (hr : 131072 < a + n) : memFault a align n = some 3 :=
  (if_neg (not_not.mpr h)).trans (if_pos hr)

/-- SLD and SST of a ready core, by what its address raises. -/
theorem brSld_of_none (h : s.brushReady c j w) (hl : w.legal { Uses.none with d := 4, a := 4, imm := true } = true)
    (hm : memFault ((s.core c).addr w) 4 4 = none) :
    execBrSld c w s = .next (s.brushTakes c j ((s.core c).setScalar w.d.toNat ((s.core c).memLane ((s.core c).addr w) 0), 0)) :=
  State.next_eq (brush1_of_ok h hl (by simp only [hm]))

theorem brSst_of_none (h : s.brushReady c j w) (hl : w.legal { Uses.none with d := 4, a := 4, imm := true } = true)
    (hm : memFault ((s.core c).addr w) 4 4 = none) :
    execBrSst c w s =
      .next (s.brushTakes c j ((s.core c).store ((s.core c).addr w) 4 ((s.core c).scalar w.d.toNat).toNat, 0)) :=
  State.next_eq (brush1_of_ok h hl (by simp only [hm]))

theorem brSld_brSst_of_some (h : s.brushReady c j w) (hl : w.legal { Uses.none with d := 4, a := 4, imm := true } = true) {e : Nat}
    (hm : memFault ((s.core c).addr w) 4 4 = some e) :
    execBrSld c w s = .next (s.brushFault c e) ∧ execBrSst c w s = .next (s.brushFault c e) :=
  ⟨State.next_eq (brush1_of_error h hl (by simp only [hm])), State.next_eq (brush1_of_error h hl (by simp only [hm]))⟩

end Sys2Proof.Machine

/-! PROOF. The obligation on the Brush scalar instructions. -/

section

open Sys2Proof Sys2Proof.Machine

/-- Settles O42: each instruction by its body on a ready core, the branches by `brushBranch_falls`, `_goes` and `_faults`. -/
theorem brushScalars : Obligations.BrushScalars := by
  unfold Obligations.BrushScalars
  intro c w j s h k takes legal x y d fault at_ retired goes pc branch
  have branches {u : Uses} (hl : w.legal u = true) {p : BrushCore → Bool} {taken : Prop} {i : Instr}
      (hi : exec i s = .next (s.brushBranch c w u p)) (hp : p k = true ↔ taken) : branch taken i :=
    ⟨fun hn => hi.trans (State.next_eq (brushBranch_falls h hl (Bool.eq_false_iff.mpr (fun h => hn (hp.mp h))))),
      fun ht t heq hin => hi.trans (State.next_eq (brushBranch_goes h hl (hp.mpr ht) heq hin)),
      fun ht hout => hi.trans (State.next_eq (brushBranch_faults h hl (hp.mpr ht) hout))⟩
  refine ⟨fun hl => State.next_eq (brush1_of_ok h hl rfl), fun hl => ?arithmetic, fun hl => ?shift, fun hl => ?addressed,
    fun hl => State.next_eq (brush1_of_ok h hl rfl), fun hl => ⟨fun hm => ?inserted, fun hm => ?kept⟩,
    fun hl => ⟨branches hl rfl decide_eq_true_iff, branches hl rfl decide_eq_true_iff, ?rep⟩,
    fun hl => branches hl rfl decide_eq_true_iff, fun hl => State.next_eq (brush2_of_ok h hl rfl),
    fun hl => State.next_eq (brush2_of_ok h hl rfl)⟩
  case arithmetic =>
    have gives {f : Word → Word → Word} {v : Word} (hv : f x y = v) :
        Host.Outcome.next (s.brush1 c w scalarUses (BrushCore.scalar2 w f)) = d v :=
      State.next_eq (brush1_of_ok h hl (by rw [← hv]; rfl))
    exact ⟨gives (add_eq_ofNat x y), gives (sub_eq_ofInt x y), gives (mul_eq_ofNat x y), gives rfl, gives rfl, gives rfl⟩
  case shift =>
    have gives {v : Word} (hv : brushShift w.aux.toNat x (y.toNat % 32) = v) : exec (.brSsh c w) s = d v :=
      State.next_eq (brush1_of_ok h hl (by rw [← hv]; rfl))
    refine ⟨fun ha => gives ?left, fun ha => gives ?right, fun ha => gives ?arith, _, gives rfl⟩
    case left => rw [ha]; exact shiftLeft_eq_ofNat ..
    case right => rw [ha]; exact ushiftRight_eq_ofNat ..
    case arith => rw [ha]; exact sshiftRight_eq_ofInt ..
  case addressed =>
    have ha : at_ = k.addr w := (addr_eq k w).symm
    rw [ha]
    refine ⟨State.next_eq (brush1_of_ok h hl (congrArg (fun v => Except.ok (k.setScalar w.d.toNat v, 0)) (add_eq_ofInt ..))),
      fun hal hr => ⟨brSld_of_none h hl (memFault_none hal hr), brSst_of_none h hl (memFault_none hal hr)⟩,
      fun hal => brSld_brSst_of_some h hl (memFault_align hal), fun hal hr => brSld_brSst_of_some h hl (memFault_range hal hr)⟩
  case inserted => exact State.next_eq (brush1_of_ok h hl (congrArg (fun k => Except.ok (k, 0)) (if_pos hm)))
  case kept => exact State.next_eq (brush1_of_ok h hl (congrArg (fun k => Except.ok (k, 0)) (if_neg (Bool.eq_false_iff.mp hm))))
  case rep =>
    intro n
    refine ⟨fun himm ha => ?both, fun hf hbad => ?refused, fun hf h0 hok => ?zero, fun hf h0 hn hok => ?repeats⟩
    case both =>
      exact State.next_eq (brush2_of_error h hl (if_pos (and_true_intro (decide_eq_true himm) (decide_eq_true ha))))
    all_goals
      have hfields : ¬ (decide (w.imm ≠ 0) && decide (w.a ≠ 0)) = true := by
        rcases hf with hf | hf
        · exact and_ne_true_left (decide_ne_true (not_not.mpr hf))
        · exact and_ne_true_right (decide_ne_true (not_not.mpr hf))
    case refused =>
      refine State.next_eq (brush2_of_error h hl ((if_neg hfields).trans (if_pos ?_)))
      rwa [Bool.or_eq_true, decide_eq_true_iff, Bool.not_eq_true']
    case zero =>
      have hgo := or_ne_true (decide_ne_true (show ¬ 4096 < n by omega)) (not_ne_true hok)
      exact State.next_eq (brush2_of_ok h hl ((if_neg hfields).trans ((if_neg hgo).trans (if_pos h0))))
    case repeats =>
      have hgo := or_ne_true (decide_ne_true (Nat.not_lt.mpr hn)) (not_ne_true hok)
      exact State.next_eq (brush2_of_ok h hl ((if_neg hfields).trans ((if_neg hgo).trans (if_neg (Nat.pos_iff_ne_zero.mp h0)))))

end

/-! PROOF. The Brush vector instructions on a ready core: comparisons, the common exponent, and vector memory (R366, R368). -/

namespace Sys2Proof.Machine

variable {s : State} {c : Fin 40} {j : BrushJob} {w : BrushWord} {u : Uses}

theorem ite_toInt_lt_eq_max (x y : Word) : (if x.toInt < y.toInt then y else x) = BitVec.ofInt 32 (max x.toInt y.toInt) := by
  split
  case isTrue h => rw [Int.max_eq_right (Int.le_of_lt h), BitVec.ofInt_toInt]
  case isFalse h => rw [Int.max_eq_left (Int.not_lt.mp h), BitVec.ofInt_toInt]

theorem ite_toInt_lt_eq_min (x y : Word) : (if y.toInt < x.toInt then y else x) = BitVec.ofInt 32 (min x.toInt y.toInt) := by
  split
  case isTrue h => rw [Int.min_eq_right (Int.le_of_lt h), BitVec.ofInt_toInt]
  case isFalse h => rw [Int.min_eq_left (Int.not_lt.mp h), BitVec.ofInt_toInt]

/-- A comparison's mask as a sum over the lanes. -/
theorem compare_eq (w : BrushWord) (f : Word → Word → Bool) (k : BrushCore) :
    BrushCore.compare w f k = .ok (k.setMask w.d.toNat ((List.range 16).map (fun l =>
      (if (k.mask w.mask.toNat).testBit l then f (k.vec w.a.toNat l) (k.vec w.b.toNat l)
        else (k.mask w.d.toNat).testBit l).toNat * 2 ^ l)).sum, 0) := by
  have hbit (b : Bool) : bit b = b.toNat := by cases b <;> rfl
  simp only [BrushCore.compare, hbit, ← ite_mul, ← apply_ite Bool.toNat]

/-- The smallest redundancy over the masked lanes. -/
theorem brExpx_eq (h : s.brushReady c j w) (hl : w.legal { Uses.none with d := 4, a := 5, mask := true } = true) :
    ∃ n, execBrExpx c w s = .next (s.brushTakes c j ((s.core c).setScalar w.d.toNat (BitVec.ofNat 32 n), 0)) ∧
      ∀ m, (((List.range 16).filter ((s.core c).mask w.mask.toNat).testBit).map
        (fun l => redundant ((s.core c).vec w.a.toNat l))).min? = some m → n = m := by
  refine ⟨_, State.next_eq (brush1_of_ok h hl rfl), fun m hm => ?_⟩
  rw [hm]

/-- The smallest value of a function over the lanes of a mask, where the mask has one. -/
theorem min_lanes (p : Nat → Bool) (f : Nat → Nat) (n : Nat)
    (hn : ∀ m, (((List.range 16).filter p).map f).min? = some m → n = m) :
    (∀ l, l < 16 → p l = true → n ≤ f l) ∧ ((∃ l, l < 16 ∧ p l = true) → ∃ l, l < 16 ∧ p l = true ∧ f l = n) := by
  have hmem (l : Nat) : l < 16 ∧ p l = true ↔ l ∈ (List.range 16).filter p := by rw [List.mem_filter, List.mem_range]
  have hmin (l : Nat) (hl : l ∈ (List.range 16).filter p) :
      n ∈ ((List.range 16).filter p).map f ∧ ∀ b ∈ ((List.range 16).filter p).map f, n ≤ b := by
    obtain ⟨m, hm⟩ := Option.isSome_iff_exists.mp (List.isSome_min?_of_mem (List.mem_map_of_mem (f := f) hl))
    obtain rfl := hn m hm
    exact List.min?_eq_some_iff.mp hm
  constructor
  · intro l hl hp
    have hin := (hmem l).mp ⟨hl, hp⟩
    exact (hmin l hin).2 _ (List.mem_map_of_mem hin)
  · rintro ⟨l, hl⟩
    obtain ⟨i, hi, hfi⟩ := List.mem_map.mp (hmin l ((hmem l).mp hl)).1
    obtain ⟨hlt, hp⟩ := (hmem i).mpr hi
    exact ⟨i, hlt, hp, hfi⟩

/-! ### Vector memory -/

theorem vload_none {k : BrushCore} {a : Nat} (hm : memFault a 64 64 = none) :
    k.vload w a = .ok (k.lanes w.d.toNat w.mask.toNat (fun l => (k.memLane a l, 0))) := by rw [BrushCore.vload, hm]

theorem vload_some {k : BrushCore} {a e : Nat} (hm : memFault a 64 64 = some e) : k.vload w a = .error e := by
  rw [BrushCore.vload, hm]

theorem vstore_none {k : BrushCore} {a : Nat} (hm : memFault a 64 64 = none) :
    k.vstore w a = .ok ((List.range 16).foldl (fun k l =>
      if (k.mask w.mask.toNat).testBit l then k.store (a + 4 * l) 4 (k.vec w.d.toNat l).toNat else k) k, 0) := by
  rw [BrushCore.vstore, hm]

theorem vstore_some {k : BrushCore} {a e : Nat} (hm : memFault a 64 64 = some e) : k.vstore w a = .error e := by
  rw [BrushCore.vstore, hm]

theorem advance_ok (h : w.imm.toNat % 64 = 0) (r : BrushCore × Nat) :
    BrushCore.advance w (.ok r) = .ok (r.1.setScalar w.a.toNat (r.1.scalar w.a.toNat + w.imm), r.2) := if_neg (not_not.mpr h)

/-- VLDI and VSTI fault for an advance that is no multiple of 64 or for their address. -/
theorem advance_error {r : BrushRes} (h : w.imm.toNat % 64 ≠ 0 ∨ r = .error 2) : BrushCore.advance w r = .error 2 := by
  unfold BrushCore.advance
  split
  case isTrue => rfl
  case isFalse himm =>
    obtain rfl := h.resolve_left himm
    rfl

end Sys2Proof.Machine

/-! PROOF. The obligation on the Brush vector instructions. -/

section

open Sys2Proof Sys2Proof.Machine

/-- Settles O43: each instruction by its body on a ready core; EXPX by `min_lanes`, the memory instructions by what their address
raises. -/
theorem brushVectors : Obligations.BrushVectors := by
  unfold Obligations.BrushVectors
  intro c w j s h k takes legal x y v cmp put ld fault sa at_ step
  have runs {u : Uses} (hl : w.legal u = true) {body : BrushCore → BrushRes} {r : BrushCore × Nat} (hb : body k = .ok r) :
      Host.Outcome.next (s.brush1 c w u body) = takes r := State.next_eq (brush1_of_ok h hl hb)
  have lanes {u : Uses} (hl : w.legal u = true) {body : BrushCore → BrushRes} {f g : Nat → Word × Nat}
      (hb : body k = .ok (k.lanes w.d.toNat w.mask.toNat f)) (hf : f = g) :
      Host.Outcome.next (s.brush1 c w u body) = v g := runs hl (by rw [hb, hf])
  have faults {u : Uses} (hl : w.legal u = true) {body : BrushCore → BrushRes} {e : Nat} (hb : body k = .error e) :
      Host.Outcome.next (s.brush1 c w u body) = fault e := State.next_eq (brush1_of_error h hl hb)
  have ha : at_ = k.addr w := (addr_eq k w).symm
  refine ⟨fun hl => ⟨lanes hl rfl ?add, lanes hl rfl rfl, lanes hl rfl ?sub, lanes hl rfl rfl, lanes hl rfl ?max, lanes hl rfl ?min,
      lanes hl rfl rfl, lanes hl rfl rfl, lanes hl rfl rfl, runs hl rfl, runs hl rfl⟩,
    fun hl => ⟨lanes hl rfl rfl, lanes hl rfl ?shiftv⟩, fun hl => lanes hl rfl rfl,
    fun hl => ⟨fun haux => lanes hl rfl (funext fun l => if_pos haux), _, lanes hl rfl rfl⟩,
    fun hl => ⟨fun haux => lanes hl rfl (funext fun l => if_pos haux), _, lanes hl rfl rfl⟩, fun hl => lanes hl rfl rfl,
    fun hl => ⟨runs hl (compare_eq ..), runs hl (compare_eq ..)⟩, fun hl => ?expx, fun hl => lanes hl rfl rfl,
    fun hl => runs hl rfl, fun hl => ?memory⟩
  case add => exact funext fun l => congrArg (·, 0) (add_eq_ofNat ..)
  case sub => exact funext fun l => congrArg (·, 0) (sub_eq_ofInt ..)
  case max => exact funext fun l => congrArg (·, 0) (ite_toInt_lt_eq_max ..)
  case min => exact funext fun l => congrArg (·, 0) (ite_toInt_lt_eq_min ..)
  case shiftv => funext l; simp only [Bool.or_eq_true, decide_eq_true_eq]; rfl
  case expx =>
    obtain ⟨n, he, hn⟩ := brExpx_eq h hl
    exact ⟨n, he, min_lanes _ (fun l => redundant (x l)) n hn⟩
  case memory =>
    rw [ha]
    refine ⟨fun hal hr => ⟨lanes hl (vload_none (memFault_none hal hr)) rfl, runs hl (vstore_none (memFault_none hal hr))⟩,
      fun hal => ⟨faults hl (vload_some (memFault_align hal)), faults hl (vstore_some (memFault_align hal))⟩,
      fun hal hr => ⟨faults hl (vload_some (memFault_range hal hr)), faults hl (vstore_some (memFault_range hal hr))⟩,
      fun himm hal hr => ?advance, fun hbad => ?refused⟩
    case advance =>
      have hm := memFault_none hal hr
      exact ⟨runs hl ((congrArg _ (vload_none hm)).trans (advance_ok himm _)), runs hl ((congrArg _ (vstore_none hm)).trans (advance_ok himm _))⟩
    case refused =>
      exact ⟨faults hl (advance_error (hbad.imp_right fun hal => vload_some (memFault_align hal))),
        faults hl (advance_error (hbad.imp_right fun hal => vstore_some (memFault_align hal)))⟩

end

/-! PROOF. The obligation on the Brush accumulator, extraction and floating-point instructions (R362, R363, R366, R368). -/

namespace Sys2Proof.Machine

variable {s : State} {c : Fin 40} {j : BrushJob} {w : BrushWord}

/-- VDOT of a ready core whose two vectors lie in memory (R368). -/
theorem brVdot_of_none (h : s.brushReady c j w) (hl : w.legal { macUses with a := 4, b := 4 } = true)
    (hx : memFault ((s.core c).scalar w.a.toNat).toNat 64 64 = none) (hy : memFault ((s.core c).scalar w.b.toNat).toNat 64 64 = none) :
    execBrVdot c w s =
      let k := s.core c
      let x := (k.scalar w.a.toNat).toNat
      let y := (k.scalar w.b.toNat).toNat
      let r := k.accLanes w.d.toNat w.mask.toNat (fun l =>
        k.acc w.d.toNat l + dropBits (product (k.memLane x l) (k.memLane y l)) w.aux.toNat)
      let k' := r.1.setScalar w.a.toNat (BitVec.ofNat 32 (x + 64))
      .next (s.brushTakes c j (if w.a = w.b then k' else k'.setScalar w.b.toNat (BitVec.ofNat 32 (y + 64)), r.2)) :=
  State.next_eq (brush1_of_ok h hl (by simp only [hx, hy]))

theorem brVdot_of_some (h : s.brushReady c j w) (hl : w.legal { macUses with a := 4, b := 4 } = true) {e : Nat}
    (hx : memFault ((s.core c).scalar w.a.toNat).toNat 64 64 = some e) : execBrVdot c w s = .next (s.brushFault c e) :=
  State.next_eq (brush1_of_error h hl (by simp only [hx]))

end Sys2Proof.Machine

section

open Sys2Proof Sys2Proof.Machine

/-- Settles O44: each instruction by its body on a ready core; VDOT also by what its two addresses raise. -/
theorem brushAccumulators : Obligations.BrushAccumulators := by
  unfold Obligations.BrushAccumulators
  intro c w j s h k takes legal x y v a shr dot acc
  have runs {u : Uses} (hl : w.legal u = true) {body : BrushCore → BrushRes} {r : BrushCore × Nat} (hb : body k = .ok r) :
      Host.Outcome.next (s.brush1 c w u body) = takes r := State.next_eq (brush1_of_ok h hl hb)
  refine ⟨fun hl => ⟨runs hl rfl, runs hl rfl⟩, fun hl => ⟨runs hl rfl, runs hl rfl⟩,
    fun hl => ⟨fun hxa hxr hya hyr => brVdot_of_none h hl (memFault_none hxa hxr) (memFault_none hya hyr),
      fun hxa => brVdot_of_some h hl (memFault_align hxa), fun hxa hxr => brVdot_of_some h hl (memFault_range hxa hxr)⟩,
    fun hl => ⟨runs hl rfl, runs hl rfl⟩, fun hl => ⟨runs hl rfl, runs hl rfl⟩,
    fun hl => ⟨fun hd => runs hl (if_neg (by omega)), fun hd => State.next_eq (brush1_of_error h hl (if_pos hd))⟩,
    fun hl => runs hl rfl, fun hl => runs hl rfl, fun hl => ⟨runs hl rfl, runs hl rfl, runs hl rfl, runs hl rfl⟩⟩

end

/-! PROOF. Transform pairs: enable, alignment and disable (R265, R273, R282 to R284). -/

namespace Sys2Proof.Machine

variable {s : State} {i : Nat}

/-- The State of a pair that an accepted enable starts, but for its state field (R265). -/
def State.pairStarted (s : State) (i : Nat) : State :=
  ((s.setPair i { PairRun.fresh with
    n0 := some (s.nextAtTile (s.pairCfg i).stream), period := (s.stream (s.pairCfg i).stream).period }).pairReport i).setFld
    (Reg.XFORM.XF_STATE i) Fld.XFORM.XF_STATE.avg_unsettled (if (s.pairCfg i).mode = 1 then 1 else 0)

/-- An enable that is not refused. -/
theorem State.xfEnable_accepted (hon : s.blockOn 9 = true) (hoff : s.pairState i = 0) (hr : s.pairRefusal i = 0) :
    (s.xfEnable i).2 =
      let align := s.reg64 (Reg.XFORM.XF_ALIGN_LO i) (Reg.XFORM.XF_ALIGN_HI i)
      let en := s.flag (Reg.XFORM.XF_CFG i) Fld.XFORM.XF_CFG.align_en
      let late := en && decide (align ≤ s.time.tbs.toNat)
      let t := ((s.pairStarted i).setPairState i (if en && !late then 1 else 2)).setReg (Reg.XFORM.XF_SG_WPTR i) 0
      if late then (t.setSta (Reg.XFORM.XF_STA i) Fld.XFORM.XF_STA.ALIGN_LATE).blkEvent 9 11 Ev.XFORM.ALIGN_LATE i else t := by
  unfold State.xfEnable
  rw [if_neg (not_ne_true hon), if_neg (not_not.mpr hoff)]
  simp only [hr, ne_eq, not_true_eq_false, if_false, bit, decide_eq_true_eq]
  rfl

theorem State.xfEnable_refused (hon : s.blockOn 9 = true) (hoff : s.pairState i = 0) (hr : s.pairRefusal i ≠ 0) :
    (s.xfEnable i).2 = s.pairRefused i (s.pairRefusal i) := by
  unfold State.xfEnable
  rw [if_neg (not_ne_true hon), if_neg (not_not.mpr hoff)]
  simp only [hr, ne_eq, not_false_eq_true, if_true]

theorem State.xfEnable_waits (hon : s.blockOn 9 = true) (hoff : s.pairState i = 0) (hr : s.pairRefusal i = 0)
    (hen : s.flag (Reg.XFORM.XF_CFG i) Fld.XFORM.XF_CFG.align_en = true)
    (ht : s.time.tbs.toNat < s.reg64 (Reg.XFORM.XF_ALIGN_LO i) (Reg.XFORM.XF_ALIGN_HI i)) :
    (s.xfEnable i).2 = ((s.pairStarted i).setPairState i 1).setReg (Reg.XFORM.XF_SG_WPTR i) 0 := by
  simp only [State.xfEnable_accepted hon hoff hr, hen, decide_eq_false (Nat.not_le.mpr ht), Bool.and_false, Bool.not_false,
    Bool.and_true, Bool.false_eq_true, if_true, if_false]

theorem State.xfEnable_late (hon : s.blockOn 9 = true) (hoff : s.pairState i = 0) (hr : s.pairRefusal i = 0)
    (hen : s.flag (Reg.XFORM.XF_CFG i) Fld.XFORM.XF_CFG.align_en = true)
    (ht : s.reg64 (Reg.XFORM.XF_ALIGN_LO i) (Reg.XFORM.XF_ALIGN_HI i) ≤ s.time.tbs.toNat) :
    (s.xfEnable i).2 = (((((s.pairStarted i).setPairState i 2).setReg (Reg.XFORM.XF_SG_WPTR i) 0).setSta (Reg.XFORM.XF_STA i)
      Fld.XFORM.XF_STA.ALIGN_LATE).blkEvent 9 11 Ev.XFORM.ALIGN_LATE i) := by
  simp only [State.xfEnable_accepted hon hoff hr, hen, decide_eq_true ht, Bool.and_true, Bool.not_true, Bool.and_false,
    Bool.false_eq_true, if_true, if_false]

theorem State.xfEnable_unaligned (hon : s.blockOn 9 = true) (hoff : s.pairState i = 0) (hr : s.pairRefusal i = 0)
    (hen : s.flag (Reg.XFORM.XF_CFG i) Fld.XFORM.XF_CFG.align_en = false) :
    (s.xfEnable i).2 = ((s.pairStarted i).setPairState i 2).setReg (Reg.XFORM.XF_SG_WPTR i) 0 := by
  simp only [State.xfEnable_accepted hon hoff hr, hen, Bool.false_and, Bool.false_eq_true, if_false]

theorem State.disablePair_of_on (h0 : s.pairState i ≠ 0) (h3 : s.pairState i ≠ 3) :
    s.disablePair i =
      let d := ((s.setPair i { s.pair i with stop := some (s.framesStarted i) }).setPairState i 3).drainPair i
      (d.2.deliverFrames i (s.pairCfg i) d.1).stopPlanes i := by
  have hx : s.xfDisable i = ((s.setPair i { s.pair i with stop := some (s.framesStarted i) }).setPairState i 3).drainPair i :=
    if_neg (or_ne_true (decide_ne_true h0) (decide_ne_true h3))
  unfold State.disablePair
  rw [hx]

/-- The first sample of a waiting pair at or after its alignment instant (R265). -/
theorem execAlignStart_of_found {i : Fin 128} (hst : s.pairState i = 1) {d : Nat}
    (hd : ((s.stream (s.pairCfg i).stream).hist.drop ((s.pair i).n0.getD 0 - (s.stream (s.pairCfg i).stream).first)).findIdx?
      (fun x => decide (s.reg64 (Reg.XFORM.XF_ALIGN_LO i) (Reg.XFORM.XF_ALIGN_HI i) ≤ x.tbs)) = some d) :
    execAlignStart i s = .next ((s.setPair i { s.pair i with
      n0 := some (max ((s.pair i).n0.getD 0) (s.stream (s.pairCfg i).stream).first + d) }).setPairState i 2) := by
  unfold execAlignStart
  rw [if_neg (not_not.mpr hst)]
  simp only [hd]

end Sys2Proof.Machine

/-! PROOF. The obligation on transform pairs and window slots. -/

section

open Sys2Proof Sys2Proof.Machine

/-- Settles O36: an enable by its alignment, a commit and a disable by the pair's state, a window slot by its entries. -/
theorem transformCommands : Obligations.TransformCommands := by
  unfold Obligations.TransformCommands
  intro i w s cmd st refused
  refine ⟨fun hon hoff => ⟨fun hr => State.next_eq (State.xfEnable_refused hon hoff hr), fun hr => ?enable⟩,
    fun hst d hd => execAlignStart_of_found hst hd, fun hst => if_pos hst,
    ⟨fun hr => State.next_eq (congrArg Prod.snd (if_pos hr)),
      fun hr h0 => State.next_eq (congrArg Prod.snd ((if_neg (not_not.mpr hr)).trans (if_pos h0))),
      fun hr h0 => State.next_eq (congrArg Prod.snd ((if_neg (not_not.mpr hr)).trans (if_neg h0)))⟩,
    ⟨fun h0 => State.next_eq (if_neg h0), fun h0 => State.next_eq (if_pos h0)⟩,
    fun h0 h3 => State.next_eq (State.disablePair_of_on h0 h3), fun _ _ => rfl,
    fun hon hoff => ⟨fun hall => ?refused, fun hsome => ?window⟩,
    ⟨fun h0 => State.next_eq (if_neg (not_not.mpr h0)), fun h0 => State.next_eq (if_pos h0)⟩⟩
  case enable =>
    intro c align en a starts
    exact ⟨fun hen => State.next_eq (State.xfEnable_unaligned hon hoff hr hen),
      fun hen ht => State.next_eq (State.xfEnable_waits hon hoff hr hen ht),
      fun hen ht => State.next_eq (State.xfEnable_late hon hoff hr hen ht)⟩
  case refused =>
    have hgo := or_ne_true (not_ne_true hon) (Bool.eq_false_iff.mp hoff)
    exact State.next_eq ((if_neg hgo).trans (if_pos (List.all_eq_true.mpr fun x hx => decide_eq_true (hall x hx))))
  case window =>
    have hgo := or_ne_true (not_ne_true hon) (Bool.eq_false_iff.mp hoff)
    refine State.next_eq ((if_neg hgo).trans (if_neg fun hall => ?_))
    obtain ⟨x, hx, hne⟩ := hsome
    exact hne (of_decide_eq_true (List.all_eq_true.mp hall x hx))

end

/-! PROOF. The obligation on trigger sources: masks, machine-event comparators, timers, software sources and outputs (R295 to R325). -/

namespace Sys2Proof.Machine

variable {s : State} {i : Nat}

theorem State.maskEnable_off (hon : s.blockOn 10 = true) (hoff : s.maskOn i = false) :
    s.maskEnable i = if s.maskRefusal i (s.reg (Reg.TRIG.MASK_CTL i)) ≠ 0 then
      (true, s.maskRefused i (s.maskRefusal i (s.reg (Reg.TRIG.MASK_CTL i))))
    else (false, (s.setMask i { s.mask i with win := [], commit := false }).setFld (Reg.TRIG.MASK_STATE i)
      Fld.TRIG.MASK_STATE.enabled 1) :=
  (if_neg (not_ne_true hon)).trans (if_neg (Bool.eq_false_iff.mp hoff))

theorem State.mecApply_none (h : (s.mec i).commit = none) (t : Nat) : s.mecApply i t = s := by
  unfold State.mecApply
  rw [h]

/-- What a comparator needs of a turn besides the time (R299). -/
def State.mecDue (s : State) (c t : Nat) : Prop :=
  (s.reg (Reg.TRIG.MEC_PERIOD c)).toNat = 0 ∨ t % (s.reg (Reg.TRIG.MEC_PERIOD c)).toNat = (s.reg (Reg.TRIG.MEC_PHASE c)).toNat

theorem execMecMatch_match {c : Fin 8} {turn : BitVec 48} (tbs : DWord) (hc : (s.mec c).commit = none)
    (hrun : s.hiddenScope ⟨.mec, c⟩ = .run) (hm : s.running .mach = true) (hlast : (s.mec c).last ≠ some turn.toNat)
    (hdue : s.mecDue c turn.toNat)
    (hcome : turn.toNat * 65536 + s.fld (Reg.TRIG.MEC_BUCKET c) Fld.TRIG.MEC_BUCKET.bucket ≤
      s.time.turn.toNat * 65536 + s.time.bucket.toNat) :
    execMecMatch c turn tbs s =
      let t := (s.setMec c { s.mec c with last := some turn.toNat }).count (Reg.TRIG.MEC_CNT c) 1
      .next (t.activate (56 + c) (t.matchInstant tbs.toNat) true
        (256 * t.fld Reg.TIME.TIME_STATE Fld.TIME.TIME_STATE.tbm_holdover)) := by
  unfold execMecMatch
  simp only [State.mecApply_none hc]
  refine if_neg (or_ne_true (or_ne_true (or_ne_true (or_ne_true (decide_ne_true (not_not.mpr hrun)) (not_ne_true hm))
    (not_ne_true (decide_eq_true hcome))) (decide_ne_true hlast)) (not_ne_true ?_))
  rwa [Bool.or_eq_true, decide_eq_true_iff, decide_eq_true_iff]

theorem execMecMatch_not {c : Fin 8} {turn : BitVec 48} (tbs : DWord) (hc : (s.mec c).commit = none)
    (h : s.hiddenScope ⟨.mec, c⟩ ≠ .run ∨ s.running .mach = false ∨ (s.mec c).last = some turn.toNat ∨ ¬ s.mecDue c turn.toNat) :
    execMecMatch c turn tbs s = .next s := by
  unfold execMecMatch
  simp only [State.mecApply_none hc]
  refine if_pos ?_
  simp only [Bool.or_eq_true, decide_eq_true_eq, Bool.not_eq_true']
  rcases h with h | h | h | h
  · exact .inl (.inl (.inl (.inl h)))
  · exact .inl (.inl (.inl (.inr h)))
  · exact .inl (.inr h)
  · refine .inr (Bool.eq_false_iff.mpr fun hd => h ?_)
    rwa [Bool.or_eq_true, decide_eq_true_iff, decide_eq_true_iff] at hd

/-- The periods that an instant is late, whole ones and a part (R301). -/
theorem ceilDiv_eq_ite (a : Nat) {p : Nat} (hp : 0 < p) :
    (a + p - 1) / p = if a = 0 then 0 else if p = 0 then 1 else ceilDiv a p := by
  split
  case isTrue h => rw [h, Nat.zero_add, Nat.div_eq_of_lt (by omega)]
  case isFalse h => rw [if_neg (by omega)]; rfl

/-- An accepted enable of a timer: its first expiry that is not past (R301). -/
theorem State.tmrEnable_off (hon : s.blockOn 10 = true) (hoff : s.hiddenScope ⟨.timer, i⟩ = .off)
    (hper : s.timerPer i = 0 ∨ 16384 ≤ s.timerPer i) {k : Nat}
    (hk : k = if s.stampTbs - s.timerStart i = 0 then 0 else if s.timerPer i = 0 then 1
      else ceilDiv (s.stampTbs - s.timerStart i) (s.timerPer i)) :
    (s.tmrEnable i).2 = (s.setTimer i ⟨k, 0⟩).setScope ⟨.timer, i⟩ .run := by
  subst hk
  have hgo : ¬ (decide (s.timerPer i ≠ 0) && decide (s.timerPer i < 16384)) = true := by
    rcases hper with h | h
    · exact and_ne_true_left (decide_ne_true (not_not.mpr h))
    · exact and_ne_true_right (decide_ne_true (Nat.not_lt.mpr h))
  exact congrArg Prod.snd ((if_neg (not_ne_true hon)).trans ((if_neg (not_not.mpr hoff)).trans (if_neg hgo)))

theorem State.tmrEnable_refused (hon : s.blockOn 10 = true) (hoff : s.hiddenScope ⟨.timer, i⟩ = .off) (h0 : s.timerPer i ≠ 0)
    (hper : s.timerPer i < 16384) : (s.tmrEnable i).2 = s :=
  congrArg Prod.snd ((if_neg (not_ne_true hon)).trans ((if_neg (not_not.mpr hoff)).trans
    (if_pos (and_true_intro (decide_eq_true h0) (decide_eq_true hper)))))

theorem execTimerFire_of_next {t : Fin 8} {x : Nat} (hx : s.timerNext t = some x) :
    execTimerFire t s = if s.stampTbs < x then .next s
      else .next (((s.setTimer t ⟨(s.timer t).next + 1, (s.timer t).fired + 1⟩).count (Reg.TRIG.TMR_FIRED t) 1).activate (80 + t) x true 0) := by
  simp only [execTimerFire, hx]

end Sys2Proof.Machine

section

open Sys2Proof Sys2Proof.Machine

/-- Settles O37: each command by what its source's state allows; a match by what its comparator needs of the turn. -/
theorem triggerSources : Obligations.TriggerSources := by
  unfold Obligations.TriggerSources
  intro m c o s
  refine ⟨?masks, ?comparators, ?timers, rfl, fun n hn => if_neg hn, fun hon => State.next_eq (if_pos hon), ?outOff,
    fun hhigh => State.next_eq (if_pos hhigh), fun hlow => State.next_eq (if_neg (Bool.eq_false_iff.mp hlow))⟩
  case masks =>
    refine ⟨fun hon hoff => ⟨fun hr => State.next_eq (congrArg Prod.snd ((State.maskEnable_off hon hoff).trans (if_pos hr))),
        fun hr => State.next_eq (congrArg Prod.snd ((State.maskEnable_off hon hoff).trans (if_neg (not_not.mpr hr))))⟩,
      ⟨fun hon => State.next_eq (if_neg (not_ne_true hon)), fun hoff => State.next_eq (if_pos (congrArg not hoff))⟩,
      fun hr => State.next_eq (congrArg Prod.snd (if_pos hr)),
      fun hr hon => State.next_eq (congrArg Prod.snd ((if_neg (not_not.mpr hr)).trans (if_pos hon))),
      fun hr hoff => State.next_eq (congrArg Prod.snd ((if_neg (not_not.mpr hr)).trans (if_neg (Bool.eq_false_iff.mp hoff))))⟩
  case comparators =>
    refine ⟨fun hon hoff => State.next_eq (if_pos (and_true_intro hon (decide_eq_true hoff))), rfl,
      fun hoff => State.next_eq (if_pos hoff), fun hrun => State.next_eq (if_neg hrun), fun turn tbs hc => ?_⟩
    exact ⟨fun hrun hm hlast hdue hcome => execMecMatch_match tbs hc hrun hm hlast hdue hcome,
      fun h => execMecMatch_not tbs hc h⟩
  case timers =>
    refine ⟨fun hon hoff => ⟨fun h0 => State.next_eq (State.tmrEnable_off hon hoff (.inl h0) ?once),
        fun hper => State.next_eq (State.tmrEnable_off hon hoff (.inr hper) ?periodic),
        fun h0 hper => State.next_eq (State.tmrEnable_refused hon hoff (Nat.pos_iff_ne_zero.mp h0) hper)⟩, rfl,
      fun x hx => ⟨fun hle => (execTimerFire_of_next hx).trans (if_neg (Nat.not_lt.mpr hle)),
        fun hlt => (execTimerFire_of_next hx).trans (if_pos hlt)⟩⟩
    case once => simp only [h0, if_true]
    case periodic => exact ceilDiv_eq_ite _ (by omega)
  case outOff =>
    exact ⟨fun hlow => State.next_eq (congrArg (State.setScope · _ _) (if_neg (Bool.eq_false_iff.mp hlow))),
      fun hhigh => State.next_eq (congrArg (State.setScope · _ _) (if_pos hhigh))⟩

end

/-! PROOF. The obligation on the sync bus: pulses, the epoch and the phase filter (R317 to R320). -/

namespace Sys2Proof.Machine

variable {s : State}

theorem or_true_left {a b : Bool} (h : a = true) : (a || b) = true := by rw [h, Bool.true_or]

theorem or_true_right {a b : Bool} (h : b = true) : (a || b) = true := by rw [h, Bool.or_true]

/-- The State after a pulse on a line that the module drives: its own pulse has come back (R317). -/
def State.lineBack (s : State) (k : Nat) : State := if s.line k = 2 then s.setLine k 0 else s

theorem execSyncPulse_of_other {line : Fin 8} (cycle : BitVec 48) {len : Nat} (hon : s.blockOn 19 = true) (h0 : len ≠ 0)
    (h : ¬ (len = 4 ∧ line.val = s.epochLine)) :
    execSyncPulse line cycle len s = if len = 1 then
      .next (if s.busReady then (s.lineBack line).activate (72 + line) ((s.lineBack line).busToTbs (cycle.toNat * 65536)) true 0
        else s.lineBack line)
    else .next (((s.lineBack line).count Reg.SYNC.SYNC_GLITCH_CNT 1).blkEvent 19 10 Ev.SYNC.SYNC_GLITCH 0) :=
  (if_neg (or_ne_true (not_ne_true hon) (decide_ne_true h0))).trans
    (if_neg fun hb => h (by rwa [Bool.and_eq_true, decide_eq_true_iff, decide_eq_true_iff] at hb))

/-- Whether a half difference departs by more than 100 ps from the mean of those held (R318). -/
def phaseFar (l : List Int) (d : Int) : Prop := l ≠ [] ∧ 786432 * l.length < (d * l.length - l.sum).natAbs * 1000

theorem phaseFar_iff (l : List Int) (d : Int) :
    (decide (l.length ≠ 0) && decide (786432 * l.length < (d * l.length - l.sum).natAbs * 1000)) = true ↔ phaseFar l d := by
  rw [Bool.and_eq_true, decide_eq_true_iff, decide_eq_true_iff, ne_eq, List.length_eq_zero_iff]
  rfl

theorem execSyncPhaseMeasure_of_far {tf tr : DWord} (hon : s.blockOn 19 = true) (hfar : phaseFar s.trg.halves (tr - tf).toInt) :
    execSyncPhaseMeasure tf tr s = if s.trg.rejects + 1 = 16 then
      .next (({ s with trg := { s.trg with halves := [], rejects := 0 } } : State).blkEvent 19 11 Ev.SYNC.BUS_PHASE_STEP 0)
    else .next { s with trg := { s.trg with rejects := s.trg.rejects + 1 } } :=
  (if_neg (not_ne_true hon)).trans (if_pos ((phaseFar_iff ..).mpr hfar))

theorem execSyncPhaseMeasure_of_near {tf tr : DWord} (hon : s.blockOn 19 = true) (hfar : ¬ phaseFar s.trg.halves (tr - tf).toInt) :
    ∃ t, execSyncPhaseMeasure tf tr s = .next t ∧ t.trg.rejects = 0 ∧
      t.trg.halves = (s.trg.halves ++ [(tr - tf).toInt]).drop (s.trg.halves.length + 1 - 16) :=
  ⟨_, (if_neg (not_ne_true hon)).trans (if_neg fun h => hfar ((phaseFar_iff ..).mp h)), rfl, rfl⟩

end Sys2Proof.Machine

section

open Sys2Proof Sys2Proof.Machine

/-- Settles O39: a pulse by its length and line, a phase measurement by `phaseFar`. -/
theorem syncBus : Obligations.SyncBus := by
  unfold Obligations.SyncBus
  intro line cycle len s
  refine ⟨fun hline hready hepoch => ?drive, fun hline => if_pos ?idle, fun hon => ?pulse, ?epoch, fun tf tr hon => ?phase,
    fun hv => State.next_eq (if_pos hv)⟩
  case drive =>
    refine if_neg (or_ne_true (or_ne_true (decide_ne_true (not_not.mpr hline)) (not_ne_true hready)) ?_)
    rcases hepoch with h | h
    · exact and_ne_true_left (Bool.eq_false_iff.mp h)
    · exact and_ne_true_right (decide_ne_true h)
  case idle => exact or_true_left (or_true_left (decide_eq_true hline))
  case pulse =>
    intro t
    refine ⟨fun h4 hl => ?_, fun h1 hready => ?_, fun h1 hready => ?_, fun h1 hne => ?_⟩
    · exact (if_neg (or_ne_true (not_ne_true hon) (decide_ne_true (by omega)))).trans
        (if_pos (and_true_intro (decide_eq_true h4) (decide_eq_true hl)))
    · exact (execSyncPulse_of_other cycle hon (by omega) (by omega)).trans ((if_pos h1).trans (State.next_eq (if_pos hready)))
    · exact (execSyncPulse_of_other cycle hon (by omega) (by omega)).trans
        ((if_pos h1).trans (State.next_eq (if_neg (Bool.eq_false_iff.mp hready))))
    · exact (execSyncPulse_of_other cycle hon (by omega) hne).trans (if_neg (by omega))
  case epoch =>
    exact ⟨fun hmaster hon hidle => if_neg (or_ne_true (or_ne_true (not_ne_true hmaster) (not_ne_true hon)) (Bool.eq_false_iff.mp hidle)),
      fun hslave => if_pos (or_true_left (or_true_left (congrArg not hslave)))⟩
  case phase =>
    intro d l far
    exact ⟨fun hfar h16 => (execSyncPhaseMeasure_of_far hon hfar).trans (if_pos h16),
      fun hfar h16 => (execSyncPhaseMeasure_of_far hon hfar).trans (if_neg h16), fun hfar => execSyncPhaseMeasure_of_near hon hfar⟩

end

/-! PROOF. Raw cells, templates, the assembly of a record, and throttling (R330 to R349, R356). -/

namespace Sys2Proof.Machine

variable {s : State}

/-- The sections of a record, in order, each read from the State that the one before leaves (R338). -/
def State.sectionsOf (s : State) (errs : List InkErr) (t : Tadpole) (l : List TplSec) : List Section × State :=
  l.foldl (fun e c => (e.1 ++ [(e.2.section_ errs t c).1], (e.2.section_ errs t c).2)) ([], s)

/-- The end of an assembly once the sections r are there: poison, the flows of the template, and what the record held (R341 to R343). -/
def recordEnd (x : PendingRecord) (stream q : Nat) (r : List Section × State) : Host.Outcome State Fault Refusal :=
  let t := x.tad
  let bad := (r.1.map (·.poison)).sum
  let s : State := if bad = 0 then r.2 else
    ((r.2.count (Reg.REC.REC_POISON_CNT t.tpl) bad).setSta (Reg.REC.TPL_STA t.tpl) Fld.REC.TPL_STA.POISON).blkEvent
      11 13 Ev.REC.REC_POISON t.tpl
  let item : FlowItem := ⟨0, 1, x.num, stream, t.cand, t.tbw, [], decide (bad ≠ 0), false⟩
  let mk := recordBytes stream x q r.1
  let tpl : Fin 64 := ⟨t.tpl % 64, Nat.mod_lt _ (by decide)⟩
  let d := s.tplDisk t.tpl
  let a : Bool × State := if s.flag (Reg.REC.TPL_CFG t.tpl) Fld.REC.TPL_CFG.exportEn || d.isNone then
    s.flowPush (.template tpl) x.num item mk else (false, s)
  let b : Bool × State := match d with
    | some n => a.2.flowPush (.disk n) x.num item mk
    | none => (false, a.2)
  let s : State := if a.1 || b.1 then b.2.count (Reg.REC.REC_OUT_CNT t.tpl) 1 else b.2
  .next (s.releaseHeld t.held (if a.1 || b.1 then none else some x.num))

/-- The latency field of a record in steps, rounded freely to the nearest on either side (R339). -/
def recordSteps (t : Tadpole) : Nat := (freeDiv 62 ((t.passed.getD t.cand - t.cand : Nat) : Int) sampUnits).toNat

theorem execRecordAssembly_of_ready {errs : List InkErr} {x : PendingRecord} {rest : List PendingRecord} (hx : s.records = x :: rest)
    (hready : s.recordReady x.tad = true) :
    execRecordAssembly errs s = recordEnd x ((s.tplStreams x.tad.tpl).headD (0, 0, 0)).1 (recordSteps x.tad)
      (({ s with records := rest } : State).sectionsOf errs x.tad (s.tplSecs x.tad.tpl)) := by
  unfold execRecordAssembly
  rw [hx]
  exact if_neg (not_ne_true hready)

theorem execRecordAssembly_nil {errs : List InkErr} (hx : s.records = []) : execRecordAssembly errs s = .next s := by
  unfold execRecordAssembly
  rw [hx]

theorem execRecordAssembly_waits {errs : List InkErr} {x : PendingRecord} {rest : List PendingRecord} (hx : s.records = x :: rest)
    (hready : s.recordReady x.tad = false) : execRecordAssembly errs s = .next s := by
  unfold execRecordAssembly
  rw [hx]
  exact if_pos (congrArg not hready)

theorem recordEnd_of_clean {x : PendingRecord} {stream q : Nat} {r : List Section × State} {t : Fin 64} (ht : x.tad.tpl = t.val)
    (hbad : (r.1.map (·.poison)).sum = 0) (hd : r.2.tplDisk t = none) :
    recordEnd x stream q r =
      let p := r.2.flowPush (.template t) x.num ⟨0, 1, x.num, stream, x.tad.cand, x.tad.tbw, [], false, false⟩
        (recordBytes stream x q r.1)
      .next ((if p.1 then p.2.count (Reg.REC.REC_OUT_CNT t) 1 else p.2).releaseHeld x.tad.held (if p.1 then none else some x.num)) := by
  have hfin : (⟨t.val % 64, Nat.mod_lt _ (by decide)⟩ : Fin 64) = t := Fin.ext (Nat.mod_eq_of_lt t.isLt)
  simp only [recordEnd, hbad, if_true, ht, hd, Option.isNone_none, Bool.or_true, ne_eq, not_true_eq_false, decide_false,
    Bool.or_false, hfin]

/-- A restart of a template whose flow has stopped (R349). -/
theorem State.tplRestart_of_stopped {t : Fin 64} (h : (s.flow (.template t)).stopped = true) :
    s.tplRestart t =
      let v := s.setFlow (.template t) { s.flow (.template t) with stopped := false }
      if v.fld (Reg.REC.TPL_STATE t) Fld.REC.TPL_STATE.state = 2 then v.setFld (Reg.REC.TPL_STATE t) Fld.REC.TPL_STATE.state 1 else v := by
  simp only [State.tplRestart, h, if_true]

theorem recordSteps_near (t : Tadpole) :
    t.passed.getD t.cand - t.cand < (recordSteps t + 1) * sampUnits ∧
      recordSteps t * sampUnits < t.passed.getD t.cand - t.cand + sampUnits := by
  have h := freeDiv_near 62 ((t.passed.getD t.cand - t.cand : Nat) : Int) (b := sampUnits) (by decide)
  rw [recordSteps]
  simp only [sampUnits] at h ⊢
  omega

end Sys2Proof.Machine

section

open Sys2Proof Sys2Proof.Machine

/-- Settles O40: a cell and a template by their guards, an assembly by `recordEnd_of_clean`, a throttle by its sink's fill. -/
theorem rawCellsAndRecords : Obligations.RawCellsAndRecords := by
  unfold Obligations.RawCellsAndRecords
  refine ⟨fun stream s => ?cells, fun t f errs s => ⟨?enable, ?disable, ?restart, fun hnil => ?noRecord, fun x rest hx => ?assembly, ?throttle⟩⟩
  case cells =>
    intro id st w c a n outs
    refine ⟨fun h => if_pos ?_, fun hv hr hd ho => if_neg ?_⟩
    · rcases h with h | h | h | h
      · exact or_true_left (or_true_left (or_true_left (decide_eq_true h)))
      · exact or_true_left (or_true_left (or_true_right (decide_eq_true h)))
      · exact or_true_left (or_true_right (congrArg not h))
      · exact or_true_right (decide_eq_true h)
    · exact or_ne_true (or_ne_true (or_ne_true (decide_ne_true (Nat.not_lt.mpr hv)) (decide_ne_true hr)) (not_ne_true hd))
        (decide_ne_true (Nat.not_lt.mpr ho))
  case enable =>
    intro u r hon hoff
    have he : u.tplEnable t = _ := (if_neg (not_ne_true hon)).trans (if_neg (not_not.mpr hoff))
    exact ⟨fun hr => State.next_eq (congrArg Prod.snd (he.trans (if_pos hr))),
      fun hr => State.next_eq (congrArg Prod.snd (he.trans (if_neg (not_not.mpr hr))))⟩
  case disable => exact ⟨fun hst => State.next_eq (if_neg hst), fun hst => State.next_eq (if_pos hst)⟩
  case restart =>
    intro u hstop v
    have he : u.tplRestart t = _ := State.tplRestart_of_stopped hstop
    exact ⟨fun h2 => State.next_eq (he.trans (if_pos h2)), fun h2 => State.next_eq (he.trans (if_neg h2))⟩
  case noRecord => exact execRecordAssembly_nil hnil
  case assembly =>
    refine ⟨fun hready => execRecordAssembly_waits hx hready, fun hready ht => ?_⟩
    have he := execRecordAssembly_of_ready (errs := errs) hx hready
    rw [ht] at he
    intro r hbad hd
    obtain ⟨hlo, hhi⟩ := recordSteps_near x.tad
    exact ⟨recordSteps x.tad, hlo, hhi, he.trans (recordEnd_of_clean ht hbad hd)⟩
  case throttle =>
    intro u c j
    refine ⟨fun hf hfill hj => ?double, fun h => ?noDouble, fun hf hfill hj => ?halve, fun h => ?noHalve⟩
    case double => exact State.next_eq (if_pos (and_true_intro (and_true_intro hf (decide_eq_true hfill)) (decide_eq_true hj)))
    case noDouble =>
      refine State.next_eq (if_neg ?_)
      rcases h with h | h | h
      · exact and_ne_true_left (and_ne_true_left (Bool.eq_false_iff.mp h))
      · exact and_ne_true_left (and_ne_true_right (decide_ne_true (Nat.not_le.mpr h)))
      · exact and_ne_true_right (decide_ne_true (Nat.not_lt.mpr h))
    case halve => exact State.next_eq (if_pos (and_true_intro (and_true_intro hf (decide_eq_true hfill)) (decide_eq_true hj)))
    case noHalve =>
      refine State.next_eq (if_neg ?_)
      rcases h with h | h | h
      · exact and_ne_true_left (and_ne_true_left (Bool.eq_false_iff.mp h))
      · exact and_ne_true_left (and_ne_true_right (decide_ne_true (Nat.not_lt.mpr h)))
      · exact and_ne_true_right (decide_ne_true (not_not.mpr h))

end

/-! PROOF. The obligation on look-back jobs: submission, end and cancellation (R351 to R354). -/

namespace Sys2Proof.Machine

/-! ### A job's slots do not read its state register -/

/-- Two writes at rising keys, the later one of a value that is listed, in either order. -/
theorem sparsePut_comm {α : Type} [DecidableEq α] {d : Nat → α} {a b : Nat} (h : a < b) {v x : α} (hx : x ≠ d b) :
    ∀ m : List (Nat × α), sparsePut d a v (sparsePut d b x m) = sparsePut d b x (sparsePut d a v m)
  | [] => by
    by_cases hv : v = d a
    · simp [sparsePut, hx, hv, h]
    · simp [sparsePut, hx, hv, h, Nat.not_lt.mpr (Nat.le_of_lt h), Nat.ne_of_gt h]
  | (k, w) :: t => by
    have ih := sparsePut_comm h hx t (v := v)
    rcases Nat.lt_trichotomy k a with hk | hk | hk
    · simp only [sparsePut, if_neg (show ¬ b < k by omega), if_neg (show b ≠ k by omega), if_neg (show ¬ a < k by omega),
        if_neg (show a ≠ k by omega), ih]
    · subst hk
      by_cases hv : v = d k <;>
        simp [sparsePut, Nat.not_lt.mpr (Nat.le_of_lt h), Nat.ne_of_gt h, hv]
    · have hba : ¬ b < a := by omega
      rcases Nat.lt_trichotomy b k with hb | rfl | hb
      · by_cases hv : v = d a <;> simp [sparsePut, hv, hx, h, hk, hb, hba, Nat.ne_of_gt h]
      · by_cases hv : v = d a <;> simp [sparsePut, hv, hx, h, hba, Nat.ne_of_gt h]
      · by_cases hv : v = d a <;>
          simp [sparsePut, hv, hk, hba, Nat.ne_of_gt h, Nat.not_lt.mpr (Nat.le_of_lt hb), Nat.ne_of_gt hb]

/-- A register of the look-back jobs, above all those of the zoom channels, is listed after them whatever was written there. -/
theorem State.setReg_comm {s : State} {a b : Nat} (h : a < b) {x : Word} (hx : x ≠ resetWord b) (v : Word) :
    (s.setReg b x).setReg a v = (s.setReg a v).setReg b x :=
  congrArg (fun m => { s with regs := m }) (sparsePut_comm h hx s.regs)

section

variable {s : State} {b z : Nat} (hb : 0x410000 ≤ b) (hz : z < 32)

include hb hz

theorem State.zoomCfgFld_setReg (x : Word) (f : Bits) : (s.setReg b x).zoomCfgFld z f = s.zoomCfgFld z f :=
  congrArg (getField f) (State.reg_setReg_other (by rw [Reg.COND.ZC_CFG]; omega) x)

theorem State.zoomIn_setReg (x : Word) : (s.setReg b x).zoomIn z = s.zoomIn z :=
  congrArg (getField _) (State.reg_setReg_other (by rw [Reg.COND.ZC_IO]; omega) x)

theorem State.zoomStep_setReg (x : Word) : (s.setReg b x).zoomStep z = s.zoomStep z := by
  simp only [State.zoomStep, State.zoomMachine, State.zoomRs, State.zoomDint, State.zoomFd, State.zoomCfgFld_setReg hb hz,
    State.zoomIn_setReg hb hz, State.reg_setReg_other (a := b) (b := Reg.COND.ZC_RS_RATIO z) (by rw [Reg.COND.ZC_RS_RATIO]; omega)]
  rfl

theorem State.zoomD28_setReg (x : Word) : (s.setReg b x).zoomD28 z = s.zoomD28 z := by
  simp only [State.zoomD28, State.zoomStep_setReg hb hz, State.zoomQ, State.zoomMachine, State.zoomRs, State.zoomDint, State.zoomFd,
    State.zoomCfgFld_setReg hb hz, State.zoomIn_setReg hb hz]
  rfl

end

theorem State.setFld_setReg_comm {s : State} {a b : Nat} (h : a < b) {x : Word} (hx : x ≠ resetWord b) (f : Bits) (v : Nat) :
    (s.setReg b x).setFld a f v = (s.setFld a f v).setReg b x := by
  rw [State.setFld, State.reg_setReg_other (by omega), State.setReg_comm h hx]
  rfl

theorem State.fld_setReg_other {s : State} {a b : Nat} (h : b ≠ a) (x : Word) (f : Bits) : (s.setReg a x).fld b f = s.fld b f :=
  congrArg (getField f) (State.reg_setReg_other h x)

theorem getField_lt (f : Bits) (w : Word) : getField f w < 2 ^ fieldWidth f := Nat.mod_lt _ (Nat.two_pow_pos _)

theorem State.jobZoom_lt (s : State) (j : Nat) : s.jobZoom j < 32 := getField_lt Fld.REC.LB_CFG.zoom _

theorem resetWord_LB_STATE : ∀ j : Fin 8, resetWord (Reg.REC.LB_STATE j) = 0 := by decide +kernel

section

variable {s : State} {j : Fin 8} {x : Word} (hx : x ≠ 0)

include hx

/-- The zoom channel of a job as it is with the job's state register written. -/
theorem State.jobView_setReg (bucket : Nat) :
    (s.setReg (Reg.REC.LB_STATE j) x).jobView j bucket = (s.jobView j bucket).setReg (Reg.REC.LB_STATE j) x := by
  have hcfg (f : Bits) : (s.setReg (Reg.REC.LB_STATE j) x).fld (Reg.REC.LB_CFG j) f = s.fld (Reg.REC.LB_CFG j) f :=
    State.fld_setReg_other (by simp only [Reg.REC.LB_CFG, Reg.REC.LB_STATE]; omega) x f
  have hz := s.jobZoom_lt j
  rw [State.jobZoom] at hz
  unfold State.jobView
  simp only [hcfg]
  generalize s.fld (Reg.REC.LB_CFG j) Fld.REC.LB_CFG.zoom = z at hz
  rw [← resetWord_LB_STATE j] at hx
  rw [State.setFld_setReg_comm (by simp only [Reg.COND.ZC_IO, Reg.REC.LB_STATE]; omega) hx,
    State.setFld_setReg_comm (by simp only [Reg.COND.ZC_CFG, Reg.REC.LB_STATE]; omega) hx]
  generalize State.setFld _ (Reg.COND.ZC_CFG z) _ _ = t
  have hstep : ((t.setReg (Reg.REC.LB_STATE j) x).setZoom z { Zoom.fresh with path := { ZoomPath.fresh with num := bucket } }).zoomStep z =
      (t.setZoom z { Zoom.fresh with path := { ZoomPath.fresh with num := bucket } }).zoomStep z :=
    State.zoomStep_setReg (s := t.setZoom z _) (by simp only [Reg.REC.LB_STATE]; omega) hz x
  rw [hstep]
  rfl

theorem State.slotsOf_setReg : (s.setReg (Reg.REC.LB_STATE j) x).slotsOf j = s.slotsOf j := by
  have hcfg (f : Bits) : (s.setReg (Reg.REC.LB_STATE j) x).fld (Reg.REC.LB_CFG j) f = s.fld (Reg.REC.LB_CFG j) f :=
    State.fld_setReg_other (by simp only [Reg.REC.LB_CFG, Reg.REC.LB_STATE]; omega) x f
  have hrate (f : Bits) : (s.setReg (Reg.REC.LB_STATE j) x).fld (Reg.REC.LB_RATE j) f = s.fld (Reg.REC.LB_RATE j) f :=
    State.fld_setReg_other (by simp only [Reg.REC.LB_RATE, Reg.REC.LB_STATE]; omega) x f
  have hxf (f : Bits) : (s.setReg (Reg.REC.LB_STATE j) x).fld (Reg.REC.LB_XF j) f = s.fld (Reg.REC.LB_XF j) f :=
    State.fld_setReg_other (by simp only [Reg.REC.LB_XF, Reg.REC.LB_STATE]; omega) x f
  have hd : (s.setReg (Reg.REC.LB_STATE j) x).jobD28 j = s.jobD28 j := by
    have hz : (s.setReg (Reg.REC.LB_STATE j) x).jobZoom j = s.jobZoom j := hcfg _
    rw [State.jobD28, State.jobView_setReg hx, hz,
      State.zoomD28_setReg (by simp only [Reg.REC.LB_STATE]; omega) (s.jobZoom_lt j)]
    rfl
  simp only [State.slotsOf, hd, State.jobRate, hrate, State.jobXf, State.flag, hcfg, State.jobPair, hxf]
  rfl

end

theorem putField_state_ne_zero (w : Word) : putField Fld.REC.LB_STATE.state 1 w ≠ 0 := by
  intro h
  have hf := getField_putField_same Fld.REC.LB_STATE.state (by decide) (by decide) 1 w
  rw [h] at hf
  exact absurd hf (by decide)

theorem State.slotsOf_setState (s : State) (j : Fin 8) :
    (s.setFld (Reg.REC.LB_STATE j) Fld.REC.LB_STATE.state 1).slotsOf j = s.slotsOf j :=
  State.slotsOf_setReg (putField_state_ne_zero _)

variable {s : State} {j : Nat}

/-- The reason for which a job is refused; a rate out of range gives a free one (R352). -/
def State.jobReason (s : State) (j n : Nat) : Nat :=
  if decide (1 ≤ s.jobRate j) && decide (s.jobRate j ≤ 15360) then s.jobRefusal j else 1 + Config.freeNat 63 n % 9

theorem State.jobReason_of_rate (hlo : 1 ≤ s.jobRate j) (hhi : s.jobRate j ≤ 15360) (n : Nat) : s.jobReason j n = s.jobRefusal j :=
  if_pos (and_true_intro (decide_eq_true hlo) (decide_eq_true hhi))

/-- A job refused for a reason (R352). -/
def State.jobRefused (s : State) (j r : Nat) : State :=
  (((s.setFld (Reg.REC.LB_STATE j) Fld.REC.LB_STATE.reason r).setFld (Reg.REC.LB_STATE j) Fld.REC.LB_STATE.state 3).setSta
    (Reg.REC.LB_STA j) Fld.REC.LB_STA.REFUSED).blkEvent 11 11 Ev.REC.LB_REFUSED (j + r * 256)

/-- A job that starts (R353). -/
def State.jobStarted (s : State) (j : Nat) : State :=
  let st := Reg.REC.LB_STATE j
  let t : State := (s.setFld st Fld.REC.LB_STATE.state 1).setFld st Fld.REC.LB_STATE.slots
    (s.slotsOf j)
  (((t.setReg (Reg.REC.LB_BOUND j) (BitVec.ofNat 32 (t.jobBound j))).setReg (Reg.REC.LB_WRITTEN j) 0).setReg
    (Reg.REC.LB_FRAMES j) 0).reportBudget

/-- A submission on a job that does not run, with a free number n and the State u after it is drawn. -/
theorem State.lbSubmit_idle (hon : s.blockOn 11 = true) (hidle : s.lbState j ≠ 1) {n : Nat} {u : State}
    (hu : (s.setJob j ⟨s.bucketPeriod⟩).draw = (n, u)) :
    s.lbSubmit j = if u.jobReason j n ≠ 0 then (true, u.jobRefused j (u.jobReason j n)) else (false, u.jobStarted j) := by
  unfold State.lbSubmit
  rw [if_neg (not_ne_true hon), if_neg hidle]
  simp only [hu]
  rfl

/-- A submission with its rate in range, by its reason (R352, R353). -/
theorem State.lbSubmit_of_rate (hon : s.blockOn 11 = true) (hidle : s.lbState j ≠ 1)
    (hlo : 1 ≤ (s.setJob j ⟨s.bucketPeriod⟩).draw.2.jobRate j) (hhi : (s.setJob j ⟨s.bucketPeriod⟩).draw.2.jobRate j ≤ 15360) :
    let u := (s.setJob j ⟨s.bucketPeriod⟩).draw.2
    (s.lbSubmit j).2 = if u.jobRefusal j ≠ 0 then u.jobRefused j (u.jobRefusal j) else u.jobStarted j := by
  intro u
  rw [State.lbSubmit_idle hon hidle (Prod.eta _).symm]
  simp only [State.jobReason_of_rate hlo hhi]
  exact apply_ite Prod.snd _ _ _

/-- A job that starts, its slots taken once it runs. -/
theorem State.jobStarted_eq (s : State) (j : Fin 8) :
    s.jobStarted j =
      let t := (s.setFld (Reg.REC.LB_STATE j) Fld.REC.LB_STATE.state 1).setFld (Reg.REC.LB_STATE j) Fld.REC.LB_STATE.slots
        ((s.setFld (Reg.REC.LB_STATE j) Fld.REC.LB_STATE.state 1).slotsOf j)
      (((t.setReg (Reg.REC.LB_BOUND j) (BitVec.ofNat 32 (t.jobBound j))).setReg (Reg.REC.LB_WRITTEN j) 0).setReg
        (Reg.REC.LB_FRAMES j) 0).reportBudget := by
  rw [State.slotsOf_setState]
  rfl

theorem State.lbCancel_running (hrun : s.lbState j = 1) :
    let r := s.draw.2.jobOutputs j []
    ∃ k, k ≤ r.1.length ∧ s.lbCancel j = ((r.2.2.jobWrite j (r.1.take k)).jobEnd j 4 r.2.1).setSta (Reg.REC.LB_STA j)
      Fld.REC.LB_STA.CANCELLED := by
  intro r
  exact ⟨Config.freeNat 64 s.draw.1 % (r.1.length + 1), Nat.lt_succ_iff.mp (Nat.mod_lt _ (Nat.succ_pos _)), if_neg (not_not.mpr hrun)⟩

end Sys2Proof.Machine

section

open Sys2Proof Sys2Proof.Machine

/-- Settles O41: a submission by its reason, an end and a cancellation by the job's state. -/
theorem lookBackJobs : Obligations.LookBackJobs := by
  unfold Obligations.LookBackJobs
  intro j errs s
  refine ⟨fun hon hidle hlo hhi => ⟨fun hr => ?refused, fun hr => ?starts⟩, fun hrun => if_neg (not_not.mpr hrun),
    fun hidle => if_pos hidle, fun hrun => ?cancel, fun hidle => State.next_eq (if_pos hidle)⟩
  case refused => exact State.next_eq ((State.lbSubmit_of_rate hon hidle hlo hhi).trans (if_pos hr))
  case starts =>
    exact State.next_eq ((State.lbSubmit_of_rate hon hidle hlo hhi).trans ((if_neg (not_not.mpr hr)).trans (State.jobStarted_eq ..)))
  case cancel =>
    obtain ⟨k, hk, he⟩ := State.lbCancel_running hrun
    exact ⟨k, hk, State.next_eq he⟩

end

/-! PROOF. The obligation on density planes: commands, persistence and snapshots (R386 to R397, R413). -/

namespace Sys2Proof.Machine

variable {s : State} {k : Nat}

/-- A count times 1 - 2^-d, rounded, is at most the count (R391). -/
theorem decay_rounded_le {d c : Nat} (hd : 0 < d) (hc : 0 < c) : (c * (2 ^ d - 1) + 2 ^ (d - 1)) / 2 ^ d ≤ c := by
  have hpos := Nat.two_pow_pos (d - 1)
  have hpow : 2 ^ d = 2 * 2 ^ (d - 1) := by rw [← Nat.pow_succ']; congr 1; omega
  generalize 2 ^ (d - 1) = q at *
  rw [hpow, ← Nat.lt_succ_iff, Nat.div_lt_iff_lt_mul (by omega), Nat.mul_sub_one]
  have hsucc : c.succ * (2 * q) = c * (2 * q) + 2 * q := Nat.succ_mul ..
  omega

theorem decay_lt {d c : Nat} (hd : 0 < d) (hc : 0 < c) : decay d c < c := by
  have h := decay_rounded_le hd hc
  unfold decay
  extract_lets c'
  split <;> omega

theorem State.planeEnable_off (hon : s.blockOn 12 = true) (hoff : s.planeState k = 0) :
    s.planeEnable k = if s.planeRefusal k ≠ 0 then
      (true, ((s.setFld (Reg.BLOT.PL_STATE k) Fld.BLOT.PL_STATE.reason (s.planeRefusal k)).setSta (Reg.BLOT.PL_STA k)
        Fld.BLOT.PL_STA.REFUSED).blkEvent 12 8 Ev.BLOT.PL_REFUSED (k + 256 * s.planeRefusal k))
    else (false, ((s.setPlane k { s.plane k with seq := 0, stopping := false, commit := false }).setReg
      (Reg.BLOT.PL_SNAP_SEQ k) 0).setPlaneState k 1) :=
  (if_neg (not_ne_true hon)).trans (if_neg (not_not.mpr hoff))

/-- The members of a plane with their counts decayed by one persistence tick (R391). -/
def State.planeDecayed (s : State) (k d : Nat) : State :=
  (s.planeMembers k).foldl (fun u j => u.setPlane j { u.plane j with
    counts := ((u.plane j).counts.map (fun e => (e.1, decay d e.2))).filter (fun e => decide (e.2 ≠ 0)) }) s

theorem execPersistTick_of_on {k : Fin 16} (hsec : s.planeSecond k = false) (hst : s.planeState k ≠ 0) :
    execPersistTick k s =
      let t := s.setPlane k { s.plane k with satSeen := false }
      let d := s.fld (Reg.BLOT.PL_PERSIST k) Fld.BLOT.PL_PERSIST.d
      if d = 0 then .next t
      else .next (if (t.planeMembers k).any (fun j => !(t.plane j).counts.isEmpty) then (t.planeDecayed k d).planeChange k
        else t.planeDecayed k d) :=
  if_neg (or_ne_true (Bool.eq_false_iff.mp hsec) (decide_ne_true hst))

end Sys2Proof.Machine

section

open Sys2Proof Sys2Proof.Machine

/-- Settles O47: each command by the plane's state; a persistence tick by `execPersistTick_of_on` and `decay_lt`. -/
theorem densityPlanes : Obligations.DensityPlanes := by
  unfold Obligations.DensityPlanes
  intro k s cmd st
  refine ⟨fun hsec i hi => ?second, fun hsec => ?first, fun d c hd hc => ⟨decay_lt hd hc, fun hx => if_neg hx, fun hx => ?decay⟩⟩
  case second =>
    have hguard (b : Bool) : (s.planeSecond k || b) = true := or_true_left hsec
    fin_cases hi
    on_goal 7 => exact if_pos (hguard _)
    on_goal 7 => exact if_pos (hguard _)
    all_goals exact if_pos hsec
  case first =>
    have hfirst := Bool.eq_false_iff.mp hsec
    refine ⟨fun hon hoff => ?enable, ?disable, ?commit, if_neg hfirst, ?snap, ?restart, fun hst => ?persist,
      fun hsnap => if_neg (or_ne_true hfirst (not_ne_true hsnap)), fun hsnap => if_pos (or_true_right (congrArg not hsnap))⟩
    case enable =>
      exact ⟨fun hr => (if_neg hfirst).trans (State.next_eq (congrArg Prod.snd ((State.planeEnable_off hon hoff).trans (if_pos hr)))),
        fun hr => (if_neg hfirst).trans (State.next_eq (congrArg Prod.snd ((State.planeEnable_off hon hoff).trans (if_neg (not_not.mpr hr)))))⟩
    case disable =>
      exact ⟨fun hst => (if_neg hfirst).trans (State.next_eq (if_pos hst)),
        fun hst hp => (if_neg hfirst).trans (State.next_eq ((if_neg (not_not.mpr hst)).trans (if_pos hp))),
        fun hst hp => (if_neg hfirst).trans (State.next_eq ((if_neg (not_not.mpr hst)).trans (if_neg hp)))⟩
    case commit =>
      exact ⟨fun hst => (if_neg hfirst).trans (State.next_eq (if_pos hst)), fun hst => (if_neg hfirst).trans (State.next_eq (if_neg hst))⟩
    case snap =>
      exact ⟨fun hs => (if_neg hfirst).trans (State.next_eq (if_neg (Bool.eq_false_iff.mp hs))),
        fun hs => (if_neg hfirst).trans (State.next_eq (if_pos hs))⟩
    case restart =>
      exact ⟨fun hs => (if_neg hfirst).trans (State.next_eq (if_pos hs)),
        fun hs => (if_neg hfirst).trans (State.next_eq (if_neg (Bool.eq_false_iff.mp hs)))⟩
    case persist =>
      intro t d u
      have he := execPersistTick_of_on hsec hst
      refine ⟨fun h0 => he.trans (if_pos h0), fun h0 hnone => he.trans ((if_neg h0).trans (State.next_eq (if_neg ?_))),
        fun h0 hsome => he.trans ((if_neg h0).trans (State.next_eq (if_pos ?_)))⟩
      · intro hany
        obtain ⟨j, hj, hne⟩ := List.any_eq_true.mp hany
        rw [hnone j hj] at hne
        exact absurd hne Bool.false_ne_true
      · obtain ⟨j, hj, hne⟩ := hsome
        refine List.any_eq_true.mpr ⟨j, hj, ?_⟩
        rwa [Bool.not_eq_true', List.isEmpty_eq_false_iff]
  case decay =>
    have hpred : decay d c = c - 1 := if_pos hx
    rw [hpred, Nat.sub_add_cancel hc]

end

/-! PROOF. The obligation on drives: links, labels, formatting, measuring, wear and loss (R468 to R470, R477 to R485). -/

namespace Sys2Proof.Machine

variable {s : State} {d : Fin 8}

theorem execDriveLinkUp_of_fit {gen : BitVec 2} {width : BitVec 5} (lba : Nat) (meta_ : Bool) (blocks : Nat) (hon : s.blockOn 17 = true)
    (hst : s.drvState d = 0 ∨ s.drvState d = 6) (hgen : 2 ≤ gen.toNat) (hwidth : width.toNat ∈ [1, 2, 4, 8, 16])
    (hlanes : width.toNat ≤ s.slotLanes d) :
    execDriveLinkUp d gen width lba meta_ blocks s =
      let st := Reg.STOR.DRV_STATE d
      let t := ((((s.setFld st Fld.STOR.DRV_STATE.gen gen.toNat).setFld st Fld.STOR.DRV_STATE.width width.toNat).setFld st
        Fld.STOR.DRV_STATE.reason 0).setDrive d { Drive.blank with blocks := blocks }).setDrvState d 1
      .next (if lba ≠ 4096 then t.drvRefuse d 1 else if meta_ then t.drvRefuse d 2 else if slotsOf blocks < 64 then t.drvRefuse d 3
        else (t.setReg (Reg.STOR.DRV_SLOTS d) (BitVec.ofNat 32 (slotsOf blocks))).setDrvState d 3) := by
  have hstate : (decide (s.drvState d = 0) || decide (s.drvState d = 6)) = true := by
    rwa [Bool.or_eq_true, decide_eq_true_iff, decide_eq_true_iff]
  have hfits : (decide (2 ≤ gen.toNat) && [1, 2, 4, 8, 16].contains width.toNat && decide (width.toNat ≤ s.slotLanes d)) = true :=
    and_true_intro (and_true_intro (decide_eq_true hgen) (List.contains_iff_mem.mpr hwidth)) (decide_eq_true hlanes)
  exact if_neg (or_ne_true (or_ne_true (not_ne_true hon) (not_ne_true hstate)) (not_ne_true hfits))

/-! ### Attaching -/

/-- ATTACH_GO on a drive that waits for it, by its whole labels (R469). -/
theorem execAttachGo_no_label (labels journal : List (List Byte))
    (hst : (s.setFld (Reg.STOR.DRV_CMD d) Fld.STOR.DRV_CMD.attach_go 0).drvState d = 3) (hgood : labels.filter labelWhole = []) :
    execAttachGo d labels journal s = .next ((s.setFld (Reg.STOR.DRV_CMD d) Fld.STOR.DRV_CMD.attach_go 0).drvRefuse d 4) := by
  unfold execAttachGo
  refine (if_neg (not_not.mpr hst)).trans ?_
  rw [hgood]
  rfl

theorem execAttachGo_other_set (labels journal : List (List Byte))
    (hst : (s.setFld (Reg.STOR.DRV_CMD d) Fld.STOR.DRV_CMD.attach_go 0).drvState d = 3) (hgood : labels.filter labelWhole ≠ [])
    (hset : ∀ l ∈ labels.filter labelWhole, leAt l 8 8 ≠ (s.setFld (Reg.STOR.DRV_CMD d) Fld.STOR.DRV_CMD.attach_go 0).setId) :
    execAttachGo d labels journal s = .next ((s.setFld (Reg.STOR.DRV_CMD d) Fld.STOR.DRV_CMD.attach_go 0).drvRefuse d 5) := by
  have hnone : (labels.filter labelWhole).find?
      (fun l => decide (leAt l 8 8 = (s.accept (Reg.STOR.DRV_CMD d) Fld.STOR.DRV_CMD.attach_go).setId)) = none :=
    List.find?_eq_none.mpr fun l hl h => hset l hl (of_decide_eq_true h)
  obtain ⟨g, gs, hg⟩ := List.exists_cons_of_ne_nil hgood
  unfold execAttachGo
  refine (if_neg (not_not.mpr hst)).trans ?_
  rw [hnone, hg]
  rfl

theorem execAttachGo_label {labels : List (List Byte)} (journal : List (List Byte)) {l : List Byte}
    (hst : (s.setFld (Reg.STOR.DRV_CMD d) Fld.STOR.DRV_CMD.attach_go 0).drvState d = 3)
    (hl : (labels.filter labelWhole).find?
      (fun l => decide (leAt l 8 8 = (s.setFld (Reg.STOR.DRV_CMD d) Fld.STOR.DRV_CMD.attach_go 0).setId)) = some l) :
    execAttachGo d labels journal s =
      let t := s.setFld (Reg.STOR.DRV_CMD d) Fld.STOR.DRV_CMD.attach_go 0
      let es := (journal.filter (fun e => journalWhole e && decide (leAt e 16 8 = t.setId))).foldl (fun a e => insertEntry e a) []
      let u := (t.setDrive d { t.drive d with
        parts := (List.range 16).map (fun i => (leAt l (20 + 8 * i) 4, leAt l (24 + 8 * i) 4)),
        count := (es.getLast?.map (fun e => leAt e 48 8 + 1)).getD 0, valid := es.foldl replayEntry [] }).setReg
        (Reg.STOR.DRV_SLOTS d) (BitVec.ofNat 32 (leAt l 16 4))
      let v := es.foldl (fun u e => u.resumeRotation d e) u
      .next (((v.setFld (Reg.STOR.DRV_STATE d) Fld.STOR.DRV_STATE.reason 0).setDrvState d 2).raise Ev.STOR.DRV_ATTACHED d) := by
  obtain ⟨g, gs, hg⟩ := List.exists_cons_of_ne_nil (List.ne_nil_of_mem (List.mem_of_find?_eq_some hl))
  unfold execAttachGo
  refine (if_neg (not_not.mpr hst)).trans ?_
  rw [show (labels.filter labelWhole).find?
    (fun l => decide (leAt l 8 8 = (s.accept (Reg.STOR.DRV_CMD d) Fld.STOR.DRV_CMD.attach_go).setId)) = some l from hl, hg]
  rfl

/-! ### Wear -/

/-- The end of a wear report: a drive past the retirement level is retired (R479). -/
def State.wearRetire (s : State) (d used : Nat) : State :=
  if s.drvState d ≠ 5 ∧ s.fld Reg.STOR.STOR_WEAR Fld.STOR.STOR_WEAR.retire ≤ used then s.drvRetire d else s

theorem execWearRead_of_present {used crit : Byte} (hlo : 3 ≤ s.drvState d) (hhi : s.drvState d ≤ 5) :
    execWearRead d used crit s =
      let w := Reg.STOR.DRV_WEAR d
      let changed := decide (crit.toNat ≠ 0) && decide (s.fld w Fld.STOR.DRV_WEAR.crit ≠ crit.toNat)
      let reached := !(s.drive d).warned && decide (s.fld Reg.STOR.STOR_WEAR Fld.STOR.STOR_WEAR.warn ≤ used.toNat)
      let t := (s.setFld w Fld.STOR.DRV_WEAR.used used.toNat).setFld w Fld.STOR.DRV_WEAR.crit crit.toNat
      let u : State := if reached then t.setDrive d { t.drive d with warned := true } else t
      let v : State := if reached || changed then
        (u.setSta (Reg.STOR.DRV_STA d) Fld.STOR.DRV_STA.WEAR_WARN).raise Ev.STOR.DRV_WEAR_WARN (d + 256 * crit.toNat) else u
      .next (v.wearRetire d used.toNat) := by
  have hgo := not_ne_true (and_true_intro (decide_eq_true hlo) (decide_eq_true hhi))
  refine (if_neg hgo).trans (State.next_eq ?_)
  unfold State.wearRetire
  simp only [Bool.and_eq_true, decide_eq_true_eq]

theorem execWearRead_quiet {used : Byte} (hlo : 3 ≤ s.drvState d) (hhi : s.drvState d ≤ 5)
    (hwarn : used.toNat < s.fld Reg.STOR.STOR_WEAR Fld.STOR.STOR_WEAR.warn) :
    execWearRead d used 0 s = .next ((((s.setFld (Reg.STOR.DRV_WEAR d) Fld.STOR.DRV_WEAR.used used.toNat).setFld (Reg.STOR.DRV_WEAR d)
      Fld.STOR.DRV_WEAR.crit (0 : Byte).toNat)).wearRetire d used.toNat) := by
  rw [execWearRead_of_present hlo hhi]
  simp [decide_eq_false (Nat.not_le.mpr hwarn)]

theorem execWearRead_warns {used crit : Byte} (hlo : 3 ≤ s.drvState d) (hhi : s.drvState d ≤ 5) (hw : (s.drive d).warned = false)
    (hwarn : s.fld Reg.STOR.STOR_WEAR Fld.STOR.STOR_WEAR.warn ≤ used.toNat) :
    execWearRead d used crit s =
      let t := (s.setFld (Reg.STOR.DRV_WEAR d) Fld.STOR.DRV_WEAR.used used.toNat).setFld (Reg.STOR.DRV_WEAR d)
        Fld.STOR.DRV_WEAR.crit crit.toNat
      .next ((((t.setDrive d { t.drive d with warned := true }).setSta (Reg.STOR.DRV_STA d) Fld.STOR.DRV_STA.WEAR_WARN).raise
        Ev.STOR.DRV_WEAR_WARN (d + 256 * crit.toNat)).wearRetire d used.toNat) := by
  rw [execWearRead_of_present hlo hhi]
  simp only [hw, decide_eq_true hwarn, Bool.not_false, Bool.and_self, Bool.true_or, if_true]

end Sys2Proof.Machine

section

open Sys2Proof Sys2Proof.Machine

/-- Settles O53: each command by the drive's state, an attach by its labels, a wear report by its levels. -/
theorem drives : Obligations.Drives := by
  unfold Obligations.Drives
  intro d s st cmd state
  refine ⟨fun gen width lba blocks meta_ hon hst hgen hwidth hlanes => ?linkUp, fun labels journal => ?attach, ?format,
    ⟨fun hst => State.next_eq (if_pos hst), fun hst => State.next_eq (if_neg hst)⟩, fun mbs hst => ?measured, ?retire, ?detach,
    fun timeout h0 h6 => if_neg (or_ne_true (decide_ne_true h0) (decide_ne_true h6)), fun used crit hlo hhi => ?wear,
    fun hst => State.next_eq (if_pos hst)⟩
  case linkUp =>
    have he := execDriveLinkUp_of_fit lba meta_ blocks hon hst hgen hwidth hlanes
    exact ⟨fun hl => he.trans (State.next_eq (if_pos hl)),
      fun hl hm => he.trans (State.next_eq ((if_neg (not_not.mpr hl)).trans (if_pos hm))),
      fun hl hm hs => he.trans (State.next_eq ((if_neg (not_not.mpr hl)).trans ((if_neg (Bool.eq_false_iff.mp hm)).trans (if_pos hs)))),
      fun hl hm hs => he.trans (State.next_eq ((if_neg (not_not.mpr hl)).trans ((if_neg (Bool.eq_false_iff.mp hm)).trans
        (if_neg (Nat.not_lt.mpr hs)))))⟩
  case attach =>
    exact ⟨fun hst => if_pos hst, fun hst hgood => execAttachGo_no_label labels journal hst hgood,
      fun hst hgood hset => execAttachGo_other_set labels journal hst hgood hset, fun l hst hl => execAttachGo_label journal hst hl⟩
  case format =>
    exact ⟨fun hst => if_pos hst, fun hst => (if_neg fun h4 => absurd (hst.symm.trans h4) (by decide)).trans (if_neg (not_not.mpr hst)),
      fun h3 h4 => (if_neg h4).trans (if_pos h3)⟩
  case measured =>
    intro t
    refine ⟨fun hp => State.next_eq ((if_pos hst).trans ?_), fun hp => State.next_eq ((if_pos hst).trans ?_)⟩
    · exact congrArg (State.setDrvState t d) (if_pos (List.isEmpty_iff.mpr hp))
    · exact congrArg (State.setDrvState t d) (if_neg (fun h => hp (List.isEmpty_iff.mp h)))
  case retire =>
    refine ⟨fun hst => State.next_eq (if_pos ?_), fun h3 h4 => State.next_eq (if_neg (or_ne_true (decide_ne_true h3) (decide_ne_true h4)))⟩
    rwa [Bool.or_eq_true, decide_eq_true_iff, decide_eq_true_iff]
  case detach =>
    intro t named
    have hnamed : (List.range 16).any (fun n =>
        decide (t.dsState n ≠ 0) && (t.fld (Reg.STOR.DS_CFG n) Fld.STOR.DS_CFG.drives).testBit d) = true ↔ named := by
      simp only [named, List.any_eq_true, List.mem_range, Bool.and_eq_true, decide_eq_true_eq]
    exact ⟨fun hn => if_pos (hnamed.mpr hn), fun hn hst => (if_neg (mt hnamed.mp hn)).trans (if_pos hst),
      fun hn hst => (if_neg (mt hnamed.mp hn)).trans (if_neg hst)⟩
  case wear =>
    intro w t warn retire
    refine ⟨fun hc hwarn => ?_, fun hw hwarn => execWearRead_warns hlo hhi hw hwarn⟩
    subst hc
    exact execWearRead_quiet hlo hhi hwarn

end

/-! PROOF. The obligation on the Steward: the core supply, firmware, hold and resume, and the standby (R500 to R511). -/

namespace Sys2Proof.Machine

variable {s : State}

theorem execPaceRead_none {margins : List (Nat × Int)} (h : leastMargin margins = none) : execPaceRead margins s = .next s := by
  unfold execPaceRead
  rw [h]

/-- A margin report below the ceiling: no VCORE_LIMIT, and one step of the supply (R500, R501). -/
theorem execPaceRead_below {margins : List (Nat × Int)} {u : Nat} {least : Int} (h : leastMargin margins = some (u, least))
    (hv : s.vcore ≠ s.vCeiling) :
    execPaceRead margins s =
      let t := ((s.setFld Reg.STEWARD.AVS_STATE Fld.STEWARD.AVS_STATE.margin (min 255 least.toNat)).setFld Reg.STEWARD.AVS_MIN_UNIT
        Fld.STEWARD.AVS_MIN_UNIT.block (u / 256)).setFld Reg.STEWARD.AVS_MIN_UNIT Fld.STEWARD.AVS_MIN_UNIT.inst (u % 256)
      .next (({ t with
        stw := { t.stw with
          margins := margins, highSince := if least < 15 then 0 else
            if t.stw.highSince = 0 then t.time.tick + 1 else t.stw.highSince } } : State).vcoreStep least) := by
  unfold execPaceRead
  simp only [h, decide_eq_false hv, Bool.false_and, Bool.false_eq_true, if_false]

theorem State.vcoreStep_raises {least : Int} (h : least < 14) (hen : s.flag Reg.STEWARD.AVS_CFG Fld.STEWARD.AVS_CFG.avs_en = true) :
    s.vcoreStep least = s.setVcore (min s.vCeiling (s.vcore + 5)) :=
  (if_neg (not_ne_true hen)).trans (if_pos h)

/-! ### Firmware -/

theorem execFwSwitch_none (h : s.stw.fw = none) : execFwSwitch s = .next s := by
  unfold execFwSwitch
  rw [h]

theorem execFwSwitch_ready {f : FwUpdate} (h : s.stw.fw = some f) (hsw : f.switched = false)
    (hst : s.stwFld Fld.STEWARD.STW_STATE.standby_ready ≠ 0) (hcal : s.stw.cal = none) (hrun : s.stw.running = []) :
    execFwSwitch s =
      let t := s.writeImage f.version
      let u := t.setFld Reg.STEWARD.STW_STATE Fld.STEWARD.STW_STATE.active (1 - t.stwFld Fld.STEWARD.STW_STATE.active)
      let v := (u.setFld Reg.STEWARD.STW_STATE Fld.STEWARD.STW_STATE.image (if u.mod.bootB then 0 else 1)).setFld
        Reg.STEWARD.STW_STATE Fld.STEWARD.STW_STATE.confirmed 0
      let w : State := { v with stw := { v.stw with fw := some { f with switched := true } } }
      .next ((List.range 25).foldl State.nextHandover (((w.logEntry 5 0 0 0 s.runningVersion f.version).blkEvent
        1 8 Ev.STEWARD.FW_SWITCHED 0).ctrlLate f.ring f.cookie 0 0x14 0)) := by
  have hgo : ¬ (f.switched || decide (s.stwFld Fld.STEWARD.STW_STATE.standby_ready = 0) || s.stw.cal.isSome || !s.stw.running.isEmpty) =
      true := by
    rw [hsw, hcal, hrun, decide_eq_false hst]
    exact Bool.false_ne_true
  have himage (t : State) : bit (!t.mod.bootB) = if t.mod.bootB then 0 else 1 := by cases t.mod.bootB <;> rfl
  simp only [execFwSwitch, h, if_neg hgo, himage]
  rfl

theorem execFwConfirm_none (h : s.stw.fw = none) : execFwConfirm s = .next s := by
  unfold execFwConfirm
  rw [h]

theorem execFwConfirm_switched {f : FwUpdate} (h : s.stw.fw = some f) (hsw : f.switched = true) :
    execFwConfirm s = .next (({ s with
      stw := { s.stw with fw := none },
      mod := { s.mod with bootB := decide (s.stwFld Fld.STEWARD.STW_STATE.image = 1) } } : State).setFld Reg.STEWARD.STW_STATE
        Fld.STEWARD.STW_STATE.confirmed 1) := by
  unfold execFwConfirm
  rw [h]
  exact if_neg (not_ne_true hsw)

/-! ### Hold and resume -/

theorem execResumeGo_held {i : SessionImage} (hheld : s.stw.held = true) (hi : s.retained.session = some i) :
    execResumeGo s = .next (((s.setFld Reg.STEWARD.STW_CMD Fld.STEWARD.STW_CMD.resume_go 0).resumePorts i).resumeRest i) := by
  unfold execResumeGo
  simp only [State.accept_stw, State.accept_retained, hheld, hi]
  rfl

theorem execResumeGo_not_held (hheld : s.stw.held = false) :
    execResumeGo s = .next (s.setFld Reg.STEWARD.STW_CMD Fld.STEWARD.STW_CMD.resume_go 0) := by
  unfold execResumeGo
  simp only [State.accept_stw, hheld]
  rfl

theorem execHoldWindowEnd_open {i : SessionImage} (hopen : s.stw.holdWindow = true) (hi : s.retained.session = some i) :
    execHoldWindowEnd s = .next (s.resumeRest i) := by
  unfold execHoldWindowEnd
  rw [hopen, hi]

theorem execHoldWindowEnd_closed (hopen : s.stw.holdWindow = false) : execHoldWindowEnd s = .next s := by
  unfold execHoldWindowEnd
  rw [hopen]

/-! ### The standby -/

/-- A takeover up to what it interrupts (R505). -/
def State.takeoverDone (s : State) : State :=
  (((((s.setFld Reg.STEWARD.STW_STATE Fld.STEWARD.STW_STATE.active (1 - s.stwFld Fld.STEWARD.STW_STATE.active)).setFld
    Reg.STEWARD.STW_STATE Fld.STEWARD.STW_STATE.standby_ready 0)).count Reg.STEWARD.TAKEOVER_CNT 1).blkEvent 1 10
    Ev.STEWARD.STEWARD_TAKEOVER 0)

/-- What a takeover does with a firmware update in hand (R505, R510). -/
def State.takeoverFw (s : State) : Host.Outcome State Fault Refusal :=
  match s.stw.fw with
  | none => .next s
  | some f =>
    if f.switched then .next s.revertFw
    else .next ((List.range 25).foldl State.nextHandover
      (({ s with stw := { s.stw with fw := none } } : State).ctrlLate f.ring f.cookie 0x1C 0x14 0))

theorem execStewardTakeover_idle (hst : s.stwFld Fld.STEWARD.STW_STATE.standby_ready ≠ 0) (hcal : s.takeoverDone.stw.cal = none) :
    execStewardTakeover s = s.takeoverDone.takeoverFw := by
  have hskip : ¬ s.takeoverDone.stw.cal.any (fun c => c.ring.isSome) = true := by rw [hcal]; exact Bool.false_ne_true
  exact (if_neg hst).trans (congrArg State.takeoverFw (if_neg hskip))

theorem State.takeoverFw_none (h : s.stw.fw = none) : s.takeoverFw = .next s := by
  unfold State.takeoverFw
  rw [h]

theorem State.takeoverFw_switched {f : FwUpdate} (h : s.stw.fw = some f) (hsw : f.switched = true) :
    s.takeoverFw = .next s.revertFw := by
  unfold State.takeoverFw
  rw [h]
  exact if_pos hsw

theorem execStandbyReady_of_started (hst : s.stwFld Fld.STEWARD.STW_STATE.standby_ready ≠ 1) (hm : s.mod.started = true) :
    execStandbyReady s = match s.spareNow 3 (12 + (1 - s.stwFld Fld.STEWARD.STW_STATE.active)) with
      | none => .next s
      | some n => .next ((s.switchUnit 3 (12 + (1 - s.stwFld Fld.STEWARD.STW_STATE.active)) n 1).setFld Reg.STEWARD.STW_STATE
        Fld.STEWARD.STW_STATE.standby_ready 1) :=
  if_neg (or_ne_true (decide_ne_true hst) (not_ne_true hm))

end Sys2Proof.Machine

section

open Sys2Proof Sys2Proof.Machine

/-- Settles O57: each command by the Steward's state it acts in. -/
theorem stewardship : Obligations.Stewardship := by
  unfold Obligations.Stewardship
  intro s cmd
  refine ⟨fun margins hm => execPaceRead_none hm, fun margins u least hm hv => fun _ => execPaceRead_below hm hv,
    fun least hl hen => State.vcoreStep_raises hl hen, rfl, fun h => State.next_eq (if_pos h),
    fun h => State.next_eq (if_neg (Nat.not_le.mpr h)), ?avs, rfl,
    fun f hf hsw hst hcal hrun => execFwSwitch_ready hf hsw hst hcal hrun, fun hf => ⟨execFwSwitch_none hf, execFwConfirm_none hf⟩,
    fun f hf hsw => execFwConfirm_switched hf hsw, ?hold,
    ⟨fun i hheld hi => execResumeGo_held hheld hi, fun hheld => execResumeGo_not_held hheld⟩,
    ⟨fun hheld => State.next_eq (if_pos hheld), fun hheld => State.next_eq (if_neg (Bool.eq_false_iff.mp hheld))⟩,
    fun i hopen hi => execHoldWindowEnd_open hopen hi, fun hopen => execHoldWindowEnd_closed hopen, fun hst => if_pos hst,
    fun hst => ?takeover, fun hst hm => ⟨fun n hn => ?replaced, fun hn => ?noSpare⟩⟩
  case avs =>
    intro t a floor ceiling bad
    have hbad : (decide (floor < 700) || decide (850 < ceiling) || decide (ceiling < floor)) = true ↔ bad := by
      simp only [bad, Bool.or_eq_true, decide_eq_true_eq, or_assoc]
    refine ⟨fun hb => if_pos (hbad.mpr hb), fun hb => ⟨fun hen => ?_, fun hen => ?_⟩⟩
    · exact (if_neg (mt hbad.mp hb)).trans (State.next_eq (congrArg (State.setVcore _) (if_pos hen)))
    · exact (if_neg (mt hbad.mp hb)).trans (State.next_eq (congrArg (State.setVcore _) (if_neg (Bool.eq_false_iff.mp hen))))
  case hold => exact ⟨fun hw => if_pos (congrArg not hw), fun hw => if_neg (not_ne_true hw)⟩
  case takeover =>
    intro t u hcal
    exact ⟨fun hf => (execStewardTakeover_idle hst hcal).trans (State.takeoverFw_none hf),
      fun f hf hsw => (execStewardTakeover_idle hst hcal).trans (State.takeoverFw_switched hf hsw)⟩
  case replaced => exact (execStandbyReady_of_started hst hm).trans (by rw [hn])
  case noSpare => exact (execStandbyReady_of_started hst hm).trans (by rw [hn])

end

/-! PROOF. The obligation on the module's power: start, stops, heat, phases and the host link (R441, R531 to R543). -/

namespace Sys2Proof.Machine

variable {s : State}

/-- A fold whose test holds of nothing changes nothing. -/
theorem foldl_ite_false {α β : Type} {p : β → Bool} (f : α → β → α) (hp : ∀ x, p x = false) (l : List β) (a : α) :
    l.foldl (fun t x => if p x then f t x else t) a = a := by
  induction l with
  | nil => rfl
  | cons x l ih => rwa [List.foldl_cons, hp x]

/-! ### Start and stop -/

/-- A power-up to the point where the retained slots are read (R531). -/
def State.powered (s : State) (first : Bool) : State :=
  let t := s.unpowered
  let u := (({ t with mod := { t.mod with started := true, pwrgd := true, powered := true, since := t.time.tick } } : State).emit
    (.pin "PWRGD" true))
  let v := if first then u.setFld Reg.RETAIN.RT_STATE Fld.RETAIN.RT_STATE.valid 0x3F else u
  v.setFld Reg.RETAIN.RT_STATE Fld.RETAIN.RT_STATE.factory (if first then 1 else 0)

/-- The rest of it, up to the host's access. -/
def State.poweredState (w : State) (inh service : Bool) : State :=
  let st (x : State) (f : Bits) (n : Nat) : State := x.setFld Reg.STEWARD.STW_STATE f n
  let a := st (st w Fld.STEWARD.STW_STATE.resume_inh (if inh then 1 else 0)) Fld.STEWARD.STW_STATE.standby_ready 1
  let b := st (st a Fld.STEWARD.STW_STATE.image (if a.mod.bootB then 1 else 0)) Fld.STEWARD.STW_STATE.confirmed 1
  let c := b.reportVersions.setFld Reg.PWR.PWR_STATE Fld.PWR.PWR_STATE.service (if service then 1 else 0)
  if service then c.pwrEvent 12 Ev.PWR.SERVICE_MODE 0 else c

theorem execPowerUp_good (inh service : Bool) (hv : s.mod.vaux = true) (hs : s.mod.started = false) (hf : s.mod.fault = false) :
    execPowerUp inh service 0 [] s =
      let d := (s.powered (!s.mod.powered)).poweredState inh service
      .next (if d.mod.perst then d else d.access) := by
  have hgo := or_ne_true (or_ne_true (not_ne_true hv) (Bool.eq_false_iff.mp hs)) (Bool.eq_false_iff.mp hf)
  have hslots (t : State) : (List.range 6).foldl (fun s i => if (0 : BitVec 6).getLsbD i then s.regionLost i else s) t = t :=
    foldl_ite_false State.regionLost (fun _ => BitVec.getLsbD_zero) _ t
  refine (if_neg hgo).trans ?_
  dsimp only
  rw [hslots]
  rfl

/-- VIN and VAUX both gone while the module is stopped (R534). -/
theorem execVinLow_stopped (hs : s.mod.started = false) (hv : s.mod.vaux = true) : execVinLow false s = .next s.vauxLost := by
  simp only [execVinLow, hs, hv, Bool.and_false, Bool.not_true, Bool.or_self, Bool.false_eq_true, if_false]

/-! ### Heat -/

/-- The temperatures of a report (R536). -/
def State.tempRead (s : State) (case_ junction optical dram : Byte) : State :=
  let t := Reg.PWR.PWR_TEMP
  (((s.setFld t Fld.PWR.PWR_TEMP.case case_.toNat).setFld t Fld.PWR.PWR_TEMP.junction junction.toNat).setFld t
    Fld.PWR.PWR_TEMP.optical optical.toNat).setFld t Fld.PWR.PWR_TEMP.dram dram.toNat

/-- The state that a heat warning sets, before its event (R536). -/
def State.thermOn (u : State) : State :=
  ((u.setFld Reg.PWR.PWR_STATE Fld.PWR.PWR_STATE.therm 1).count Reg.PWR.THERM_CNT 1).emit (.pin "THERM_N" false)

theorem execThermWarn_started (case_ junction optical dram : Byte) (hs : s.mod.started = true) :
    execThermWarn case_ junction optical dram s =
      let u := s.tempRead case_ junction optical dram
      let on := u.flag Reg.PWR.PWR_STATE Fld.PWR.PWR_STATE.therm
      if !on && (decide (85 ≤ case_.toInt) || decide (100 ≤ junction.toInt)) then
        .next (u.thermOn.pwrEvent 10 Ev.PWR.THERM_WARN (if decide (85 ≤ case_.toInt) then case_.toNat else junction.toNat + 256))
      else if on && decide (case_.toInt ≤ 82) && decide (junction.toInt ≤ 97) then
        .next ((u.setFld Reg.PWR.PWR_STATE Fld.PWR.PWR_STATE.therm 0).emit (.pin "THERM_N" true))
      else .next u := if_neg (not_ne_true hs)

/-! ### Phases -/

theorem execPhaseCheck_started (bad : BitVec 14) (hs : s.mod.started = true) :
    execPhaseCheck bad s =
      let l := (List.range 14).filter (fun i => bad.getLsbD i && (s.fld Reg.PWR.PWR_PHASE Fld.PWR.PWR_PHASE.ok).testBit i)
      let t := l.foldl State.shedPhase s
      if decide (t.phasesOk < 12) && !t.flag Reg.PWR.PWR_STATE Fld.PWR.PWR_STATE.phase_short then
        .next ((t.setFld Reg.PWR.PWR_STATE Fld.PWR.PWR_STATE.phase_short 1).pwrEvent 9 Ev.PWR.PHASE_SHORT (l.getLastD 0))
      else .next t := if_neg (not_ne_true hs)

end Sys2Proof.Machine

section

open Sys2Proof Sys2Proof.Machine

/-- Settles O58: start and stop by the supplies, heat by `execThermWarn_started`, phases by `execPhaseCheck_started`. -/
theorem modulePower : Obligations.ModulePower := by
  unfold Obligations.ModulePower
  intro s
  refine ⟨fun inh service hoff bad cal => if_pos ?off, fun inh service hv hs hf => ?start, fun hp => if_pos (congrArg not hp),
    fun hp => ?release, fun hs hp ha => State.next_eq (if_pos (and_true_intro (and_true_intro hs hp) (congrArg not ha))),
    fun ha => State.next_eq (if_neg (and_ne_true_right (not_ne_true ha))), fun hs => ?vinLow, fun hs hf => ?vinFault,
    fun hs hv => ?vauxLost, fun hs => ⟨?thermal, ?rail⟩, fun hs => ⟨?noThermal, ?noRail⟩, fun case_ junction optical dram hs => ?heat,
    fun bad hs => ?phases, fun gen width hlink => ?link, rfl⟩
  case off =>
    rcases hoff with h | h | h
    · exact or_true_left (or_true_left (congrArg not h))
    · exact or_true_left (or_true_right h)
    · exact or_true_right h
  case start =>
    have he := execPowerUp_good inh service hv hs hf
    exact ⟨fun hp => he.trans (State.next_eq (if_pos hp)), fun hp => he.trans (State.next_eq (if_neg (Bool.eq_false_iff.mp hp)))⟩
  case release =>
    refine ⟨fun hs ha => ?_, fun h => ?_⟩
    · exact (if_neg (not_ne_true hp)).trans (State.next_eq (if_pos (and_true_intro hs (congrArg not ha))))
    · refine (if_neg (not_ne_true hp)).trans (State.next_eq (if_neg ?_))
      rcases h with h | h
      · exact and_ne_true_left (Bool.eq_false_iff.mp h)
      · exact and_ne_true_right (not_ne_true h)
  case vinLow => exact State.next_eq (if_pos hs)
  case vinFault =>
    exact State.next_eq ((if_neg (Bool.eq_false_iff.mp hs)).trans (if_pos (and_true_intro hf rfl)))
  case vauxLost => exact execVinLow_stopped hs hv
  case thermal => exact State.next_eq (if_neg (not_ne_true hs))
  case rail => exact State.next_eq (if_neg (not_ne_true hs))
  case noThermal => exact State.next_eq (if_pos (congrArg not hs))
  case noRail => exact State.next_eq (if_pos (congrArg not hs))
  case heat =>
    intro t u on warn
    have he := execThermWarn_started case_ junction optical dram hs
    refine ⟨fun hoff hc => ?hotCase, fun hoff hc hj => ?hotJunction, fun hon hc hj => ?cools, fun hoff hc hj => ?cool, fun hon h => ?warm⟩
    case hotCase =>
      exact he.trans ((if_pos (and_true_intro (congrArg not hoff) (or_true_left (decide_eq_true hc)))).trans
        (State.next_eq (congrArg (State.pwrEvent _ _ _) (if_pos (decide_eq_true hc)))))
    case hotJunction =>
      exact he.trans ((if_pos (and_true_intro (congrArg not hoff) (or_true_right (decide_eq_true hj)))).trans
        (State.next_eq (congrArg (State.pwrEvent _ _ _) (if_neg (decide_ne_true (Int.not_le.mpr hc))))))
    case cools =>
      exact he.trans ((if_neg (and_ne_true_left (not_ne_true hon))).trans
        (if_pos (and_true_intro (and_true_intro hon (decide_eq_true hc)) (decide_eq_true hj))))
    case cool =>
      have hcold := or_ne_true (decide_ne_true (Int.not_le.mpr hc)) (decide_ne_true (Int.not_le.mpr hj))
      exact he.trans ((if_neg (and_ne_true_right hcold)).trans
        (if_neg (and_ne_true_left (and_ne_true_left (Bool.eq_false_iff.mp hoff)))))
    case warm =>
      refine he.trans ((if_neg (and_ne_true_left (not_ne_true hon))).trans (if_neg ?_))
      rcases h with h | h
      · exact and_ne_true_left (and_ne_true_right (decide_ne_true (Int.not_le.mpr h)))
      · exact and_ne_true_right (decide_ne_true (Int.not_le.mpr h))
  case phases =>
    intro l t
    have he := execPhaseCheck_started bad hs
    exact ⟨fun h => he.trans (if_neg (and_ne_true_left (decide_ne_true (Nat.not_lt.mpr h)))),
      fun h hq => he.trans (if_pos (and_true_intro (decide_eq_true h) (congrArg not hq)))⟩
  case link =>
    refine ⟨fun hp ha hup => if_neg ?_, fun h => if_pos ?_⟩
    · exact or_ne_true (or_ne_true (or_ne_true (Bool.eq_false_iff.mp hp) (not_ne_true ha)) (decide_ne_true hup)) (not_ne_true hlink)
    · rcases h with h | h
      · exact or_true_left (or_true_left (or_true_left h))
      · exact or_true_left (or_true_left (or_true_right (congrArg not h)))

end
